-- ==== Sys2Proof/Word.lean ====
section
/-! DEFINITION. Numbers, times and tables of the AX5128: the time quantum, full times, saturating
counts, and tables of like things held by number. -/

namespace Sys2Proof

/-- A byte (R6). -/
abbrev Byte := BitVec 8

/-- A time or a difference of times in tq = 2^-10 ns (R3), on the Polestar scale where it is a time. -/
abbrev Tq := Int

/-- A count that saturates at 2^32 - 1 (R65, R110, R159 and the other counter rules). -/
abbrev Count := Nat

/-- The largest value of a 32-bit count. -/
def countMax : Nat := 4294967295

/-- One more, saturating. -/
def Count.inc (c : Count) : Count := if c < countMax then c + 1 else c

/-- `n` more, saturating. -/
def Count.add (c : Count) (n : Nat) : Count := min (c + n) countMax

/-- A full time SEC:NS:FNS as a command carries it (R4). -/
structure FullTime where
  sec : BitVec 64
  ns  : BitVec 30
  fns : BitVec 16
  deriving DecidableEq, Repr

/-- tq in one second. -/
def tqPerSec : Int := 1024000000000

/-- 0:0:0. -/
def FullTime.zero : FullTime := { sec := 0, ns := 0, fns := 0 }

/-- The time in tq, FNS taken down to a whole tq (R4: one tq is 64 FNS). -/
def FullTime.tq (t : FullTime) : Tq :=
  (t.sec.toNat : Int) * tqPerSec + (t.ns.toNat : Int) * 1024 + ((t.fns.toNat / 64 : Nat) : Int)

/-- NS runs from 0 to 999,999,999 (R4). -/
def FullTime.ok (t : FullTime) : Bool := decide (t.ns.toNat ≤ 999999999)

/-- FNS is a multiple of 64 (R35, R125, R130). -/
def FullTime.onTq (t : FullTime) : Bool := decide (t.fns.toNat % 64 = 0)

/-- The full time of a tq value, SEC modulo 2^64 (R4, R27). -/
def FullTime.ofTq (t : Tq) : FullTime :=
  { sec := BitVec.ofInt 64 (t / tqPerSec)
    ns := BitVec.ofInt 30 (t % tqPerSec / 1024)
    fns := BitVec.ofInt 16 (t % 1024 * 64) }

/-- The 112-bit field of a stored time (R4): SEC in [111:48], NS in [45:16], FNS in [15:0]. -/
def FullTime.bits (t : FullTime) : Nat :=
  t.sec.toNat * 2 ^ 48 + t.ns.toNat * 2 ^ 16 + t.fns.toNat

/-- Least integer at or above `a / b`, for `b` above 0. -/
def ceilDiv (a b : Int) : Int := -((-a) / b)

/-- `a / b` rounded to the nearest integer, halves upward, for `b` above 0. Entry 21, DEDUCED. -/
def roundDiv (a b : Int) : Int := (2 * a + b) / (2 * b)

/-- `a / b` rounded to the nearest integer, halves away from zero, for `b` above 0 (R264). -/
def roundAway (a b : Int) : Int :=
  if 0 ≤ a then roundDiv a b else -(roundDiv (-a) b)

/-- `x` held within `lo` and `hi`. -/
def clamp (lo hi x : Int) : Int := if x < lo then lo else if hi < x then hi else x

/-- The number `w` of the given bits of `x`: bits [hi:lo]. -/
def bitField (x hi lo : Nat) : Nat := x / 2 ^ lo % 2 ^ (hi + 1 - lo)

/-- A table of like things by number, in one canonical form: numbers strictly rising, and no entry
equal to what an unlisted number holds. -/
abbrev Tab (α : Type) := List (Nat × α)

/-- What number `k` holds, `d` being what an unlisted number holds. -/
def Tab.get {α : Type} (d : α) : Tab α → Nat → α
  | [], _ => d
  | (j, a) :: t, k => if j = k then a else Tab.get d t k

/-- Number `k` taken off the list. -/
def Tab.erase {α : Type} : Tab α → Nat → Tab α
  | [], _ => []
  | (j, a) :: t, k => if j = k then Tab.erase t k else (j, a) :: Tab.erase t k

/-- Number `k` listed with `v`, in its place. -/
def Tab.insert {α : Type} : Tab α → Nat → α → Tab α
  | [], k, v => [(k, v)]
  | (j, a) :: t, k, v =>
    if k < j then (k, v) :: (j, a) :: t
    else if k = j then (k, v) :: t
    else (j, a) :: Tab.insert t k v

/-- Number `k` set to `v`; the value of an unlisted number is not listed. -/
def Tab.put {α : Type} [DecidableEq α] (d : α) (t : Tab α) (k : Nat) (v : α) : Tab α :=
  if v = d then Tab.erase t k else Tab.insert t k v

/-- Numbers `k` to `k + n - 1` each changed by `f`. -/
def Tab.modRange {α : Type} [DecidableEq α] (d : α) (f : α → α) : Tab α → Nat → Nat → Tab α
  | t, _, 0 => t
  | t, k, n + 1 => Tab.modRange d f (Tab.put d t k (f (Tab.get d t k))) (k + 1) n

/-- Numbers of the list `ks` each changed by `f`, which is told the number. -/
def Tab.modList {α : Type} [DecidableEq α] (d : Nat → α) (f : Nat → α → α) : Tab α → List Nat → Tab α
  | t, [] => t
  | t, k :: ks => Tab.modList d f (Tab.put (d k) t k (f k (Tab.get (d k) t k))) ks

/-- The canonical form: numbers strictly rising. -/
def Tab.sorted {α : Type} : Tab α → Bool
  | [] => true
  | [_] => true
  | (j, _) :: (k, b) :: t => decide (j < k) && Tab.sorted ((k, b) :: t)

/-- The canonical form: rising, and nothing listed that an unlisted number would hold. -/
def Tab.wf {α : Type} [DecidableEq α] (d : α) (t : Tab α) : Bool :=
  Tab.sorted t && t.all fun p => decide (p.2 ≠ d)

end Sys2Proof
end

