-- ==== Sys2Proof/Syntax.lean ====
section
/-! DEFINITION. The commands of the AX5128: the field tables of its commands, and the one inductive
with one constructor per row of the table of operations and events. -/

namespace Sys2Proof

/-! ## Field tables (each follows the table of the rule it cites, in its order) -/

/-- R346. -/
structure PmbusCfg where
  addr : Nat
  voutMin : Nat
  voutMax : Nat
  step : Nat
  deriving DecidableEq, Repr

/-- R35. -/
structure AlarmCfg where
  time : FullTime
  period : Nat
  enable : Nat
  epochHold : Nat
  deriving DecidableEq, Repr

/-- R130, PERIOD in ms. -/
structure SyncCfg where
  mode : Nat
  g0 : FullTime
  period : Nat
  cableDelay : Nat
  avg : Nat
  deriving DecidableEq, Repr

/-- R255. -/
structure PtpCfg where
  profile : Nat
  domain : Nat
  role : Nat
  priority1 : Nat
  priority2 : Nat
  stepThresh : Nat
  slewMax : Nat
  servoBw : Nat
  deriving DecidableEq, Repr

/-- R256, without PORT. -/
structure PtpPortCfg where
  ptpEn : Nat
  ingressLat : Nat
  egressLat : Nat
  asym : Int
  logSync : Int
  logAnnounce : Int
  logPdelay : Int
  announceTimeout : Nat
  deriving DecidableEq, Repr

/-- R267, without FLUSH. -/
structure BridgeCfg where
  ageTime : Nat
  learn : Nat
  deriving DecidableEq, Repr

/-- R339. -/
structure NetCfg where
  ipAddr : Nat
  netmask : Nat
  vlanId : Nat
  mtu : Nat
  mbxUdpBase : Nat
  mbxPcp : Nat
  ptpPcp : Nat
  deriving DecidableEq, Repr

/-- R236. -/
structure PllRefCfg where
  refMode : Nat
  refaFreq : Nat
  refbFreq : Nat
  refaRdiv : Nat
  refbRdiv : Nat
  refTol : Nat
  revertHold : Nat
  deriving DecidableEq, Repr

/-- R235. -/
structure PllCfg where
  dt : Nat
  loopBw : Nat
  ditherEn : Nat
  ditherSeed : Nat
  alignSrc : Nat
  force : Nat
  deriving DecidableEq, Repr

/-- R248, without CKO. -/
structure CkoCfg where
  mode : Nat
  enable : Nat
  fmt : Nat
  swing : Nat
  pol : Nat
  div : Nat
  phase : Nat
  ldiv : Nat
  ldelay : Nat
  deriving DecidableEq, Repr

/-- R45. `offsets` holds BURST_OFFSET1 to BURST_OFFSET7. -/
structure OutCfg where
  enable : Nat
  cls : Nat
  row : Nat
  delay : Nat
  skewBoard : Int
  width : Nat
  burstN : Nat
  offsets : List Nat
  pol : Nat
  lateExec : Nat
  lateMax : Nat
  deriving DecidableEq, Repr

/-- R61. -/
structure StaCfg where
  row : Nat
  latMin : Nat
  latMax : Nat
  widthTol : Nat
  missLimit : Nat
  deriving DecidableEq, Repr

/-- R69, spacings in ns. -/
structure CodeProfile where
  n : Nat
  mode : Nat
  spacing1 : Nat
  spacing2 : Nat
  spacing3 : Nat
  deriving DecidableEq, Repr

/-- R89. -/
structure SeqCfg where
  domain : Nat
  encoder : Nat
  progBase : Nat
  progLen : Nat
  startEntry : Nat
  jumpTarget : Nat
  rows : BitVec 64
  resultStream : Nat
  streamBase : Nat
  streamLen : Nat
  deriving DecidableEq, Repr

/-- R137, without FIRST and COUNT. -/
structure HitCfg where
  enable : Nat
  cls : Nat
  edge : Nat
  term : Nat
  hyst : Nat
  skewBoard : Int
  rawGate : Nat
  trgSel : Nat
  trgActive : Nat
  deriving DecidableEq, Repr

/-- R139, without FIRST and COUNT. -/
structure StaInCfg where
  enable : Nat
  pol : Nat
  term : Nat
  hyst : Nat
  skewBoard : Int
  diag : Nat
  staDev : Nat
  deriving DecidableEq, Repr

/-- R162. -/
structure GateProfile where
  openOffset : Nat
  length : Nat
  binK : Nat
  winStart : Nat
  deriving DecidableEq, Repr

/-- R182. -/
structure MatchProfile where
  minPulses : Nat
  nbN : Nat
  nbK : Nat
  nbTol : Nat
  deriving DecidableEq, Repr

/-- R199. -/
structure StreamCfg where
  maxEchoes : Nat
  transport : Nat
  batchMax : Nat
  batchTimeout : Nat
  deriving DecidableEq, Repr

/-- R201. -/
structure KernelCfg where
  kernel : Nat
  blockMin : Nat
  fineMax : Nat
  echoMin : Nat
  gapMax : Nat
  satrecEn : Nat
  satFrac : Nat
  precipEn : Nat
  precipMaxTof : Nat
  precipMinWidth : Nat
  precipMaxPeak : Nat
  precipDrop : Nat
  jobTimeout : Nat
  deriving DecidableEq, Repr

/-- R328. -/
structure RingCfg where
  enable : Nat
  base : Nat
  ringLen : Nat
  piAddr : Nat
  vector : Nat
  irqHoldoff : Nat
  replay : Nat
  deriving DecidableEq, Repr

/-- R341. -/
structure UdpCfg where
  dstMac : Nat
  dstIp : Nat
  dstPort : Nat
  srcPort : Nat
  egress : Nat
  pcp : Nat
  deriving DecidableEq, Repr

/-- R271, without ENCODER. -/
structure EncCfg where
  enable : Nat
  cpr : Nat
  invertDir : Nat
  indexState : Nat
  indexTol : Nat
  filter : Nat
  term : Nat
  deriving DecidableEq, Repr

/-- R276. -/
structure MotorCfg where
  pwmFreq : Nat
  speedFull : Nat
  control : Nat
  encoder : Nat
  rampUp : Nat
  rampDown : Nat
  speedTol : Nat
  settleTime : Nat
  readyTimeout : Nat
  deriving DecidableEq, Repr

/-- R114, without ENCODER. -/
structure AngleCfg where
  edgeUse : Nat
  window : Nat
  minSpeed : Nat
  edgeTimeout : Nat
  deriving DecidableEq, Repr

/-- R117, R382. -/
structure MarkCfg where
  encoder : Nat
  mode : Nat
  enable : Nat
  angle : Nat
  deriving DecidableEq, Repr

/-- R287. -/
structure SvCfg where
  startMode : Nat
  speedSrc : Nat
  secIndexOffset : Nat
  agreeTol : Nat
  standstillTime : Nat
  sdiTol : Nat
  stopSpeed : Nat
  decelMin : Nat
  rampMargin : Nat
  rampTime : Nat
  twilightTime : Nat
  twilightFrac : Nat
  emisLimit : Nat
  resetDisc : Nat
  deriving DecidableEq, Repr

/-- R288, without INPUT. -/
structure SvInputCfg where
  function : Nat
  mode : Nat
  discTime : Nat
  restart : Nat
  deriving DecidableEq, Repr

/-- R292, without SET. -/
structure LimitSet where
  slsLow : Nat
  slsHigh : Nat
  sectors : Nat
  budgetWin : Nat
  budget : Nat
  deriving DecidableEq, Repr

/-- R292, R382. `stop` is END. -/
structure SlpWindow where
  enable : Nat
  start : Nat
  stop : Nat
  deriving DecidableEq, Repr

/-- R314, R383. -/
structure CalCfg where
  deltaT : Nat
  auto : Nat
  enginePeriod : Nat
  refOut : List Nat
  refCh : List Nat
  deriving DecidableEq, Repr

/-- R76. -/
structure TestCfg where
  testAllow : Nat
  guard : Nat
  testOffset : Nat
  deriving DecidableEq, Repr

/-- R84. -/
structure TestReq where
  testId : Nat
  output : Nat
  lane : Nat
  channel : Nat
  width : Nat
  mode : Nat
  earliest : FullTime
  deadline : Nat
  deriving DecidableEq, Repr

/-- The safety configuration (R286): what SV_CONFIG, SV_INPUT_CONFIG, SV_LIMIT_SET, SV_ROW_WEIGHT and
SV_SLP_WINDOW write, the key-locks of R230 (channel, KEY) and the encoder settings of R271. -/
structure SafetyCfg where
  sv : SvCfg
  inputs : List (Nat × SvInputCfg)
  limits : List (Nat × LimitSet)
  weights : List (Nat × Nat)
  slp : List (Nat × SlpWindow)
  keylocks : List (Nat × Nat)
  encoders : List (Nat × EncCfg)
  deriving DecidableEq, Repr

/-! ## What happenings carry -/

/-- A command frame of 64 bytes (R354). -/
structure Frame where
  opcode : Nat
  flags : Nat
  token : Nat
  payloadLen : Nat
  payloadCrc : Nat
  payload : List Byte
  deriving DecidableEq, Repr

/-- The loop-back tables of one converter from a nonlinearity run (R308): INL in 1/16 tq, PH in tq. -/
structure VernierTables where
  inl : List Int
  ph : List Int
  deriving DecidableEq, Repr

/-- How a nonlinearity run of one input went: the interval in which the lane injected where it found no gap (R82, R315). -/
structure NonlinearityResult where
  during : Option (Tq × Tq)
  deriving DecidableEq, Repr

/-- What host memory answers for a command (R356): the payload that a DMA read gives, none where it fails, and whether the
non-posted read behind return data completes. -/
structure DmaOutcome where
  payload : Option (List Byte)
  readBack : Bool
  deriving DecidableEq, Repr

/-- How a host-link reset came (R324). -/
inductive LinkReset where
  | hotReset
  | linkDown
  | flr
  | perst
  | busMasterClear
  deriving DecidableEq, Repr

/-- A fault that an engine reports of itself during a job (R205). -/
inductive EngineFault where
  | ecc
  | check
  deriving DecidableEq, Repr

/-- Levels that the supervisor samples at the balls (R285): channels A and B of SIN0 to SIN3. -/
structure SafeLevels where
  sinA : List Bool
  sinB : List Bool
  srstA : Bool
  srstB : Bool
  deriving DecidableEq, Repr

/-- A fault that the supervisor finds in itself or at its lines (R296). -/
inductive SvFaultCause where
  | stoReadback (line : Nat)
  | darkReadback (line : Nat)
  | sstReadback (line : Nat)
  | coreMismatch
  | oscillator
  | supplyMonitor
  deriving DecidableEq, Repr

/-- A read-back fault names line A (0) or B (1). -/
def SvFaultCause.lineOk : SvFaultCause → Bool
  | .stoReadback n | .darkReadback n | .sstReadback n => decide (n ≤ 1)
  | _ => true

/-- What the supervisor finds: a fault, or (`stands` false) that its cause has gone. -/
structure SvFinding where
  cause : SvFaultCause
  stands : Bool
  deriving DecidableEq, Repr

/-- The receiver that reports a pair: that of the stamping path, or that of the supervisor (R270, R273). -/
structure PairReceiver where
  encoder : Nat
  supervisor : Bool
  deriving DecidableEq, Repr

/-- Why lock was lost (R242). -/
inductive UnlockCause where
  | noReference
  | phaseError
  | tckFrequency
  | tuningVoltage
  deriving DecidableEq, Repr

/-- What an Announce tells of the grandmaster and the way to it, as the best master clock algorithm compares it (R254). -/
structure AnnounceMsg where
  priority1 : Nat
  clockClass : Nat
  accuracy : Nat
  variance : Nat
  priority2 : Nat
  master : Nat
  steps : Nat
  sender : Nat
  deriving DecidableEq, Repr

/-- An 802.1Q tag: VLAN and priority (R254, R339, R343). -/
structure VlanTag where
  vlan : Nat
  pcp : Nat
  deriving DecidableEq, Repr

/-- How a datagram came in (R339, R340): the port, the MAC address of its sender, its tag. -/
structure Via where
  port : Nat
  mac : Nat
  tag : Option VlanTag
  deriving DecidableEq, Repr

/-- A received PTP message, or the last of those that complete an exchange (R257 to R260, R263). Times `t2` and `t3` of an
exchange, and those of a peer delay measurement, are passages at the PCS on Polestar; `t1` and `t4` of an exchange are the
master's; corrections are the sums of the correction fields that 1588-2019 subtracts, without what ASYM put into the device's
own request. A Delay_Req and a Pdelay_Req bring their passage at the PCS and their correction field. -/
inductive PtpBody where
  | announce (a : AnnounceMsg)
  | exchange (t1 t2 t3 t4 : Tq) (syncCorr delayCorr : Int)
  | sync (t1 t2 : Tq) (corr : Int)
  | pdelay (sent received : Tq) (corr : Int)
  | delayReq (received : Tq) (requester : Nat) (corr : Int)
  | pdelayReq (received : Tq) (corr : Int)
  | oneStep (supported : Bool)
  deriving DecidableEq, Repr

/-- A PTP message with its domain, transport and tag: UDP over IPv4, or layer 2 (R254). -/
structure PtpFrame where
  domain : Nat
  udp : Bool
  tag : Option VlanTag
  body : PtpBody
  deriving DecidableEq, Repr

/-- The message kinds of a master or a P2P port, and of an E2E slave (R254, R256, R258, R259). -/
inductive PtpMessage where
  | sync
  | announce
  | pdelayReq
  | delayReq
  deriving DecidableEq, Repr

/-- What the bridge must know of a received frame (R258, R266, R340, R343). -/
inductive FrameKind where
  | data
  | ptpEvent
  | ptpGeneral
  | management
  | sync
  | delayReq
  | arpForUs
  deriving DecidableEq, Repr

/-- A frame at a port of the bridge: addresses, length in bytes, tag, and for PTP the
correctionField in tq, the PCS stamp at ingress, and where in its TCK cycle it will leave, in 64 tq (R257, R258, R266, R343). -/
structure NetFrame where
  src : Nat
  dst : Nat
  length : Nat
  tag : Option VlanTag
  kind : FrameKind
  correction : Int
  tIn : Int
  outPhase : Nat
  deriving DecidableEq, Repr

/-- Tests of R391. -/
inductive SelfTest where
  | processor
  | programMemory
  | retention
  | fabric
  | darkPath
  | supervisor
  | outputLoopback
  | engine (e : Nat)
  | pll
  | hitGroup (k : Nat)
  | port (n : Nat)
  | bridge
  deriving DecidableEq, Repr

/-- How a function test ended; a hit group's brings the readings of its converters' first full calibration (R146, R391). -/
structure FunctionResult where
  pass : Bool
  readings : List (Nat × Nat)
  deriving DecidableEq, Repr

/-- What the whole-memory BIST found (R392): channels whose histogram memory failed, channels whose stamp pool or gate queues
did, failed engines, and the output buffer. -/
structure BistResult where
  channels : List Nat
  pools : List Nat
  engines : List Nat
  bufferOk : Bool
  deriving DecidableEq, Repr

/-! ## The commands -/

/-- One constructor per row of the table of operations and events, in its order. -/
inductive Instr where
  -- system (R372)
  | sysInfo
  | warmReset (force : Nat)
  | funcReset (block index : Nat)
  | deviceIdSet (id : Nat) (verified : Bool)
  | pmbusConfig (cfg : PmbusCfg)
  | pmbusStatus
  | uartConfig (baud : Nat)
  | mbxStatus (mailbox dst : Nat)
  | fwUpdateBegin (length : Nat)
  | fwUpdateWrite (offset : Nat) (data : List Byte)
  | fwUpdateCommit (raiseMin : Nat)
  | fwStatus (dst : Nat)
  | debugUnlock (certificate : List Byte)
  -- time and network (R374)
  | timeStatus
  | timeSet (time : FullTime)
  | timeSetSecHi (secHi : Nat)
  | alarmSet (alarm : Nat) (cfg : AlarmCfg)
  | alarmCancel (alarm : Nat)
  | trgConfig (trg edges : Nat)
  | syncConfig (cfg : SyncCfg)
  | syncResult
  | ptpConfig (cfg : PtpCfg)
  | ptpPortConfig (port : Nat) (cfg : PtpPortCfg)
  | ptpStatus (dst : Nat)
  | timeStepAccept
  | bridgeConfig (cfg : BridgeCfg) (flush : Nat)
  | bridgeStatus (dst : Nat)
  | netConfig (cfg : NetCfg)
  -- PLL and clocks (R375)
  | pllRefConfig (cfg : PllRefCfg)
  | pllConfig (cfg : PllCfg)
  | pllStatus (dst : Nat)
  | pllRecal
  | pllHopStore (entry : Nat) (verified : Bool)
  | pllHop (entry : Nat)
  | pllSyncArm (arm : Nat)
  | pllCountersClear
  | pllTestMode (enable : Nat)
  | ckoConfig (cko : Nat) (cfg : CkoCfg)
  -- outputs (R376)
  | outConfig (output : Nat) (cfg : OutCfg)
  | outFormat (output fmt swing : Nat)
  | outSchedule (output n w : Nat) (time : FullTime) (offsets : List Nat)
  | outStatus (output dst : Nat)
  | outCountersClear (first count : Nat)
  | staConfig (sta : Nat) (cfg : StaCfg)
  | codeProfileSet (profile : Nat) (cfg : CodeProfile)
  -- sequencers and programs (R378)
  | seqConfig (seq : Nat) (cfg : SeqCfg)
  | progWrite (first count src : Nat) (data : Option (List Byte))
  | progCommit (first count : Nat)
  | seqStart (seq mode facet : Nat) (time : FullTime)
  | seqStop (seq mode : Nat)
  | seqJump (seq target : Nat)
  | seqStatus (seq dst : Nat)
  | seqStreamPush (seq count : Nat)
  | seqCountersClear (seq : Nat)
  | seqGridSet (seq : Nat) (g0 : FullTime) (trim : Int)
  -- receive (R379)
  | hitConfig (first count : Nat) (cfg : HitCfg)
  | staInputConfig (first count : Nat) (cfg : StaInCfg)
  | inputStatus (input dst : Nat)
  | inputCountersClear (first count : Nat)
  | gateProfileSet (profile : Nat) (cfg : GateProfile)
  | channelRowSet (first count row : Nat)
  | gateStatus (channel dst : Nat)
  | rawExportSet (stream : Nat) (inputs : List Nat)
  | gateTapSet (group tapChannel tapStream monChannel : Nat)
  | gateCountersClear (first count : Nat)
  | gateArm (first count profile stream : Nat) (tOpen : FullTime)
  | matchProfileSet (profile : Nat) (cfg : MatchProfile)
  | histStatus (channel dst : Nat)
  | histRead (channel bank dst : Nat)
  | histHold (channel mode : Nat)
  | histCountersClear (first count : Nat)
  -- engines, streams and rings (R380)
  | streamConfig (stream : Nat) (cfg : StreamCfg)
  | kernelConfig (stream : Nat) (cfg : KernelCfg)
  | engineStatus (first count dst : Nat)
  | engineRetest (engine : Nat)
  | streamStatus (stream dst : Nat)
  | engineCountersClear
  | ringConfig (stream : Nat) (cfg : RingCfg)
  | ringStatus (stream dst : Nat)
  | streamUdpSet (stream : Nat) (cfg : UdpCfg)
  | ringResume (reads : List (Option Bool))
  -- event fabric (R381)
  | evchConfig (channel source : Nat)
  | evchSubscribe (consumer slot channel enable : Nat)
  | evchLock (channel : Nat)
  | evchStatus (first count dst : Nat)
  | evchCountersClear (first count : Nat)
  -- scanner and safety (R382)
  | encConfig (encoder : Nat) (cfg : EncCfg) (verified : Bool)
  | motorConfig (cfg : MotorCfg)
  | motorRun (action dir target : Nat)
  | motorStatus (dst : Nat)
  | motorCountersClear
  | angleConfig (encoder : Nat) (cfg : AngleCfg)
  | meridianSet (encoder facets : Nat) (meridians : List Nat)
  | angleMarkSet (mark : Nat) (cfg : MarkCfg)
  | angleStatus (encoder dst : Nat)
  | evchKeylock (channel action key : Nat) (verified : Bool)
  | svConfig (cfg : SvCfg)
  | svInputConfig (input : Nat) (cfg : SvInputCfg)
  | svLimitSet (set : Nat) (cfg : LimitSet)
  | svRowWeight (first count : Nat) (weights : List Nat)
  | svSlpWindow (set window : Nat) (cfg : SlpWindow)
  | svCommit (verified : Bool)
  | svStatus (dst : Nat)
  | svSafeStop
  | svCountersClear
  -- calibration (R383)
  | calConfig (cfg : CalCfg)
  | calRun (function force first count : Nat)
  | calStatus (dst : Nat)
  | calSetWrite (object set : Nat) (temp : Int) (len src : Nat) (data : Option (List Int))
  | calSetRead (object set dst : Nat)
  | calTarget (mode set first count range steps : Nat)
  | calStaLearn (set shots : Nat) (rows : BitVec 64)
  | calStore (object : Nat) (verified : Bool)
  -- diagnostics and self-test (R385)
  | retest
  | selftestStatus (dst : Nat)
  | testConfig (output : Nat) (cfg : TestCfg)
  | testPulseRequest (req : TestReq)
  | testResultRead (testId : Nat)
  -- register and window writes (22, 17, 18)
  | registerWrite (offset size value : Nat)
  | snapTrigger (value : Nat)
  | snapshotCapture
  | evchFire (value : Nat)
  | fireRejectedClear (value : Nat)
  | paceLowClear (value : Nat)
  | countersClear (value : Nat)
  | intStatusClear (value : Nat)
  | intMaskWrite (value : Nat)
  | hevValidClear (n value : Nat)
  | hevOverrunClear (n value : Nat)
  | seqPush (seq value : Nat)
  | streamPushErrClear (seq value : Nat)
  | ringCi (stream value : Nat)
  | ciErrClear (stream value : Nat)
  | cmdPi (mailbox value : Nat) (frames : List Frame)
  | rspCi (mailbox value : Nat)
  | mbErrClear (mailbox value : Nat)
  | programMemoryWrite (offset : Nat) (data : List Byte)
  | embDatagram (udpPort : Nat) (via : Via) (srcIp srcPort : Nat) (frame : Frame) (payload : List Byte)
  | uartPacket (frame : Frame) (payload : List Byte) (crc : Nat)
  | uartGapTimeout
  | commandTake (dma : DmaOutcome)
  | dualSubmissionTimeout
  -- happenings of the transmit side
  | slotIssue (seq : Nat)
  | edgeGeneratorTake (output : Nat)
  | burstFired (output : Nat)
  | burstComplete (output : Nat)
  | formatTakesEffect (output : Nat)
  | testPulsePlace (lane : Nat)
  | testPulseResult (lane : Nat) (stamp : Option Tq)
  | testPulseDeadline (lane : Nat)
  | alarmInstance (alarm : Nat)
  | deliveryWave
  | secCarry
  -- happenings of the receive side
  | hitEdge (channel : Nat) (falling : Bool) (tBall : Tq) (phase n : Nat)
  | stampDelivery (input : Nat)
  | stampTimeout (input : Nat)
  | staEdge (sta : Nat) (falling : Bool) (tBall : Tq) (phase n : Nat)
  | staWindowClose (row : Nat)
  | trgEdge (trg : Nat) (falling : Bool) (tBall : Tq)
  | synciEdge (tBall : Tq)
  | syncoPulse
  | syncMissing
  | gateCalDecision (channel gate : Nat)
  | converterCalDone (input conv m1 m2 : Nat)
  | rollingCalDue (channel : Nat)
  | gateOpen (channel gate : Nat)
  | gateDrain (channel gate : Nat)
  | emissionReferenceFixed (shot : Nat)
  | matchDecision (channel gate : Nat)
  | neighbourTest (channel gate : Nat)
  | bankClose (channel bank : Nat)
  -- happenings of engines and delivery
  | issueLimitCommit (stream : Nat)
  | engineJobStart (engine : Nat)
  | engineJobDone (engine : Nat)
  | engineFault (engine : Nat) (cause : EngineFault)
  | jobTimeout (engine : Nat)
  | engineSelftestDone (engine : Nat) (pass : Bool)
  | engineSelftestDue (engine : Nat)
  | batchTimeout (stream : Nat)
  | ringBatchWrite (stream : Nat)
  | ringInterrupt (stream : Nat)
  | confirmationRead (stream : Nat)
  | batchConfirmed (stream : Nat) (ok : Bool)
  | smiurnSend (stream : Nat)
  | ringReconciliation (reads : List (Option Bool))
  | hostLinkReset (kind : LinkReset)
  -- happenings of the scanner and the supervisor
  | encoderEdge (encoder : Nat) (isB level : Bool) (tBall : Tq) (heldNs : Nat)
  | encoderIndexEdge (encoder : Nat) (tBall : Tq)
  | encoderPairFault (receiver : PairReceiver)
  | estimatorTimeout (encoder : Nat)
  | angleMarkCrossing (mark : Nat)
  | svSampleTick (levels : SafeLevels)
  | discrepancyFault (input : Nat)
  | safetyReset
  | speedWindow
  | agreementFault
  | standstill
  | rampTimeExpiry
  | twilightTimeout
  | budgetWindowEnd
  | sectorBudgetReached (sector : Nat)
  | supervisorFault (finding : SvFinding)
  | mfltNFault (level : Bool)
  | mrdyChange (level : Bool)
  | readyTimeout
  | atSpeed
  | motorStopped
  | motorRefUpdate
  -- happenings of the PLL, the network and the supply
  | refMeasurementWindow (hzA hzB : Nat)
  | refEdgeGap (ref : Nat)
  | revertHoldExpiry
  | pllUnlock (cause : UnlockCause)
  | pllLock (residual : Int)
  | ptpFrameReceived (port : Nat) (frame : PtpFrame)
  | announceTimeout (port : Nat)
  | ppsTimeout
  | ptpMessageTransmit (port : Nat) (message : PtpMessage)
  | bridgeFrameReceived (port : Nat) (frame : NetFrame)
  | macEntryAgeing (mac : Nat)
  | bridgeFault
  | phyLinkChange (port : Nat) (up : Bool)
  | paceWindow (margins : List (Option Int))
  | vddaAdjust (readMv : Option Nat)
  | pmbusFault
  | temperatureUpdate (readings : List Int)
  | nonlinearityRun (input : Nat) (counts : List (List Nat)) (result : NonlinearityResult)
  | skewTracking (sensor width deadline : Nat)
  | wholeMemoryBist (result : BistResult)
  -- start-up, resets and power
  | watchdogExpiry
  | periodicJournalCommit
  | pfailWarning (finalReads : List Bool)
  | pfailRelease
  | rstNFall
  | supplyOutOfRange
  | rstNRise
  | firmwareStart
  | deviceTestComplete (test : SelfTest) (pass : Bool)
  | functionTestComplete (test : SelfTest) (result : FunctionResult)
  | svSelftestComplete (pass : Bool)
  | pciePerst (level : Bool)
  | pcieLinkUp
  | msixUnmask (vector : Nat)
  | countErrorNotCleared (encoder : Nat)
  | encoderPairRestored (encoder : Nat)
  | noEngineInServiceTimeout
  | fwSlotEraseDone
  deriving DecidableEq, Repr

end Sys2Proof
end

