-- ==== Sys2Proof/Decode.lean ====
section
/-! DEFINITION. The command that a word of the table of operations and events spells. -/

namespace Sys2Proof

/-- The table gives no row any bits: its rows are operations and happenings, not words. Every word spells none.
Entry 18, DESIGN CHOICE. -/
def decodeTableWord (_nbits _w : Nat) : Option Instr := none

end Sys2Proof
end

