-- ==== Sys2Proof/Config.lean ====
section
/-! DEFINITION. What one device fixes and the manual leaves open: free values. None has a body, so no
proof can see what it is (notes/assumptions 16 and 17). -/

namespace Sys2Proof

/-- The fused unique identifier (R418, Reset "Fused"). Entry 17, DESIGN CHOICE. -/
opaque Config.uid : BitVec 64

/-- The fused MAC address (R418, R339). Entry 17, DESIGN CHOICE. -/
opaque Config.mac : BitVec 48

/-- Whether an image verifies under the fused key (R362): the ECDSA and SHA-384 outcome on its bytes.
Entry 17, DESIGN CHOICE. -/
opaque Config.signatureValid : List Byte → Bool

/-- VERSION that the header of an image holds (R362): the manual does not lay the header out.
Entry 17, DESIGN CHOICE. -/
opaque Config.imageVersion : List Byte → BitVec 16

/-- SEC_VERSION that the header of an image holds (R362). Entry 17, DESIGN CHOICE. -/
opaque Config.imageSecVersion : List Byte → Nat

/-- Whether a debug certificate is bound to the UID and signed (R365). Entry 17, DESIGN CHOICE. -/
opaque Config.certificateValid : List Byte → Bool

/-- The rate term that the PTP servo writes with bandwidth SERVO_BW at its n-th update for an offset in tq (R255, R260): the
manual names a bandwidth, not the law. Entry 16, DESIGN CHOICE. -/
opaque Config.servoRate : Nat → Nat → Int → Int

/-- The device's clock identity, and the accuracy and variance that it announces as grandmaster (R254, R261): the manual gives
none. Entry 16, DESIGN CHOICE. -/
opaque Config.clockIdentity : Nat
opaque Config.clockAccuracy : Nat
opaque Config.clockVariance : Nat

/-- The correction of D that closed loop adds at the n-th update (R277), before its bound. Entry 16, DESIGN CHOICE. -/
opaque Config.motorCorrection : Nat → Int

/-- How many forwarded frames an egress queue of a port holds beyond the first (R343): the manual gives no depth.
Entry 16, DESIGN CHOICE. -/
opaque Config.egressRoom : Nat

/-- The movement of the outputs in tq at the n-th switch of reference (R237), before its bound of ±50 ps.
Entry 16, DESIGN CHOICE. -/
opaque Config.switchMovement : Nat → Int

/-- The band that the n-th band search ends on (R240); a band is one of 64. Entry 16, DESIGN CHOICE. -/
opaque Config.bandFound : Nat → BitVec 6

/-- What the n-th failed non-posted read leaves in the AER uncorrectable status and in the header log (R323): the manual does
not say. Entry 16, DESIGN CHOICE. -/
opaque Config.readError : Nat → BitVec 32
opaque Config.readErrorHeader : Nat → BitVec 128

/-- Whether the image that the boot ROM chooses first fails to load at the n-th start (R362). Entry 16, DESIGN CHOICE. -/
opaque Config.loadFails : Nat → Bool

/-- The CRC-32 of a safety configuration (R286): the manual does not lay its payload out in bytes.
Entry 17, DESIGN CHOICE. -/
opaque Config.safetyCrc : SafetyCfg → BitVec 32

/-- The value of a reading that the manual leaves open after the n-th such reading (R253: the measured
offset in ppm before any measurement is made). Entry 16, DESIGN CHOICE. -/
opaque Config.unmeasured : Nat → Int

/-- G of a converter with readings m1 and m2 as INPUT_STATUS gives it (R159): the manual gives the number, not its
format. Entry 16, DESIGN CHOICE. -/
opaque Config.gainCode : Nat → Nat → BitVec 16

/-- O of a converter with readings m1 and m2 as INPUT_STATUS gives it (R159). Entry 16, DESIGN CHOICE. -/
opaque Config.offsetCode : Nat → Nat → BitVec 16

/-- INL(n) and PH(p) that the device derives from a converter's code-density histogram (R308): the manual does not give the
derivation. Entry 16, DESIGN CHOICE. -/
opaque Config.inlOf : List Nat → Nat → Int
opaque Config.phOf : List Nat → Nat → Int

/-- What a calibration item of 16 bits holds when the value to be written lies outside them (R307, R321): the manual does
not say. Entry 16, DESIGN CHOICE. -/
opaque Config.outsideItem : Int → BitVec 16

/-- VERSION of the firmware image in flash when the device is delivered (R362 gives 0x0401 for Ngaenit 4.1).
Entry 3, DESIGN CHOICE. -/
def Config.firmwareVersion : Nat := 0x0401

/-- Silicon stepping B1 (R372, R418). -/
def Config.stepping : Nat := 0x21

/-- Size of one image slot in bytes: the manual gives none (R364 only tests LENGTH against it).
Entry 17, DESIGN CHOICE. -/
opaque Config.imageSlotSize : Nat

/-- What CAL_SET_READ copies of HOP and of SAFETY, as 16-bit items: the manual gives their items no order (R307, R384). A hop
entry is given by its DT, reference, frequency, RDIV, band and temperature, an empty one by nothing.
Entry 42, DESIGN CHOICE. -/
opaque Config.hopImage : List (List Int) → List Int
opaque Config.safetyImage : SafetyCfg → List Int

end Sys2Proof
end

