-- ==== Sys2Proof/Machine/StateTx.lean ====
section
/-! DEFINITION. The state of the transmit side: time base, outputs, shots, test pulses, program memory,
fire sequencers, encoders and angle estimators. -/

namespace Sys2Proof.Machine

/-! ## Time base (R27 to R39) -/

/-- What Polestar counts on (R39). -/
inductive TbSource where
  | free
  | locked
  | holdover
  deriving DecidableEq, Repr

/-- One time alarm (R35): its table, the number of the next instance, armed or not, SKIPPED. -/
structure Alarm where
  cfg : AlarmCfg
  armed : Bool
  next : Nat
  skipped : Count
  deriving DecidableEq, Repr

def Alarm.reset : Alarm :=
  { cfg := { time := FullTime.zero, period := 0, enable := 0, epochHold := 0 }, armed := false,
    next := 0, skipped := 0 }

/-- One trigger input (R37): EDGES 0 off, 1 rising, 2 falling, 3 both; its last stamp; its last 32 stamps with the
level that follows each, newest first, none where an edge was lost to the overrun (R153, R154). -/
structure Trg where
  edges : Nat
  lastEdge : Option Tq
  levels : List (Tq × Option Bool)
  overrun : Count
  deriving DecidableEq, Repr

def Trg.reset : Trg := { edges := 0, lastEdge := none, levels := [], overrun := 0 }

/-- The SYNC pins (R130, R131): table in force, table waiting for the next whole PERIOD with that time, offsets of the
last pulses (newest first), pulses received and missed, stamps of pulses that a grid time may still want, the times of the
pulses that repeat SYNCI stamps (oldest first), the number
of the next grid time to judge, and the last SYNCO pulse. -/
structure Sync where
  cfg : SyncCfg
  pending : Option (SyncCfg × Tq)
  offsets : List Int
  stamps : List Tq
  repeats : List Tq
  nextPulse : Int
  nextCheck : Int
  ball : Option (Tq × Tq)
  received : Count
  missing : Count
  deriving DecidableEq, Repr

def Sync.reset : Sync :=
  { cfg := { mode := 0, g0 := FullTime.zero, period := 1, cableDelay := 0, avg := 16 }, pending := none,
    offsets := [], stamps := [], repeats := [], nextPulse := 0, nextCheck := 0, ball := none, received := 0,
    missing := 0 }

/-- The last snapshot (R34, R422). -/
structure Snapshot where
  pending : Bool
  source : Nat
  epoch : BitVec 16
  ns : BitVec 30
  sec : BitVec 64
  deriving DecidableEq, Repr

/-- The time base. The slew component of RATE acts until the true time `slewUntil`; `rate` is the applied RATE that holdover
keeps (R30, R38). -/
structure TimeBase where
  sec : BitVec 64
  ns : Nat
  epoch : BitVec 16
  source : TbSource
  pendingSecHi : Option (BitVec 16)
  servoRate : Int
  slew : Int
  slewUntil : Nat
  rate : Int
  snap : Snapshot
  alarms : Tab Alarm
  trgs : Tab Trg
  sync : Sync
  deriving DecidableEq, Repr

/-! ## Outputs (R40 to R66) -/

/-- Where a schedule entry came from (R43). -/
inductive EntrySrc where
  | slot (seq : Nat)
  | command
  | fabric (channel : Nat)
  deriving DecidableEq, Repr

/-- The burst that an entry brings: the output's own fields, or one given with it (R43). -/
inductive EntryBurst where
  | own
  | given (offsets : List Nat) (w : Nat)
  deriving DecidableEq, Repr

/-- A schedule entry: source, trigger time, generation of what it publishes, burst, the shot of an EMITTER entry (R43), and
the true time at which it arrived (R52). -/
structure Entry where
  src : EntrySrc
  tTrig : Tq
  gen : Nat
  burst : EntryBurst
  shot : Option Nat
  came : Nat
  deriving DecidableEq, Repr

/-- A burst in a register of the edge generator (R53): rising edges at the ball, W, generation, what the
output was at the take (R46), SKEW_CAL then (R313), the lateness by which it has been shifted (R55), the first edge formed
or not, pulses that the dark path kept from forming, pulses that it ended early with their ends, whether the burst met a
dark interval, pulses that have been counted in a sector (R294), and the instant at which a Polestar step or a loss of lock
cut it. -/
structure Burst where
  rises : List Tq
  w : Nat
  gen : Nat
  shot : Option Nat
  emitter : Bool
  row : Nat
  pol : Nat
  cls : Nat
  lateExec : Nat
  lateMax : Nat
  skewCal : Int
  shifted : Int
  fired : Bool
  suppressed : List Nat
  darkCuts : List (Nat × Tq)
  darkHit : Bool
  counted : List Nat
  cutAt : Option Tq
  deriving DecidableEq, Repr

/-- One output (R40, R45, R47, R51, R53, R65). `fmtBy` is the true time by which a new format acts, `lastFall` the last falling
edge that a burst has left at the ball (R77). -/
structure OutState where
  cfg : OutCfg
  fmt : Nat
  swing : Nat
  fmtBy : Option Nat
  sched : List Entry
  active : Option Burst
  next : Option Burst
  lastFall : Option Tq
  fOverrun : Bool
  fLate : Bool
  fLateExec : Bool
  fConflict : Bool
  overrun : Count
  late : Count
  lateExec : Count
  conflict : Count
  darkened : Count
  refStop : Count
  holdoverEdges : Count
  bursts : Count
  deriving DecidableEq, Repr

/-- The reset values of R45. -/
def OutCfg.reset : OutCfg :=
  { enable := 0, cls := 3, row := 0, delay := 0, skewBoard := 0, width := 512, burstN := 1,
    offsets := [0, 0, 0, 0, 0, 0, 0], pol := 0, lateExec := 0, lateMax := 1024000 }

/-- Output `o` after reset: FMT 0 on a DLY output (R47), LVCMOS on MRK0 to MRK7 (R40). -/
def OutState.reset (o : Nat) : OutState :=
  { cfg := OutCfg.reset, fmt := if o < 128 then 0 else 3, swing := 2, fmtBy := none, sched := [],
    active := none, next := none, lastFall := none, fOverrun := false, fLate := false, fLateExec := false,
    fConflict := false, overrun := 0, late := 0, lateExec := 0, conflict := 0,
    darkened := 0, refStop := 0, holdoverEdges := 0, bursts := 0 }

/-- Counters of one emitter row (R63 to R65, R155) and its run of unmatched pulses. -/
structure RowState where
  missing : Count
  unexpected : Count
  overwidth : Count
  staRef : Count
  staFallback : Count
  staImplausible : Count
  missRun : Nat
  deriving DecidableEq, Repr

def RowState.reset : RowState :=
  { missing := 0, unexpected := 0, overwidth := 0, staRef := 0, staFallback := 0, staImplausible := 0,
    missRun := 0 }

/-- The match window of one pulse that has no match yet (R62): its row, shot, pulse number, rising edge, bounds, W. -/
structure MatchWin where
  row : Nat
  shot : Option Nat
  k : Nat
  rise : Tq
  lo : Tq
  hi : Tq
  w : Nat
  deriving DecidableEq, Repr

/-- The emission reference of a shot once fixed (R155): the reference time and its type. -/
structure Reference where
  time : Tq
  sta : Bool
  deriving DecidableEq, Repr

/-- One shot, from its slot's issue until its gates are done: its row and code (R71, R72), scheduled rising
edges (R42), how many EMITTER outputs took it, how many of them the dark path kept wholly dark, whether any
pulse formed (R185), matched stamps by pulse (R62), STA_DEV at its first rise (R139), and the reference. -/
structure Shot where
  seq : Nat
  row : Nat
  slot : Int
  offsets : List Nat
  w : Nat
  rises : List Tq
  took : Nat
  darkAll : Nat
  formed : Bool
  stamps : List (Nat × Tq)
  staDev : Option Nat
  ref : Option Reference
  darkened : Bool
  deriving DecidableEq, Repr

/-! ## Test pulses (R75 to R85) -/

/-- Where a test pulse is placed, with the GUARD and the slot rule by which it was (R76 to R80). -/
structure PlacedTest where
  rise : Tq
  fall : Tq
  cut : Bool
  shortGuard : Bool
  guard : Nat
  inSlot : Bool
  deriving DecidableEq, Repr

/-- What a measurement of the firmware's skew tracking is of (R317). -/
inductive SkewUnit where
  | output (n : Nat)
  | channel (c : Nat)
  deriving DecidableEq, Repr

/-- A request in a lane's queue: its deadline on the Polestar scale, placement, retries, and what it measures where the
firmware's interleaved calibration made it (R84, R317). -/
structure TestJob where
  req : TestReq
  earliest : Tq
  deadline : Tq
  placed : Option PlacedTest
  retries : Nat
  notBefore : Tq
  unit : Option SkewUnit
  deriving DecidableEq, Repr

/-- A test record (R85) by its fields. -/
structure TestRecord where
  channel : Nat
  lane : Nat
  output : Nat
  retries : Nat
  status : Nat
  shortGuard : Bool
  inSlot : Bool
  testId : Nat
  widthFormed : Nat
  rise : Tq
  measured : Int
  deriving DecidableEq, Repr

/-- The interval in which a test pulse at a channel blanks it and marks its gates, and whether the pulse was the
firmware's interleaved calibration (R82). -/
structure Blanking where
  channel : Nat
  lo : Tq
  hi : Tq
  interleaved : Bool
  deriving DecidableEq, Repr

/-- The transmit side. `shots` are numbered by `nextShot` as slots issue; `blanked` are the intervals of test pulses that
have ended. -/
structure Tx where
  outs : Tab OutState
  rows : Tab RowState
  stas : Tab StaCfg
  windows : List MatchWin
  shots : Tab (Option Shot)
  nextShot : Nat
  tests : Tab TestCfg
  lanes : Tab (List TestJob)
  blanked : List Blanking
  records : List TestRecord
  deviceId : Nat
  codes : Tab CodeProfile
  deriving DecidableEq, Repr

/-- The reset values of R61. -/
def StaCfg.reset : StaCfg := { row := 0x7F, latMin := 4096, latMax := 12288, widthTol := 2048, missLimit := 8 }

/-- The reset values of R76. -/
def TestCfg.reset : TestCfg := { testAllow := 1, guard := 5120, testOffset := 0 }

/-- The reset values of R69. -/
def CodeProfile.reset : CodeProfile := { n := 1, mode := 0, spacing1 := 8, spacing2 := 8, spacing3 := 8 }

/-! ## Fire sequencers (R86 to R111) -/

/-- The fields of a list entry (R90, R91). -/
structure ListEntry where
  freq : Nat
  testMask : Nat
  phase : Nat
  amplitude : Nat
  mask : BitVec 64
  ctrl : Nat
  segEnd : Bool
  stepCtrl : Nat
  src : Bool
  code : Nat
  gateProfile : Nat
  target : Nat
  arg : Nat
  deriving DecidableEq, Repr

/-- SEQ_STATUS state (R110). -/
inductive SeqRun where
  | stopped
  | running
  | underrun
  deriving DecidableEq, Repr

/-- The reasons of a skipped step (R109, R211) as a mask of 8 bits. -/
abbrev Reasons := BitVec 8

def Reasons.credit : Reasons := 1
def Reasons.bank : Reasons := 2
def Reasons.underrun : Reasons := 4
def Reasons.reference : Reasons := 8
def Reasons.safety : Reasons := 16
def Reasons.program : Reasons := 32
def Reasons.stopped : Reasons := 64
def Reasons.forced : Reasons := 128

/-- The open skip run of a sequencer (R212). -/
structure SkipRun where
  firstStep : Nat
  count : Nat
  reasons : Reasons
  firstTime : Tq
  granules : Nat
  epoch : BitVec 16
  facet : Nat
  deriving DecidableEq, Repr

/-- The step in play (R93, R94, R109): index, rows, gate profile, granules and dark granules so far, whether it holds a
streamed granule, whether it was admitted, its first fire time, the epoch and facet at its start, whether
Twilight held, the channels it uses, and the reasons for which it is skipped so far. -/
structure Step where
  index : Nat
  rows : BitVec 64
  profile : Nat
  granules : Nat
  dark : Nat
  streamed : Bool
  admitted : Bool
  first : Tq
  epoch : BitVec 16
  facet : Nat
  twilight : Bool
  channels : List Nat
  reasons : Reasons
  deriving DecidableEq, Repr

def Step.none : Step :=
  { index := 0, rows := 0, profile := 0, granules := 0, dark := 0, streamed := false, admitted := false, first := 0,
    epoch := 0, facet := 0xFF, twilight := false, channels := [], reasons := 0 }

/-- A frozen step of an under-run (R106, R107): granules of the step, granules of the run so far, and the
fire time of the run's first slot. -/
structure Frozen where
  length : Nat
  granules : Nat
  first : Tq
  deriving DecidableEq, Repr

/-- A stop asked of a running sequencer (R104): its mode and its reason. -/
structure StopReq where
  mode : Nat
  reason : Reasons
  deriving DecidableEq, Repr

/-- Counters of one sequencer (R110). -/
structure SeqCounters where
  slots : Count
  shots : Count
  darkGranules : Count
  underrunGranules : Count
  skippedSteps : Count
  testSlots : Count
  twilightSlots : Count
  overspeed : Count
  maskClipped : Count
  stepForced : Count
  streamInvalid : Count
  jumpOverrun : Count
  condOverrun : Count
  jumpDropped : Count
  deriving DecidableEq, Repr

def SeqCounters.zero : SeqCounters :=
  { slots := 0, shots := 0, darkGranules := 0, underrunGranules := 0, skippedSteps := 0, testSlots := 0,
    twilightSlots := 0, overspeed := 0, maskClipped := 0, stepForced := 0, streamInvalid := 0,
    jumpOverrun := 0, condOverrun := 0, jumpDropped := 0 }

/-- The phase accumulator (R96, R121): from position `x0` it held `acc0` (2^-48 slot) and grows by `freq` per
unit of position; `phase` is the unwrapped P, `phaseNext` the P from the granule's second slot on. -/
structure Accum where
  x0 : Int
  acc0 : Int
  freq : Nat
  phase : Int
  phaseNext : Int
  deriving DecidableEq, Repr

def Accum.reset : Accum := { x0 := 0, acc0 := 0, freq := 1, phase := 0, phaseNext := 0 }

/-- One fire sequencer (R89 to R111, R125). `k` is the index of the next slot, `j` its place in its granule,
`entry` the entry in play and `gran` its content, `after` what the segment's decision chose (none: stop),
`testSlot` the fire time of the last test slot that it has reserved (R78),
`stepTo` the time to which a forward Polestar step has led (R127). -/
structure SeqState where
  cfg : SeqCfg
  g0 : FullTime
  trim : Int
  trimPending : Option Int
  run : SeqRun
  accum : Accum
  k : Int
  j : Nat
  lastFire : Option Tq
  entry : Nat
  gran : ListEntry
  granDark : Bool
  first : Bool
  segEnded : Bool
  step : Step
  after : Option Nat
  halting : Bool
  loops : Tab Nat
  cond : Bool
  jump : Option Nat
  rd : Nat
  wr : Nat
  pushErr : Bool
  fUnderrun : Bool
  fJumpOverrun : Bool
  fCondOverrun : Bool
  frozen : Option Frozen
  stops : List StopReq
  skip : Option SkipRun
  testSlot : Option Tq
  stepTo : Option Tq
  counters : SeqCounters
  deriving DecidableEq, Repr

def ListEntry.zero : ListEntry :=
  { freq := 0, testMask := 0, phase := 0, amplitude := 0, mask := 0, ctrl := 0, segEnd := false,
    stepCtrl := 0, src := false, code := 0, gateProfile := 0, target := 0, arg := 0 }

/-- The reset values of R89. -/
def SeqCfg.reset : SeqCfg :=
  { domain := 0, encoder := 0, progBase := 0, progLen := 4, startEntry := 0, jumpTarget := 0, rows := 0,
    resultStream := 0, streamBase := 0, streamLen := 0 }

def SeqState.reset : SeqState :=
  { cfg := SeqCfg.reset, g0 := FullTime.zero, trim := 0, trimPending := none, run := .stopped,
    accum := Accum.reset, k := 0, j := 0, lastFire := none, entry := 0, gran := ListEntry.zero,
    granDark := false, first := true, segEnded := false, step := Step.none,
    after := none, halting := false, loops := [], cond := false, jump := none, rd := 0, wr := 0,
    pushErr := false, fUnderrun := false, fJumpOverrun := false, fCondOverrun := false, frozen := none,
    stops := [], skip := none, testSlot := none, stepTo := none, counters := SeqCounters.zero }

/-- Program memory in canonical form: an unlisted byte reads 0 (R391: cleared to 0 at a cold start). -/
abbrev Memory := Tab Byte

/-- Program memory, its committed ranges (first entry, entries) and the eight sequencers. -/
structure Sequencers where
  mem : Memory
  committed : List (Nat × Nat)
  seqs : Tab SeqState
  deriving DecidableEq, Repr

/-! ## Encoders and angle estimators (R112 to R124, R271 to R274) -/

/-- A usable edge (R112): its stamp, its unwrapped count, and its unwrapped angle U in 2^-32 revolution. -/
structure AngleEdge where
  t : Tq
  count : Int
  u : Int
  deriving DecidableEq, Repr

/-- One encoder's stamping path (R272, R273): levels of A and B, unwrapped count, direction, stamps of the
last A and B edges and of the last counted edge, counters. -/
structure Encoder where
  a : Bool
  b : Bool
  count : Int
  forward : Bool
  lastA : Option Tq
  lastB : Option Tq
  lastCounted : Option Tq
  edges : Count
  filtered : Count
  countErrors : Count
  deriving DecidableEq, Repr

def Encoder.reset : Encoder :=
  { a := false, b := false, count := 0, forward := true, lastA := none, lastB := none, lastCounted := none,
    edges := 0, filtered := 0, countErrors := 0 }

/-- One angle estimator (R112 to R119): its table, facets and meridians, usable edges (newest first), the
three conditions of R115 that are state, and its counters. -/
structure Estimator where
  cfg : AngleCfg
  facets : Nat
  meridians : List Nat
  edges : List AngleEdge
  indexSeen : Bool
  countError : Bool
  valid : Bool
  residMax : Nat
  countCorrections : Count
  invalidEpisodes : Count
  deriving DecidableEq, Repr

def Estimator.reset : Estimator :=
  { cfg := { edgeUse := 0, window := 16, minSpeed := 256, edgeTimeout := 10240000 }, facets := 1,
    meridians := [0], edges := [], indexSeen := false, countError := false, valid := false, residMax := 0,
    countCorrections := 0, invalidEpisodes := 0 }

/-- One angle mark (R117): its table, its next position, MISSED. -/
structure AngleMark where
  cfg : MarkCfg
  next : Option Int
  missed : Count
  deriving DecidableEq, Repr

def AngleMark.reset : AngleMark :=
  { cfg := { encoder := 0, mode := 0, enable := 0, angle := 0 }, next := none, missed := 0 }

/-- Encoders 0 primary and 1 secondary, their estimators, and the angle marks. -/
structure Scan where
  encoders : Tab Encoder
  estimators : Tab Estimator
  marks : Tab AngleMark
  deriving DecidableEq, Repr

end Sys2Proof.Machine
end

