-- ==== Sys2Proof/Machine/StateRx.lean ====
section
/-! DEFINITION. The state of the receive side: inputs, converters, gates, stamp path, histograms, echo
engines, streams and result rings. -/

namespace Sys2Proof.Machine

/-! ## Inputs and converters (R134 to R159) -/

/-- One vernier converter (R140, R144, R147): readings of its last passing calibration (G = 1,024 / (m2 - m1),
O = 1,024 - G m1), when it passed, failures in succession, excluded, calibrating, and until when it converts.
INL is in units of 1/16 tq and PH in tq (R307, R308). -/
structure Converter where
  m1 : Nat
  m2 : Nat
  calAt : Int
  fails : Nat
  excluded : Bool
  calibrating : Bool
  busyUntil : Tq
  tables : VernierTables
  deriving DecidableEq, Repr

def VernierTables.zero : VernierTables := { inl := [], ph := [] }

/-- A converter after reset: no calibration yet; G 4 and O 0 stand until the first (entry 5, DESIGN CHOICE). -/
def Converter.reset : Converter :=
  { m1 := 256, m2 := 512, calAt := 0, fails := 0, excluded := false, calibrating := false, busyUntil := 0,
    tables := VernierTables.zero }

/-- A stamp on its way from a converter to its queue (R148): the stamp, what it is in a gate that opened with another
SKEW_CAL (R313; by gate number), the edge at the ball, the converter, REF_SUSPECT and HOLDOVER, the edge's sense, the epoch
at the stamp, and the settings of its hit input when the edge came (R138). `moved` is what Polestar has stepped since, and
`backed` that it has stepped back. -/
structure PathStamp where
  id : Nat
  t : Tq
  gated : Tab Tq
  tEdge : Tq
  conv : Nat
  suspect : Bool
  falling : Bool
  epoch : BitVec 16
  cfg : HitCfg
  moved : Tq
  backed : Bool
  deriving DecidableEq, Repr

/-- A raw stamp in a raw queue (R151). -/
structure RawStamp where
  t : Tq
  source : Nat
  falling : Bool
  holdover : Bool
  droppedBefore : Bool
  epoch : BitVec 16
  deriving DecidableEq, Repr

/-- What every input index of R134 has: its raw stream, raw queue, stamp path, converters, and counters (R159, R172,
R173). `rolling` is the converter that a rolling calibration took and the next excluded one to try (R147); `sweep` are the
converters that a relock still wants calibrated (R158); `table` numbers the VERNIER tables in use and `newTables` waits
for the next gate that opens (R316). -/
structure InputState where
  stream : Option Nat
  queue : List RawStamp
  droppedBefore : Bool
  path : List PathStamp
  convs : Tab Converter
  rr : Nat
  rrFall : Nat
  rolling : Option (Nat × Nat)
  sweep : List Nat
  table : Nat
  newTables : Option (List VernierTables)
  pairLost : Count
  ungated : Count
  calFull : Count
  calReused : Count
  calRolling : Count
  convFault : Count
  lbBlanked : Count
  suspectStamps : Count
  rawDropped : Count
  deriving DecidableEq, Repr

def InputState.reset : InputState :=
  { stream := none, queue := [], droppedBefore := false, path := [], convs := [], rr := 0,
    rrFall := 0, rolling := none, sweep := [], table := 0, newTables := none, pairLost := 0, ungated := 0, calFull := 0,
      calReused := 0, calRolling := 0, convFault := 0,
    lbBlanked := 0, suspectStamps := 0, rawDropped := 0 }

/-! ## Gates (R161 to R176) -/

/-- A word of a gate's queue: the 32 bits of R150 and the stamp that they give with the gate's open time; `id` is the
stamp's own number, by which words of one stamp in several gates are known, `multi` that it was matched in another gate
(R168). -/
structure Word where
  id : Nat
  multi : Bool
  t : Tq
  bits : BitVec 32
  deriving DecidableEq, Repr

/-- How far a match has come: waiting for ref or the neighbour test, accumulated, or discarded. -/
inductive MatchState where
  | pending
  | kept
  | dropped
  deriving DecidableEq, Repr

/-- An accepted match (R183, R185): stamp and pulse number of each matched pulse, FULL or WEAK, matched
in another gate too (R168), its time of flight once ref is fixed. -/
structure Match where
  multi : Bool
  ids : List Nat
  stamps : List (Nat × Tq)
  full : Bool
  tau : Option Int
  state : MatchState
  deriving DecidableEq, Repr

/-- The life of a gate: armed, opened (closed and draining included), drained. A gate that is refused or not opened
is none. -/
inductive GateLife where
  | armed
  | opened
  | drained
  deriving DecidableEq, Repr

/-- One gate (R163 to R171). `bank` is none for a gate of GATE_ARM, whose stream is `tapStream`, and once the bank is
closed or returned; `matching` is the match profile at its arming (R182), `binK` its bank's (R178), `skewCal` the SKEW_CAL
and `table` the number of the VERNIER tables that it opened with (R313, R316). -/
structure Gate where
  id : Nat
  queue : Option Nat
  seq : Nat
  shot : Option Nat
  slot : Int
  tOpen : Tq
  tClose : Tq
  life : GateLife
  words : List Word
  drops : Nat
  calDecided : Bool
  calReused : Bool
  suspect : Bool
  cal : Bool
  selftest : Bool
  epochChanged : Bool
  cut : Bool
  inService : Bool
  bank : Option Nat
  profile : Nat
  matching : MatchProfile
  binK : Nat
  skewCal : Int
  offsets : List Nat
  found : List Match
  table : Nat
  tapStream : Option Nat
  deriving DecidableEq, Repr

/-- One hit channel (R137, R161, R166, R176): its table, watched row, gates, and gate counters. `needFull`
holds from relock to the next gate's full calibration (R158); `passed` is the greatest stamp that has passed the stamp
path (R184). -/
structure Channel where
  cfg : HitCfg
  row : Nat
  gates : List Gate
  nextGate : Nat
  nextStamp : Nat
  passed : Option Tq
  needFull : Bool
  failed : Bool
  poolHigh : Nat
  opened : Count
  refused : Count
  droppedHits : Count
  multiAssigned : Count
  gatesCut : Count
  deriving DecidableEq, Repr

/-- The reset values of R137. -/
def HitCfg.reset : HitCfg :=
  { enable := 0, cls := 0, edge := 0, term := 1, hyst := 1, skewBoard := 0, rawGate := 0, trgSel := 0,
    trgActive := 1 }

/-- Channel `c` after reset (R161: ROW is floor(c / 8)). -/
def Channel.reset (c : Nat) : Channel :=
  { cfg := HitCfg.reset, row := c / 8, gates := [], nextGate := 0, nextStamp := 0, passed := none, needFull := false,
    failed := false, poolHigh := 0, opened := 0, refused := 0, droppedHits := 0, multiAssigned := 0,
    gatesCut := 0 }

/-- The reset values of R139. -/
def StaInCfg.reset : StaInCfg :=
  { enable := 0, pol := 0, term := 1, hyst := 1, skewBoard := 0, diag := 0, staDev := 1024 }

/-- The reset values of R162. -/
def GateProfile.reset : GateProfile := { openOffset := 0, length := 1048576, binK := 1, winStart := 0 }

/-- The reset values of R182. -/
def MatchProfile.reset : MatchProfile := { minPulses := 0, nbN := 1, nbK := 1, nbTol := 2 }

/-- Tap and monitor of one hit group (R174). -/
structure Tap where
  tapChannel : Nat
  tapStream : Nat
  monChannel : Nat
  tapLost : Count
  deriving DecidableEq, Repr

/-- TAP_STREAM has no stated reset value (entry 6, DESIGN CHOICE). -/
def Tap.reset : Tap := { tapChannel := 0x7F, tapStream := 0, monChannel := 0, tapLost := 0 }

/-- A start input (R61, R139): the last rising stamp with the window it matched, for the duration of R62. -/
structure StaState where
  cfg : StaInCfg
  lastRise : Option (Tq × Option (Nat × Nat))
  deriving DecidableEq, Repr

def StaState.reset : StaState := { cfg := StaInCfg.reset, lastRise := none }

/-- The receive inputs and gates. -/
structure Rx where
  channels : Tab Channel
  stas : Tab StaState
  inputs : Tab InputState
  profiles : Tab GateProfile
  matchProfiles : Tab MatchProfile
  taps : Tab Tap
  exportUsed : Nat
  deriving DecidableEq, Repr

/-! ## Histograms (R177 to R195) -/

/-- A stored number with its parity bit (R177). -/
structure Bin where
  v : BitVec 16
  p : Bool
  deriving DecidableEq, Repr

/-- One block (R177): stale bit, 24-bit sum with parity, and its bins; a bin not listed holds 0. -/
structure Block where
  stale : Bool
  sum : BitVec 24
  sumP : Bool
  bins : Tab Bin
  deriving DecidableEq, Repr

def Bin.zero : Bin := { v := 0, p := false }

def Block.reset : Block := { stale := true, sum := 0, sumP := false, bins := [] }

/-- The state of a bank (R195). -/
inductive BankState where
  | free
  | filling
  | closed
  | held
  deriving DecidableEq, Repr

/-- The bank descriptor (R188) under way. GATE_TIME is kept in tq until the close. -/
structure Descriptor where
  step : Nat
  binK : Nat
  winStart : Nat
  stampsIn : Nat
  drops : Nat
  gateTimeTq : Nat
  matchedFull : Nat
  matchedWeak : Nat
  sat : Bool
  multiGate : Bool
  suspect : Bool
  cal : Bool
  selftest : Bool
  epochChanged : Bool
  lost : Bool
  gatesMissing : Nat
  gatesUsed : Nat
  deriving DecidableEq, Repr

def Descriptor.zero : Descriptor :=
  { step := 0, binK := 0, winStart := 0, stampsIn := 0, drops := 0, gateTimeTq := 0, matchedFull := 0,
    matchedWeak := 0, sat := false, multiGate := false, suspect := false, cal := false, selftest := false,
    epochChanged := false, lost := false, gatesMissing := 0, gatesUsed := 0 }

/-- The step that holds a bank (R179, R196): its stream and header values, and whether every slot of the step
has been issued, and whether the step was cut short (R104). -/
structure BankStep where
  seq : Nat
  stream : Nat
  epoch : BitVec 16
  facet : Nat
  time : Tq
  twilight : Bool
  credit : Nat
  allIssued : Bool
  cut : Bool
  deriving DecidableEq, Repr

structure Bank where
  state : BankState
  step : Option BankStep
  desc : Descriptor
  blocks : Tab Block
  deriving DecidableEq, Repr

def Bank.reset : Bank := { state := .free, step := none, desc := Descriptor.zero, blocks := [] }

/-- Pointer, hold and counters of one channel's histogram (R179, R193, R195). -/
structure HistChannel where
  nextBank : Nat
  holdPending : Bool
  held : Option Nat
  rejected : Count
  matchedFull : Count
  matchedWeak : Count
  nbRejected : Count
  outOfWindow : Count
  matchLost : Count
  darkMatches : Count
  satBins : Count
  parityAcc : Count
  recomputedBins : Count
  erasedBlocks : Count
  deriving DecidableEq, Repr

def HistChannel.reset : HistChannel :=
  { nextBank := 0, holdPending := false, held := none, rejected := 0, matchedFull := 0, matchedWeak := 0,
    nbRejected := 0, outOfWindow := 0, matchLost := 0, darkMatches := 0, satBins := 0, parityAcc := 0,
    recomputedBins := 0, erasedBlocks := 0 }

/-- Banks by 2 × channel + bank. -/
structure Hist where
  banks : Tab Bank
  chans : Tab HistChannel
  deriving DecidableEq, Repr

/-! ## Engines and streams (R196 to R217) -/

/-- One record of 16 bytes as four little-endian words (R209, R211, R151). -/
structure Rec where
  w0 : BitVec 32
  w1 : BitVec 32
  w2 : BitVec 32
  w3 : BitVec 32
  deriving DecidableEq, Repr

/-- What a result is, for the counters of R216 and the compact form of R215. -/
inductive ResultKind where
  | point
  | skip
  | lostRange
  | notMeasured
  | raw
  deriving DecidableEq, Repr

/-- One result (R197): its number, records, and what decides its batch (R208, R214). -/
structure Result where
  number : Nat
  kind : ResultKind
  recs : List Rec
  seq : Nat
  epoch : BitVec 16
  facet : Nat
  step : Nat
  time : Tq
  deriving DecidableEq, Repr

/-- A batch (R208, R214): its results in order and the header flags; `openedAt` is the true time of its first
record, `slot` the batch number in its ring once written. -/
structure Batch where
  results : List Result
  timedOut : Bool
  reconciled : Bool
  firstAfterStart : Bool
  openedAt : Nat
  slot : Nat
  deriving DecidableEq, Repr

/-- Why a job is not measured (R211). -/
inductive NotMeasured where
  | outOfService
  | noGates
  | engine
  | calibration
  deriving DecidableEq, Repr

/-- A point job (R196, R198): number, bank and its descriptor, the step's header values, kernel table and
calibration values at issue, engines on which it faulted, when its wait for another engine began. -/
structure Job where
  stream : Nat
  number : Nat
  channel : Nat
  bank : Nat
  desc : Descriptor
  step : BankStep
  kernel : KernelCfg
  maxEchoes : Nat
  tofOffset : Int
  walk : Int
  faultedOn : List Nat
  waitFrom : Option Nat
  deriving DecidableEq, Repr

/-- The state of an engine (R216). -/
inductive EngineRun where
  | idle
  | busy
  | suspect
  | quarantined
  | selftest
  deriving DecidableEq, Repr

/-- The last fault cause of an engine (R205). -/
inductive FaultCause where
  | none
  | ecc
  | timeout
  | check
  | selftest
  deriving DecidableEq, Repr

/-- One engine (R206, R216). `since` is the true time at which its job or test began. -/
structure Engine where
  run : EngineRun
  lastFault : FaultCause
  jobs : Count
  elements : Count
  faults : Count
  job : Option Job
  since : Nat
  lastTest : Nat
  wasQuarantined : Bool
  deriving DecidableEq, Repr

/-- An engine after reset has its self-test still to pass (R391; entry 8, DEDUCED). -/
def Engine.reset : Engine :=
  { run := .selftest, lastFault := .none, jobs := 0, elements := 0, faults := 0, job := none, since := 0,
    lastTest := 0, wasQuarantined := false }

/-- Counters of the pool (R216). -/
structure Pool where
  recomputes : Count
  notMeasuredEngine : Count
  truncatedSearch : Count
  outOfRange : Count
  noReturn : Count
  deriving DecidableEq, Repr

/-- The reset values of R199. -/
def StreamCfg.reset : StreamCfg := { maxEchoes := 1, transport := 0, batchMax := 256, batchTimeout := 100 }

/-- The reset values of R201. -/
def KernelCfg.reset : KernelCfg :=
  { kernel := 1, blockMin := 2, fineMax := 4, echoMin := 3, gapMax := 1, satrecEn := 1, satFrac := 14,
    precipEn := 0, precipMaxTof := 133120, precipMinWidth := 8, precipMaxPeak := 2, precipDrop := 0,
    jobTimeout := 40 }

/-- The reset values of R341. -/
def UdpCfg.reset : UdpCfg :=
  { dstMac := 0, dstIp := 0, dstPort := 20800, srcPort := 20800, egress := 0, pcp := 5 }

/-- The reset values of R328. -/
def RingCfg.reset : RingCfg :=
  { enable := 0, base := 0, ringLen := 64, piAddr := 0, vector := 36, irqHoldoff := 20, replay := 0 }

/-- One result ring (R328 to R338). `uncovered` counts batches written since the last confirmation read,
`reading` holds for each outstanding read, oldest first, how many batches it covers, `firstUncovered` is the true time
of the first uncovered batch. -/
structure Ring where
  cfg : RingCfg
  pi : BitVec 32
  ci : BitVec 32
  unconfirmed : List Batch
  uncovered : Nat
  firstUncovered : Nat
  reading : List Nat
  piAdvanced : Bool
  lastIrq : Option Nat
  reconPending : Bool
  markReconciled : Bool
  ciErr : Bool
  written : Count
  rewritten : Count
  reconciliations : Count
  reconcileFail : Count
  deriving DecidableEq, Repr

def Ring.reset : Ring :=
  { cfg := RingCfg.reset, pi := 0, ci := 0, unconfirmed := [], uncovered := 0, firstUncovered := 0,
    reading := [], piAdvanced := false, lastIrq := none, reconPending := false, markReconciled := false,
    ciErr := false, written := 0, rewritten := 0, reconciliations := 0, reconcileFail := 0 }

/-- One result stream (R197, R199, R208, R216). `delivered` is CONFIRMED of R408; `issueLimit` is that of
R409; `started` tells that a batch has been begun since the start (FIRST_AFTER_START of R214). -/
structure Stream where
  cfg : StreamCfg
  kernel : KernelCfg
  udp : UdpCfg
  raw : Bool
  nextIssue : Nat
  nextRelease : Nat
  committed : List Result
  openBatch : Option Batch
  closed : List Batch
  delivered : Nat
  issueLimit : Option Nat
  started : Bool
  lostRange : Option Rec
  reserved : Nat
  used : Nat
  results : Count
  records : Count
  skipRecords : Count
  notMeasured : Count
  batches : Count
  ring : Ring
  deriving DecidableEq, Repr

def Stream.reset : Stream :=
  { cfg := StreamCfg.reset, kernel := KernelCfg.reset, udp := UdpCfg.reset, raw := false, nextIssue := 1,
    nextRelease := 1, committed := [], openBatch := none, closed := [], delivered := 0, issueLimit := none,
    started := false, lostRange := none, reserved := 0, used := 0, results := 0, records := 0,
    skipRecords := 0, notMeasured := 0, batches := 0, ring := Ring.reset }

/-- Engines, their queue, and the streams. `slotsUsed` counts the 16,384 record slots of R200 that are
reserved or in use. -/
structure Engines where
  engines : Tab Engine
  queue : List Job
  pool : Pool
  streams : Tab Stream
  slotsUsed : Nat
  deriving DecidableEq, Repr

def Pool.zero : Pool :=
  { recomputes := 0, notMeasuredEngine := 0, truncatedSearch := 0, outOfRange := 0, noReturn := 0 }

end Sys2Proof.Machine
end

