-- ==== Sys2Proof/Machine/StateDev.lean ====
section
/-! DEFINITION. The state of the rest of the device: event fabric, PLL, network, motor, supervisor,
calibration, host links, mailboxes, journals, start-up and power. -/

namespace Sys2Proof.Machine

/-! ## Event fabric (R218 to R233) -/

/-- An event as its channel holds and delivers it (R16, R226). -/
structure Event where
  time : Tq
  gen : Nat
  deriving DecidableEq, Repr

/-- One channel (R218, R224, R229, R233). The key-lock is in the safety configuration (R230). `nobody`: what the holding
place holds was fired while SOURCE was 0xFFF and is delivered to nobody (R228). -/
structure EvChannel where
  source : Nat
  sticky : Bool
  holding : Option Event
  nobody : Bool
  loop : Bool
  published : Count
  collide : Count
  loopCount : Count
  fireReject : Count
  deriving DecidableEq, Repr

def EvChannel.reset : EvChannel :=
  { source := 0xFFF, sticky := false, holding := none, nobody := false, loop := false, published := 0, collide := 0,
    loopCount := 0, fireReject := 0 }

/-- One subscription register (R219). -/
structure Sub where
  channel : Nat
  enable : Bool
  deriving DecidableEq, Repr

/-- SUB0 and SUB1 of a task input. -/
structure Subs where
  sub0 : Sub
  sub1 : Sub
  deriving DecidableEq, Repr

def Subs.reset : Subs :=
  { sub0 := { channel := 0, enable := false }, sub1 := { channel := 0, enable := false } }

/-- One host event input (R231, R427). -/
structure Hev where
  valid : Bool
  gen : Nat
  channel : Nat
  time : Tq
  overrun : Count
  deriving DecidableEq, Repr

def Hev.reset : Hev := { valid := false, gen := 0, channel := 0, time := 0, overrun := 0 }

/-- Channels, subscriptions by task-input identifier (R222), host event inputs, FIRE_REJECTED (R423). -/
structure Fabric where
  channels : Tab EvChannel
  subs : Tab Subs
  hevs : Tab Hev
  fireRejected : Bool
  deriving DecidableEq, Repr

/-! ## PLL and clock outputs (R234 to R253) -/

/-- The states of R247, in the order of R419. -/
inductive PllRun where
  | startup
  | locked
  | relock
  | recovery
  | test
  deriving DecidableEq, Repr

/-- An entry of the hop table (R240); the reference is 0 for REFA and 1 for REFB, the temperature in 1/8 °C. -/
structure HopEntry where
  dt : Nat
  ref : Nat
  freq : Nat
  rdiv : Nat
  band : BitVec 6
  temp : Int
  deriving DecidableEq, Repr

/-- A change of plan under way (R241): what was asked, and the entry of a hop. -/
inductive PlanChange where
  | recal
  | hop (entry : Nat)
  | freq
  deriving DecidableEq, Repr

/-- One clock output (R244, R246, R248): its table, gated or running, and the origin of its grid in tq. Times of its edges
are in 1/1980 tq, which every DT of R235 divides: `starts`, from which it runs since it was ungated, and `tail`, rise and
fall of the pulse with which it was gated off last, whose POL `tailPol` is. -/
structure Cko where
  cfg : CkoCfg
  gated : Bool
  origin : Tq
  starts : Int
  tail : Option (Int × Int)
  tailPol : Nat
  deriving DecidableEq, Repr

def Cko.reset : Cko :=
  { cfg := { mode := 0, enable := 0, fmt := 0, swing := 2, pol := 0, div := 40, phase := 0, ldiv := 1,
             ldelay := 0 }, gated := true, origin := 0, starts := 0, tail := none, tailPol := 0 }

/-- The fractional-N modulator (R238): its three accumulators, the dither LFSR, and how much of a PFD cycle has gone by. -/
structure Modulator where
  acc1 : BitVec 48
  acc2 : BitVec 48
  acc3 : BitVec 48
  lfsr : BitVec 24
  phase : Nat
  deriving DecidableEq, Repr

/-- What is asked of the PLL while sequencers still run with FORCE 1 (R241): it is performed when the last has stopped. A new
DT (R235), or a new frequency and RDIV of reference `k` (R236). -/
inductive PllRequest where
  | recal
  | hop (entry : Nat)
  | dt (dt : Nat)
  | ref (k freq rdiv : Nat)
  deriving DecidableEq, Repr

/-- One reference (R237): the frequency that the last window measured in Hz, a gap seen since, valid or not, and the true
time since which it is. Entry 9, DESIGN CHOICE. -/
structure RefState where
  hz : Option Nat
  gap : Bool
  valid : Bool
  validSince : Nat
  deriving DecidableEq, Repr

/-- The PLL. `bandTemp` is the temperature at which the band in use was found, in 1/8 °C; `acq` the values of
LOOP_BW, DITHER_EN and DITHER_SEED of the last attempt at lock (R235, R252), `reacquiring` tells that one is under way; `rate`
is the rate in N_EFF, in 2^-48 (R234, R239); `ckoOrigin` is the origin of the last alignment (R246), `resetting` that of the
SYNCI divider reset under way (R247). -/
structure Pll where
  run : PllRun
  locked : Bool
  reacquiring : Bool
  change : Option PlanChange
  forced : Option PllRequest
  cfg : PllCfg
  acq : PllCfg
  refCfg : PllRefCfg
  refInUse : Nat
  refA : RefState
  refB : RefState
  band : BitVec 6
  bandValid : Bool
  bandTemp : Int
  rate : Int
  modulator : Modulator
  hops : Tab (Option HopEntry)
  armed : Bool
  syncOrigin : Option Tq
  residual : Int
  ckoOrigin : Tq
  resetting : Option Tq
  unlocks : Count
  refSwitches : Count
  hopsDone : Count
  hopSearched : Count
  searches : Count
  ckos : Tab Cko
  deriving DecidableEq, Repr

/-! ## Responses (R340, R355, R361) -/

/-- Status codes (R361). -/
inductive Status where
  | ok
  | accepted
  | busy
  | notReady
  | locked
  | badArg
  | noCredit
  | late
  | refused
  | safetyDenied
  | integrity
  | unsupported
  deriving DecidableEq, Repr

/-- A response frame (R355): its fields, and the block that is written or appended beside it (R369). -/
structure Response where
  token : Nat
  opcode : Nat
  status : Status
  replayed : Bool
  ret : List Byte
  block : List Byte
  deriving DecidableEq, Repr

/-- Where a datagram came from (R340): port, MAC and IP address, and UDP port. -/
structure Origin where
  port : Nat
  mac : Nat
  ip : Nat
  udp : Nat
  deriving DecidableEq, Repr

/-! ## Network (R254 to R269, R339 to R343) -/

/-- PTP port state. -/
inductive PtpRun where
  | disabled
  | listening
  | slave
  | master
  | passive
  deriving DecidableEq, Repr

/-- What a PTP message of the device says: a one-step Sync the time at the line at which it leaves (R257, R259), an Announce
the grandmaster (R255, R261), a Pdelay_Req its correction field; a Pdelay_Resp the receipt of its request and the correction
field, a Delay_Resp these and the requester; a Delay_Req the time at the line at which it leaves (R254, R257, R258). -/
inductive PtpContent where
  | sync (domain : Nat) (origin : Tq)
  | announce (domain : Nat) (a : AnnounceMsg)
  | pdelayReq (correction : Int)
  | pdelayResp (received : Tq) (correction : Int)
  | delayResp (domain requester : Nat) (received : Tq) (correction : Int)
  | delayReq (domain : Nat) (origin : Tq)
  deriving DecidableEq, Repr

/-- A UDP datagram of the device (R340 to R342). -/
structure Datagram where
  dstMac : Nat
  srcIp : Nat
  dstIp : Nat
  srcPort : Nat
  dstPort : Nat
  checksum : Nat
  data : List Byte
  deriving DecidableEq, Repr

/-- What a frame of the device's own carries: PTP, an ARP answer, a response of an Ethernet mailbox, a batch of a stream. -/
inductive OwnBody where
  | ptp (m : PtpContent)
  | arp
  | answer (d : Datagram)
  | smiurn (stream : Nat) (d : Datagram)
  deriving DecidableEq, Repr

/-- A frame of the device's own with its tag (R339, R343). -/
structure OwnFrame where
  tag : Option VlanTag
  body : OwnBody
  deriving DecidableEq, Repr

/-- A frame in an egress queue (R343): forwarded, with the port that it came by, or the device's own. -/
inductive Queued where
  | forwarded (frame : NetFrame) (port : Nat)
  | own (frame : OwnFrame)
  deriving DecidableEq, Repr

/-- One Ethernet port (R256, R259, R269, R343). `queue` holds the frames of its four egress queues in the order in which
they came. `newCfg` takes effect with the next message stamped on the port; `best` is the best Announce that the port has
heard (R254); `oneStepUnsupported` holds while the neighbour has not signalled that it receives one-step Sync (R259). -/
structure Port where
  cfg : PtpPortCfg
  newCfg : Option PtpPortCfg
  run : PtpRun
  best : Option AnnounceMsg
  meanDelay : Int
  oneStepUnsupported : Bool
  blockLock : Bool
  testPassed : Bool
  resetting : Bool
  lastAnnounce : Nat
  lastSent : Nat × Nat × Nat
  forwarded : Count
  discarded : Count
  learnFull : Count
  queue : List Queued
  deriving DecidableEq, Repr

def Port.reset : Port :=
  { cfg := { ptpEn := 1, ingressLat := 0, egressLat := 0, asym := 0, logSync := -3, logAnnounce := 0,
             logPdelay := 0, announceTimeout := 3 }, newCfg := none, run := .listening, best := none, meanDelay := 0,
    oneStepUnsupported := true, blockLock := false, testPassed := false, resetting := false,
    lastAnnounce := 0, lastSent := (0, 0, 0), forwarded := 0, discarded := 0, learnFull := 0, queue := [] }

/-- A learned address (R266, R267): its port and the true time of its last use. -/
structure MacEntry where
  port : Nat
  seen : Nat
  deriving DecidableEq, Repr

/-- PTP, ports and bridge. `offsets` are the last four offsets (newest first), `bigRun` the run of offsets at
or above STEP_THRESH of one sign, `smallRun` that of offsets below it (R260, R262); `control` tells that the
servo is in control (R39). `newPtp` waits for the next servo update (R255); `heard` is by how much Polestar was ahead of the
gPTP master at its last Sync (R254). -/
structure Net where
  ptp : PtpCfg
  newPtp : Option PtpCfg
  heard : Option Tq
  ports : Tab Port
  master : Option Nat
  offsets : List Int
  bigRun : Int
  smallRun : Nat
  stepRefused : Bool
  control : Bool
  clockClass : Nat
  lastPps : Nat
  outliers : Count
  refusedSteps : Count
  masterChanges : Count
  delayReqDropped : Count
  macs : List (Nat × MacEntry)
  bridge : BridgeCfg
  bridgeFault : Bool
  bridgePassed : Bool
  net : NetCfg
  deriving DecidableEq, Repr

/-! ## Motor (R276 to R283) -/

/-- The states of R279. -/
inductive MotorRunState where
  | stopped
  | starting
  | running
  | stopping
  | fault
  deriving DecidableEq, Repr

/-- The motor. `reference` is kept in 1/1000 of 1/256 revolution per second, since the ramp moves it by slope / 1000 per 1
ms (R277). `dBefore` is the D that was in force when `d` was set, and `dAt` the true time of the period boundary from which `d`
acts (R277). The periods of PWM_FREQ follow each other from `pwmFrom`, before which those of `pwmOld` run, a frequency and
its origin. `refAt` is the time of the last update of the reference. `mrdySeen` tells that MRDY has risen since START. -/
structure Motor where
  cfg : MotorCfg
  run : MotorRunState
  atSpeed : Bool
  d : Nat
  dBefore : Nat
  dAt : Nat
  pwmFrom : Nat
  pwmOld : Nat × Nat
  refAt : Nat
  reference : Nat
  target : Nat
  correction : Int
  mdir : Nat
  mrdy : Bool
  mfltN : Bool
  mrdySeen : Bool
  startedAt : Nat
  inTolSince : Option Nat
  faults : Count
  readyTimeouts : Count
  deriving DecidableEq, Repr

/-! ## Safety supervisor (R284 to R304) -/

/-- The states of R297, in the order of R419. -/
inductive SvRun where
  | init
  | lockout
  | normal
  | twilight
  | dusk
  | eclipse
  | nadir
  deriving DecidableEq, Repr

/-- The classes of R296. -/
inductive FaultClass where
  | single
  | demand
  | stop
  deriving DecidableEq, Repr

/-- A latched fault (R296); a read-back mismatch names its line, 0 for A and 1 for B. -/
inductive SvFault where
  | stoReadback (line : Nat)
  | darkReadback (line : Nat)
  | sstReadback (line : Nat)
  | encoderFailed (encoder : Nat)
  | agreement
  | direction
  | slsHigh
  | motorFault
  | emisLimit
  | bothEncoders
  | coreMismatch
  | oscillator
  | supplyMonitor
  | emission
  | rampViolation
  deriving DecidableEq, Repr

/-- One safe input (R289). -/
structure SafeInput where
  a : Bool
  b : Bool
  demanding : Bool
  disagree : Nat
  faultLatched : Bool
  bothDemanded : Bool
  awaitsReset : Bool
  discFaults : Count
  deriving DecidableEq, Repr

/-- A safe input after reset: both levels read low, which demands in MODE 0 (R288; entry 12, DESIGN CHOICE). -/
def SafeInput.reset : SafeInput :=
  { a := false, b := false, demanding := true, disagree := 0, faultLatched := false, bothDemanded := false,
    awaitsReset := false, discFaults := 0 }

/-- One channel of SRST (R300): level, samples it has been at it, and the last rise and fall by sample
number, with whether 10 ms of low went before the rise. -/
structure ResetPin where
  level : Bool
  run : Nat
  rise : Option Nat
  lowOk : Bool
  highRun : Nat
  fell : Bool
  deriving DecidableEq, Repr

def ResetPin.reset : ResetPin := { level := false, run := 0, rise := none, lowOk := false, highRun := 0, fell := false }

/-- What the supervisor keeps of one encoder, from its own receivers (R270, R275, R290, R291). -/
structure SvEncoder where
  count : Int
  indexSeen : Bool
  window : Int
  lastWindow : Int
  reverse : Nat
  lastEdge : Nat
  countError : Bool
  countErrorAt : Nat
  countFailed : Bool
  pairOpen : Bool
  pairAt : Nat
  deriving DecidableEq, Repr

def SvEncoder.reset : SvEncoder :=
  { count := 0, indexSeen := false, window := 0, lastWindow := 0, reverse := 0, lastEdge := 0, countError := false,
    countErrorAt := 0, countFailed := false, pairOpen := false, pairAt := 0 }

/-- Counters of the supervisor (R304). -/
structure SvCounters where
  twilightEntries : Count
  safeStops : Count
  stopFaults : Count
  rampViolations : Count
  slsLowDark : Count
  resetsAccepted : Count
  resetsRejected : Count
  budgetDark : Tab Count
  deriving DecidableEq, Repr

def SvCounters.zero : SvCounters :=
  { twilightEntries := 0, safeStops := 0, stopFaults := 0, rampViolations := 0, slsLowDark := 0,
    resetsAccepted := 0, resetsRejected := 0, budgetDark := [] }

/-- The safety supervisor. `samples` counts its 10 µs samples, `sampleAt` and `windowAt` are the true times of the last
sample and of the last end of a speed window (R285). `standing` are the causes of latched faults that still stand (R296).
`torqueAsked` is MOTOR_RUN's request (R279),
`sto` whether the STO lines toggle. `darkSince` is the Polestar time of the present dark demand,
`darkWas` the last one that was released (R64). `keysRestored` tells that the start has restored the key-locks (R230),
`awaitsCommit` that the SAFETY object was missing at the start and no SV_COMMIT has succeeded since (R320), `lockAtStart` that a
power warning came in INIT, which it leaves for LOCKOUT (R407). -/
structure Supervisor where
  run : SvRun
  active : SafetyCfg
  staged : SafetyCfg
  permit : Bool
  dark : Bool
  darkSince : Tq
  darkWas : Option (Tq × Tq)
  sto : Bool
  torqueAsked : Bool
  ssta : Bool
  sstb : Bool
  emissionFault : Bool
  faults : List SvFault
  standing : List SvFault
  inputs : Tab SafeInput
  srsta : ResetPin
  srstb : ResetPin
  resetReady : Bool
  keysRestored : Bool
  awaitsCommit : Bool
  lockAtStart : Bool
  samples : Nat
  sampleAt : Option Nat
  windowAt : Option Nat
  encoders : Tab SvEncoder
  agreeRun : Nat
  setB : Bool
  budgetStart : Nat
  budgetWin : Nat
  sectorCounts : Tab Nat
  dusk : Option (Nat × Int)
  twilightFrom : Nat
  emissions : Tab (List Nat)
  counters : SvCounters
  deriving DecidableEq, Repr

/-! ## Calibration (R307 to R322) -/

/-- One temperature set (R311, R312): TEMP in 1/8 °C and the object's values in the order of R307, each an
s16 in tq; an unlisted value is 0. -/
structure CalSet where
  temp : Int
  vals : Tab Int
  deriving DecidableEq, Repr

/-- The payload of a calibration object (R307). -/
inductive CalPayload where
  | sets (s : List CalSet)
  | vernier (v : Tab (List VernierTables))
  | hop (h : Tab (Option HopEntry))
  | safety (c : SafetyCfg)
  deriving DecidableEq, Repr

/-- One slot of the A/B store (R318): the header, the payload, and by which bits the CRC-32 stored behind them differs from that
of what it covers. -/
structure CalSlot where
  objectId : Nat
  version : Nat
  generation : BitVec 32
  length : Nat
  payload : CalPayload
  crcDiff : BitVec 32
  deriving DecidableEq, Repr

/-- One calibration object: its ID, slots A and B in retention memory, the generation of a STORE_BEGIN in the journal that
no STORE_DONE has followed, and what the last start found of it: STORE_INTERRUPTED (R318, R319). -/
structure CalStore where
  id : Nat
  a : CalSlot
  b : CalSlot
  begun : Option (BitVec 32)
  interrupted : Option (BitVec 32)
  deriving DecidableEq, Repr

/-- The runs of a function of R315: units scheduled, those of them that CAL_RUN asked for, whether a run has succeeded, the
sensor reading and the Polestar time of the last run (R322), and the reading of each unit's sensor at its own last successful
run; an idle-only function has one unit, 0. -/
structure CalRunState where
  scheduled : List Nat
  asked : List Nat
  done : Bool
  lastReading : Int
  lastTime : Tq
  readings : Tab Int
  deriving DecidableEq, Repr

/-- CAL_TARGET under way (R321): its number, its fields, the time at which it began, and per channel the steps seen, the valid
records among them and the sum of their times of flight. -/
structure TargetRun where
  id : Nat
  mode : Nat
  set : Nat
  first : Nat
  count : Nat
  range : Nat
  steps : Nat
  since : Tq
  sums : Tab (Nat × Nat × Int)
  deriving DecidableEq, Repr

/-- CAL_STA_LEARN under way (R321): its number, its fields, and per row the count of shots and the sum. -/
structure StaLearn where
  id : Nat
  set : Nat
  shots : Nat
  rows : BitVec 64
  sums : Tab (Nat × Int)
  deriving DecidableEq, Repr

/-- Skew tracking under way on one sensor (R317): what is still to be measured, and the measurements with status OK. -/
structure SkewRun where
  sensor : Nat
  todo : List SkewUnit
  outM : List (Nat × Int)
  inM : List (Nat × Int)
  deriving DecidableEq, Repr

/-- Calibration. Working copies of the per-set objects by ID (1 OUT_SKEW, 2 IN_SKEW, 3 LANE, 5 TOF), field
corrections of outputs and channels (R317), sensor readings in 1/8 °C. `hot` holds from a reading of 135 °C until all
lie below 130 °C (R446). -/
structure Calibration where
  cfg : CalCfg
  stores : Tab CalStore
  work : Tab (List CalSet)
  inForce : Tab (Tab Int)
  outCorr : Tab Int
  inCorr : Tab Int
  sensors : Tab Int
  runs : Tab CalRunState
  track : Option SkewRun
  targets : List TargetRun
  learns : List StaLearn
  nlFail : Count
  driftLimit : Count
  storeFail : Count
  hot : Bool
  deriving DecidableEq, Repr

/-! ## Host links and direct registers (R323 to R347, R416 to R428) -/

/-- What the host sets in the configuration space, and what the device reports there (R323): base addresses of BAR0 and BAR2,
Max Payload and Max Read Request Size in bytes, MSI-X Enable and Function Mask, D3hot, and AER: status, mask, severity and
header log. -/
structure PcieConfig where
  bar0 : BitVec 64
  bar2 : BitVec 64
  maxPayload : Nat
  maxReadRequest : Nat
  msixEnable : Bool
  functionMask : Bool
  d3hot : Bool
  aspmL1 : Bool
  aerUncorrectable : BitVec 32
  aerUncorrectableMask : BitVec 32
  aerSeverity : BitVec 32
  aerCorrectable : BitVec 32
  aerCorrectableMask : BitVec 32
  headerLog : BitVec 128
  deriving DecidableEq, Repr

/-- The configuration space after a reset. Entry 14, PRESUMED. -/
def PcieConfig.reset : PcieConfig :=
  { bar0 := 0, bar2 := 0, maxPayload := 128, maxReadRequest := 512, msixEnable := false, functionMask := false,
    d3hot := false, aspmL1 := false, aerUncorrectable := 0, aerUncorrectableMask := 0, aerSeverity := 0x462030,
    aerCorrectable := 0, aerCorrectableMask := 0x2000, headerLog := 0 }

/-- Message address and data of one entry of the MSI-X table (R325). -/
structure MsixEntry where
  addr : BitVec 64
  data : BitVec 32
  deriving DecidableEq, Repr

def MsixEntry.zero : MsixEntry := { addr := 0, data := 0 }

/-- The PCIe endpoint and MSI-X (R323 to R325, R327, R439): the mask of an entry of the table is bit 0 of its vector control,
true where it is not listed. `linkReset` holds from a host-link reset to the return of Bus Master Enable (R333). -/
structure Pcie where
  perst : Bool
  linkUp : Bool
  busMaster : Bool
  linkReset : Bool
  config : PcieConfig
  msixTable : Tab MsixEntry
  msixMask : Tab Bool
  msixPending : Tab Bool
  deriving DecidableEq, Repr

/-- One pace domain (R425); none: the configuration requires no rate there. -/
structure Pace where
  margin : Int
  low : Int
  deriving DecidableEq, Repr

def Pace.reset : Pace := { margin := 32767, low := 32767 }

/-- The regulator (R346, R347), voltages in mV; `modeRead` tells that VOUT_MODE has been read. -/
structure Pmbus where
  cfg : PmbusCfg
  vReq : Nat
  vRead : Nat
  tries : Nat
  fault : Bool
  lastReq : Option Nat
  highSince : Option Nat
  modeRead : Bool
  writes : Count
  retries : Count
  deriving DecidableEq, Repr

/-- Device registers (R421, R425, R426). -/
structure Regs where
  intStatus : BitVec 32
  intMask : BitVec 32
  progWriteReject : Count
  badAccess : Count
  watchdogExpiries : Count
  pfailWarnings : Count
  paces : Tab Pace
  paceWarn : Bool
  pcie : Pcie
  pmbus : Pmbus
  deriving DecidableEq, Repr

/-! ## Mailboxes (R348 to R361) -/

/-- A journaled command (R359). -/
structure JournalEntry where
  token : Nat
  opcode : Nat
  payloadCrc : Nat
  response : Response
  deriving DecidableEq, Repr

/-- A command that waits in a mailbox or is in execution; `readOk` tells that a non-posted read behind return data will
complete (R356), `takenAt` is the true time at which it was taken (R360). -/
structure Taken where
  mailbox : Nat
  frame : Frame
  payload : List Byte
  origin : Option Origin
  readOk : Bool
  takenAt : Nat
  deriving DecidableEq, Repr

/-- One mailbox (R349, R357, R366). `taken` counts PCIe commands taken. `busy`: its last command is not
answered yet (R358). -/
structure Mailbox where
  cmdPi : BitVec 32
  rspCi : BitVec 32
  rspPi : BitVec 32
  slots : Tab (Option Frame)
  responses : Tab (Option Response)
  err : Bool
  busy : Bool
  queue : List Taken
  journal : List JournalEntry
  commands : Count
  replays : Count
  dropped : Count
  integrityErrors : Count
  pairDenied : Count
  deriving DecidableEq, Repr

def Mailbox.reset : Mailbox :=
  { cmdPi := 0, rspCi := 0, rspPi := 0, slots := [], responses := [], err := false, busy := false,
    queue := [], journal := [], commands := 0, replays := 0, dropped := 0, integrityErrors := 0,
    pairDenied := 0 }

/-- What the answer of a command waits for. -/
inductive WaitKey where
  | seqStart (seq : Nat)
  | seqStop (seq : Nat)
  | schedule (output : Nat) (e : Entry)
  | pllForced
  | pllLock
  | engineTest (engine : Nat)
  | calTarget (run : Nat)
  | staLearn (run : Nat)
  deriving DecidableEq, Repr

/-- The mailboxes: the command in execution with the partner of a dual submission, commands whose answer
waits (none: a command that came with no mailbox), the held first submission with the true time of its
taking, the mailbox after which the round-robin goes on, and of the UART its baud rate, the true time of its last answer and
that since which its receiver looks for a packet (R345, R353). -/
structure Mailboxes where
  boxes : Tab Mailbox
  executing : Option (Taken × Option Taken)
  waiting : List (WaitKey × Option Taken)
  held : Option (Taken × Nat)
  last : Nat
  baud : Nat
  uartFree : Nat
  uartFrom : Nat
  deriving DecidableEq, Repr

/-! ## Journal, start-up and power (R362 to R364, R387 to R413) -/

/-- One stream's entry of a commit (R408). -/
structure CommitEntry where
  stream : Nat
  nextIssue : Nat
  confirmed : Nat
  issueLimit : Nat
  deriving DecidableEq, Repr

/-- A commit of the retention controller (R408). -/
structure Commit where
  warning : Bool
  entries : List CommitEntry
  deriving DecidableEq, Repr

/-- Retention content beside the calibration store (R67, R408 to R413): the last commit, and the periodic one before a warning
commit, which stands until that is complete. -/
structure Retention where
  commit : Option Commit
  periodic : Option Commit
  resetMarker : Bool
  lostRanges : List (Nat × Rec)
  deviceId : Nat
  deriving DecidableEq, Repr

/-- One image slot (R362, R364). -/
structure ImageSlot where
  valid : Bool
  version : Nat
  secVersion : Nat
  generation : BitVec 32
  data : List Byte
  deriving DecidableEq, Repr

/-- An open firmware update (R364): target slot, LENGTH, bytes written, slot erased. -/
structure Update where
  slot : Nat
  length : Nat
  written : Nat
  erased : Bool
  deriving DecidableEq, Repr

/-- The flash header (R344): 1-4-4 or 1-1-4 reads, dummy cycles, clock in Hz, the offsets of image slots A and B, and by which
bits its CRC-32 differs from that of what it covers. -/
structure FlashHeader where
  quadAddress : Bool
  dummy : Nat
  clock : Nat
  offsetA : Nat
  offsetB : Nat
  crcDiff : BitVec 32
  deriving DecidableEq, Repr

/-- Flash header, images and update (R344, R362 to R364). -/
structure Firmware where
  header : FlashHeader
  slotA : ImageSlot
  slotB : ImageSlot
  running : Option Nat
  minSec : Nat
  update : Option Update
  deriving DecidableEq, Repr

/-- The device states without the overlays (R22, R419). -/
inductive DevRun where
  | off
  | boot
  | selfTest
  | nadir
  | readyIdle
  | ranging
  | eclipse
  deriving DecidableEq, Repr

/-- SELFTEST_STATUS (R385): state and failing test. -/
inductive TestRun where
  | running
  | passed
  | failed
  deriving DecidableEq, Repr

/-- Start-up, resets and power. `classLocked` holds from the entry to Ranging to the next Ready-idle (R23). `warm` holds
from the start of a warm reset to the firmware's resumption, `coldDone` once the device tests of the cold start have
passed. `retesting` marks a RETEST under way, `passed` the tests passed in the run under way, `results` the last result of
each. `bistReady` is READY as the whole-memory BIST found it, and `bistUntested` the channels with a held bank, which it
left out (R392). `derived` tells that the firmware has taken up what retention memory held at the last cold reset (R410),
`needsCold` that an image committed over UMB in Boot waits for a cold reset, `noImage` that the boot ROM found no image that
runs (R363), `retestSearch` that the band search of a
RETEST has begun (R391). -/
structure Startup where
  run : DevRun
  classLocked : Bool
  rstLow : Bool
  fwRunning : Bool
  warm : Bool
  warmFromNadir : Bool
  coldDone : Bool
  retesting : Bool
  testRun : TestRun
  failing : Option SelfTest
  passed : List SelfTest
  results : List (SelfTest × Bool)
  ready : BitVec 27
  watchdogs : List Nat
  pfail : Bool
  pfailAt : Nat
  jtagUnlocked : Bool
  resets : List (Nat × Nat)
  bist : Bool
  bistReady : BitVec 27
  bistResult : Option BistResult
  bistUntested : List Nat
  derived : Bool
  needsCold : Bool
  noImage : Bool
  retestSearch : Bool
  deriving DecidableEq, Repr

end Sys2Proof.Machine
end

