-- ==== Sys2Proof/Machine/State.lean ====
section
/-! DEFINITION. The state of the AX5128, the reasons a step can stop, and the state right after reset. -/

namespace Sys2Proof.Machine

/-- Why the machine stops with a fault: the spec lets no command stop the device, so there is no reason. -/
inductive Fault where
  deriving DecidableEq, Repr

/-- Why the machine refuses a command. -/
inductive Refusal where
  /-- Raised by the arm of a command that has no meaning yet. Safe: nothing is claimed of it. -/
  | notModelled (mnemonic : String)
  deriving DecidableEq, Repr

/-- What leaves the device (entry 1, DESIGN CHOICE): it is a record of what was seen outside, read by nothing in the device. -/
inductive Sent where
  /-- A pulse at an output ball (R42, R50): its edges, the level of the P ball in it (R48), and the SKEW_CAL with which the
  edge generator aligned it (R44). -/
  | pulse (output : Nat) (rise fall : Tq) (high : Bool) (skewCal : Int)
  /-- A SYNCO pulse (R130). -/
  | synco (rise fall : Tq)
  /-- An MSI-X message (R327). -/
  | interrupt (vector : Nat)
  /-- A DMA write to host memory (R325). -/
  | dma (addr : Nat) (data : List Byte)
  /-- A batch written to a ring slot (R330), its number in the ring and its bytes. -/
  | ringWrite (stream : Nat) (addr : Nat) (number : Nat) (data : List Byte)
  /-- A confirmation read (R332) at an address. -/
  | hostRead (addr : Nat)
  /-- A response packet of the UART (R353). -/
  | uart (data : List Byte)
  /-- A frame of the device's own that leaves a port (R258, R340 to R343). -/
  | own (port : Nat) (f : OwnFrame)
  /-- A frame that the bridge forwards leaves a port (R266). -/
  | frame (port : Nat) (f : NetFrame)
  /-- A transfer to the regulator at an address (R346, R347): the command, and the voltage written in mV, none for a read. -/
  | pmbus (addr command : Nat) (mv : Option Nat)
  /-- A read of the boot flash (R344): command, dummy cycles, clock in Hz and offset. -/
  | flash (command dummy clock offset : Nat)
  deriving DecidableEq, Repr

/-- The whole device. The last five fields are the model's own: the commands that wait, what has left the
device (newest first), the response of the last command that came with no mailbox, the true time since power-up
in ns, and the counter that free values are drawn with. -/
structure State where
  tb : TimeBase
  tx : Tx
  sq : Sequencers
  scan : Scan
  rx : Rx
  hist : Hist
  eng : Engines
  fab : Fabric
  pll : Pll
  net : Net
  motor : Motor
  sv : Supervisor
  cal : Calibration
  regs : Regs
  mbx : Mailboxes
  ret : Retention
  fw : Firmware
  dev : Startup
  pending : List Instr
  sent : List Sent
  reply : Option Response
  clock : Nat
  fresh : Nat
  deriving DecidableEq, Repr

/-! ## Reset -/

/-- The values of R287. -/
def SvCfg.reset : SvCfg :=
  { startMode := 1, speedSrc := 0, secIndexOffset := 0, agreeTol := 5, standstillTime := 100, sdiTol := 64,
    stopSpeed := 64, decelMin := 256, rampMargin := 128, rampTime := 5000, twilightTime := 60,
    twilightFrac := 25, emisLimit := 4, resetDisc := 100 }

/-- The values of R288. -/
def SvInputCfg.reset : SvInputCfg := { function := 0, mode := 0, discTime := 20, restart := 1 }

/-- The values of R292. -/
def LimitSet.reset : LimitSet := { slsLow := 1280, slsHigh := 1792, sectors := 32, budgetWin := 1000, budget := 0 }

/-- The values of R292. -/
def SlpWindow.reset : SlpWindow := { enable := 0, start := 0, stop := 0 }

/-- The values of R271. -/
def EncCfg.reset : EncCfg :=
  { enable := 0, cpr := 4096, invertDir := 0, indexState := 4, indexTol := 2, filter := 1, term := 1 }

/-- The safety configuration of reset values: in each list an unlisted number holds the reset value of its rule,
a weight 1 (R292), and a channel without key-lock none. -/
def SafetyCfg.reset : SafetyCfg :=
  { sv := SvCfg.reset, inputs := [], limits := [], weights := [], slp := [], keylocks := [], encoders := [] }

def TimeBase.reset : TimeBase :=
  { sec := 0, ns := 0, epoch := 0, source := .free, pendingSecHi := none, servoRate := 0, slew := 0, slewUntil := 0, rate := 0,
    snap := { pending := false, source := 0, epoch := 0, ns := 0, sec := 0 }, alarms := [], trgs := [],
    sync := Sync.reset }

def Tx.reset : Tx :=
  { outs := [], rows := [], stas := [], windows := [], shots := [], nextShot := 0, tests := [], lanes := [],
    blanked := [], records := [], deviceId := 0, codes := [] }

def Pll.reset : Pll :=
  { run := .startup, locked := false, reacquiring := false, change := none, forced := none,
    cfg := { dt := 10, loopBw := 2, ditherEn := 1, ditherSeed := 1, alignSrc := 0, force := 0 },
    acq := { dt := 10, loopBw := 2, ditherEn := 1, ditherSeed := 1, alignSrc := 0, force := 0 },
    refCfg := { refMode := 2, refaFreq := 25000000, refbFreq := 25000000, refaRdiv := 1, refbRdiv := 1,
                refTol := 200, revertHold := 10 },
    refInUse := 0, refA := { hz := none, gap := false, valid := false, validSince := 0 },
    refB := { hz := none, gap := false, valid := false, validSince := 0 }, band := 0, bandValid := false,
    bandTemp := 200, rate := 0,
    modulator := { acc1 := 0, acc2 := 0, acc3 := 0, lfsr := 1, phase := 0 }, hops := [], armed := false,
      syncOrigin := none, residual := 0, ckoOrigin := 0, resetting := none,
    unlocks := 0, refSwitches := 0, hopsDone := 0, hopSearched := 0, searches := 0, ckos := [] }

def Net.reset : Net :=
  { ptp := { profile := 0, domain := 0, role := 0, priority1 := 128, priority2 := 128, stepThresh := 1024000,
             slewMax := 28147498, servoBw := 1 },
    ports := [], master := none, offsets := [], bigRun := 0, smallRun := 0, stepRefused := false, control := false,
    newPtp := none, heard := none, clockClass := 248, lastPps := 0, outliers := 0, refusedSteps := 0, masterChanges := 0,
    delayReqDropped := 0,
    macs := [], bridge := { ageTime := 300, learn := 7 }, bridgeFault := false, bridgePassed := false,
    net := { ipAddr := 0, netmask := 24, vlanId := 0, mtu := 1500, mbxUdpBase := 20776, mbxPcp := 6,
             ptpPcp := 7 } }

def Motor.reset : Motor :=
  { cfg := { pwmFreq := 20000, speedFull := 2560, control := 0, encoder := 0, rampUp := 512, rampDown := 512,
             speedTol := 5, settleTime := 500, readyTimeout := 200 },
    run := .stopped, atSpeed := false, d := 0, dBefore := 0, dAt := 0, pwmFrom := 0, pwmOld := (20000, 0), refAt := 0,
    reference := 0, target := 0, correction := 0, mdir := 0,
    mrdy := false, mfltN := true, mrdySeen := false, startedAt := 0, inTolSince := none,
    faults := 0, readyTimeouts := 0 }

def Supervisor.reset : Supervisor :=
  { run := .init, active := SafetyCfg.reset, staged := SafetyCfg.reset, permit := false, dark := true,
    darkSince := 0, darkWas := none, sto := false, torqueAsked := false, ssta := false, sstb := false, emissionFault := false,
    faults := [], standing := [], inputs := [], srsta := ResetPin.reset, srstb := ResetPin.reset, resetReady := false,
    keysRestored := false, awaitsCommit := false, lockAtStart := false, samples := 0, sampleAt := none, windowAt := none,
    encoders := [], agreeRun := 0, setB := false, budgetStart := 0, budgetWin := 1000,
    sectorCounts := [], dusk := none, twilightFrom := 0, emissions := [], counters := SvCounters.zero }

/-- One set of zeros at 25 °C (R311 with no measurement yet; entry 13, DESIGN CHOICE). -/
def CalSet.zero25 : CalSet := { temp := 200, vals := [] }

def CalSlot.empty : CalSlot :=
  { objectId := 0, version := 0, generation := 0, length := 0, payload := .sets [], crcDiff := BitVec.allOnes 32 }

/-- Payload of object `id` as the model takes it to be delivered (entry 13, DESIGN CHOICE): 4 VERNIER, 6 HOP, 7 SAFETY, and
the objects of temperature sets. -/
def CalPayload.delivered (id : Nat) : CalPayload :=
  if id = 4 then .vernier [] else if id = 6 then .hop [] else if id = 7 then .safety SafetyCfg.reset
  else .sets [CalSet.zero25]

/-- How many items a set of an object has. Entry 41, DEDUCED. -/
def calItems (o : Nat) : Nat := if o = 1 then 264 else if o = 2 then 1088 else if o = 3 then 8 else 1216

/-- LENGTH of a payload in bytes (R318): items of 16 bits, a set with its TEMP before them, six items in
each of the 16 entries of HOP; the spec gives SAFETY no items, its place is 1 KiB. Entry 43, DESIGN CHOICE. -/
def CalPayload.size (id : Nat) : CalPayload → Nat
  | .sets l => l.length * (2 * calItems id + 2)
  | .vernier _ => 2 * 41 * 4 * 576
  | .hop _ => 2 * 6 * 16
  | .safety _ => 1024

/-- A slot as a store of object `id` writes it, with the CRC-32 last; one that does not verify holds another CRC-32.
Entry 43, DESIGN CHOICE. -/
def CalSlot.of (id : Nat) (generation : BitVec 32) (p : CalPayload) (verified : Bool) : CalSlot :=
  { objectId := id, version := 1, generation := generation, length := p.size id, payload := p,
    crcDiff := if verified then 0 else 1 }

/-- A slot is valid when its CRC matches and its OBJECT_ID and LENGTH fit its place (R318). -/
def CalSlot.valid (x : CalSlot) (id : Nat) : Bool :=
  decide (x.crcDiff = 0) && decide (x.objectId = id) && decide (x.length = x.payload.size id)

def CalStore.delivered (id : Nat) : CalStore :=
  { id := id, a := CalSlot.of id 1 (CalPayload.delivered id) true, b := CalSlot.empty, begun := none, interrupted := none }

/-- The reset values of R314: REF_OUT(k) is k and REF_CH(k) is 64 k. -/
def CalCfg.reset : CalCfg :=
  { deltaT := 4, auto := 7, enginePeriod := 60, refOut := [0, 1, 2, 3, 4, 5, 6, 7],
    refCh := [0, 64, 128, 192, 256, 320, 384, 448] }

def Calibration.reset : Calibration :=
  { cfg := CalCfg.reset, stores := [], work := [], inForce := [], outCorr := [], inCorr := [], sensors := [],
    runs := [], track := none, targets := [], learns := [], nlFail := 0, driftLimit := 0, storeFail := 0, hot := false }

def Pcie.reset : Pcie :=
  { perst := false, linkUp := false, busMaster := false, linkReset := false, config := PcieConfig.reset, msixTable := [],
    msixMask := [], msixPending := [] }

def Pmbus.reset : Pmbus :=
  { cfg := { addr := 0x40, voutMin := 680, voutMax := 850, step := 5 }, vReq := 750, vRead := 750, tries := 0,
    fault := false, lastReq := none, highSince := none, modeRead := false, writes := 0, retries := 0 }

def Regs.reset : Regs :=
  { intStatus := 0, intMask := 0, progWriteReject := 0, badAccess := 0, watchdogExpiries := 0, pfailWarnings := 0,
    paces := [], paceWarn := false, pcie := Pcie.reset, pmbus := Pmbus.reset }

def Mailboxes.reset : Mailboxes :=
  { boxes := [], executing := none, waiting := [], held := none, last := 40, baud := 115200, uartFree := 0, uartFrom := 0 }

def Retention.reset : Retention := { commit := none, periodic := none, resetMarker := false, lostRanges := [], deviceId := 0 }

def ImageSlot.empty : ImageSlot := { valid := false, version := 0, secVersion := 0, generation := 0, data := [] }

/-- The header and the image that the model takes the flash to be delivered with (entry 3, DESIGN CHOICE). -/
def Firmware.reset : Firmware :=
  { header := { quadAddress := true, dummy := 6, clock := 100000000, offsetA := 0x1000, offsetB := 0x401000, crcDiff := 0 },
    slotA := { valid := true, version := Config.firmwareVersion, secVersion := 0, generation := 1, data := [] },
    slotB := ImageSlot.empty, running := none, minSec := 0, update := none }

/-- Right after the reset: RST_N is still low (R387), the state is Boot (R419). Entry 45, DEDUCED. -/
def Startup.reset : Startup :=
  { run := .boot, classLocked := false, rstLow := true, fwRunning := false, warm := false, warmFromNadir := false,
    coldDone := false, retesting := false,
    testRun := .running, failing := none, passed := [], results := [], ready := 0, watchdogs := [], pfail := false,
    pfailAt := 0, jtagUnlocked := false, resets := [], bist := false, bistReady := 0, bistResult := none,
    bistUntested := [], derived := false, needsCold := false, noImage := false, retestSearch := false }

/-- The machine right after reset. Entry 45, DEDUCED. -/
def State.reset : State :=
  { tb := TimeBase.reset
    tx := Tx.reset
    sq := { mem := [], committed := [], seqs := [] }
    scan := { encoders := [], estimators := [], marks := [] }
    rx := { channels := [], stas := [], inputs := [], profiles := [], matchProfiles := [], taps := [],
            exportUsed := 0 }
    hist := { banks := [], chans := [] }
    eng := { engines := [], queue := [], pool := Pool.zero, streams := [], slotsUsed := 0 }
    fab := { channels := [], subs := [], hevs := [], fireRejected := false }
    pll := Pll.reset
    net := Net.reset
    motor := Motor.reset
    sv := Supervisor.reset
    cal := Calibration.reset
    regs := Regs.reset
    mbx := Mailboxes.reset
    ret := Retention.reset
    fw := Firmware.reset
    dev := Startup.reset
    pending := []
    sent := []
    reply := none
    clock := 0
    fresh := 0 }

end Sys2Proof.Machine
end

