-- ==== Sys2Proof/Machine/Units.lean ====
section
/-! DEFINITION. Reads and writes of the numbered things of the state: one home for each, an unlisted number
holding its reset value. -/

namespace Sys2Proof.Machine

def CalRunState.reset : CalRunState :=
  { scheduled := [], asked := [], done := false, lastReading := 200, lastTime := 0, readings := [] }

/-- The reading of a unit's sensor at its last successful run, 25 °C before the first (entry 13, DESIGN CHOICE). -/
def CalRunState.reading (r : CalRunState) (u : Nat) : Int := Tab.get 200 r.readings u

/-- A run of a unit is off the schedule. -/
def CalRunState.drop (r : CalRunState) (u : Nat) : CalRunState :=
  { r with scheduled := r.scheduled.filter (· ≠ u), asked := r.asked.filter (· ≠ u) }

/-- A run of a unit has ended, successful or not, at a reading and a time (R322). Entry 42, DEDUCED. -/
def CalRunState.ended (r : CalRunState) (u : Nat) (reading : Int) (t : Tq) : CalRunState :=
  { r.drop u with lastReading := reading, lastTime := t }

/-- A run of a unit has ended with success: its reading is what ΔT goes by (R315). -/
def CalRunState.ran (r : CalRunState) (u : Nat) (reading : Int) (t : Tq) : CalRunState :=
  { r.ended u reading t with done := true, readings := Tab.put 200 r.readings u reading }

/-- The time alarm `k`. -/
def State.alarm (s : State) (k : Nat) : Alarm := Tab.get Alarm.reset s.tb.alarms k

/-- The time alarm `k` set to `v`. -/
def State.setAlarm (s : State) (k : Nat) (v : Alarm) : State :=
  { s with tb := { s.tb with alarms := Tab.put Alarm.reset s.tb.alarms k v } }

/-- The time alarm `k` changed by `f`. -/
def State.modAlarm (s : State) (k : Nat) (f : Alarm → Alarm) : State := s.setAlarm k (f (s.alarm k))

/-- Trigger input `k`. -/
def State.trg (s : State) (k : Nat) : Trg := Tab.get Trg.reset s.tb.trgs k

/-- Trigger input `k` set to `v`. -/
def State.setTrg (s : State) (k : Nat) (v : Trg) : State :=
  { s with tb := { s.tb with trgs := Tab.put Trg.reset s.tb.trgs k v } }

/-- Trigger input `k` changed by `f`. -/
def State.modTrg (s : State) (k : Nat) (f : Trg → Trg) : State := s.setTrg k (f (s.trg k))

/-- Output `k`. -/
def State.out (s : State) (k : Nat) : OutState := Tab.get (OutState.reset k) s.tx.outs k

/-- Output `k` set to `v`. -/
def State.setOut (s : State) (k : Nat) (v : OutState) : State :=
  { s with tx := { s.tx with outs := Tab.put (OutState.reset k) s.tx.outs k v } }

/-- Output `k` changed by `f`. -/
def State.modOut (s : State) (k : Nat) (f : OutState → OutState) : State := s.setOut k (f (s.out k))

/-- Emitter row `k`. -/
def State.row (s : State) (k : Nat) : RowState := Tab.get RowState.reset s.tx.rows k

/-- Emitter row `k` set to `v`. -/
def State.setRow (s : State) (k : Nat) (v : RowState) : State :=
  { s with tx := { s.tx with rows := Tab.put RowState.reset s.tx.rows k v } }

/-- Emitter row `k` changed by `f`. -/
def State.modRow (s : State) (k : Nat) (f : RowState → RowState) : State := s.setRow k (f (s.row k))

/-- The STA_CONFIG table of start input `k`. -/
def State.staCfg (s : State) (k : Nat) : StaCfg := Tab.get StaCfg.reset s.tx.stas k

/-- The STA_CONFIG table of start input `k` set to `v`. -/
def State.setStaCfg (s : State) (k : Nat) (v : StaCfg) : State :=
  { s with tx := { s.tx with stas := Tab.put StaCfg.reset s.tx.stas k v } }

/-- The STA_CONFIG table of start input `k` changed by `f`. -/
def State.modStaCfg (s : State) (k : Nat) (f : StaCfg → StaCfg) : State := s.setStaCfg k (f (s.staCfg k))

/-- Shot `k`, none once it is done. -/
def State.shot (s : State) (k : Nat) : Option Shot := Tab.get none s.tx.shots k

/-- Shot `k`, none once it is done set to `v`. -/
def State.setShot (s : State) (k : Nat) (v : Option Shot) : State :=
  { s with tx := { s.tx with shots := Tab.put none s.tx.shots k v } }

/-- Shot `k`, none once it is done changed by `f`. -/
def State.modShot (s : State) (k : Nat) (f : Option Shot → Option Shot) : State := s.setShot k (f (s.shot k))

/-- The test setting of DLY output `k`. -/
def State.testCfg (s : State) (k : Nat) : TestCfg := Tab.get TestCfg.reset s.tx.tests k

/-- The test setting of DLY output `k` set to `v`. -/
def State.setTestCfg (s : State) (k : Nat) (v : TestCfg) : State :=
  { s with tx := { s.tx with tests := Tab.put TestCfg.reset s.tx.tests k v } }

/-- The test setting of DLY output `k` changed by `f`. -/
def State.modTestCfg (s : State) (k : Nat) (f : TestCfg → TestCfg) : State := s.setTestCfg k (f (s.testCfg k))

/-- The queue of loop-back lane `k`. -/
def State.lane (s : State) (k : Nat) : List TestJob := Tab.get [] s.tx.lanes k

/-- The queue of loop-back lane `k` set to `v`. -/
def State.setLane (s : State) (k : Nat) (v : List TestJob) : State :=
  { s with tx := { s.tx with lanes := Tab.put [] s.tx.lanes k v } }

/-- The queue of loop-back lane `k` changed by `f`. -/
def State.modLane (s : State) (k : Nat) (f : List TestJob → List TestJob) : State := s.setLane k (f (s.lane k))

/-- Code profile `k`. -/
def State.code (s : State) (k : Nat) : CodeProfile := Tab.get CodeProfile.reset s.tx.codes k

/-- Code profile `k` set to `v`. -/
def State.setCode (s : State) (k : Nat) (v : CodeProfile) : State :=
  { s with tx := { s.tx with codes := Tab.put CodeProfile.reset s.tx.codes k v } }

/-- Code profile `k` changed by `f`. -/
def State.modCode (s : State) (k : Nat) (f : CodeProfile → CodeProfile) : State := s.setCode k (f (s.code k))

/-- Fire sequencer `k`. -/
def State.seq (s : State) (k : Nat) : SeqState := Tab.get SeqState.reset s.sq.seqs k

/-- Fire sequencer `k` set to `v`. -/
def State.setSeq (s : State) (k : Nat) (v : SeqState) : State :=
  { s with sq := { s.sq with seqs := Tab.put SeqState.reset s.sq.seqs k v } }

/-- Fire sequencer `k` changed by `f`. -/
def State.modSeq (s : State) (k : Nat) (f : SeqState → SeqState) : State := s.setSeq k (f (s.seq k))

/-- Encoder `k`. -/
def State.encoder (s : State) (k : Nat) : Encoder := Tab.get Encoder.reset s.scan.encoders k

/-- Encoder `k` set to `v`. -/
def State.setEncoder (s : State) (k : Nat) (v : Encoder) : State :=
  { s with scan := { s.scan with encoders := Tab.put Encoder.reset s.scan.encoders k v } }

/-- Encoder `k` changed by `f`. -/
def State.modEncoder (s : State) (k : Nat) (f : Encoder → Encoder) : State := s.setEncoder k (f (s.encoder k))

/-- Angle estimator `k`. -/
def State.estimator (s : State) (k : Nat) : Estimator := Tab.get Estimator.reset s.scan.estimators k

/-- Angle estimator `k` set to `v`. -/
def State.setEstimator (s : State) (k : Nat) (v : Estimator) : State :=
  { s with scan := { s.scan with estimators := Tab.put Estimator.reset s.scan.estimators k v } }

/-- Angle estimator `k` changed by `f`. -/
def State.modEstimator (s : State) (k : Nat) (f : Estimator → Estimator) : State := s.setEstimator k (f (s.estimator k))

/-- Angle mark `k`. -/
def State.mark (s : State) (k : Nat) : AngleMark := Tab.get AngleMark.reset s.scan.marks k

/-- Angle mark `k` set to `v`. -/
def State.setMark (s : State) (k : Nat) (v : AngleMark) : State :=
  { s with scan := { s.scan with marks := Tab.put AngleMark.reset s.scan.marks k v } }

/-- Angle mark `k` changed by `f`. -/
def State.modMark (s : State) (k : Nat) (f : AngleMark → AngleMark) : State := s.setMark k (f (s.mark k))

/-- Hit channel `k`. -/
def State.chan (s : State) (k : Nat) : Channel := Tab.get (Channel.reset k) s.rx.channels k

/-- Hit channel `k` set to `v`. -/
def State.setChan (s : State) (k : Nat) (v : Channel) : State :=
  { s with rx := { s.rx with channels := Tab.put (Channel.reset k) s.rx.channels k v } }

/-- Hit channel `k` changed by `f`. -/
def State.modChan (s : State) (k : Nat) (f : Channel → Channel) : State := s.setChan k (f (s.chan k))

/-- Start input `k`. -/
def State.sta (s : State) (k : Nat) : StaState := Tab.get StaState.reset s.rx.stas k

/-- Start input `k` set to `v`. -/
def State.setSta (s : State) (k : Nat) (v : StaState) : State :=
  { s with rx := { s.rx with stas := Tab.put StaState.reset s.rx.stas k v } }

/-- Start input `k` changed by `f`. -/
def State.modSta (s : State) (k : Nat) (f : StaState → StaState) : State := s.setSta k (f (s.sta k))

/-- Input index `k` of R134. -/
def State.input (s : State) (k : Nat) : InputState := Tab.get InputState.reset s.rx.inputs k

/-- Input index `k` of R134 set to `v`. -/
def State.setInput (s : State) (k : Nat) (v : InputState) : State :=
  { s with rx := { s.rx with inputs := Tab.put InputState.reset s.rx.inputs k v } }

/-- Input index `k` of R134 changed by `f`. -/
def State.modInput (s : State) (k : Nat) (f : InputState → InputState) : State := s.setInput k (f (s.input k))

/-- Gate profile `k`. -/
def State.gateProf (s : State) (k : Nat) : GateProfile := Tab.get GateProfile.reset s.rx.profiles k

/-- Gate profile `k` set to `v`. -/
def State.setGateProf (s : State) (k : Nat) (v : GateProfile) : State :=
  { s with rx := { s.rx with profiles := Tab.put GateProfile.reset s.rx.profiles k v } }

/-- Gate profile `k` changed by `f`. -/
def State.modGateProf (s : State) (k : Nat) (f : GateProfile → GateProfile) : State := s.setGateProf k (f (s.gateProf k))

/-- Match profile `k`. -/
def State.matchProf (s : State) (k : Nat) : MatchProfile := Tab.get MatchProfile.reset s.rx.matchProfiles k

/-- Match profile `k` set to `v`. -/
def State.setMatchProf (s : State) (k : Nat) (v : MatchProfile) : State :=
  { s with rx := { s.rx with matchProfiles := Tab.put MatchProfile.reset s.rx.matchProfiles k v } }

/-- Match profile `k` changed by `f`. -/
def State.modMatchProf (s : State) (k : Nat) (f : MatchProfile → MatchProfile) : State := s.setMatchProf k (f (s.matchProf k))

/-- The tap of hit group `k`. -/
def State.tap (s : State) (k : Nat) : Tap := Tab.get Tap.reset s.rx.taps k

/-- The tap of hit group `k` set to `v`. -/
def State.setTap (s : State) (k : Nat) (v : Tap) : State :=
  { s with rx := { s.rx with taps := Tab.put Tap.reset s.rx.taps k v } }

/-- The tap of hit group `k` changed by `f`. -/
def State.modTap (s : State) (k : Nat) (f : Tap → Tap) : State := s.setTap k (f (s.tap k))

/-- Bank `k`: 2 × channel + bank. -/
def State.bank (s : State) (k : Nat) : Bank := Tab.get Bank.reset s.hist.banks k

/-- Bank `k`: 2 × channel + bank set to `v`. -/
def State.setBank (s : State) (k : Nat) (v : Bank) : State :=
  { s with hist := { s.hist with banks := Tab.put Bank.reset s.hist.banks k v } }

/-- Bank `k`: 2 × channel + bank changed by `f`. -/
def State.modBank (s : State) (k : Nat) (f : Bank → Bank) : State := s.setBank k (f (s.bank k))

/-- The histogram of channel `k`. -/
def State.histChan (s : State) (k : Nat) : HistChannel := Tab.get HistChannel.reset s.hist.chans k

/-- The histogram of channel `k` set to `v`. -/
def State.setHistChan (s : State) (k : Nat) (v : HistChannel) : State :=
  { s with hist := { s.hist with chans := Tab.put HistChannel.reset s.hist.chans k v } }

/-- The histogram of channel `k` changed by `f`. -/
def State.modHistChan (s : State) (k : Nat) (f : HistChannel → HistChannel) : State := s.setHistChan k (f (s.histChan k))

/-- Echo engine `k`. -/
def State.engine (s : State) (k : Nat) : Engine := Tab.get Engine.reset s.eng.engines k

/-- Echo engine `k` set to `v`. -/
def State.setEngine (s : State) (k : Nat) (v : Engine) : State :=
  { s with eng := { s.eng with engines := Tab.put Engine.reset s.eng.engines k v } }

/-- Echo engine `k` changed by `f`. -/
def State.modEngine (s : State) (k : Nat) (f : Engine → Engine) : State := s.setEngine k (f (s.engine k))

/-- Result stream `k`. -/
def State.stream (s : State) (k : Nat) : Stream := Tab.get Stream.reset s.eng.streams k

/-- Result stream `k` set to `v`. -/
def State.setStream (s : State) (k : Nat) (v : Stream) : State :=
  { s with eng := { s.eng with streams := Tab.put Stream.reset s.eng.streams k v } }

/-- Result stream `k` changed by `f`. -/
def State.modStream (s : State) (k : Nat) (f : Stream → Stream) : State := s.setStream k (f (s.stream k))

/-- Event channel `k`. -/
def State.evch (s : State) (k : Nat) : EvChannel := Tab.get EvChannel.reset s.fab.channels k

/-- Event channel `k` set to `v`. -/
def State.setEvch (s : State) (k : Nat) (v : EvChannel) : State :=
  { s with fab := { s.fab with channels := Tab.put EvChannel.reset s.fab.channels k v } }

/-- Event channel `k` changed by `f`. -/
def State.modEvch (s : State) (k : Nat) (f : EvChannel → EvChannel) : State := s.setEvch k (f (s.evch k))

/-- The subscriptions of task input `k`. -/
def State.subs (s : State) (k : Nat) : Subs := Tab.get Subs.reset s.fab.subs k

/-- The subscriptions of task input `k` set to `v`. -/
def State.setSubs (s : State) (k : Nat) (v : Subs) : State :=
  { s with fab := { s.fab with subs := Tab.put Subs.reset s.fab.subs k v } }

/-- The subscriptions of task input `k` changed by `f`. -/
def State.modSubs (s : State) (k : Nat) (f : Subs → Subs) : State := s.setSubs k (f (s.subs k))

/-- Host event input `k`. -/
def State.hev (s : State) (k : Nat) : Hev := Tab.get Hev.reset s.fab.hevs k

/-- Host event input `k` set to `v`. -/
def State.setHev (s : State) (k : Nat) (v : Hev) : State :=
  { s with fab := { s.fab with hevs := Tab.put Hev.reset s.fab.hevs k v } }

/-- Host event input `k` changed by `f`. -/
def State.modHev (s : State) (k : Nat) (f : Hev → Hev) : State := s.setHev k (f (s.hev k))

/-- Hop table entry `k`. -/
def State.hop (s : State) (k : Nat) : Option HopEntry := Tab.get none s.pll.hops k

/-- Hop table entry `k` set to `v`. -/
def State.setHop (s : State) (k : Nat) (v : Option HopEntry) : State :=
  { s with pll := { s.pll with hops := Tab.put none s.pll.hops k v } }

/-- Hop table entry `k` changed by `f`. -/
def State.modHop (s : State) (k : Nat) (f : Option HopEntry → Option HopEntry) : State := s.setHop k (f (s.hop k))

/-- Clock output `k`. -/
def State.cko (s : State) (k : Nat) : Cko := Tab.get Cko.reset s.pll.ckos k

/-- Clock output `k` set to `v`. -/
def State.setCko (s : State) (k : Nat) (v : Cko) : State :=
  { s with pll := { s.pll with ckos := Tab.put Cko.reset s.pll.ckos k v } }

/-- Clock output `k` changed by `f`. -/
def State.modCko (s : State) (k : Nat) (f : Cko → Cko) : State := s.setCko k (f (s.cko k))

/-- Ethernet port `k`. -/
def State.port (s : State) (k : Nat) : Port := Tab.get Port.reset s.net.ports k

/-- Ethernet port `k` set to `v`. -/
def State.setPort (s : State) (k : Nat) (v : Port) : State :=
  { s with net := { s.net with ports := Tab.put Port.reset s.net.ports k v } }

/-- Ethernet port `k` changed by `f`. -/
def State.modPort (s : State) (k : Nat) (f : Port → Port) : State := s.setPort k (f (s.port k))

/-- Safe input `k`. -/
def State.safeInput (s : State) (k : Nat) : SafeInput := Tab.get SafeInput.reset s.sv.inputs k

/-- Safe input `k` set to `v`. -/
def State.setSafeInput (s : State) (k : Nat) (v : SafeInput) : State :=
  { s with sv := { s.sv with inputs := Tab.put SafeInput.reset s.sv.inputs k v } }

/-- Safe input `k` changed by `f`. -/
def State.modSafeInput (s : State) (k : Nat) (f : SafeInput → SafeInput) : State := s.setSafeInput k (f (s.safeInput k))

/-- What the supervisor keeps of encoder `k`. -/
def State.svEnc (s : State) (k : Nat) : SvEncoder := Tab.get SvEncoder.reset s.sv.encoders k

/-- What the supervisor keeps of encoder `k` set to `v`. -/
def State.setSvEnc (s : State) (k : Nat) (v : SvEncoder) : State :=
  { s with sv := { s.sv with encoders := Tab.put SvEncoder.reset s.sv.encoders k v } }

/-- What the supervisor keeps of encoder `k` changed by `f`. -/
def State.modSvEnc (s : State) (k : Nat) (f : SvEncoder → SvEncoder) : State := s.setSvEnc k (f (s.svEnc k))

/-- The pulse weight counted in sector `k`. -/
def State.sectorCount (s : State) (k : Nat) : Nat := Tab.get 0 s.sv.sectorCounts k

/-- The pulse weight counted in sector `k` set to `v`. -/
def State.setSectorCount (s : State) (k : Nat) (v : Nat) : State :=
  { s with sv := { s.sv with sectorCounts := Tab.put 0 s.sv.sectorCounts k v } }

/-- The pulse weight counted in sector `k` changed by `f`. -/
def State.modSectorCount (s : State) (k : Nat) (f : Nat → Nat) : State := s.setSectorCount k (f (s.sectorCount k))

/-- Calibration object `k`. -/
def State.calStore (s : State) (k : Nat) : CalStore := Tab.get (CalStore.delivered k) s.cal.stores k

/-- Calibration object `k` set to `v`. -/
def State.setCalStore (s : State) (k : Nat) (v : CalStore) : State :=
  { s with cal := { s.cal with stores := Tab.put (CalStore.delivered k) s.cal.stores k v } }

/-- Calibration object `k` changed by `f`. -/
def State.modCalStore (s : State) (k : Nat) (f : CalStore → CalStore) : State := s.setCalStore k (f (s.calStore k))

/-- The working copy of calibration object `k`. -/
def State.calWork (s : State) (k : Nat) : List CalSet := Tab.get [CalSet.zero25] s.cal.work k

/-- The working copy of calibration object `k` set to `v`. -/
def State.setCalWork (s : State) (k : Nat) (v : List CalSet) : State :=
  { s with cal := { s.cal with work := Tab.put [CalSet.zero25] s.cal.work k v } }

/-- The working copy of calibration object `k` changed by `f`. -/
def State.modCalWork (s : State) (k : Nat) (f : List CalSet → List CalSet) : State := s.setCalWork k (f (s.calWork k))

/-- The values in force of calibration object `k`. -/
def State.calForce (s : State) (k : Nat) : Tab Int := Tab.get [] s.cal.inForce k

/-- The values in force of calibration object `k` set to `v`. -/
def State.setCalForce (s : State) (k : Nat) (v : Tab Int) : State :=
  { s with cal := { s.cal with inForce := Tab.put [] s.cal.inForce k v } }

/-- The values in force of calibration object `k` changed by `f`. -/
def State.modCalForce (s : State) (k : Nat) (f : Tab Int → Tab Int) : State := s.setCalForce k (f (s.calForce k))

/-- Sensor `k` in 1/8 °C. Entry 13, DESIGN CHOICE. -/
def State.sensor (s : State) (k : Nat) : Int := Tab.get 200 s.cal.sensors k

/-- Sensor `k` in 1/8 °C set to `v`. -/
def State.setSensor (s : State) (k : Nat) (v : Int) : State :=
  { s with cal := { s.cal with sensors := Tab.put 200 s.cal.sensors k v } }

/-- Sensor `k` in 1/8 °C changed by `f`. -/
def State.modSensor (s : State) (k : Nat) (f : Int → Int) : State := s.setSensor k (f (s.sensor k))

/-- The runs of function `k` of R315. -/
def State.calRunState (s : State) (k : Nat) : CalRunState := Tab.get CalRunState.reset s.cal.runs k

/-- The runs of function `k` of R315 set to `v`. -/
def State.setCalRunState (s : State) (k : Nat) (v : CalRunState) : State :=
  { s with cal := { s.cal with runs := Tab.put CalRunState.reset s.cal.runs k v } }

/-- The runs of function `k` of R315 changed by `f`. -/
def State.modCalRunState (s : State) (k : Nat) (f : CalRunState → CalRunState) : State := s.setCalRunState k (f (s.calRunState k))

/-- Pace domain `k`. -/
def State.pace (s : State) (k : Nat) : Pace := Tab.get Pace.reset s.regs.paces k

/-- Pace domain `k` set to `v`. -/
def State.setPace (s : State) (k : Nat) (v : Pace) : State :=
  { s with regs := { s.regs with paces := Tab.put Pace.reset s.regs.paces k v } }

/-- Pace domain `k` changed by `f`. -/
def State.modPace (s : State) (k : Nat) (f : Pace → Pace) : State := s.setPace k (f (s.pace k))

/-- Mailbox `k` of R366. -/
def State.box (s : State) (k : Nat) : Mailbox := Tab.get Mailbox.reset s.mbx.boxes k

/-- Mailbox `k` of R366 set to `v`. -/
def State.setBox (s : State) (k : Nat) (v : Mailbox) : State :=
  { s with mbx := { s.mbx with boxes := Tab.put Mailbox.reset s.mbx.boxes k v } }

/-- Mailbox `k` of R366 changed by `f`. -/
def State.modBox (s : State) (k : Nat) (f : Mailbox → Mailbox) : State := s.setBox k (f (s.box k))

end Sys2Proof.Machine
end

