-- ==== Sys2Proof/Machine/Operands.lean ====
section
/-! DEFINITION. Operand forms: the field types of payloads and returns and their layout in bytes (R367, R368,
R370), the CRC-32 of R214, the records, and the choice among statuses (R361). -/

namespace Sys2Proof.Machine

/-! ## Bytes -/

/-- The low `n` bytes of `v`, little-endian (R6). -/
def leBytes : Nat → Nat → List Byte
  | 0, _ => []
  | n + 1, v => BitVec.ofNat 8 v :: leBytes n (v / 256)

/-- The number that bytes spell, little-endian (R6). -/
def leValue : List Byte → Nat
  | [] => 0
  | b :: t => b.toNat + 256 * leValue t

/-- `n` zero bytes. -/
def zeroBytes (n : Nat) : List Byte := List.replicate n 0

/-- One bit of the reflected CRC-32 (R214). -/
def crcBit (c : Nat) : Nat := if c % 2 = 1 then (c / 2) ^^^ 0xEDB88320 else c / 2

/-- One byte of the CRC-32. -/
def crcByte (c : Nat) (b : Byte) : Nat :=
  crcBit (crcBit (crcBit (crcBit (crcBit (crcBit (crcBit (crcBit (c ^^^ b.toNat))))))))

/-- The IEEE 802.3 CRC-32 of bytes (R214). -/
def crc32 (bs : List Byte) : Nat := 0xFFFFFFFF ^^^ bs.foldl crcByte 0xFFFFFFFF

/-! ## Field types and layout -/

/-- The types of R367. -/
inductive Kind where
  | u8
  | u16
  | u32
  | u64
  | s8
  | s16
  | s32
  | s64
  | time
  deriving DecidableEq, Repr

/-- Size in bytes (R367). -/
def Kind.size : Kind → Nat
  | .u8 | .s8 => 1
  | .u16 | .s16 => 2
  | .u32 | .s32 => 4
  | .u64 | .s64 => 8
  | .time => 16

/-- Alignment (R367). -/
def Kind.align : Kind → Nat
  | .u8 | .s8 => 1
  | .u16 | .s16 => 2
  | .u32 | .s32 => 4
  | .u64 | .s64 | .time => 8

/-- A field's value. -/
inductive Val where
  | num (v : Int)
  | time (t : FullTime)
  deriving DecidableEq, Repr

/-- A value fits its type (R367); the NS of a time is at most 999,999,999 (R4). -/
def Val.fits : Kind → Val → Bool
  | .u8, .num v => decide (0 ≤ v ∧ v < 256)
  | .u16, .num v => decide (0 ≤ v ∧ v < 65536)
  | .u32, .num v => decide (0 ≤ v ∧ v < 4294967296)
  | .u64, .num v => decide (0 ≤ v ∧ v < 18446744073709551616)
  | .s8, .num v => decide (-128 ≤ v ∧ v < 128)
  | .s16, .num v => decide (-32768 ≤ v ∧ v < 32768)
  | .s32, .num v => decide (-2147483648 ≤ v ∧ v < 2147483648)
  | .s64, .num v => decide (-9223372036854775808 ≤ v ∧ v < 9223372036854775808)
  | .time, .time t => t.ok
  | _, _ => false

/-- The bytes of a value: a number modulo the size of its type, a time as R4 stores it with bytes 14 and 15 zero. -/
def Val.bytes (k : Kind) : Val → List Byte
  | .num v => leBytes k.size (v % (256 ^ k.size : Nat)).toNat
  | .time t => leBytes 14 t.bits ++ zeroBytes (k.size - 14)

/-- The value that bytes of a type spell. -/
def Val.read (k : Kind) (bs : List Byte) : Val :=
  let n := leValue bs
  match k with
  | .time => .time { sec := BitVec.ofNat 64 (n / 2 ^ 48), ns := BitVec.ofNat 30 (n / 2 ^ 16), fns := BitVec.ofNat 16 n }
  | .s8 | .s16 | .s32 | .s64 =>
    if 2 * n < 256 ^ k.size then .num n else .num ((n : Int) - (256 ^ k.size : Nat))
  | _ => .num n

/-- Bytes from offset `at_` to the next multiple of `a` (R368). -/
def padTo (a at_ : Nat) : Nat := (a - at_ % a) % a

/-- Fields packed from offset `at_` on (R368): each at the first multiple of its alignment, skipped bytes 0. -/
def packFrom : Nat → List (Kind × Val) → List Byte
  | _, [] => []
  | o, (k, v) :: t =>
    zeroBytes (padTo k.align o) ++ Val.bytes k v ++ packFrom (o + padTo k.align o + k.size) t

/-- Fields packed from offset 0 (R368). Entry 54, DEDUCED. -/
def pack (fs : List (Kind × Val)) : List Byte := packFrom 0 fs

/-- The values of fields of the given types at their offsets (R368), skipped bytes not looked at. -/
def readFrom : Nat → List Kind → List Byte → List Val
  | _, [], _ => []
  | o, k :: t, bs =>
    let bs := bs.drop (padTo k.align o)
    Val.read k (bs.take k.size) :: readFrom (o + padTo k.align o + k.size) t (bs.drop k.size)

/-- A block (R370): its length in bytes as a u32, then its values. Entry 54, DEDUCED. -/
def blockOf (fs : List (Kind × Val)) : List Byte :=
  let bs := pack ((Kind.u32, Val.num 0) :: fs)
  leBytes 4 bs.length ++ bs.drop 4

/-- Unsigned and signed fields of a return or block. -/
abbrev Fld := Kind × Val

def fU8 (n : Nat) : Fld := (.u8, .num n)
def fU16 (n : Nat) : Fld := (.u16, .num n)
def fU32 (n : Nat) : Fld := (.u32, .num n)
def fU64 (n : Nat) : Fld := (.u64, .num n)
def fS8 (n : Int) : Fld := (.s8, .num n)
def fS16 (n : Int) : Fld := (.s16, .num n)
def fS32 (n : Int) : Fld := (.s32, .num n)
def fS64 (n : Int) : Fld := (.s64, .num n)
def fT (t : FullTime) : Fld := (.time, .time t)
def fBool (b : Bool) : Fld := fU8 b.toNat

/-- A set of flags named together: one u32, bit 0 the first (R370). -/
def flagsValue : List Bool → Nat
  | [] => 0
  | b :: t => b.toNat + 2 * flagsValue t

def fFlags (l : List Bool) : Fld := fU32 (flagsValue l)

/-! ## Numbers in a range -/

/-- `x` is one of `lo` to `hi`. -/
def within (lo hi x : Nat) : Bool := decide (lo ≤ x ∧ x ≤ hi)

/-- `x` is one of `lo` to `hi`. -/
def withinI (lo hi x : Int) : Bool := decide (lo ≤ x ∧ x ≤ hi)

/-- `x` is 0 or 1. -/
def isBit (x : Nat) : Bool := decide (x ≤ 1)

/-! ## Statuses -/

/-- The code of a status (R361). -/
def Status.code : Status → Nat
  | .ok => 0
  | .accepted => 1
  | .busy => 2
  | .notReady => 3
  | .locked => 4
  | .badArg => 5
  | .noCredit => 6
  | .late => 7
  | .refused => 8
  | .safetyDenied => 9
  | .integrity => 10
  | .unsupported => 11

/-- The order in which statuses win when several apply (R361). -/
def Status.order : List Status :=
  [.integrity, .unsupported, .badArg, .safetyDenied, .locked, .notReady, .busy, .late, .noCredit, .refused]

/-- The status of a command from the outcomes that apply (R361), OK when none does. -/
def verdict (cs : List (Bool × Status)) : Status :=
  (Status.order.find? fun st => cs.any fun c => c.1 && decide (c.2 = st)).getD .ok

/-! ## Records -/

/-- The 16 bytes of a record (R209, R6). -/
def Rec.bytes (r : Rec) : List Byte :=
  leBytes 4 r.w0.toNat ++ leBytes 4 r.w1.toNat ++ leBytes 4 r.w2.toNat ++ leBytes 4 r.w3.toNat

/-! ## UDP over IPv4 (R342) -/

/-- An IPv4 address with its first octet as the highest (R367 holds it in byte 0). Entry 48, DEDUCED. -/
def ipOrder (a : Nat) : Nat :=
  a % 256 * 2 ^ 24 + a / 256 % 256 * 2 ^ 16 + a / 65536 % 256 * 256 + a / 2 ^ 24 % 256

/-- Bytes as words of 16 bits, the first byte the higher one; 0 follows a last odd byte. -/
def netWords : List Byte → List Nat
  | [] => []
  | [a] => [256 * a.toNat]
  | a :: b :: t => (256 * a.toNat + b.toNat) :: netWords t

/-- The UDP checksum (R342) over pseudo-header, header and data; 0 is sent as 0xFFFF. Entry 48, PRESUMED. -/
def udpChecksum (srcIp dstIp srcPort dstPort : Nat) (data : List Byte) : Nat :=
  let halves (ip : Nat) : List Nat := [ipOrder ip / 65536, ipOrder ip % 65536]
  let len := 8 + data.length
  65535 - (halves srcIp ++ halves dstIp ++ [17, len, srcPort, dstPort, len] ++ netWords data).sum % 65535

end Sys2Proof.Machine
end

