-- ==== Sys2Proof/Machine/Ops.lean ====
section
/-! DEFINITION. Operations that every block uses: the present time, what leaves the device, free values,
interrupts, READY bits and the publication of fabric events. -/

namespace Sys2Proof.Machine

/-- What a step answers. -/
abbrev Out := Host.Outcome State Fault Refusal

/-! ## Time -/

/-- The Polestar time at the boundary of the present TCK cycle (R27). -/
def State.now (s : State) : Tq := (s.tb.sec.toNat : Int) * tqPerSec + (s.tb.ns : Int) * 1024

/-- Polestar has reached `t`: the TCK cycle that holds `t` has begun (entry 2, DESIGN CHOICE). -/
def State.reached (s : State) (t : Tq) : Bool := decide (t < s.now + 1024)

/-- The input balls are acted on (R401): not in a cold reset, nor in the Boot and Self-test that follow it.
Entry 44, DEDUCED. -/
def State.ballsActed (s : State) : Bool :=
  !s.dev.rstLow && (s.dev.coldDone || s.dev.warm || decide (s.dev.run ≠ .boot ∧ s.dev.run ≠ .selfTest))

/-- The outputs are off: unpowered, or before the first Ready-idle of a cold start (R401). -/
def State.ballsOff (s : State) : Bool :=
  decide (s.dev.run = .off) || s.dev.rstLow || (!s.dev.warm && (decide (s.dev.run = .boot) || decide (s.dev.run = .selfTest)))

/-- An edge at the ball at `t` has come and is acted on (R401). -/
def State.heard (s : State) (t : Tq) : Bool := s.reached t && s.ballsActed

/-- The largest magnitude of RATE, 500 ppm (R30). -/
def rateMax : Int := 140737488

/-- The applied RATE (R30): the servo rate plus the slew component, clamped; in holdover the last one applied (R38). -/
def State.rateNow (s : State) : Int :=
  if s.tb.source = .holdover then s.tb.rate
  else clamp (-rateMax) rateMax (s.tb.servoRate + if s.clock < s.tb.slewUntil then s.tb.slew else 0)

/-! ## Outside -/

/-- `x` leaves the device. -/
def State.log (s : State) (x : Sent) : State := { s with sent := x :: s.sent }

/-- The number of the next free value (entry 16, DESIGN CHOICE). -/
def State.draw (s : State) : State := { s with fresh := s.fresh + 1 }

/-! ## Interrupts (R327, R421) -/

/-- The endpoint is out of reset (R439). -/
def State.endpointUp (s : State) : Bool := s.regs.pcie.perst && !s.dev.rstLow

/-- A write by the host, which reaches an endpoint out of reset only (R416, R439). -/
def hostWrite (f : State → Out) (s : State) : Out := if s.endpointUp then f s else .next s

/-- The endpoint sends the message of vector `v` (R323, R327): with Bus Master Enable, MSI-X Enable and D0, and neither masked
as a whole nor by itself. Entry 14, PRESUMED. -/
def Pcie.sends (p : Pcie) (v : Nat) : Bool :=
  p.busMaster && p.config.msixEnable && !p.config.functionMask && !p.config.d3hot && !Tab.get true p.msixMask v

/-- The pending bit of vector `v`. -/
def State.setPending (s : State) (v : Nat) (w : Bool) : State :=
  { s with regs := { s.regs with pcie := { s.regs.pcie with msixPending := Tab.put false s.regs.pcie.msixPending v w } } }

/-- Vector `v` is raised: sent, or held in its pending bit while it cannot be (R327); an endpoint in reset holds none (R439).
Entry 14, PRESUMED. -/
def State.vector (s : State) (v : Nat) : State :=
  if s.regs.pcie.sends v then s.log (.interrupt v) else if s.endpointUp then s.setPending v true else s

/-- The message of a vector that waits is sent where it now can be (R327). -/
def State.flushVector (s : State) (v : Nat) : State :=
  if Tab.get false s.regs.pcie.msixPending v && s.regs.pcie.sends v then (s.setPending v false).log (.interrupt v) else s

/-- A non-posted read of the device ends without success: AER notes it (R323). Entry 14, PRESUMED. -/
def State.readError (s : State) : State :=
  let c := s.regs.pcie.config
  let c := { c with
    aerUncorrectable := c.aerUncorrectable ||| Config.readError s.fresh
    headerLog := Config.readErrorHeader s.fresh }
  { s.draw with regs := { s.regs with pcie := { s.regs.pcie with config := c } } }

/-- The vector of a cause of INT_STATUS (R421). -/
def causeVector (bit : Nat) : Nat :=
  if bit = 1 then 32 else if bit = 2 then 33 else if bit = 3 then 34 else 35

/-- INT_STATUS as it reads: bit 1 is the OR of VALID of the host event inputs (R421). -/
def State.intStatus (s : State) : BitVec 32 :=
  if s.fab.hevs.any fun p => p.2.valid then s.regs.intStatus ||| 2 else s.regs.intStatus

/-- A cause occurs: its bit sets, and its vector is raised unless it is masked (R421). Bit 1 follows VALID. -/
def State.cause (s : State) (bit : Nat) : State :=
  let s := if bit = 1 then s else
    { s with regs := { s.regs with intStatus := s.regs.intStatus ||| BitVec.ofNat 32 (2 ^ bit) } }
  if s.regs.intMask.getLsbD bit then s else s.vector (causeVector bit)

/-! ## READY (R393) -/

def readyTimebase : Nat := 0
def readyPll : Nat := 1
def readyHg (k : Nat) : Nat := 2 + k
def readyFs (n : Nat) : Nat := 10 + n
def readyEngines : Nat := 18
def readyFabric : Nat := 19
def readyPort (n : Nat) : Nat := 20 + n
def readyPcie : Nat := 23
def readyRetention : Nat := 24
def readySafety : Nat := 25
def readyPermit : Nat := 26

/-- A bit of READY. -/
def State.isReady (s : State) (bit : Nat) : Bool := s.dev.ready.getLsbD bit

/-- `w` with bit `b` set to `v`. -/
def setBit {n : Nat} (w : BitVec n) (b : Nat) (v : Bool) : BitVec n :=
  if v then w ||| BitVec.ofNat n (2 ^ b) else w &&& ~~~(BitVec.ofNat n (2 ^ b))

/-- READY takes the value `r`; a change of any bit is a cause (R393). -/
def State.setReadyAll (s : State) (r : BitVec 27) : State :=
  if s.dev.ready = r then s else ({ s with dev := { s.dev with ready := r } }).cause 2

/-- One bit of READY takes the value `v`; a change is a cause (R393). -/
def State.setReady (s : State) (bit : Nat) (v : Bool) : State :=
  s.setReadyAll (setBit s.dev.ready bit v)

/-! ## Groups and sets -/

/-- The numbers from `a` on, `n` of them. -/
def numbers (a n : Nat) : List Nat := (List.range n).map (· + a)

/-- `f` done for each number of a list, in order. -/
def State.each (s : State) (ks : List Nat) (f : State → Nat → State) : State := ks.foldl f s

/-- Insertion of `x` into a list sorted by `le`, behind what is equal. -/
def insertBy {α : Type} (le : α → α → Bool) (x : α) : List α → List α
  | [] => [x]
  | y :: t => if le y x then y :: insertBy le x t else x :: y :: t

/-- A list sorted by `le`, equal things in their order. -/
def sortBy {α : Type} (le : α → α → Bool) : List α → List α
  | [] => []
  | x :: t => (sortBy le t |> fun r => insertFront le x r)
where
  /-- `x` before what is equal to it. -/
  insertFront {α : Type} (le : α → α → Bool) (x : α) : List α → List α
    | [] => [x]
    | y :: t => if le x y then x :: y :: t else y :: insertFront le x t

/-- Rows of a mask that are set, in rising order. -/
def rowsOf (m : BitVec 64) : List Nat := (List.range 64).filter fun r => m.getLsbD r

/-! ## Publication (R218, R224, R227) -/

/-- One channel's share of a publication. -/
def EvChannel.publish (c : EvChannel) (t : Tq) (gen : Nat) : EvChannel :=
  if 8 ≤ gen then { c with loop := true, loopCount := c.loopCount.inc }
  else match c.holding with
    | some _ => { c with collide := c.collide.inc }
    | none => { c with holding := some { time := t, gen := gen }, published := c.published.inc }

/-- Producer `p` publishes an event that carries `t` at generation `gen` (R220, R226), once the fabric is ready (R393). -/
def State.publish (s : State) (p : Nat) (t : Tq) (gen : Nat) : State :=
  if !s.isReady readyFabric then s
  else { s with fab := { s.fab with channels := s.fab.channels.map fun c =>
      if c.2.source = p then (c.1, c.2.publish t gen) else c } }

/-- Identifiers of R220. -/
def prodFired (o : Nat) : Nat := if o < 128 then o else 0x100 + (o - 128)
def prodLate (o : Nat) : Nat := if o < 128 then 0x080 + o else 0x108 + (o - 128)
def prodAlarm (n : Nat) : Nat := 0x110 + n
def prodTrg (n : Nat) : Nat := 0x120 + n
def prodMark (n : Nat) : Nat := 0x128 + n
def prodMissing (r : Nat) : Nat := 0x140 + r
def prodUnexpected (r : Nat) : Nat := 0x180 + r
def prodSeq (n p : Nat) : Nat := 0x200 + 8 * n + p
def prodGroup (k p : Nat) : Nat := 0x240 + 4 * k + p
def prodPllUnlock : Nat := 0x260
def prodPllLock : Nat := 0x261
def prodStep : Nat := 0x262
def prodStepRefused : Nat := 0x263
def prodDark : Nat := 0x264
def prodSvState : Nat := 0x265

/-- Identifiers listed in R220. -/
def isProducer (p : Nat) : Bool :=
  within 0x000 0x107 p || within 0x108 0x12F p || within 0x140 0x1BF p ||
  (within 0x200 0x23F p && decide (p % 8 < 6)) || within 0x240 0x265 p

/-- Identifiers listed in R222. -/
def isConsumer (c : Nat) : Bool := within 0x800 0x887 c || within 0x890 0x8AF c

/-! ## Sequencers in general -/

/-- A sequencer runs: RUNNING or UNDERRUN (R110). -/
def SeqState.running (q : SeqState) : Bool := decide (q.run ≠ SeqRun.stopped)

/-- Some sequencer runs. -/
def State.anyRunning (s : State) : Bool := s.sq.seqs.any fun p => p.2.running

/-- The numbers of the running sequencers. -/
def State.runningSeqs (s : State) : List Nat :=
  (s.sq.seqs.filter fun p => p.2.running).map (·.1)

/-- A running sequencer names the row in its ROWS. -/
def State.rowInUse (s : State) (r : Nat) : Bool :=
  s.sq.seqs.any fun p => p.2.running && p.2.cfg.rows.getLsbD r

/-- A running sequencer names the stream as RESULT_STREAM. -/
def State.streamRunning (s : State) (n : Nat) : Bool :=
  s.sq.seqs.any fun p => p.2.running && decide (p.2.cfg.resultStream = n)

/-- The device is in Ranging (R22): Ranging, Twilight and Dusk are its forms. -/
def State.ranging (s : State) : Bool := decide (s.dev.run = DevRun.ranging)

end Sys2Proof.Machine
end

