-- ==== Sys2Proof/Machine/Payload.lean ====
section
/-! DEFINITION. Opcodes and payloads of the mailbox commands (R372 to R385): field types by opcode, the values
that a command carries, and the check of a payload's layout (R367, R368). -/

namespace Sys2Proof.Machine

/-! ## Field types by opcode -/

open Kind in
/-- Opcodes of R372 to R376 with the types of their payload fields, in order. -/
def payloadKindsA : List (Nat × List Kind) := [
  (0x0001, []), (0x0002, [u8]), (0x0003, [u8, u8]), (0x0005, [u16]), (0x0010, [u8, u16, u16, u8]), (0x0011, []),
  (0x0013, [u32]), (0x0015, [u8, u64]), (0x0020, [u32]), (0x0021, [u32]), (0x0022, [u8]), (0x0023, [u64]),
  (0x0024, []),
  (0x0100, []), (0x0101, [time]), (0x0102, [u16]), (0x0110, [u8, time, u64, u8, u8]), (0x0111, [u8]),
  (0x0120, [u8, u8]), (0x0130, [u8, time, u16, u32, u16]), (0x0131, []),
  (0x0140, [u8, u8, u8, u8, u8, u64, u32, u8]), (0x0141, [u8, u8, u32, u32, s32, s8, s8, s8, u8]),
  (0x0142, [u64]), (0x0143, []), (0x0150, [u16, u8, u8]), (0x0151, [u64]),
  (0x0152, [u32, u8, u16, u16, u16, u8, u8])]

open Kind in
/-- Opcodes of R375 to R378. -/
def payloadKindsB : List (Nat × List Kind) := [
  (0x0201, [u8, u32, u32, u8, u8, u16, u8]), (0x0202, [u8, u8, u8, u32, u8, u8]), (0x0203, [u64]), (0x0204, []),
  (0x0205, [u8]), (0x0206, [u8]), (0x0207, [u8]), (0x0208, []), (0x0209, [u8]),
  (0x0210, [u8, u8, u8, u8, u8, u8, u32, u16, u16, u8]),
  (0x0301, [u16, u8, u8, u8, u64, s32, u32, u8, u32, u32, u32, u32, u32, u32, u32, u8, u8, u32]),
  (0x0302, [u16, u8, u8]), (0x0303, [u16, u8, u32, time]), (0x0304, [u16, u64]), (0x0305, [u16, u16]),
  (0x0306, [u8, u8, u32, u32, u16, u8]), (0x0310, [u8, u8, u8, u8, u8, u8]),
  (0x0401, [u8, u8, u8, u16, u32, u16, u16, u64, u8, u16, u16]), (0x0402, [u16, u32, u64]), (0x0403, [u16, u32]),
  (0x0404, [u8, u8, u8, time]), (0x0405, [u8, u8]), (0x0406, [u8, u16]), (0x0407, [u8, u64]),
  (0x0408, [u8, u16]), (0x0409, [u8]), (0x040A, [u8, time, s32])]

open Kind in
/-- Opcodes of R379 and R380. -/
def payloadKindsC : List (Nat × List Kind) := [
  (0x0501, [u16, u16, u8, u8, u8, u8, u8, s32, u8, u8, u8]), (0x0502, [u8, u8, u8, u8, u8, u8, s32, u8, u16]),
  (0x0503, [u16, u64]), (0x0504, [u16, u16]), (0x0510, [u8, u32, u32, u8, u32]), (0x0511, [u16, u16, u8]),
  (0x0512, [u16, u64]), (0x0513, [u8, u16]), (0x0514, [u8, u8, u8, u8]), (0x0515, [u16, u16]),
  (0x0516, [u16, u16, u8, u8, time]), (0x0520, [u8, u8, u8, u8, u8]), (0x0521, [u16, u64]),
  (0x0522, [u16, u8, u64]), (0x0523, [u16, u8]), (0x0524, [u16, u16]),
  (0x0601, [u8, u8, u8, u16, u16]), (0x0602, [u8, u8, u8, u8, u8, u8, u8, u8, u8, u32, u8, u8, u8, u16]),
  (0x0603, [u8, u8, u64]), (0x0604, [u8]), (0x0605, [u8, u64]), (0x0606, []),
  (0x0607, [u8, u8, u64, u32, u64, u8, u16, u8]), (0x0608, [u8, u64]),
  (0x0609, [u8, u64, u32, u16, u16, u8, u8]), (0x060A, [])]

open Kind in
/-- Opcodes of R381 to R385. -/
def payloadKindsD : List (Nat × List Kind) := [
  (0x0701, [u8, u16]), (0x0702, [u16, u8, u8, u8]), (0x0703, [u8]), (0x0704, [u16, u16, u64]), (0x0705, [u16, u16]),
  (0x0801, [u8, u8, u16, u8, u8, u8, u8, u8]), (0x0802, [u32, u32, u8, u8, u32, u32, u8, u16, u16]),
  (0x0803, [u8, u8, u32]), (0x0804, [u64]), (0x0805, []), (0x0810, [u8, u8, u8, u32, u32]), (0x0811, [u8, u8]),
  (0x0812, [u8, u8, u8, u8, u32]), (0x0813, [u8, u64]), (0x0820, [u8, u8, u16]),
  (0x0830, [u8, u8, u16, u8, u16, u16, u32, u32, u32, u16, u16, u8, u8, u16]), (0x0831, [u8, u8, u8, u16, u8]),
  (0x0832, [u8, u32, u32, u8, u16, u32]), (0x0833, [u8, u8]), (0x0834, [u8, u8, u8, u16, u16]), (0x0835, []),
  (0x0836, [u64]), (0x0837, []), (0x0838, []),
  (0x0901, [u8, u8, u16, u8, u8, u8, u8, u8, u8, u8, u8, u16, u16, u16, u16, u16, u16, u16, u16]),
  (0x0902, [u8, u8, u16, u16]), (0x0903, [u64]), (0x0904, [u8, u8, s16, u32, u64]), (0x0905, [u8, u8, u64]),
  (0x0906, [u8, u8, u16, u16, u32, u32]), (0x0907, [u8, u32, u64]), (0x0908, [u8]),
  (0x0A01, []), (0x0A02, [u64]), (0x0A10, [u8, u8, u16, u32]), (0x0A12, [u16, u8, u8, u8, u16, u8, time, u32]),
  (0x0A13, [u16])]

/-- The field types of an opcode's payload before its tail; none for an opcode that no table lists. -/
def payloadKinds (op : Nat) : Option (List Kind) :=
  ((payloadKindsA ++ payloadKindsB ++ payloadKindsC ++ payloadKindsD).find? fun p => decide (p.1 = op)).map (·.2)

/-- The number that a field holds, 0 for a time. -/
def Val.nat : Val → Nat
  | .num v => v.toNat
  | .time _ => 0

/-- The fields that follow: offsets of OUT_SCHEDULE, inputs of RAW_EXPORT_SET, meridians of MERIDIAN_SET, weights of
SV_ROW_WEIGHT, each as many as the second field counts; bytes of FW_UPDATE_WRITE and DEBUG_UNLOCK to the end. -/
def payloadTail (op : Nat) (head : List Val) (rest : Nat) : List Kind :=
  let n := ((head.drop 1).head?.map Val.nat).getD 0
  if op = 0x0303 then List.replicate (n - 1) .u32
  else if op = 0x0513 then List.replicate n .u16
  else if op = 0x0811 then List.replicate n .u32
  else if op = 0x0833 then List.replicate n .u8
  else if op = 0x0021 ∨ op = 0x0024 then List.replicate rest .u8
  else []

/-- A payload lies as R367 and R368 lay it out: its length is right, skipped bytes and the unused bits of a time
are 0, and NS is in its range, but for the TIME of a SEQ_START in another mode than 1, which reads none (R378). OUT_SCHEDULE with
N 0 carries no W (R377). -/
def payloadOk (op : Nat) (bs : List Byte) : Bool :=
  match payloadKinds op with
  | none => false
  | some ks =>
    let head := readFrom 0 ks bs
    let len := (pack (ks.zip head)).length
    let kinds := ks ++ payloadTail op head (bs.length - len)
    let vals := readFrom 0 kinds bs
    let timed := op ≠ 0x0404 ∨ ((vals.drop 1).head?.map Val.nat) = some 1
    decide (pack (kinds.zip vals) = bs) && (kinds.zip vals).all (fun p => Val.fits p.1 p.2 || (decide (p.1 = .time) && !decide timed)) &&
      (decide (op ≠ 0x0303) || decide (((vals.drop 1).head?.map Val.nat) ≠ some 0)
        || decide (((vals.drop 2).head?.map Val.nat) = some 0))

/-- The opcodes of safety configuration commands (R360, the rows of R382 marked dual). -/
def isDual (op : Nat) : Bool := decide (op = 0x0801 ∨ op = 0x0820) || within 0x0830 0x0835 op

/-! ## What a command carries -/

/-- A number as a field. -/
def vn (n : Nat) : Val := .num n

/-- A signed number as a field. -/
def vi (n : Int) : Val := .num n

/-- Opcode and field values of a mailbox command; none for a row that is no mailbox command. -/
def commandOf : Instr → Option (Nat × List Val)
  | .sysInfo => some (0x0001, [])
  | .warmReset f => some (0x0002, [vn f])
  | .funcReset b i => some (0x0003, [vn b, vn i])
  | .deviceIdSet i _ => some (0x0005, [vn i])
  | .pmbusConfig c => some (0x0010, [vn c.addr, vn c.voutMin, vn c.voutMax, vn c.step])
  | .pmbusStatus => some (0x0011, [])
  | .uartConfig b => some (0x0013, [vn b])
  | .mbxStatus m d => some (0x0015, [vn m, vn d])
  | .fwUpdateBegin l => some (0x0020, [vn l])
  | .fwUpdateWrite o d => some (0x0021, vn o :: d.map fun b => vn b.toNat)
  | .fwUpdateCommit r => some (0x0022, [vn r])
  | .fwStatus d => some (0x0023, [vn d])
  | .debugUnlock c => some (0x0024, c.map fun b => vn b.toNat)
  | .timeStatus => some (0x0100, [])
  | .timeSet t => some (0x0101, [.time t])
  | .timeSetSecHi x => some (0x0102, [vn x])
  | .alarmSet a c => some (0x0110, [vn a, .time c.time, vn c.period, vn c.enable, vn c.epochHold])
  | .alarmCancel a => some (0x0111, [vn a])
  | .trgConfig t e => some (0x0120, [vn t, vn e])
  | .syncConfig c => some (0x0130, [vn c.mode, .time c.g0, vn c.period, vn c.cableDelay, vn c.avg])
  | .syncResult => some (0x0131, [])
  | .ptpConfig c => some (0x0140, [vn c.profile, vn c.domain, vn c.role, vn c.priority1, vn c.priority2,
      vn c.stepThresh, vn c.slewMax, vn c.servoBw])
  | .ptpPortConfig p c => some (0x0141, [vn p, vn c.ptpEn, vn c.ingressLat, vn c.egressLat, vi c.asym, vi c.logSync,
      vi c.logAnnounce, vi c.logPdelay, vn c.announceTimeout])
  | .ptpStatus d => some (0x0142, [vn d])
  | .timeStepAccept => some (0x0143, [])
  | .bridgeConfig c f => some (0x0150, [vn c.ageTime, vn c.learn, vn f])
  | .bridgeStatus d => some (0x0151, [vn d])
  | .netConfig c => some (0x0152, [vn c.ipAddr, vn c.netmask, vn c.vlanId, vn c.mtu, vn c.mbxUdpBase, vn c.mbxPcp,
      vn c.ptpPcp])
  | .pllRefConfig c => some (0x0201, [vn c.refMode, vn c.refaFreq, vn c.refbFreq, vn c.refaRdiv, vn c.refbRdiv,
      vn c.refTol, vn c.revertHold])
  | .pllConfig c => some (0x0202, [vn c.dt, vn c.loopBw, vn c.ditherEn, vn c.ditherSeed, vn c.alignSrc, vn c.force])
  | .pllStatus d => some (0x0203, [vn d])
  | .pllRecal => some (0x0204, [])
  | .pllHopStore e _ => some (0x0205, [vn e])
  | .pllHop e => some (0x0206, [vn e])
  | .pllSyncArm a => some (0x0207, [vn a])
  | .pllCountersClear => some (0x0208, [])
  | .pllTestMode e => some (0x0209, [vn e])
  | .ckoConfig o c => some (0x0210, [vn o, vn c.mode, vn c.enable, vn c.fmt, vn c.swing, vn c.pol, vn c.div,
      vn c.phase, vn c.ldiv, vn c.ldelay])
  | .outConfig o c => some (0x0301, [vn o, vn c.enable, vn c.cls, vn c.row, vn c.delay, vi c.skewBoard, vn c.width,
      vn c.burstN] ++ c.offsets.map vn ++ [vn c.pol, vn c.lateExec, vn c.lateMax])
  | .outFormat o f w => some (0x0302, [vn o, vn f, vn w])
  | .outSchedule o n w t offs => some (0x0303, [vn o, vn n, vn w, .time t] ++ offs.map vn)
  | .outStatus o d => some (0x0304, [vn o, vn d])
  | .outCountersClear a n => some (0x0305, [vn a, vn n])
  | .staConfig k c => some (0x0306, [vn k, vn c.row, vn c.latMin, vn c.latMax, vn c.widthTol, vn c.missLimit])
  | .codeProfileSet p c => some (0x0310, [vn p, vn c.n, vn c.mode, vn c.spacing1, vn c.spacing2, vn c.spacing3])
  | .seqConfig n c => some (0x0401, [vn n, vn c.domain, vn c.encoder, vn c.progBase, vn c.progLen, vn c.startEntry,
      vn c.jumpTarget, vn c.rows.toNat, vn c.resultStream, vn c.streamBase, vn c.streamLen])
  | .progWrite f n src _ => some (0x0402, [vn f, vn n, vn src])
  | .progCommit f n => some (0x0403, [vn f, vn n])
  | .seqStart n m f t => some (0x0404, [vn n, vn m, vn f, .time t])
  | .seqStop n m => some (0x0405, [vn n, vn m])
  | .seqJump n t => some (0x0406, [vn n, vn t])
  | .seqStatus n d => some (0x0407, [vn n, vn d])
  | .seqStreamPush n c => some (0x0408, [vn n, vn c])
  | .seqCountersClear n => some (0x0409, [vn n])
  | .seqGridSet n g t => some (0x040A, [vn n, .time g, vi t])
  | .hitConfig f n c => some (0x0501, [vn f, vn n, vn c.enable, vn c.cls, vn c.edge, vn c.term, vn c.hyst,
      vi c.skewBoard, vn c.rawGate, vn c.trgSel, vn c.trgActive])
  | .staInputConfig f n c => some (0x0502, [vn f, vn n, vn c.enable, vn c.pol, vn c.term, vn c.hyst, vi c.skewBoard,
      vn c.diag, vn c.staDev])
  | .inputStatus i d => some (0x0503, [vn i, vn d])
  | .inputCountersClear f n => some (0x0504, [vn f, vn n])
  | .gateProfileSet p c => some (0x0510, [vn p, vn c.openOffset, vn c.length, vn c.binK, vn c.winStart])
  | .channelRowSet f n r => some (0x0511, [vn f, vn n, vn r])
  | .gateStatus c d => some (0x0512, [vn c, vn d])
  | .rawExportSet st ins => some (0x0513, [vn st, vn ins.length] ++ ins.map vn)
  | .gateTapSet g t st m => some (0x0514, [vn g, vn t, vn st, vn m])
  | .gateCountersClear f n => some (0x0515, [vn f, vn n])
  | .gateArm f n p st t => some (0x0516, [vn f, vn n, vn p, vn st, .time t])
  | .matchProfileSet p c => some (0x0520, [vn p, vn c.minPulses, vn c.nbN, vn c.nbK, vn c.nbTol])
  | .histStatus c d => some (0x0521, [vn c, vn d])
  | .histRead c b d => some (0x0522, [vn c, vn b, vn d])
  | .histHold c m => some (0x0523, [vn c, vn m])
  | .histCountersClear f n => some (0x0524, [vn f, vn n])
  | .streamConfig n c => some (0x0601, [vn n, vn c.maxEchoes, vn c.transport, vn c.batchMax, vn c.batchTimeout])
  | .kernelConfig n c => some (0x0602, [vn n, vn c.kernel, vn c.blockMin, vn c.fineMax, vn c.echoMin, vn c.gapMax,
      vn c.satrecEn, vn c.satFrac, vn c.precipEn, vn c.precipMaxTof, vn c.precipMinWidth, vn c.precipMaxPeak,
      vn c.precipDrop, vn c.jobTimeout])
  | .engineStatus f n d => some (0x0603, [vn f, vn n, vn d])
  | .engineRetest e => some (0x0604, [vn e])
  | .streamStatus n d => some (0x0605, [vn n, vn d])
  | .engineCountersClear => some (0x0606, [])
  | .ringConfig n c => some (0x0607, [vn n, vn c.enable, vn c.base, vn c.ringLen, vn c.piAddr, vn c.vector,
      vn c.irqHoldoff, vn c.replay])
  | .ringStatus n d => some (0x0608, [vn n, vn d])
  | .streamUdpSet n c => some (0x0609, [vn n, vn c.dstMac, vn c.dstIp, vn c.dstPort, vn c.srcPort, vn c.egress,
      vn c.pcp])
  | .ringResume _ => some (0x060A, [])
  | .evchConfig c src => some (0x0701, [vn c, vn src])
  | .evchSubscribe k sl c e => some (0x0702, [vn k, vn sl, vn c, vn e])
  | .evchLock c => some (0x0703, [vn c])
  | .evchStatus f n d => some (0x0704, [vn f, vn n, vn d])
  | .evchCountersClear f n => some (0x0705, [vn f, vn n])
  | .encConfig e c _ => some (0x0801, [vn e, vn c.enable, vn c.cpr, vn c.invertDir, vn c.indexState, vn c.indexTol,
      vn c.filter, vn c.term])
  | .motorConfig c => some (0x0802, [vn c.pwmFreq, vn c.speedFull, vn c.control, vn c.encoder, vn c.rampUp,
      vn c.rampDown, vn c.speedTol, vn c.settleTime, vn c.readyTimeout])
  | .motorRun a dir t => some (0x0803, [vn a, vn dir, vn t])
  | .motorStatus d => some (0x0804, [vn d])
  | .motorCountersClear => some (0x0805, [])
  | .angleConfig e c => some (0x0810, [vn e, vn c.edgeUse, vn c.window, vn c.minSpeed, vn c.edgeTimeout])
  | .meridianSet e n ms => some (0x0811, [vn e, vn n] ++ ms.map vn)
  | .angleMarkSet m c => some (0x0812, [vn m, vn c.encoder, vn c.mode, vn c.enable, vn c.angle])
  | .angleStatus e d => some (0x0813, [vn e, vn d])
  | .evchKeylock c a k _ => some (0x0820, [vn c, vn a, vn k])
  | .svConfig c => some (0x0830, [vn c.startMode, vn c.speedSrc, vn c.secIndexOffset, vn c.agreeTol,
      vn c.standstillTime, vn c.sdiTol, vn c.stopSpeed, vn c.decelMin, vn c.rampMargin, vn c.rampTime,
      vn c.twilightTime, vn c.twilightFrac, vn c.emisLimit, vn c.resetDisc])
  | .svInputConfig i c => some (0x0831, [vn i, vn c.function, vn c.mode, vn c.discTime, vn c.restart])
  | .svLimitSet k c => some (0x0832, [vn k, vn c.slsLow, vn c.slsHigh, vn c.sectors, vn c.budgetWin, vn c.budget])
  | .svRowWeight f n ws => some (0x0833, [vn f, vn n] ++ ws.map vn)
  | .svSlpWindow k w c => some (0x0834, [vn k, vn w, vn c.enable, vn c.start, vn c.stop])
  | .svCommit _ => some (0x0835, [])
  | .svStatus d => some (0x0836, [vn d])
  | .svSafeStop => some (0x0837, [])
  | .svCountersClear => some (0x0838, [])
  | .calConfig c => some (0x0901, [vn c.deltaT, vn c.auto, vn c.enginePeriod] ++ c.refOut.map vn ++ c.refCh.map vn)
  | .calRun f fo a n => some (0x0902, [vn f, vn fo, vn a, vn n])
  | .calStatus d => some (0x0903, [vn d])
  | .calSetWrite o k t l src _ => some (0x0904, [vn o, vn k, vi t, vn l, vn src])
  | .calSetRead o k d => some (0x0905, [vn o, vn k, vn d])
  | .calTarget m k f n r st => some (0x0906, [vn m, vn k, vn f, vn n, vn r, vn st])
  | .calStaLearn k n r => some (0x0907, [vn k, vn n, vn r.toNat])
  | .calStore o _ => some (0x0908, [vn o])
  | .retest => some (0x0A01, [])
  | .selftestStatus d => some (0x0A02, [vn d])
  | .testConfig o c => some (0x0A10, [vn o, vn c.testAllow, vn c.guard, vn c.testOffset])
  | .testPulseRequest r => some (0x0A12, [vn r.testId, vn r.output, vn r.lane, vn r.channel, vn r.width, vn r.mode,
      .time r.earliest, vn r.deadline])
  | .testResultRead i => some (0x0A13, [vn i])
  | _ => none

/-- The types of the fields that a command carries, its tail included. -/
def commandKinds (op : Nat) (vals : List Val) : List Kind :=
  match payloadKinds op with
  | none => []
  | some ks => ks ++ payloadTail op vals (vals.length - ks.length)

/-- The payload of a mailbox command in bytes (R368). -/
def payloadOf (c : Instr) : Option (Nat × List Byte) :=
  (commandOf c).map fun p => (p.1, pack ((commandKinds p.1 p.2).zip p.2))

/-- Every field fits its type and there are as many as the opcode carries (R367). -/
def payloadFits (c : Instr) : Bool :=
  match commandOf c with
  | none => true
  | some (op, vals) =>
    decide ((commandKinds op vals).length = vals.length) &&
      ((commandKinds op vals).zip vals).all fun p => Val.fits p.1 p.2

end Sys2Proof.Machine
end

