-- ==== Sys2Proof/Machine/Commands.lean ====
section
/-! DEFINITION. How a mailbox command runs: its checks, its answer, the journal and the response (R351, R355 to
R361, R363, R369, R395). -/

namespace Sys2Proof.Machine

/-- What a command does once its checks have passed: it is answered at once, with return values and perhaps a
block, or its answer waits. -/
inductive Answer where
  | done (s : State) (st : Status) (ret : List Fld) (block : List Byte)
  | waits (s : State) (k : WaitKey)
  deriving DecidableEq, Repr

/-- A command's body: the outcomes that its chapter names with their conditions, the DST of its block (none for a
command without block), and what it does when none of them applies. -/
structure Body where
  checks : List (Bool × Status)
  dst : Option Nat
  run : Answer
  deriving DecidableEq, Repr

/-- A body that is answered OK with no return. -/
def Body.plain (checks : List (Bool × Status)) (s : State) : Body :=
  { checks := checks, dst := none, run := .done s .ok [] [] }

/-- A body that returns values. -/
def Body.returns (checks : List (Bool × Status)) (s : State) (ret : List Fld) : Body :=
  { checks := checks, dst := none, run := .done s .ok ret [] }

/-- A body that writes a block to `dst`. -/
def Body.block (checks : List (Bool × Status)) (s : State) (dst : Nat) (fs : List Fld) : Body :=
  { checks := checks, dst := some dst, run := .done s .ok [] (blockOf fs) }

/-- A body of the given answer. -/
def Body.gives (checks : List (Bool × Status)) (a : Answer) : Body := { checks := checks, dst := none, run := a }

/-! ## Responses -/

/-- DMA can reach host memory: the link is up and Bus Master Enable is set (R324). -/
def State.dmaOk (s : State) : Bool := s.regs.pcie.linkUp && s.regs.pcie.busMaster

/-- The response of a command with its token and opcode (R355). -/
def responseOf (t : Taken) (st : Status) (ret : List Fld) (block : List Byte) : Response :=
  { token := t.frame.token, opcode := t.frame.opcode, status := st, replayed := false, ret := pack ret,
    block := block }

/-- The 32 bytes of a response (R355). -/
def Response.bytes (r : Response) : List Byte :=
  leBytes 4 r.token ++ leBytes 2 r.opcode ++ leBytes 1 r.status.code ++ leBytes 1 r.replayed.toNat ++
    (r.ret ++ List.replicate 24 0).take 24

/-- A packet of the UART (R353). -/
def uartPacket (data : List Byte) : List Byte := 0x7E :: (data ++ leBytes 4 (crc32 data))

/-- The tag of an own frame of priority `pcp` (R339, R343). -/
def State.ownTag (s : State) (pcp : Nat) : Option VlanTag :=
  if s.net.net.vlanId = 0 then none else some { vlan := s.net.net.vlanId, pcp := pcp }

/-- An own frame joins the egress queues of a port, where it waits (R343). -/
def State.sendOwn (s : State) (port pcp : Nat) (b : OwnBody) : State :=
  s.modPort port fun p => { p with queue := p.queue ++ [.own { tag := s.ownTag pcp, body := b }] }

/-- A datagram of the device (R340 to R342). -/
def State.datagram (s : State) (mac ip srcPort dstPort : Nat) (data : List Byte) : Datagram :=
  { dstMac := mac, srcIp := s.net.net.ipAddr, dstIp := ip, srcPort := srcPort, dstPort := dstPort,
    checksum := udpChecksum s.net.net.ipAddr ip srcPort dstPort data, data := data }

/-- A response leaves by its mailbox (R351 to R353): on PCIe into slot RSP_PI mod 8, RSP_PI advances and the IRQ
flag raises vector n; on Ethernet as a datagram by the port that the command came by, from the mailbox's port to the
datagram's source (R340), on the UART as a packet. Entry 48, DEDUCED. -/
def State.deliver (s : State) (t : Taken) (r : Response) : State :=
  let s := s.modBox t.mailbox fun b =>
    if t.mailbox < 32 then
      { b with responses := Tab.put none b.responses (b.rspPi.toNat % 8) (some r), rspPi := b.rspPi + 1, busy := false }
    else { b with busy := false }
  if t.mailbox < 32 then (if t.frame.flags / 2 % 2 = 1 then s.vector t.mailbox else s)
  else match t.origin with
    | some o =>
      s.sendOwn o.port s.net.net.mbxPcp
        (.answer (s.datagram o.mac o.ip (s.net.net.mbxUdpBase + (t.mailbox - 32)) o.udp (r.bytes ++ r.block)))
    | none => ({ s with mbx := { s.mbx with uartFree := s.clock } } : State).log (.uart (uartPacket (r.bytes ++ r.block)))

/-- The command is journaled with its response, among the 256 newest of its mailbox (R357, R359), and answered. -/
def State.conclude (s : State) (t : Taken) (r : Response) : State :=
  let s := s.modBox t.mailbox fun b =>
    { b with
      journal := ({ token := t.frame.token, opcode := t.frame.opcode, payloadCrc := t.frame.payloadCrc,
                    response := r } :: b.journal).take 256
      integrityErrors := if r.status = .integrity then b.integrityErrors.inc else b.integrityErrors }
  s.deliver t r

/-- A block reaches the host (R355, R369): by DMA on PCIe, beside the response elsewhere. The status is INTEGRITY
when DMA cannot be made or the non-posted read behind it does not complete (R356). -/
def State.sendBlock (s : State) (t : Taken) (dst : Option Nat) (st : Status) (block : List Byte) :
    State × Status × List Byte :=
  match dst with
  | none => (s, st, [])
  | some d =>
    if t.mailbox < 32 then
      if !s.dmaOk then (s, .integrity, [])
      else
        let s := (s.log (.dma d block)).log (.hostRead d)
        if t.readOk then (s, st, []) else (s.readError, .integrity, [])
    else (s, st, block)

/-- A command without mailbox is answered in `reply` only (entry 18, DESIGN CHOICE). -/
def State.answerBare (s : State) (op : Nat) (st : Status) (ret : List Fld) (block : List Byte) : State :=
  { s with reply := some { token := 0, opcode := op, status := st, replayed := false, ret := pack ret,
                           block := block } }

/-- One submission is answered. -/
def State.answerTaken (s : State) (t : Taken) (dst : Option Nat) (st : Status) (ret : List Fld)
    (block : List Byte) : State :=
  let (s, st, blk) := s.sendBlock t dst st block
  s.conclude t (responseOf t st (if st = .integrity then [] else ret) blk)

/-- Every command whose answer waits for `k` is answered (R375, R377, R378, R380, R383). -/
def State.answerWaiting (s : State) (k : WaitKey) (st : Status) (ret : List Fld) : State :=
  let (mine, rest) := s.mbx.waiting.partition fun w => decide (w.1 = k)
  mine.foldl (fun s w => match w.2 with
    | some t => s.answerTaken t none st ret []
    | none => s.answerBare 0 st ret [])
    { s with mbx := { s.mbx with waiting := rest } }

/-- Every command whose answer waits is answered BUSY (R386, R407). -/
def State.answerAllBusy (s : State) : State :=
  let ws := s.mbx.waiting
  ws.foldl (fun s w => match w.2 with
    | some t => s.answerTaken t none .busy [] []
    | none => s.answerBare 0 .busy [] [])
    { s with mbx := { s.mbx with waiting := [] } }

/-! ## What the device state forbids -/

/-- Opcodes of the status commands (R395), CAL_SET_READ, and those of the system, diagnostics and PLL groups.
Entry 19, DEDUCED. -/
def nadirRuns (op : Nat) : Bool :=
  decide (op / 256 = 0x00) || decide (op / 256 = 0x0A) || decide (op / 256 = 0x02) ||
  [0x0100, 0x0131, 0x0142, 0x0151, 0x0304, 0x0407, 0x0503, 0x0512, 0x0521, 0x0603, 0x0605, 0x0608, 0x0704, 0x0804,
   0x0813, 0x0836, 0x0903, 0x0905].contains op

/-- The opcode of a command, 0 for a row that is no mailbox command. -/
def opcodeOf (c : Instr) : Nat := ((commandOf c).map (·.1)).getD 0

/-- The tests of R391 of the function that a configuration command configures: one of them must have passed. A profile or a
stream is configured for every group or engine, a network command for every port (R395; entry 19, DEDUCED). -/
def configTests (op : Nat) : List SelfTest :=
  if [0x0110, 0x0111, 0x0120, 0x0130, 0x0701, 0x0702, 0x0703].contains op then [.fabric]
  else if [0x0140, 0x0152].contains op then (List.range 3).map .port
  else if op = 0x0150 then [.bridge]
  else if [0x0301, 0x0302, 0x0306, 0x0310].contains op then [.outputLoopback]
  else if [0x0401, 0x040A].contains op then [.programMemory]
  else if [0x0510, 0x0520].contains op then (List.range 8).map .hitGroup
  else if [0x0601, 0x0602, 0x0607].contains op then (List.range 96).map .engine
  else if [0x0801, 0x0802, 0x0810, 0x0811, 0x0812, 0x0820].contains op || within 0x0830 0x0835 op then [.supervisor]
  else if op = 0x0901 then [.retention]
  else []

/-- The last result of a test is a pass. -/
def State.testPassed (s : State) (t : SelfTest) : Bool := s.dev.results.contains (t, true)

/-- The hit group of an input (R134): that of a channel, and for a start input that of its TS sensor (R311); raw time inputs
belong to none. -/
def groupsOfInputs (l : List Nat) : List Nat := (l.filter (· < 576)).map fun i => if i < 512 then i / 64 else (i - 512) / 8

/-- Every one of a list of hit groups has passed its own test. -/
def State.groupsPassed (s : State) (ks : List Nat) : Bool := ks.all fun k => s.testPassed (.hitGroup k)

/-- The function that a configuration command configures has passed its own test (R395). Entry 19, DEDUCED. -/
def State.configAllowed (s : State) (c : Instr) : Bool :=
  match c with
  | .hitConfig first count _ => s.groupsPassed (groupsOfInputs ((List.range count).map (first + ·)))
  | .channelRowSet first count _ => s.groupsPassed (groupsOfInputs ((List.range count).map (first + ·)))
  | .staInputConfig first count _ => s.groupsPassed (groupsOfInputs ((List.range count).map (512 + first + ·)))
  | .rawExportSet _ inputs => s.groupsPassed (groupsOfInputs inputs)
  | .gateTapSet group _ _ _ => s.groupsPassed [group]
  | .ptpPortConfig port _ => s.testPassed (.port port)
  | .streamUdpSet _ cfg =>
    if cfg.egress ≤ 2 then s.testPassed (.port cfg.egress) else (List.range 3).any fun k => s.testPassed (.port k)
  | _ => (configTests (opcodeOf c)).any s.testPassed

/-- In Nadir the command is executed (R395). Entry 19, DEDUCED. -/
def State.nadirAllows (s : State) (c : Instr) : Bool := nadirRuns (opcodeOf c) || s.configAllowed c

/-- NOT_READY by the state of the device: in Boot the ROM runs four commands only (R363); in Nadir R395 says which
run, with SEQ_START, MOTOR_RUN and SV_SAFE_STOP, which have outcomes of their own there (R303, R395).
Entry 19, DEDUCED. -/
def State.stateForbids (s : State) (c : Instr) : Bool :=
  (!s.dev.fwRunning && !(within 0x0020 0x0023 (opcodeOf c))) ||
  (decide (s.dev.run = .nadir) && !s.nadirAllows c && !([0x0404, 0x0803, 0x0837].contains (opcodeOf c)))

/-- Outcomes that hold for every command with a block (R369): on Ethernet and the UART DST is 0 and the block
within 8,192 or 4,096 bytes. -/
def blockChecks (t : Option Taken) (b : Body) : List (Bool × Status) :=
  match t, b.dst, b.run with
  | some t, some d, .done _ _ _ blk =>
    if t.mailbox < 32 then []
    else [(decide (d ≠ 0), .badArg), (decide ((if t.mailbox < 40 then 8192 else 4096) < blk.length), .badArg)]
  | _, _, _ => []

/-- The status that the checks of a body give. -/
def State.checkBody (s : State) (c : Instr) (t : Option Taken) (b : Body) : Status :=
  verdict ((s.stateForbids c, .notReady) :: (blockChecks t b ++ b.checks))

/-! ## Rows -/

/-- The state with no command in execution. -/
def State.release (s : State) : State := { s with mbx := { s.mbx with executing := none } }

/-- A command without mailbox runs (entry 18, DESIGN CHOICE). -/
def State.runBare (s : State) (c : Instr) (b : Body) : State :=
  match s.checkBody c none b with
  | .ok => match b.run with
    | .done s' st ret blk => s'.answerBare (opcodeOf c) st ret blk
    | .waits s' k => { s' with mbx := { s'.mbx with waiting := s'.mbx.waiting ++ [(k, none)] } }
  | st => s.answerBare (opcodeOf c) st [] []

/-- A taken command runs and is answered, or its answer waits; a partner of a dual submission is answered alike
(R360). One that would wait is answered BUSY while a power warning stands, with nothing done (R407). -/
def State.runTaken (s : State) (c : Instr) (t : Taken) (p : Option Taken) (b : Body) : State :=
  let partner (s : State) (st : Status) (ret : List Fld) : State := match p with
    | none => s
    | some q => s.answerTaken q none st ret []
  match s.checkBody c (some t) b with
  | .ok => match b.run with
    | .done s' st ret blk => partner (s'.answerTaken t b.dst st ret blk) st ret
    | .waits s' k =>
      if s.dev.pfail then partner (s.answerTaken t none .busy [] []) .busy []
      else { s' with mbx := { s'.mbx with waiting := s'.mbx.waiting ++ [(k, some t)] } }
  | st => partner (s.answerTaken t none st [] []) st []

/-- The device is idle after a power warning (R407): its commit is complete, and nothing runs any more.
Entry 50, DEDUCED. -/
def State.powerIdle (s : State) : Bool := s.dev.pfail && decide (s.dev.pfailAt + 80000 ≤ s.clock)

/-- The command in execution is this one: same opcode, same payload bytes. Entry 18, DESIGN CHOICE. -/
def isCommand (c : Instr) (t : Taken) : Bool := decide (payloadOf c = some (t.frame.opcode, t.payload))

/-- A row of a mailbox command is due: it is the one in execution, or none is in execution and it comes with no mailbox, which
no command does while a power warning stands; once the device is idle after one nothing runs (R407; entry 18,
DESIGN CHOICE). -/
def State.rowDue (s : State) (c : Instr) : Bool :=
  match s.mbx.executing with
  | none => !s.dev.pfail
  | some (t, _) => isCommand c t && !s.powerIdle

/-- A row of a mailbox command runs when it is due. `b` is its body on the state with nothing in execution.
Entry 18, DESIGN CHOICE. -/
def cmdRow (c : Instr) (b : State → Body) (s : State) : Out :=
  if s.rowDue c then
    match s.mbx.executing with
    | none => .next (s.runBare c (b s))
    | some (t, p) => .next (s.release.runTaken c t p (b s.release))
  else .next s

/-- One submission of a pair is answered SAFETY_DENIED and counted (R360). Entry 47, DEDUCED. -/
def State.denyPair (s : State) (t : Taken) : State :=
  (s.modBox t.mailbox fun b => { b with pairDenied := b.pairDenied.inc }).answerTaken t none .safetyDenied [] []

/-- A first submission that passes its checks is held, from its taking on (R360); while a power warning stands no second can
come, and it is denied (R407, R413). Entry 50, DEDUCED. -/
def State.holdFirst (s : State) (t : Taken) : State :=
  if s.dev.pfail then s.denyPair t else { s with mbx := { s.mbx with held := some (t, t.takenAt) } }

/-- A row of a safety configuration command (R360): a first submission is held; one that comes with no mailbox has no second
and is denied. Entry 18, DESIGN CHOICE. -/
def dualRow (c : Instr) (b : State → Body) (s : State) : Out :=
  if s.rowDue c then
    match s.mbx.executing with
    | some (t, none) => match s.checkBody c (some t) (b s.release) with
      | .ok => .next (s.release.holdFirst t)
      | _ => .next (s.release.runTaken c t none (b s.release))
    | some (_, some _) => cmdRow c b s
    | none => match s.checkBody c none (b s) with
      | .ok => .next (s.answerBare (opcodeOf c) .safetyDenied [] [])
      | st => .next (s.answerBare (opcodeOf c) st [] [])
  else .next s

end Sys2Proof.Machine
end

