-- ==== Sys2Proof/Machine/Flags.lean ====
section
/-! DEFINITION. Flags that several blocks compute: READY of the sequencers, the angle and speed that the safety
supervisor sees, the emission permit, dark, the safety status pair, and the supervisor's transitions (R293 to
R299, R302, R393). -/

namespace Sys2Proof.Machine

/-! ## Function resets (R386, R400) -/

/-- Block `k` of kind `b` (R373) performs a function reset. -/
def State.resetting (s : State) (b k : Nat) : Bool := s.dev.resets.contains (b, k)

/-- A channel of the list belongs to a hit group that performs a function reset. Entry 44, DEDUCED. -/
def State.groupResetting (s : State) (cs : List Nat) : Bool := cs.any fun c => s.resetting 0 (c / 64)

/-! ## SKEW_CAL (R307, R309) -/

/-- The calibration objects (R307). -/
def calOut : Nat := 1
def calIn : Nat := 2
def calLane : Nat := 3
def calVernier : Nat := 4
def calTof : Nat := 5
def calHop : Nat := 6
def calSafety : Nat := 7

/-- The item of a start input in IN_SKEW (R307). Entry 41, DEDUCED. -/
def itemSta (k : Nat) : Nat := 512 + k

/-- SKEW_CAL of output `o` (R309): the interpolated factory value plus the field correction. -/
def State.outSkew (s : State) (o : Nat) : Int := Tab.get 0 (s.calForce calOut) o + Tab.get 0 s.cal.outCorr o

/-- SKEW_CAL of hit channel `c` (R309). -/
def State.inSkew (s : State) (c : Nat) : Int := Tab.get 0 (s.calForce calIn) c + Tab.get 0 s.cal.inCorr c

/-- SKEW_CAL of start input `k` (R309): tracking corrects hit channels only (R317). -/
def State.staSkew (s : State) (k : Nat) : Int := Tab.get 0 (s.calForce calIn) (itemSta k)

/-! ## READY of sequencers (R393) -/

/-- Channel `c` watches a row of the mask (R161): its ROW is set in it, it is enabled and of ranging class. -/
def Channel.watches (x : Channel) (m : BitVec 64) : Bool :=
  m.getLsbD x.row && decide (x.cfg.enable = 1 ∧ x.cfg.cls = 0)

/-- Channels that watch a row of a mask (R94, R161), rising: a channel not listed is not enabled. -/
def State.channelsOf (s : State) (m : BitVec 64) : List Nat :=
  (s.rx.channels.filter fun c => c.2.watches m).map (·.1)

/-- The hit groups with a channel that watches a row of the mask. -/
def State.groupsOf (s : State) (m : BitVec 64) : List Nat :=
  (List.range 8).filter fun k => (s.channelsOf m).any fun c => decide (c / 64 = k)

/-- An estimator is valid at this moment (R115): its stored conditions hold and Polestar is less than EDGE_TIMEOUT
past its newest usable edge. -/
def State.estValid (s : State) (e : Nat) : Bool :=
  (s.estimator e).valid && match (s.estimator e).edges with
    | [] => false
    | x :: _ => decide (s.now < x.t + (s.estimator e).cfg.edgeTimeout)

/-- The device tests that follow the first PLL lock have passed (R390). -/
def State.loopbackPassed (s : State) : Bool := s.dev.results.contains (.outputLoopback, true)

/-- Bit FS[n] of READY (R393, R398, R400); in TEST no sequencer can start (R247). Entry 27, DEDUCED. -/
def State.fsReady (s : State) (n : Nat) : Bool :=
  s.isReady readyPll && decide (s.pll.run ≠ .test) && s.isReady readyTimebase && s.loopbackPassed && !s.dev.warm &&
    !s.resetting 1 n &&
    ((s.groupsOf (s.seq n).cfg.rows).all fun k => s.isReady (readyHg k)) &&
    (decide ((s.seq n).cfg.domain = 1) || s.estValid (s.seq n).cfg.encoder)

/-- FS[7:0] brought up to date. -/
def State.refreshFs (s : State) : State :=
  s.setReadyAll ((List.range 8).foldl (fun r n => setBit r (readyFs n) (s.fsReady n)) s.dev.ready)

/-! ## Encoders as the supervisor uses them (R290, R291) -/

/-- The encoder settings in force (R271). -/
def State.encCfg (s : State) (e : Nat) : EncCfg := Tab.get EncCfg.reset s.sv.active.encoders e

/-- The encoders that SPEED_SRC names (R287). -/
def usedEncoders (c : SafetyCfg) : List Nat :=
  if c.sv.speedSrc = 0 then [0, 1] else if c.sv.speedSrc = 1 then [0] else [1]

/-- An encoder has failed (R291). -/
def State.encFailed (s : State) (e : Nat) : Bool :=
  (s.svEnc e).countFailed || (s.svEnc e).pairOpen ||
    ((usedEncoders s.sv.active).contains e && decide ((s.encCfg e).enable = 0))

/-- The encoders that serve. -/
def State.serving (s : State) : List Nat := (usedEncoders s.sv.active).filter fun e => !s.encFailed e

/-- N_below(S) and N_above(S) for CPR `c` (R290). -/
def nBelow (c v : Nat) : Int := ceilDiv (102 * c * v) 25600000 + 1
def nAbove (c v : Nat) : Int := (98 * c * v : Nat) / (25600000 : Int) - 1

/-- The count of an encoder's last window without its sign. Entry 37, DEDUCED. -/
def State.windowCount (s : State) (e : Nat) : Int := (s.svEnc e).lastWindow.natAbs

/-- Some serving encoder's last window is below `v` (the slower decides, R291). -/
def State.slowerBelow (s : State) (v : Nat) : Bool :=
  s.serving.any fun e => decide (s.windowCount e < nBelow (s.encCfg e).cpr v)

/-- Every serving encoder's last window is below `v` (the faster decides, R299). -/
def State.fasterBelow (s : State) (v : Nat) : Bool :=
  s.serving.all fun e => decide (s.windowCount e < nBelow (s.encCfg e).cpr v)

/-- Some serving encoder's last window is above `v` (the faster decides, R291, R299). -/
def State.fasterAbove (s : State) (v : Nat) : Bool :=
  s.serving.any fun e => decide (s.windowCount e > nAbove (s.encCfg e).cpr v)

/-! ## Limits, angle and budget (R292, R294) -/

/-- The limit set in force. -/
def State.limitSet (s : State) : LimitSet :=
  Tab.get LimitSet.reset s.sv.active.limits (if s.sv.setB then 1 else 0)

/-- The angle in 2^-16 revolution (R294). -/
def State.svAngle (s : State) : Nat :=
  let c := s.sv.active.sv
  let second := c.speedSrc = 2 ∨ (c.speedSrc = 0 ∧ s.encFailed 0)
  let e := if second then 1 else 0
  let raw := (s.svEnc e).count * 65536 / ((s.encCfg e).cpr : Int)
  ((if second then raw + c.secIndexOffset else raw) % 65536).toNat

/-- The sector in which the angle lies. -/
def State.svSector (s : State) : Nat := s.svAngle * s.limitSet.sectors / 65536

/-- The budget in force: its fraction in Twilight (R294). -/
def State.budget (s : State) : Nat :=
  if s.sv.run = .twilight then s.limitSet.budget * s.sv.active.sv.twilightFrac / 100 else s.limitSet.budget

/-- The present sector has reached the budget in force. -/
def State.sectorSpent (s : State) : Bool := decide (s.budget ≤ s.sectorCount s.svSector)

/-- The windows of SLP of the set in force, by number. -/
def State.slpWindows (s : State) : List SlpWindow :=
  (List.range 16).map fun w => Tab.get SlpWindow.reset s.sv.active.slp ((if s.sv.setB then 16 else 0) + w)

/-- An angle lies in a window, which wraps through 0 when END is at or below START (R292). -/
def inSlp (w : SlpWindow) (a : Nat) : Bool :=
  if w.start < w.stop then decide (w.start ≤ a ∧ a < w.stop) else decide (w.start ≤ a ∨ a < w.stop)

/-- The angle lies outside every enabled window, and there is one (R294). -/
def State.outsideSlp (s : State) : Bool :=
  let ws := s.slpWindows.filter fun w => decide (w.enable = 1)
  !ws.isEmpty && !(ws.any fun w => inSlp w s.svAngle)

/-! ## Permit, dark, status pair, torque -/

/-- The settings of a safe input. -/
def State.svInputCfg (s : State) (i : Nat) : SvInputCfg := Tab.get SvInputCfg.reset s.sv.active.inputs i

/-- A PERMIT input is demanding, or awaits its reset (R293). -/
def State.permitInputBlocks (s : State) : Bool :=
  (List.range 4).any fun i => decide ((s.svInputCfg i).function = 1) &&
    ((s.safeInput i).demanding || (decide ((s.svInputCfg i).restart = 1) && (s.safeInput i).awaitsReset))

/-- The last window is below SLS_LOW, which is not 0 (R293). -/
def State.tooSlow (s : State) : Bool := decide (s.limitSet.slsLow ≠ 0) && s.slowerBelow s.limitSet.slsLow

/-- The direction allows emission: forward, or standing with SLS_LOW 0 (R293). -/
def State.directionOk (s : State) : Bool :=
  s.serving.all fun e => decide ((s.svEnc e).lastWindow > 0 ∨ ((s.svEnc e).lastWindow = 0 ∧ s.limitSet.slsLow = 0))

/-- The emission permit is due (R293); while JTAG is unlocked it is withdrawn (R365). Entry 39, DEDUCED. -/
def State.permitDue (s : State) : Bool :=
  (decide (s.sv.run = .normal) || decide (s.sv.run = .twilight)) && !s.permitInputBlocks && !s.tooSlow &&
    s.directionOk && !s.serving.isEmpty && !s.dev.jtagUnlocked

/-- The supervisor demands dark (R293, R294, R297), and so does Boot after a cold reset, or with no image that runs (R363). -/
def State.darkDue (s : State) : Bool :=
  !s.sv.permit || s.outsideSlp || s.sectorSpent || (decide (s.dev.run = .boot) && !s.dev.warm) || s.dev.noImage

/-- Numbers of the pulses of a burst whose rising edge lies in [a, b). -/
def risesIn (rises : List Tq) (a b : Tq) : List Nat :=
  (List.range rises.length).filter fun k => decide (a ≤ rises.getD k 0 ∧ rises.getD k 0 < b)

/-- The end of a burst: its last falling edge, 0 for none. -/
def Burst.stop (b : Burst) : Tq := (b.rises.getLast?.getD 0) + b.w

/-- Numbers of the pulses of a burst that are under way at `a`. -/
def Burst.underWay (x : Burst) (a : Tq) : List Nat :=
  (List.range x.rises.length).filter fun k =>
    !x.suppressed.contains k && decide (x.rises.getD k 0 < a ∧ a < x.rises.getD k 0 + x.w)

/-- A burst of an EMITTER output meets the dark interval [a, b): pulses whose rising edge falls in it are never produced
(R58), one under way at its begin ends there, and a burst wholly or partly inside it is marked (R57).
Entry 26, DEDUCED. -/
def Burst.darken (a b : Tq) (x : Burst) : Burst :=
  if x.emitter && decide (x.rises.headD 0 < b ∧ a < x.stop) then
    { x with
      suppressed := x.suppressed ++ (risesIn x.rises a b).filter (fun k => !x.suppressed.contains k)
      darkCuts := x.darkCuts ++ (x.underWay a).map fun k => (k, a)
      darkHit := true }
  else x

/-- Every burst in the registers meets the dark interval [a, b). -/
def State.darkenBursts (s : State) (a b : Tq) : State :=
  { s with tx := { s.tx with outs := s.tx.outs.map fun o =>
      (o.1, { o.2 with active := o.2.active.map (·.darken a b), next := o.2.next.map (·.darken a b) }) } }

/-- The pulse of a match window was due while dark is or was asserted, so that it did not form (R57, R58, R64). -/
def State.isDarkWindow (s : State) (w : MatchWin) : Bool :=
  s.sv.dark && decide (s.sv.darkSince ≤ w.rise ∧ w.rise < s.now)

/-- Dark was asserted at the moment `t` (R64): now, or in the interval last released. -/
def State.darkAt (s : State) (t : Tq) : Bool :=
  (s.sv.dark && decide (s.sv.darkSince ≤ t)) ||
    match s.sv.darkWas with
    | some (a, b) => decide (a ≤ t ∧ t < b)
    | none => false

/-- Dark is asserted or released at the present time (R57, R58). Asserting it publishes on SV_DARK (R220); at the
release the match windows of the pulses that it kept from forming close (R62, R64). Entry 26, DEDUCED. -/
def State.setDark (s : State) (d : Bool) : State :=
  if d = s.sv.dark then s
  else if d then
    let s := { s with sv := { s.sv with dark := true, darkSince := s.now } }
    s.publish prodDark s.now 0
  else
    let s := s.darkenBursts s.sv.darkSince s.now
    let s := { s with tx := { s.tx with windows := s.tx.windows.filter fun w => !s.isDarkWindow w } }
    { s with sv := { s.sv with dark := false, darkWas := some (s.sv.darkSince, s.now) } }

/-- Dark brought up to date; a sector darkened by its budget is counted (R304). -/
def State.refreshDark (s : State) : State :=
  let k := s.svSector
  let cs := s.sv.counters
  let s' := if !s.sv.dark && s.sv.permit && !s.outsideSlp && s.sectorSpent then
      { s with sv := { s.sv with
          counters := { cs with budgetDark := Tab.put 0 cs.budgetDark k (Count.inc (Tab.get 0 cs.budgetDark k)) } } }
    else s
  s'.setDark s.darkDue

/-- SSTA and SSTB brought up to date (R302); a change is a cause (R421). -/
def State.refreshSst (s : State) : State :=
  let v := (decide (s.sv.run = .normal) || decide (s.sv.run = .twilight)) && s.sv.permit && !s.sv.emissionFault
  if s.sv.ssta = v ∧ s.sv.sstb = v then s
  else ({ s with sv := { s.sv with ssta := v, sstb := v } }).cause 3

/-- The permit brought up to date, and with it READY, dark and the status pair (R293, R302, R393). A withdrawal by
SLS_LOW is counted (R304). -/
def State.refreshPermit (s : State) : State :=
  let p := s.permitDue
  let s := if s.sv.permit && !p && s.tooSlow then
      { s with sv := { s.sv with counters := { s.sv.counters with slsLowDark := s.sv.counters.slsLowDark.inc } } }
    else s
  let s := { s with sv := { s.sv with permit := p } }
  ((s.setReady readyPermit p).refreshDark).refreshSst

/-- The STO lines toggle while torque is asked for and the state permits it (R281, R297): not with no image that runs (R363).
Entry 39, DEDUCED. -/
def State.refreshSto (s : State) : State :=
  let ok := (s.sv.run = .normal ∨ s.sv.run = .twilight ∨ s.sv.run = .dusk) ∧ !s.dev.noImage
  if ok then { s with sv := { s.sv with sto := s.sv.torqueAsked } }
  else { s with sv := { s.sv with sto := false, torqueAsked := false } }

/-! ## Transitions of the supervisor (R296 to R299) -/

/-- The supervisor enters a state: SV_STATE publishes and the cause is raised (R220, R421). -/
def State.svGo (s : State) (r : SvRun) : State :=
  if s.sv.run = r then s
  else
    let s := { s with sv := { s.sv with run := r } }
    ((s.publish prodSvState s.now 0).cause 3).refreshSto.refreshPermit

/-- Every running sequencer is asked to stop at its next granule boundary with a reason (R104, R298), beside what is asked of
it already. -/
def State.stopSequencers (s : State) (why : Reasons) : State :=
  s.each s.runningSeqs fun s n => s.modSeq n fun q => { q with stops := q.stops ++ [{ mode := 1, reason := why }] }

/-- Entry to ECLIPSE (R298): sequencers stop, the device is in Eclipse, torque is removed. A warm reset under way runs on,
and ends in Eclipse (R303). Entry 39, DEDUCED. -/
def State.enterEclipse (s : State) : State :=
  let s := (s.svGo .eclipse).stopSequencers Reasons.safety
  { s with
    dev := { s.dev with run := if s.dev.warm then s.dev.run else .eclipse }
    sv := { s.sv with dusk := none } }

/-- The highest speed of the last window over the serving encoders, in 1/256 revolution per second (R299). -/
def State.windowSpeed (s : State) : Int :=
  s.serving.foldl (fun m e => max m (s.windowCount e * 256000 / ((s.encCfg e).cpr : Int))) 0

/-- Entry to DUSK (R299): v0 is noted, the firmware enters STOPPING (R280). Entry 37, DEDUCED. Entry 39, DEDUCED. -/
def State.enterDusk (s : State) : State :=
  let s := s.svGo .dusk
  let s := { s with sv := { s.sv with
      dusk := some (s.clock, s.windowSpeed)
      counters := { s.sv.counters with safeStops := s.sv.counters.safeStops.inc } } }
  if s.motor.run = .starting ∨ s.motor.run = .running then
    { s with motor := { s.motor with run := .stopping, atSpeed := false, target := 0 } }
  else s

/-- Entry to TWILIGHT (R298). -/
def State.enterTwilight (s : State) : State :=
  let s := s.svGo .twilight
  { s with sv := { s.sv with
      twilightFrom := s.clock
      counters := { s.sv.counters with twilightEntries := s.sv.counters.twilightEntries.inc } } }

/-- A demand of a safe stop (R295, R297): DUSK from NORMAL or TWILIGHT in Ranging, LOCKOUT from NORMAL outside. -/
def State.safeStop (s : State) : State :=
  if s.ranging then
    if s.sv.run = .normal ∨ s.sv.run = .twilight then s.enterDusk else s
  else if s.sv.run = .normal ∨ s.sv.run = .twilight then s.svGo .lockout else s

/-- ECLIPSE at once (R296): a safe stop whose ramp time has run out, from DUSK in a warm reset too (R303); LOCKOUT
outside Ranging. -/
def State.eclipseAtOnce (s : State) : State :=
  if s.sv.run = .dusk then s.enterEclipse
  else if s.ranging then
    if s.sv.run = .normal ∨ s.sv.run = .twilight then s.enterDusk.enterEclipse else s
  else if s.sv.run = .normal ∨ s.sv.run = .twilight then s.svGo .lockout else s

/-- What a power warning does to emission and torque (R407): ECLIPSE at once, or LOCKOUT outside Ranging, which an INIT that
still stands leads to. Entry 50, DEDUCED. -/
def State.warnSupervisor (s : State) : State :=
  let s := s.eclipseAtOnce
  if s.sv.run = .init then { s with sv := { s.sv with lockAtStart := true } } else s

/-- The class of a fault (R296). -/
def SvFault.cls : SvFault → FaultClass
  | .stoReadback _ | .darkReadback _ | .sstReadback _ | .encoderFailed _ => .single
  | .agreement | .direction | .slsHigh | .motorFault | .emisLimit => .demand
  | .bothEncoders | .coreMismatch | .oscillator | .supplyMonitor | .emission | .rampViolation => .stop

/-- A fault is latched. -/
def State.latch (s : State) (f : SvFault) : State :=
  if s.sv.faults.contains f then s else { s with sv := { s.sv with faults := s.sv.faults ++ [f] } }

/-- A fault is latched and reacted to by its class (R296). A single fault that is latched already is no second one. -/
def State.svFault (s : State) (f : SvFault) : State :=
  let old := s.sv.faults.contains f
  let s := s.latch f
  match f.cls with
  | .single =>
    if old then s
    else if s.sv.run = .normal then (if s.ranging then s.enterTwilight else s.svGo .lockout)
    else if s.sv.run = .twilight then s.safeStop else s
  | .demand => s.safeStop
  | .stop =>
    let s := { s with sv := { s.sv with
        emissionFault := s.sv.emissionFault || decide (f = SvFault.emission)
        counters := { s.sv.counters with stopFaults := s.sv.counters.stopFaults.inc } } }
    s.eclipseAtOnce.refreshSst

/-- An encoder has failed (R291, R296): a single fault when the other serves and SPEED_SRC is 0, a stop fault when none
serves. One that fails anew is a new fault, whether or not an earlier failure is still latched. -/
def State.encoderFault (s : State) (e : Nat) (anew : Bool) : State :=
  if !(usedEncoders s.sv.active).contains e then s
  else if s.serving.isEmpty then s.svFault .bothEncoders
  else if anew then
    ({ s with sv := { s.sv with faults := s.sv.faults.erase (.encoderFailed e) } }).svFault (.encoderFailed e)
  else s.svFault (.encoderFailed e)

/-! ## The emission budget (R294) -/

/-- Where pulse `k` of a burst ends: W after its rise, or where the dark path ended it (R57). -/
def Burst.fall (b : Burst) (k : Nat) : Tq :=
  ((b.darkCuts.filter fun p => decide (p.1 = k)).map (·.2)).foldl min (b.rises.getD k 0 + b.w)

/-- Pulses of a burst that formed before `limit`, with their edges; a pulse under way then ends there (R33, R59). -/
def Burst.formed (b : Burst) (limit : Tq) : List (Nat × Tq × Tq) :=
  ((List.range b.rises.length).filter fun k => !b.suppressed.contains k && decide (b.rises.getD k 0 < limit)).map
    fun k => (k, b.rises.getD k 0, min (b.fall k) limit)

/-- The last falling edge of a burst that ends at `limit` (R77); none where no pulse of it formed. -/
def Burst.lastFall (b : Burst) (limit : Tq) : Option Tq := (b.formed limit).getLast?.map fun p => p.2.2

/-- An output notes the last falling edge of a burst that ends at `limit` (R77). -/
def OutState.noteFall (x : OutState) (b : Burst) (limit : Tq) : OutState :=
  { x with lastFall := (b.lastFall limit).or x.lastFall }

/-- Pulses of a burst that formed before `limit` and are counted in no sector yet. -/
def Burst.uncounted (b : Burst) (limit : Tq) : List Nat :=
  ((b.formed limit).map (·.1)).filter fun k => !b.counted.contains k

/-- A burst with the present dark demand applied up to now. -/
def State.darkenNow (s : State) (b : Burst) : Burst :=
  if s.sv.dark then b.darken s.sv.darkSince (s.now + 1024) else b

/-- Pulses of an EMITTER output of row `r` that have been emitted count in the present sector with the row's
WEIGHT (R294). Entry 26, DEDUCED. -/
def State.countEmission (s : State) (r n : Nat) : State :=
  if n = 0 then s
  else s.modSectorCount s.svSector (· + n * Tab.get 1 s.sv.active.weights r)

/-- Pulses of the active burst of output `o` that have risen so far count in the present sector. -/
def State.countOutput (s : State) (o : Nat) : State :=
  match (s.out o).active with
  | none => s
  | some b =>
    if b.fired && b.emitter then
      let ks := (s.darkenNow b).uncounted (min (b.cutAt.getD (s.now + 1024)) (s.now + 1024))
      if ks.isEmpty then s
      else (s.countEmission b.row ks.length).modOut o fun x =>
        { x with active := some { b with counted := b.counted ++ ks } }
    else s

/-- Every pulse emitted so far is counted in the sector in which the angle lies, before the sector, the window or the set
changes (R294). -/
def State.countEmitted (s : State) : State := s.each (s.tx.outs.map (·.1)) State.countOutput

end Sys2Proof.Machine
end

