-- ==== Sys2Proof/Machine/OutputOps.lean ====
section
/-! DEFINITION. What outputs share: classes, bursts, arrival at a schedule input, the take, loss of lock, and a
forward Polestar step (R40 to R60, R74, R77 to R81). -/

namespace Sys2Proof.Machine

/-! ## Classes and bursts -/

/-- Output `o` is of EMITTER class (R41). -/
def State.isEmitter (s : State) (o : Nat) : Bool := decide ((s.out o).cfg.cls = 0)

/-- Output `o` is of EMITTER or GATE class: it never acts late and stops with the PLL (R41, R55, R59). -/
def State.stopsWithPll (s : State) (o : Nat) : Bool := decide ((s.out o).cfg.cls ≤ 1)

/-- The numbers of the outputs (R40). -/
def outputNumbers : List Nat := List.range 136

/-- The pulses that an output takes from its own fields (R43): offsets from 0, and W. -/
def ownBurst (c : OutCfg) : List Nat × Nat := (0 :: c.offsets.take (c.burstN - 1), c.width)

/-- A burst is valid (R49): each offset at least W + 512 tq after the one before. -/
def burstValid (offsets : List Nat) (w : Nat) : Bool :=
  (offsets.zip offsets.tail).all fun p => decide (p.1 + w + 512 ≤ p.2)

/-- DELAY + SKEW_BOARD of an output (R42). -/
def edgeShift (c : OutCfg) : Int := (c.delay : Int) + c.skewBoard

/-- Offsets and W of an entry at an output (R43). -/
def Entry.pulses (c : OutCfg) (e : Entry) : List Nat × Nat :=
  match e.burst with
  | .own => ownBurst c
  | .given offs w => (offs, w)

/-- The order of entries that arrive together (R52): trigger time, then slot engines by number, OUT_SCHEDULE,
fabric events by channel. -/
def EntrySrc.rank : EntrySrc → Nat
  | .slot n => n
  | .command => 8
  | .fabric c => 9 + c

def entryLe (a b : Entry) : Bool :=
  decide (a.tTrig < b.tTrig) || (decide (a.tTrig = b.tTrig) && decide (a.src.rank ≤ b.src.rank))

/-! ## Answers of OUT_SCHEDULE (R377) -/

/-- The status of an OUTCOME (R377). -/
def outcomeStatus (outcome : Nat) : Status :=
  if outcome ≤ 1 then .ok else if outcome = 2 then .late else if outcome = 3 then .noCredit else .refused

/-- OUTCOME and LATENESS as return values. -/
def outcomeRet (outcome lateness : Nat) : List Fld := [fU8 outcome, fU32 lateness]

/-- The OUT_SCHEDULE that brought entry `e` to output `o` is answered, where there is one. Entry 31, DEDUCED. -/
def State.answerEntry (s : State) (o : Nat) (e : Entry) (outcome lateness : Nat) : State :=
  match s.mbx.waiting.find? fun w => decide (w.1 = .schedule o e) with
  | none => s
  | some w =>
    let s := { s with mbx := { s.mbx with waiting := s.mbx.waiting.erase w } }
    match w.2 with
    | some t => s.answerTaken t none (outcomeStatus outcome) (outcomeRet outcome lateness) []
    | none => s.answerBare 0x0303 (outcomeStatus outcome) (outcomeRet outcome lateness) []

/-! ## Arrival (R51, R59) -/

/-- What became of an arriving entry. -/
inductive Arrival where
  | waits
  | overrun
  | stopped
  | notTaken
  deriving DecidableEq, Repr

/-- EMITTER and GATE outputs stop: no lock, or TEST (R59, R247). -/
def State.firingStopped (s : State) : Bool := !s.pll.locked || decide (s.pll.run = .test)

/-- The order of the waiting entries (R52): of two that arrived together, that of `entryLe`. Entry 50, DEDUCED. -/
def waitLe (a b : Entry) : Bool := decide (a.came < b.came) || (decide (a.came = b.came) && entryLe a b)

/-- An entry reaches the schedule input of output `o` (R51). While EMITTER and GATE outputs are stopped it is discarded
there, and counted for want of lock (R59, R65). In Nadir, in a warm reset and before the first Ready-idle no entry is taken
(R395, R398, R401). Where no
place is free the last in the order of R52 is discarded, which may be one that came together with it. -/
def State.arrive (s : State) (o : Nat) (e : Entry) : State × Arrival :=
  let x := s.out o
  let es := insertBy waitLe e x.sched
  if s.stopsWithPll o && s.firingStopped then
    (if s.pll.locked then s else s.setOut o { x with refStop := x.refStop.inc }, .stopped)
  else if s.dev.run = .nadir ∨ s.dev.warm ∨ s.ballsOff then (s, .notTaken)
  else if x.sched.length < 4 then (s.setOut o { x with sched := es }, .waits)
  else
    let s := s.setOut o { x with sched := es.take 4, fOverrun := true, overrun := x.overrun.inc }
    match es[4]? with
    | none => (s, .overrun)
    | some d => if d = e then (s, .overrun) else (s.answerEntry o d 3 0, .waits)

/-- Entries that arrive together, each at its output, in the order of R52. -/
def State.arriveAll (s : State) (es : List (Nat × Entry)) : State :=
  (sortBy (fun a b => entryLe a.2 b.2) es).foldl (fun s p => (s.arrive p.1 p.2).1) s

/-! ## The end of a burst -/

/-- The level of the P ball of an output: in a pulse high with POL 0 and low with POL 1, outside a pulse, with ENABLE 0 too,
the other one (R42, R48). -/
def pLevel (pol : Nat) (inPulse : Bool) : Bool := if pol = 1 then !inPulse else inPulse

/-- Pulses of a burst leave output `o`. -/
def State.logPulses (s : State) (o : Nat) (b : Burst) (ps : List (Nat × Tq × Tq)) : State :=
  ps.foldl (fun s p => s.log (.pulse o p.2.1 p.2.2 (pLevel b.pol true) b.skewCal)) s

/-- A shot changed by `f`, where it still stands. -/
def State.modShot' (s : State) (k : Option Nat) (f : Shot → Shot) : State :=
  match k with
  | none => s
  | some n => s.modShot n fun x => x.map f

/-- The dark path kept every pulse of a burst from forming (R185). -/
def Burst.allDark (b : Burst) : Bool := (List.range b.rises.length).all fun k => b.suppressed.contains k

/-- What a burst that ends at `limit` leaves behind: its pulses, those not counted yet in the budget, the shot's light or
darkness, DARKENED, and its last falling edge, which one that a step cut has left at the step (R33, R57, R77, R185, R294).
Entry 26, DEDUCED. -/
def State.endBurst (s : State) (o : Nat) (b : Burst) (limit : Tq) : State :=
  let ps := b.formed limit
  let s := s.logPulses o b ps
  let s := if b.cutAt.isSome then s else s.modOut o fun x => x.noteFall b limit
  let s := if b.emitter then
      let s := s.countEmission b.row (b.uncounted limit).length
      if b.allDark then s.modShot' b.shot fun x => { x with darkAll := x.darkAll + 1 }
      else if ps.isEmpty then s else s.modShot' b.shot fun x => { x with formed := true }
    else s
  if b.darkHit then s.modOut o fun x => { x with darkened := x.darkened.inc } else s

/-- The match windows of the pulses of a burst that would rise at `limit` or later close: they will not form. -/
def State.closeWindows (s : State) (b : Burst) (limit : Tq) : State :=
  { s with tx := { s.tx with windows := s.tx.windows.filter fun w =>
      !(decide (b.emitter ∧ w.row = b.row ∧ w.shot = b.shot ∧ limit ≤ w.rise) && b.rises.contains w.rise) } }

/-- The next register becomes the active one when that is empty (R53). -/
def OutState.advance (x : OutState) : OutState :=
  match x.active with
  | none => { x with active := x.next, next := none }
  | some _ => x

/-! ## Test pulses that yield (R79, R80) -/

/-- The guard interval of an output (R76); MRK outputs carry no test pulses. -/
def State.guardOf (s : State) (o : Nat) : Int := (s.testCfg o).guard

/-- A placed test pulse of output `o` yields to a real burst taken now, by the GUARD with which it was placed: suppressed
before its rising edge, its falling edge placed at t_cut after it, once (R79, R80). Entry 31, DEDUCED.
Entry 57, DESIGN CHOICE. -/
def State.yieldTest (s : State) (o : Nat) (b : Burst) (j : TestJob) : TestJob :=
  match j.placed with
  | none => j
  | some p =>
    let lo := b.rises.headD 0 - p.guard
    let hi := b.stop + p.guard
    if j.req.output = o ∧ p.rise < hi ∧ lo < p.fall ∧ p.cut = false then
      if s.now < p.rise then
        { j with placed := none, retries := min 31 (j.retries + 1), notBefore := max j.notBefore hi }
      else if p.fall ≤ s.now then j
      else
        let cut := max lo (s.now + 2048)
        { j with placed := some { p with fall := cut, cut := true,
                                         shortGuard := p.shortGuard || decide (lo < cut) } }
    else j

/-- Every lane's test pulses yield to a burst taken on output `o`. -/
def State.yieldTests (s : State) (o : Nat) (b : Burst) : State :=
  { s with tx := { s.tx with lanes := s.tx.lanes.map fun l => (l.1, l.2.map (s.yieldTest o b)) } }

/-! ## The take (R53, R54, R55, R74) -/

/-- The burst that an entry makes at an output with SKEW_CAL `skew`, its first edge moved by `late` (R42, R46, R55, R313). -/
def burstOf (x : OutState) (e : Entry) (skew late : Int) : Burst :=
  { rises := (e.pulses x.cfg).1.map fun off => e.tTrig + edgeShift x.cfg + (off : Int) + late
    w := (e.pulses x.cfg).2
    gen := e.gen
    shot := e.shot
    emitter := decide (x.cfg.cls = 0)
    row := x.cfg.row
    pol := x.cfg.pol
    cls := x.cfg.cls
    lateExec := x.cfg.lateExec
    lateMax := x.cfg.lateMax
    skewCal := skew
    shifted := late
    fired := false
    suppressed := []
    darkCuts := []
    darkHit := false
    counted := []
    cutAt := none }

/-- What the test of R53 finds for an entry at a take. -/
inductive Take where
  | disabled
  | onTime
  | shifted (by_ : Nat)
  | late
  deriving DecidableEq, Repr

/-- The test of R53 at the take `now`. -/
def takeTest (x : OutState) (e : Entry) (now : Tq) : Take :=
  let first := e.tTrig + edgeShift x.cfg
  let lateness := now + 8192 - first
  if x.cfg.enable = 0 then .disabled
  else if now + 8192 ≤ first then .onTime
  else if 2 ≤ x.cfg.cls ∧ x.cfg.lateExec = 1 ∧ lateness ≤ x.cfg.lateMax then .shifted lateness.toNat
  else .late

/-- Output `o` gives the scheduled rising edges of a shot (R19): the lowest-numbered enabled EMITTER output of its row.
Entry 30, DEDUCED. -/
def State.isReference (s : State) (o : Nat) (x : Shot) : Bool :=
  decide ((outputNumbers.find? fun k =>
    decide ((s.out k).cfg.cls = 0 ∧ (s.out k).cfg.row = x.row ∧ (s.out k).cfg.enable = 1)) = some o)

/-- A burst is loaded: into the next register, or straight into the active one when that is empty. The scheduled rising
edges of its shot are those with which it is taken (R19, R46). -/
def State.loadBurst (s : State) (o : Nat) (b : Burst) : State :=
  let s := s.yieldTests o b
  let s := if b.emitter then
      s.modShot' b.shot fun x =>
        { x with took := x.took + 1, rises := if s.isReference o x && x.ref.isNone then b.rises else x.rises }
    else s
  s.modOut o fun x => ({ x with next := some b }).advance

/-- The burst behind another one would begin before it has ended (R74); one that a step has cut is no hindrance (R33). -/
def clashes (a n : Option Burst) : Bool :=
  match a, n with
  | some a, some n => decide (a.cutAt = none ∧ n.rises.headD 0 < a.stop + 512)
  | _, _ => false

/-- The oldest entry of output `o`, taken from its schedule input, is tested and loaded, discarded for conflict or
not performed (R53, R54, R55, R74). Entry 31, DEDUCED. Entry 57, DESIGN CHOICE. -/
def State.takeEntry (s : State) (o : Nat) (e : Entry) : State :=
  let x := s.out o
  let load (late : Nat) : State :=
    let b := burstOf x e (s.outSkew o) late
    if clashes x.active (some b) then
      (s.setOut o { x with fConflict := true, conflict := x.conflict.inc }).answerEntry o e 4 0
    else
      let x := if late = 0 then x else { x with fLateExec := true, lateExec := x.lateExec.inc }
      ((s.setOut o x).loadBurst o b).answerEntry o e (if late = 0 then 0 else 1) late
  match takeTest x e s.now with
  | .disabled => s.answerEntry o e 6 0
  | .onTime => load 0
  | .shifted n => load n
  | .late =>
    ((s.setOut o { x with fLate := true, late := x.late.inc }).publish (prodLate o) (e.tTrig + edgeShift x.cfg) e.gen
      ).answerEntry o e 2 (s.now + 8192 - (e.tTrig + edgeShift x.cfg)).toNat

/-! ## Loss of lock (R59) -/

/-- Output `o` stops: what its registers and schedule input hold is discarded, and counted in REF_STOP on loss of lock
(`counts`; R59, R65); pulses formed so far have left. -/
def State.stopOutput (s : State) (counts : Bool) (o : Nat) : State :=
  let x := s.out o
  let n := if counts then x.sched.length + (if x.active.isSome then 1 else 0) + (if x.next.isSome then 1 else 0) else 0
  let s := match x.active with
    | some b => if b.fired then s.endBurst o (s.darkenNow b) s.now else s
    | none => s
  let s := s.modOut o fun x =>
    { x with sched := [], active := none, next := none, refStop := x.refStop.add n }
  x.sched.foldl (fun s e => s.answerEntry o e 5 0) s

/-- Every EMITTER and GATE output stops, and the match windows of pulses not yet formed close (R59, R62).
Entry 27, DEDUCED. -/
def State.stopFiring (s : State) (counts : Bool) : State :=
  let s := s.each outputNumbers fun s o => if s.stopsWithPll o then s.stopOutput counts o else s
  { s with tx := { s.tx with windows := s.tx.windows.filter fun w => decide (w.rise < s.now) } }

/-! ## A forward Polestar step (R33) -/

/-- A burst in a register of output `o` at a step from `old` to `new`: a burst being formed is cut at the step
instant and counts LATE; one not begun whose first edge lies in the skipped interval is late (R17) by what it was taken
with (R46): its whole shift stays within LATE_MAX and it counts once (R55). `none` drops it. Entry 31, DEDUCED.
Entry 57, DESIGN CHOICE. -/
def State.stepBurst (s : State) (o : Nat) (old new : Tq) (b : Burst) : State × Option Burst :=
  let x := s.out o
  let first := b.rises.headD 0
  if b.fired ∨ first < old then
    if b.cutAt.isNone ∧ old < b.stop then
      ((s.closeWindows b old).setOut o { x.noteFall (s.darkenNow b) old with fLate := true, late := x.late.inc },
        some { b with cutAt := some old })
    else (s, some b)
  else if new ≤ first then (s, some b)
  else
    let lateness := new + 8192 - first
    if 2 ≤ b.cls ∧ b.lateExec = 1 ∧ b.shifted + lateness ≤ b.lateMax then
      (s.setOut o { x with fLateExec := true, lateExec := if b.shifted = 0 then x.lateExec.inc else x.lateExec },
        some { b with rises := b.rises.map (· + lateness), shifted := b.shifted + lateness })
    else
      ((s.setOut o { x with fLate := true, late := x.late.inc }).publish (prodLate o) first b.gen, none)

/-- Output `o` at a forward step: a burst of the next register that would overlap the active one shifted before it is in
conflict with it (R50, R74). Entry 31, DEDUCED. -/
def State.stepOutput (s : State) (o : Nat) (old new : Tq) : State :=
  let step (s : State) (b : Option Burst) : State × Option Burst := match b with
    | none => (s, none)
    | some b => s.stepBurst o old new b
  let (s, a) := step s (s.out o).active
  let (s, n) := step s (s.out o).next
  if clashes a n then
    s.modOut o fun x => { x with active := a, next := none, fConflict := true, conflict := x.conflict.inc }
  else s.modOut o fun x => ({ x with active := a, next := n }).advance

/-- Every output at a forward step. -/
def State.stepOutputs (s : State) (old new : Tq) : State :=
  s.each (s.tx.outs.map (·.1)) fun s o => s.stepOutput o old new

end Sys2Proof.Machine
end

