-- ==== Sys2Proof/Machine/ProgramOps.lean ====
section
/-! DEFINITION. Program memory: bytes, list entries, segments and the validation of a range (R86 to R92), the
stream rings (R88, R105), and what a program's amplitudes are held to (R47, R70). -/

namespace Sys2Proof.Machine

/-! ## Bytes -/

/-- The canonical form of memory. -/
def Memory.wf (m : Memory) : Bool := Tab.wf (0 : Byte) m

/-- One byte of program memory. -/
def Memory.byte (m : Memory) (a : Nat) : Byte := Tab.get 0 m a

/-- Bytes written from address `a` on. -/
def Memory.write : Memory → Nat → List Byte → Memory
  | m, _, [] => m
  | m, a, b :: t => Memory.write (Tab.put (0 : Byte) m a b) (a + 1) t

/-- `n` bytes from address `a` on. -/
def Memory.bytes (m : Memory) (a n : Nat) : List Byte := (numbers a n).map m.byte

/-- The little-endian word at `a` (R6). -/
def Memory.word (m : Memory) (a : Nat) : Nat := leValue (m.bytes a 4)

/-! ## Entries (R90, R91) -/

/-- The list entry that eight words spell. -/
def entryOf (w : Nat → Nat) : ListEntry :=
  { freq := w 0 + 2 ^ 32 * bitField (w 1) 15 0
    testMask := bitField (w 1) 31 16
    phase := w 2
    amplitude := w 3
    mask := BitVec.ofNat 64 (w 4 + 2 ^ 32 * w 5)
    ctrl := bitField (w 6) 31 28
    segEnd := decide (bitField (w 6) 27 27 = 1)
    stepCtrl := bitField (w 6) 26 25
    src := decide (bitField (w 6) 24 24 = 1)
    code := bitField (w 6) 23 20
    gateProfile := bitField (w 6) 19 16
    target := bitField (w 6) 15 0
    arg := w 7 }

/-- Entry `i` of program memory (R86, R90). -/
def Memory.entry (m : Memory) (i : Nat) : ListEntry := entryOf fun k => m.word (32 * i + 4 * k)

/-- The entries of a range with their indices. -/
def Memory.entries (m : Memory) (first count : Nat) : List (Nat × ListEntry) :=
  (numbers first count).map fun i => (i, m.entry i)

/-- The segment starts of a range (R91): its first entry and every entry behind one with SEG_END. -/
def segStarts (es : List (Nat × ListEntry)) : List Nat :=
  match es with
  | [] => []
  | (i, _) :: _ => i :: (es.filter fun e => e.2.segEnd).map (·.1 + 1)

/-- Entry `i` starts a segment of the range. -/
def Memory.segStart (m : Memory) (first count i : Nat) : Bool :=
  decide (first ≤ i ∧ i < first + count) && (decide (i = first) || (m.entry (i - 1)).segEnd)

/-! ## Validation (R92) -/

/-- AMPLITUDE keeps the bound of R70 for a code profile: at most 7,680 tq when it has two pulses or more. -/
def ampOk (p : CodeProfile) (a : Nat) : Bool := decide (p.n < 2 ∨ a ≤ 7680)

/-- ARG is 0 where CTRL does not use it, and its unused bits are 0 (R91, R99, R100). -/
def argOk (e : ListEntry) : Bool :=
  if e.ctrl = 2 then decide (e.arg < 65536)
  else if e.ctrl = 4 then decide (bitField e.arg 27 20 = 0 ∧ bitField e.arg 29 28 ≤ 2)
  else decide (e.arg = 0)

/-- The fields of an entry by themselves (R91). -/
def fieldsOk (e : ListEntry) : Bool :=
  decide (e.stepCtrl ≤ 2) && decide (e.ctrl ≤ 5) && (e.segEnd || decide (e.ctrl = 0)) &&
    (decide (e.ctrl ≠ 0 ∧ e.ctrl ≠ 5) || decide (e.target = 0)) && argOk e &&
    (e.src || (decide (1 ≤ e.freq) && decide (512 ≤ e.amplitude)))

/-- A placeholder leaves the fields of its granule 0 (R92). -/
def placeholderOk (e : ListEntry) : Bool :=
  !e.src || decide (e.freq = 0 ∧ e.phase = 0 ∧ e.amplitude = 0 ∧ e.mask = 0 ∧ e.code = 0 ∧ e.gateProfile = 0 ∧
    e.testMask = 0)

/-- Entry `i` lies in a stream ring (R88). -/
def State.inRing (s : State) (i : Nat) : Bool :=
  s.sq.seqs.any fun q => decide (q.2.cfg.streamBase ≤ i ∧ i < q.2.cfg.streamBase + q.2.cfg.streamLen)

/-- The first entries of segments of fewer than 4 entries. -/
def shortSegments : Option Nat → Nat → List (Nat × ListEntry) → List Nat
  | _, _, [] => []
  | start, n, (i, e) :: t =>
    let first := start.getD i
    if e.segEnd then (if n + 1 < 4 then [first] else []) ++ shortSegments none 0 t
    else shortSegments (some first) (n + 1) t

/-- The 65th entries of steps that run through more than 64 entries. -/
def longSteps : Nat → List (Nat × ListEntry) → List Nat
  | _, [] => []
  | n, (i, e) :: t =>
    if e.stepCtrl = 1 ∨ e.stepCtrl = 2 then longSteps 1 t
    else (if n = 64 then [i] else []) ++ longSteps (n + 1) t

/-- Placeholders that neither begin a step nor follow a placeholder in their segment. -/
def strayPlaceholders : Bool → List (Nat × ListEntry) → List Nat
  | _, [] => []
  | after, (i, e) :: t =>
    (if e.src && !after && decide (e.stepCtrl ≠ 1 ∧ e.stepCtrl ≠ 2) then [i] else []) ++
      strayPlaceholders (e.src && !e.segEnd) t

/-- TARGETs that are no segment start of the range, and LOOPs that lead forward (R92). `start` is the start of the
entry's own segment. -/
def badTargets (starts : List Nat) (first count : Nat) : Option Nat → List (Nat × ListEntry) → List Nat
  | _, [] => []
  | start, (i, e) :: t =>
    let own := start.getD i
    let uses := e.segEnd && within 1 4 e.ctrl
    let bad := uses && (!(starts.contains e.target && decide (first ≤ e.target ∧ e.target < first + count)) ||
      (decide (e.ctrl = 2) && decide (own < e.target)))
    (if bad then [i] else []) ++ badTargets starts first count (if e.segEnd then none else some own) t

/-- The last entry, when it does not end with JUMP, LOOP or HALT. -/
def badEnd (es : List (Nat × ListEntry)) : List Nat :=
  match es.getLast? with
  | none => []
  | some (i, e) => if e.segEnd && decide (e.ctrl = 1 ∨ e.ctrl = 2 ∨ e.ctrl = 5) then [] else [i]

/-- Every offending entry of a range (R92). -/
def State.offending (s : State) (first count : Nat) : List Nat :=
  let es := s.sq.mem.entries first count
  shortSegments none 0 es ++ badEnd es ++ badTargets (segStarts es) first count none es ++ longSteps 0 es ++
    strayPlaceholders false es ++
    (es.filter fun e => !fieldsOk e.2 || !placeholderOk e.2 || s.inRing e.1 ||
      (!e.2.src && !ampOk (s.code e.2.code) e.2.amplitude)).map (·.1)

/-- The lowest of the offending entries. -/
def lowest : List Nat → Option Nat
  | [] => none
  | i :: t => some (t.foldl min i)

/-! ## Ranges -/

/-- Two ranges of entries share an entry. -/
def overlap (a n b m : Nat) : Bool := decide (a < b + m ∧ b < a + n ∧ 0 < n ∧ 0 < m)

/-- A running sequencer uses the range. -/
def State.rangeUsed (s : State) (r : Nat × Nat) : Bool :=
  s.sq.seqs.any fun q => q.2.running && decide (q.2.cfg.progBase = r.1 ∧ q.2.cfg.progLen = r.2)

/-- Entries that must not be written: they meet a committed range that a running sequencer uses (R87). -/
def State.isProtected (s : State) (first count : Nat) : Bool :=
  s.sq.committed.any fun r => s.rangeUsed r && overlap first count r.1 r.2

/-- The entries that wait in a sequencer's ring (R105), as offsets in the ring. -/
def SeqState.waitingCount (q : SeqState) : Nat :=
  if q.cfg.streamLen = 0 then 0 else (q.wr + q.cfg.streamLen - q.rd) % q.cfg.streamLen

/-- Entry `i` waits in the ring of a sequencer: pushed and not consumed (R88, R105). -/
def SeqState.waitsIn (q : SeqState) (i : Nat) : Bool :=
  decide (q.cfg.streamBase ≤ i ∧ i < q.cfg.streamBase + q.cfg.streamLen) &&
    decide ((i - q.cfg.streamBase + q.cfg.streamLen - q.rd) % q.cfg.streamLen < q.waitingCount)

/-- A range meets an entry that waits in a ring (R88). -/
def State.meetsWaiting (s : State) (first count : Nat) : Bool :=
  s.sq.seqs.any fun q => (numbers first count).any fun i => q.2.waitsIn i

/-- Bytes are written into program memory, and the committed ranges they meet lose their commitment (R87). -/
def State.writeProgram (s : State) (a : Nat) (bs : List Byte) : State :=
  let first := a / 32
  let count := (a + bs.length + 31) / 32 - first
  { s with sq := { s.sq with
      mem := s.sq.mem.write a bs
      committed := s.sq.committed.filter fun r => !overlap first count r.1 r.2 } }

/-! ## Amplitudes of a program -/

/-- The resident entries of a sequencer's program. -/
def State.residents (s : State) (q : SeqState) : List ListEntry :=
  ((s.sq.mem.entries q.cfg.progBase q.cfg.progLen).map (·.2)).filter fun e => !e.src

/-- Some resident AMPLITUDE lies below the LVCMOS floor of R47. -/
def State.lowAmp (s : State) (q : SeqState) : Bool := (s.residents q).any fun e => decide (e.amplitude < 2048)

/-- An EMITTER output in LVCMOS format lies in the rows (R47). -/
def State.lvcmosIn (s : State) (rows : BitVec 64) : Bool :=
  outputNumbers.any fun o => decide ((s.out o).cfg.cls = 0) && decide ((s.out o).fmt = 3) &&
    rows.getLsbD (s.out o).cfg.row

end Sys2Proof.Machine
end

