-- ==== Sys2Proof/Machine/Outputs.lean ====
section
/-! DEFINITION. Commands and happenings of the outputs (R40 to R61, R65, R69, R376, R377). -/

namespace Sys2Proof.Machine

/-! ## OUT_CONFIG (R45, R46) -/

/-- The fields lie in their ranges (R45). -/
def outRanges (c : OutCfg) : Bool :=
  isBit c.enable && decide (c.cls ≤ 3) && decide (c.row ≤ 63) && decide (c.delay < 2 ^ 40) &&
    withinI (-65536) 65535 c.skewBoard && within 512 4294967295 c.width && within 1 8 c.burstN &&
    decide (c.offsets.length = 7) && (c.offsets.all fun x => decide (x < 4294967296)) && isBit c.pol &&
    isBit c.lateExec && decide (c.lateMax ≤ 1024000000)

/-- The EMITTER outputs of a row, rising. -/
def State.emittersOf (s : State) (r : Nat) : List Nat :=
  outputNumbers.filter fun o => decide ((s.out o).cfg.cls = 0 ∧ (s.out o).cfg.row = r)

/-- The start input assigned to a row (R61). -/
def State.staOfRow (s : State) (r : Nat) : Option Nat :=
  (s.tx.stas.find? fun p => decide (p.2.row = r)).map (·.1)

/-- Every row with a start input has exactly one EMITTER output (R61). -/
def State.staRowsOk (s : State) : Bool :=
  s.tx.stas.all fun p => decide (p.2.row = 0x7F) || decide ((s.emittersOf p.2.row).length = 1)

/-- BAD_ARG of OUT_CONFIG (R40, R46, R61, R97). A ROW in use by a program with a small AMPLITUDE is no ground (R47).
Entry 57, DESIGN CHOICE. -/
def State.outConfigBad (s : State) (o : Nat) (c : OutCfg) : Bool :=
  let x := s.out o
  decide (135 < o) || !outRanges c || (decide (128 ≤ o) && decide (c.cls ≠ 3)) ||
    (decide (c.cls ≤ 1) && decide (c.pol = 1 ∨ c.lateExec = 1)) ||
    !burstValid (ownBurst c).1 c.width || (decide (x.fmt = 3) && decide (c.width < 2048)) ||
    !(s.setOut o { x with cfg := c }).staRowsOk ||
    (decide (c.cls ≠ 3) && s.rowInUse c.row && decide (edgeShift c < -12288))

/-- The output is held inactive, with ENABLE 0 or until a new format takes effect: a burst under way ends (R45, R47).
Entry 31, DEDUCED. -/
def State.holdInactive (s : State) (o : Nat) : State :=
  match (s.out o).active with
  | none => s
  | some b =>
    if b.fired then
      let s := (s.closeWindows b s.now).endBurst o (s.darkenNow b) s.now
      s.modOut o fun x => ({ x with active := none } : OutState).advance
    else s

/-- OUT_CONFIG (R23, R45, R46): a change of CLASS is LOCKED from Ranging to the next Ready-idle. Entries that wait are discarded
at their take (R53). Entry 57, DESIGN CHOICE. -/
def execOutConfig (output : Nat) (cfg : OutCfg) : State → Out :=
  cmdRow (.outConfig output cfg) fun s =>
    let x := s.out output
    .plain [(s.outConfigBad output cfg, .badArg), (s.dev.classLocked && decide (cfg.cls ≠ x.cfg.cls), .locked),
            (decide (cfg.enable = 1) && x.fmtBy.isSome, .busy)]
      ((if cfg.enable = 0 then s.holdInactive output else s).modOut output fun x => { x with cfg := cfg })

/-- OUT_FORMAT (R47): a new format takes effect within 10 µs. -/
def execOutFormat (output fmt swing : Nat) : State → Out :=
  cmdRow (.outFormat output fmt swing) fun s =>
    let x := s.out output
    let lowAmp := decide (x.cfg.cls = 0) && decide (fmt = 3) && decide (output < 128) &&
      s.sq.seqs.any fun q => q.2.running && q.2.cfg.rows.getLsbD x.cfg.row && s.lowAmp q.2
    .plain [(decide (135 < output) || decide (3 < fmt) || decide (7 < swing) ||
              (decide (128 ≤ output) && decide (fmt ≠ 3)) ||
              (decide (fmt = 3) && decide (output < 128) && decide (x.cfg.width < 2048)) || lowAmp, .badArg),
            (decide (x.cfg.enable = 1), .busy)]
      ((if fmt = x.fmt then s else s.holdInactive output).modOut output fun x =>
        { x with fmt := fmt, swing := swing, fmtBy := if fmt = x.fmt then x.fmtBy else some (s.clock + 10000) })

/-- The new format takes effect (R47). -/
def execFormatTakesEffect (output : Nat) (s : State) : Out :=
  if 135 < output then .next s
  else .next (s.modOut output fun x => { x with fmtBy := none })

/-! ## OUT_SCHEDULE (R377) -/

/-- The burst of an OUT_SCHEDULE payload: the output's own with N 0 (R43). -/
def scheduleBurst (n w : Nat) (offsets : List Nat) : EntryBurst :=
  if n = 0 then .own else .given (0 :: offsets) w

/-- BAD_ARG of OUT_SCHEDULE (R40, R47, R49, R377). -/
def State.scheduleBad (s : State) (o n w : Nat) (time : FullTime) (offsets : List Nat) : Bool :=
  let x := s.out o
  decide (135 < o) || decide (8 < n) || !time.ok || decide (offsets.length ≠ n - 1) ||
    (offsets.any fun y => decide (4294967295 < y)) ||
    (decide (n ≠ 0) && (!within 512 4294967295 w || !burstValid (0 :: offsets) w)) ||
    (decide (n = 0) && decide (w ≠ 0)) ||
    (decide (x.fmt = 3) && decide ((if n = 0 then x.cfg.width else w) < 2048))

/-- The entry that an OUT_SCHEDULE brings now (R43, R377). -/
def State.commandEntry (s : State) (n w : Nat) (time : FullTime) (offsets : List Nat) : Entry :=
  { src := .command, tTrig := time.tq, gen := 0, burst := scheduleBurst n w offsets, shot := none, came := s.clock }

/-- OUT_SCHEDULE (R43, R51, R54, R377): the entry arrives, and its answer waits for the take.
Entry 57, DESIGN CHOICE. -/
def execOutSchedule (output n w : Nat) (time : FullTime) (offsets : List Nat) : State → Out :=
  cmdRow (.outSchedule output n w time offsets) fun s =>
    let e := s.commandEntry n w time offsets
    let a := s.arrive output e
    .gives [(s.scheduleBad output n w time offsets, .badArg)]
      (match a.2 with
       | .waits => .waits a.1 (.schedule output e)
       | .overrun => .done a.1 (outcomeStatus 3) (outcomeRet 3 0) []
       | .stopped => .done a.1 (outcomeStatus 5) (outcomeRet 5 0) []
       | .notTaken => .done a.1 (outcomeStatus 5) (outcomeRet 5 0) [])

/-! ## Status and counters (R65) -/

/-- OUT_STATUS (R65): flags, counters, ENABLE, CLASS and FMT; row counters for an EMITTER output. -/
def execOutStatus (output dst : Nat) : State → Out :=
  cmdRow (.outStatus output dst) fun s =>
    let x := s.out output
    let r := s.row x.cfg.row
    .block [(decide (135 < output), .badArg)] s dst
      ([fFlags [x.fOverrun, x.fLate, x.fLateExec, x.fConflict], fU32 x.overrun, fU32 x.late, fU32 x.lateExec,
        fU32 x.conflict, fU32 x.darkened, fU32 x.refStop, fU32 x.holdoverEdges, fU32 x.bursts] ++
       (if x.cfg.cls = 0 then [fU32 r.missing, fU32 r.unexpected, fU32 r.overwidth] else []) ++
       [fU8 x.cfg.enable, fU8 x.cfg.cls, fU8 x.fmt])

/-- Flags and counters of one output cleared, with the row counters of an EMITTER output (R65). -/
def State.clearOutput (s : State) (o : Nat) : State :=
  let s := if s.isEmitter o then
      s.modRow (s.out o).cfg.row fun r => { r with missing := 0, unexpected := 0, overwidth := 0 }
    else s
  s.modOut o fun x =>
    { x with fOverrun := false, fLate := false, fLateExec := false, fConflict := false, overrun := 0, late := 0,
             lateExec := 0, conflict := 0, darkened := 0, refStop := 0, holdoverEdges := 0, bursts := 0 }

/-- OUT_COUNTERS_CLEAR (R65). Entry 57, DESIGN CHOICE. -/
def execOutCountersClear (first count : Nat) : State → Out :=
  cmdRow (.outCountersClear first count) fun s =>
    .plain [(decide (136 < first + count ∨ count = 0), .badArg)] (s.each (numbers first count) State.clearOutput)

/-! ## Start inputs and codes (R61, R69) -/

/-- STA_CONFIG (R61). -/
def execStaConfig (sta : Nat) (cfg : StaCfg) : State → Out :=
  cmdRow (.staConfig sta cfg) fun s =>
    let taken := s.tx.stas.any fun p => decide (p.1 ≠ sta) && decide (p.2.row = cfg.row)
    let old := (s.staCfg sta).row
    .plain [(decide (63 < sta) || !(within 0 63 cfg.row || decide (cfg.row = 0x7F)) ||
              decide (1024000 < cfg.latMin) || !within (cfg.latMin + 512) (cfg.latMin + 8192) cfg.latMax ||
              decide (65535 < cfg.widthTol) || !within 1 255 cfg.missLimit ||
              (decide (cfg.row ≠ 0x7F) && (taken || decide ((s.emittersOf cfg.row).length ≠ 1))), .badArg),
            ((decide (old ≠ 0x7F) && s.rowInUse old) || (decide (cfg.row ≠ 0x7F) && s.rowInUse cfg.row), .busy)]
      (s.setStaCfg sta cfg)

/-- CODE_PROFILE_SET (R69). -/
def execCodeProfileSet (profile : Nat) (cfg : CodeProfile) : State → Out :=
  cmdRow (.codeProfileSet profile cfg) fun s =>
    .plain [(decide (15 < profile) || !within 1 4 cfg.n || !isBit cfg.mode || !within 8 40 cfg.spacing1 ||
              !within 8 40 cfg.spacing2 || !within 8 40 cfg.spacing3, .badArg),
            (s.ranging, .locked)]
      (s.setCode profile cfg)

/-! ## The edge generator (R53, R56) -/

/-- The edge generator takes the oldest waiting entry when its next register is free (R53), and none in a warm reset (R398). -/
def execEdgeGeneratorTake (output : Nat) (s : State) : Out :=
  if 135 < output ∨ s.dev.warm then .next s
  else
    let x := s.out output
    match x.sched, x.next with
    | e :: rest, none => .next ((s.setOut output { x with sched := rest }).takeEntry output e)
    | _, _ => .next s

/-- Pulse `i` of a burst rises before the step that cut it (R33). -/
def Burst.before (b : Burst) (i : Nat) : Bool :=
  match b.cutAt with
  | none => true
  | some t => decide (b.rises.getD i 0 < t)

/-- The match windows of the pulses of an EMITTER burst that form (R62). -/
def State.burstWindows (s : State) (b : Burst) : List MatchWin :=
  match s.staOfRow b.row with
  | none => []
  | some k =>
    let c := s.staCfg k
    ((List.range b.rises.length).filter fun i => !b.suppressed.contains i && b.before i).map fun i =>
      let t := b.rises.getD i 0
      { row := b.row, shot := b.shot, k := i, rise := t, lo := t + c.latMin, hi := t + c.latMax, w := b.w }

/-- The first rising edge of the active burst is due at the ball (R56): it leaves, unless the dark path keeps it
from forming (R57). It counts in holdover by the lock at this edge (R60). Entry 57, DESIGN CHOICE. -/
def State.fireBurst (s : State) (o : Nat) (b : Burst) : State :=
  let b := s.darkenNow b
  let counted := if b.emitter && !b.suppressed.contains 0 then [0] else []
  let s := s.modOut o fun x => { x with active := some { b with fired := true, counted := counted } }
  let s := if b.emitter then { s with tx := { s.tx with windows := s.tx.windows ++ s.burstWindows b } } else s
  if b.suppressed.contains 0 then s
  else
    let s := s.modOut o fun x =>
      { x with bursts := x.bursts.inc, holdoverEdges := if s.pll.locked then x.holdoverEdges else x.holdoverEdges.inc }
    let s := if b.emitter then (s.countEmission b.row 1).modShot' b.shot fun x => { x with formed := true } else s
    s.publish (prodFired o) (b.rises.headD 0) b.gen

/-- BURST_FIRED: the active burst's first rising edge has come; with ENABLE 0, as while a new format is awaited, it is not
formed, counted or published (R45, R47). Entry 31, DEDUCED. -/
def execBurstFired (output : Nat) (s : State) : Out :=
  if 135 < output then .next s
  else match (s.out output).active with
    | none => .next s
    | some b =>
      if !b.fired && s.reached (b.rises.headD 0) then
        if (s.out output).fmtBy.isSome ∨ (s.out output).cfg.enable = 0 ∨ s.ballsOff then
          .next (s.modOut output fun x => ({ x with active := none } : OutState).advance)
        else .next (s.fireBurst output b)
      else .next s

/-- BURST_COMPLETE: the last falling edge of the active burst has come, or the burst was cut (R33, R53). -/
def execBurstComplete (output : Nat) (s : State) : Out :=
  if 135 < output then .next s
  else match (s.out output).active with
    | none => .next s
    | some b =>
      if b.fired && (b.cutAt.isSome || s.reached b.stop) then
        let s := s.endBurst output (s.darkenNow b) (b.cutAt.getD b.stop)
        .next (s.modOut output fun x => ({ x with active := none } : OutState).advance)
      else .next s

end Sys2Proof.Machine
end

