-- ==== Sys2Proof/Machine/TestPulses.lean ====
section
/-! DEFINITION. Test pulses and loop-back lanes (R75 to R85). -/

namespace Sys2Proof.Machine

/-! ## Settings and requests -/

/-- TEST_CONFIG (R76). -/
def execTestConfig (output : Nat) (cfg : TestCfg) : State → Out :=
  cmdRow (.testConfig output cfg) fun s =>
    .plain [(decide (127 < output) || !isBit cfg.testAllow || !within 2048 20480 cfg.guard ||
              decide (1024000 < cfg.testOffset), .badArg)]
      (s.setTestCfg output cfg)

/-- A request with this TEST_ID is pending on some lane. -/
def State.testPending (s : State) (id : Nat) : Bool :=
  s.tx.lanes.any fun l => l.2.any fun j => decide (j.req.testId = id) && j.unit.isNone

/-- EARLIEST of a request: 0 stands for now (R84); FNS[5:0] is dropped. Entry 57, DESIGN CHOICE. -/
def State.earliestOf (s : State) (q : TestReq) : Tq :=
  if q.earliest = FullTime.zero then s.now else q.earliest.tq

/-- A request as it enters its lane's queue. -/
def State.testJob (s : State) (q : TestReq) (unit : Option SkewUnit) : TestJob :=
  { req := q, earliest := s.earliestOf q, deadline := s.earliestOf q + q.deadline, placed := none, retries := 0,
    notBefore := if q.mode = 0 then s.earliestOf q else s.now, unit := unit }

/-- TEST_PULSE_REQUEST (R84). -/
def execTestPulseRequest (req : TestReq) : State → Out :=
  cmdRow (.testPulseRequest req) fun s =>
    .gives [(decide (65535 < req.testId) || decide (127 < req.output) || decide (7 < req.lane) ||
              decide (63 < req.channel) || !within 512 32768 req.width || !isBit req.mode || !req.earliest.ok ||
              !within 1024 1024000000 req.deadline || s.testPending req.testId, .badArg),
            (decide ((s.testCfg req.output).testAllow = 0), .refused),
            (decide (16 ≤ (s.lane req.lane).length), .busy),
            (!s.isReady readyPll || !s.isReady (readyHg req.lane), .notReady),
            (decide (s.earliestOf req + req.deadline ≤ s.now), .late)]
      (.done (s.modLane req.lane (· ++ [s.testJob req none])) .accepted [] [])

/-! ## Lanes (R82, R312) -/

/-- LANE_DELAY of a lane (R307, R312). -/
def State.laneDelay (s : State) (l : Nat) : Int := Tab.get 0 (s.calForce calLane) l

/-- The interval in which a placed pulse of a lane injects (R82). -/
def State.injection (s : State) (lane : Nat) (j : TestJob) (p : PlacedTest) : Blanking :=
  { channel := 64 * lane + j.req.channel, lo := p.rise - 2048, hi := p.fall + s.laneDelay lane + 2048,
    interleaved := j.unit.isSome }

/-- A gate that is open in an injection at its channel is marked (R82): CAL when the firmware's interleaved calibration
placed the pulse, SELFTEST otherwise. -/
def Gate.meets (g : Gate) (b : Blanking) : Gate :=
  if g.tOpen < b.hi ∧ b.lo < g.tClose then
    (if b.interleaved then { g with cal := true } else { g with selftest := true })
  else g

/-- An injection marks the gates of its channel (R82). -/
def State.markInjected (s : State) (b : Blanking) : State :=
  s.modChan b.channel fun x => { x with gates := x.gates.map fun g => g.meets b }

/-- An injection that has ended is kept while an edge or a gate of its interval may still come (R82). Entry 56, DEDUCED. -/
def State.keepBlanked (s : State) (b : Blanking) : State :=
  let s := s.markInjected b
  { s with tx := { s.tx with blanked := b :: s.tx.blanked.filter fun x => decide (s.now ≤ x.hi + 32768) } }

/-! ## Records (R85) -/

/-- The record of a lane's request that ends: its rise is 0 when it was never placed. Entry 57, DESIGN CHOICE. -/
def State.testRecord (s : State) (lane : Nat) (j : TestJob) (status : Nat) (measured : Int) : TestRecord :=
    { channel := 64 * lane + j.req.channel, lane := lane, output := j.req.output, retries := min 31 j.retries
      status := status
      shortGuard := match j.placed with
        | some p => p.shortGuard
        | none => false
      inSlot := match j.placed with
        | some p => p.inSlot
        | none => false
      testId := j.req.testId
      widthFormed := match j.placed with
        | some p => if s.reached p.rise then (p.fall - p.rise).toNat else 0
        | none => 0
      rise := match j.placed with
        | some p => p.rise
        | none => 0
      measured := measured }

/-- The sensor of what is measured (R311). -/
def SkewUnit.sensor : SkewUnit → Nat
  | .output n => 8 + n / 16
  | .channel c => c / 64

/-- A measurement of skew tracking comes in (R317): only those with status OK are used, and none of a run that CAL_CONFIG has
ended (R314). -/
def SkewRun.note (r : SkewRun) (u : SkewUnit) (m : Int) : SkewRun :=
  if u.sensor ≠ r.sensor then r
  else match u with
  | .output n => { r with outM := r.outM ++ [(n, m)] }
  | .channel c => { r with inM := r.inM ++ [(c, m)] }

/-- A lane's head request ends and the next one is served: what its pulse injected marks gates and blanks edges; its
record is kept among the 256 newest, or its measurement noted where the firmware's calibration asked for it.
Entry 57, DESIGN CHOICE. -/
def State.finishTest (s : State) (lane : Nat) (j : TestJob) (status : Nat) (measured : Int) : State :=
  let s := s.modLane lane fun q => q.drop 1
  let s := match j.placed with
    | some p => if s.reached (p.rise - 2048) then s.keepBlanked (s.injection lane j p) else s
    | none => s
  match j.unit with
  | none => { s with tx := { s.tx with records := (s.testRecord lane j status measured :: s.tx.records).take 256 } }
  | some u =>
    if status = 0 then { s with cal := { s.cal with track := s.cal.track.map (·.note u measured) } } else s

/-- A pulse under way ends now (R81, R85): one whose rising edge lies within the present cycle has formed nothing. -/
def PlacedTest.stopAt (p : PlacedTest) (t : Tq) : PlacedTest :=
  if p.rise < t + 1024 ∧ t < p.fall then { p with fall := max p.rise t } else p

/-- Every request of a lane ends with status REFERENCE (R81). -/
def State.dropTests (s : State) : State :=
  s.each (List.range 8) fun s l =>
    (s.lane l).foldl (fun s j => s.finishTest l { j with placed := j.placed.map (·.stopAt s.now) } 4 0) s

/-- The record of 16 bytes (R85). -/
def testRecordFields (r : TestRecord) : List Fld :=
  let n := (r.rise % tqPerSec).toNat
  [fU32 (r.channel * 2 ^ 23 + r.lane * 2 ^ 20 + r.output * 2 ^ 13 + r.retries * 2 ^ 8 + r.status * 16 +
      r.shortGuard.toNat * 8 + r.inSlot.toNat * 4),
   fU32 (r.testId * 2 ^ 16 + r.widthFormed % 65536),
   fU32 (n / 1024 % 2 ^ 22 * 1024 + n % 1024),
   fS32 r.measured]

/-- TEST_RESULT_READ (R84, R85, R385). -/
def execTestResultRead (testId : Nat) : State → Out :=
  cmdRow (.testResultRead testId) fun s =>
    let r := s.tx.records.find? fun r => decide (r.testId = testId)
    .returns [(!s.testPending testId && r.isNone, .badArg), (s.testPending testId, .busy)] s
      ((r.map testRecordFields).getD [])

/-! ## Placement (R77, R78) -/

/-- The bursts that an output holds: both registers and the waiting entries (R77). -/
def State.heldBursts (s : State) (o : Nat) : List Burst :=
  let x := s.out o
  x.active.toList ++ x.next.toList ++ x.sched.map fun e => burstOf x e 0 0

/-- The protected intervals of an output (R77): those of the bursts it holds, and G after the last falling edge that a burst
has left. One that a step has cut ends there (R33). -/
def State.protectedOf (s : State) (o : Nat) : List (Tq × Tq) :=
  (s.out o).lastFall.toList.map (fun f => (f, f + s.guardOf o)) ++
    ((s.heldBursts o).filter fun b => b.cutAt.isNone).map fun b => (b.rises.headD 0 - s.guardOf o, b.stop + s.guardOf o)

/-- One pass over the intervals: `t` moves behind each that [t, t + w] meets; one that only touches is clear. Entry 56,
DEDUCED. Entry 57, DESIGN CHOICE. -/
def pushPast (w : Int) (t : Tq) (is : List (Tq × Tq)) : Tq :=
  is.foldl (fun t i => if t < i.2 ∧ i.1 < t + w then i.2 else t) t

/-- The first time from `t` on that is clear of every interval: as many passes as there are intervals reach it. -/
def firstClear (w : Int) (is : List (Tq × Tq)) : Nat → Tq → Tq
  | 0, t => t
  | n + 1, t => firstClear w is n (pushPast w t is)

/-- The sequencer of an output: the lowest-numbered running one whose ROWS holds the output's row (R89). -/
def State.seqOfOutput (s : State) (o : Nat) : Option Nat :=
  (List.range 8).find? fun n => (s.seq n).running && (s.seq n).cfg.rows.getLsbD (s.out o).cfg.row

/-- The time from which a request may be placed (R78): none while its test slot has not come, which is the last one
reserved while its place is not past. One that was suppressed waits for the next free gap (R79). Entry 56, DEDUCED.
Entry 57, DESIGN CHOICE. -/
def State.testFrom (s : State) (j : TestJob) : Option Tq :=
  if j.req.mode = 0 ∨ 0 < j.retries then some (max j.notBefore s.now)
  else match s.seqOfOutput j.req.output with
    | none => none
    | some n => match (s.seq n).testSlot with
      | none => none
      | some t =>
        let t := t + (s.testCfg j.req.output).testOffset
        if s.now ≤ t then some t else none

/-- A queued test pulse is placed, or ends EXPIRED when its place would pass the deadline (R77 to R79); an output whose
TEST_ALLOW has become 0 takes none (R76). Entry 57, DESIGN CHOICE. -/
def execTestPulsePlace (lane : Nat) (s : State) : Out :=
  if 7 < lane then .next s
  else if !s.pll.locked then .next s
  else match s.lane lane with
    | [] => .next s
    | j :: rest =>
      match j.placed, s.testFrom j with
      | none, some t =>
        if (s.testCfg j.req.output).testAllow = 0 then .next s else
        let is := s.protectedOf j.req.output
        let t := firstClear j.req.width is is.length t
        if j.deadline < t + j.req.width then .next (s.finishTest lane j 2 0)
        else
          let p : PlacedTest :=
            { rise := t, fall := t + j.req.width, cut := false, shortGuard := false, guard := (s.testCfg j.req.output).guard,
              inSlot := decide (j.req.mode = 1 ∧ j.retries = 0) }
          .next (s.setLane lane ({ j with placed := some p } :: rest))
      | _, _ => .next s

/-- A formed test pulse yields its stamp, or none within 64 ns (R83): OK or TRUNCATED with the measured value, or
NO_HIT. Entry 57, DESIGN CHOICE. -/
def execTestPulseResult (lane : Nat) (stamp : Option Tq) (s : State) : Out :=
  if 7 < lane then .next s
  else match s.lane lane with
    | [] => .next s
    | j :: _ =>
      match j.placed with
      | none => .next s
      | some p =>
        if !s.reached p.fall then .next s
        else match stamp with
          | some t =>
            if p.rise ≤ t ∧ t ≤ p.rise + 65536 then
              .next (s.finishTest lane j (if p.cut then 1 else 0) (t - p.rise - s.laneDelay lane))
            else .next s
          | none => if s.reached (p.rise + 65536) then .next (s.finishTest lane j 3 0) else .next s

/-- A test pulse not placed before its DEADLINE ends EXPIRED (R79). -/
def execTestPulseDeadline (lane : Nat) (s : State) : Out :=
  if 7 < lane then .next s
  else match s.lane lane with
    | [] => .next s
    | j :: _ => if j.placed.isNone && s.reached j.deadline then .next (s.finishTest lane j 2 0) else .next s

end Sys2Proof.Machine
end

