-- ==== Sys2Proof/Machine/Modulator.lean ====
section
/-! DEFINITION. The fractional-N modulator of the timing PLL, and the LFSR of R71 that it shares with the codes (R71, R234,
R238, R239). -/

namespace Sys2Proof.Machine

/-! ## The LFSR (R71) -/

/-- One clock of the LFSR. -/
def lfsrClock (x : Nat) : Nat :=
  x * 2 % 2 ^ 24 + (bitField x 23 23 + bitField x 22 22 + bitField x 21 21 + bitField x 16 16) % 2

/-- `n` clocks of the LFSR. -/
def lfsrClocks : Nat → Nat → Nat
  | 0, x => x
  | n + 1, x => lfsrClocks n (lfsrClock x)

/-! ## The divide ratio (R234, R239) -/

/-- The stated frequency of a reference. -/
def refFreq (c : PllRefCfg) (k : Nat) : Nat := if k = 0 then c.refaFreq else c.refbFreq

/-- The divider of a reference. -/
def refDiv (c : PllRefCfg) (k : Nat) : Nat := if k = 0 then c.refaRdiv else c.refbRdiv

/-- N_NOM in 2^-48. -/
def nNom (dt freq rdiv : Nat) : Int := roundDiv ((dt * 1000000000 * rdiv * 2 ^ 48 : Nat) : Int) freq

/-- N_EFF in 2^-48 for a rate in 2^-48. -/
def nEff (dt freq rdiv : Nat) (rate : Int) : Nat :=
  (roundDiv (nNom dt freq rdiv * (2 ^ 48 + rate)) (2 ^ 48)).toNat

/-- N_EFF of the plan, the reference in use and the rate that the loop has reached. -/
def Pll.nEff (p : Pll) : Nat := Machine.nEff p.cfg.dt (refFreq p.refCfg p.refInUse) (refDiv p.refCfg p.refInUse) p.rate

/-- N_EFF as PLL_STATUS returns it. -/
def State.nEffNow (s : State) : Nat := s.pll.nEff

/-- The most that the rate moves in one PFD cycle (R239): 10 ppm per µs, in 2^-48. -/
def rampStep (freq rdiv : Nat) : Int := (2 ^ 48 * 10 * rdiv / freq : Nat)

/-- The rate one PFD cycle nearer to the applied RATE (R239). -/
def rampTo (rate target most : Int) : Int := clamp (rate - most) (rate + most) target

/-! ## The modulator (R238) -/

/-- The modulator at an acquisition of lock: accumulators clear, the LFSR loaded. -/
def Modulator.load (seed : Nat) : Modulator := { acc1 := 0, acc2 := 0, acc3 := 0, lfsr := BitVec.ofNat 24 seed, phase := 0 }

/-- One PFD cycle: with dither the LFSR is clocked once and its bit 0 added; three accumulators in a row take the fraction
of N_EFF. Entry 34, PRESUMED. -/
def Modulator.cycle (m : Modulator) (dither : Bool) (frac : Nat) : Modulator :=
  let l := if dither then BitVec.ofNat 24 (lfsrClock m.lfsr.toNat) else m.lfsr
  let bit : BitVec 48 := if dither && l.getLsbD 0 then 1 else 0
  let a := m.acc1 + BitVec.ofNat 48 frac + bit
  let b := m.acc2 + a
  { m with acc1 := a, acc2 := b, acc3 := m.acc3 + b, lfsr := l }

/-- One PFD cycle of the locked loop: the rate ramps, the modulator runs. -/
def Pll.pfdCycle (p : Pll) (target : Int) : Pll :=
  let p := { p with rate := rampTo p.rate target (rampStep (refFreq p.refCfg p.refInUse) (refDiv p.refCfg p.refInUse)) }
  { p with modulator := p.modulator.cycle (decide (p.acq.ditherEn = 1)) (p.nEff % 2 ^ 48) }

/-- One nanosecond of the loop: F_PFD is below 1 GHz, so at most one PFD cycle ends in it; `phase` is the part of a cycle
gone by, in nanoseconds times F_REF. Entry 2, DESIGN CHOICE. -/
def State.runLoop (s : State) : State :=
  let p := s.pll
  if !p.locked then s
  else
    let whole := 1000000000 * refDiv p.refCfg p.refInUse
    let n := p.modulator.phase + refFreq p.refCfg p.refInUse
    let p := { p with modulator := { p.modulator with phase := n % whole } }
    { s with pll := if n < whole then p else p.pfdCycle s.rateNow }

end Sys2Proof.Machine
end

