-- ==== Sys2Proof/Machine/Time.lean ====
section
/-! DEFINITION. Polestar: counting, steps and the time epoch, snapshots, alarms, and the SYNC pins (R27 to R36,
R130, R131, R264, R374). -/

namespace Sys2Proof.Machine

/-! ## Steps (R32, R33, R36, R124, R127) -/

/-- A gate of the channel is open (R143): at the ball time `t`, it is armed, not refused, and holds `t`. -/
def Gate.openAt (g : Gate) (t : Tq) : Bool :=
  (decide (g.life = .armed) || decide (g.life = .opened)) && decide (g.tOpen ≤ t ∧ t < g.tClose)

/-- Some gate is open: one that is closed and draining is not (R33). -/
def State.gateOpen (s : State) : Bool := s.rx.channels.any fun c => c.2.gates.any fun g => g.openAt s.now

/-- A step by `d` is accepted: forward, or with no sequencer running and no gate open (R32). Entry 22, DEDUCED. -/
def State.stepAllowed (s : State) (d : Int) : Bool := decide (0 ≤ d) || (!s.anyRunning && !s.gateOpen)

/-- The time of instance `k` of an alarm (R35). -/
def Alarm.instanceAt (a : Alarm) (k : Nat) : Tq := a.cfg.time.tq + (k : Int) * a.cfg.period

/-- Instances of an alarm from its next one on that lie before `t`: one at most for a one-shot alarm. -/
def Alarm.skippedBefore (a : Alarm) (t : Tq) : Nat :=
  if t ≤ a.instanceAt a.next then 0
  else if a.cfg.period = 0 then 1
  else ((t - a.instanceAt a.next + (a.cfg.period : Int) - 1) / a.cfg.period).toNat

/-- An alarm at an accepted step to `t` (R36): EPOCH_HOLD disarms it; a forward step publishes the earliest skipped
instance and counts the others. Entry 23, DEDUCED. -/
def State.stepAlarm (s : State) (t : Tq) (n : Nat) : State :=
  let a := s.alarm n
  if !a.armed then s
  else if a.cfg.epochHold = 1 then s.setAlarm n { a with armed := false }
  else
    match a.skippedBefore t with
    | 0 => s
    | m + 1 =>
      (s.setAlarm n { a with next := a.next + m + 1, skipped := a.skipped.add m,
                             armed := decide (a.cfg.period ≠ 0) }).publish (prodAlarm n) (a.instanceAt a.next) 0

/-- A gate that was armed before the step and had not reached its t_close is open across it (R33). -/
def stepGate (old : Tq) (g : Gate) : Gate :=
  if g.life ≠ .drained ∧ old < g.tClose then { g with epochChanged := true } else g

/-- A channel at an accepted step: gates whose t_close lies in the skipped interval close at the step (R170); after a
backward one no stamp of the new scale has passed (R184). -/
def stepChannel (old new : Tq) (c : Channel) : Channel :=
  { c with
    gates := c.gates.map (stepGate old)
    passed := if new < old then none else c.passed
    gatesCut := c.gatesCut.add (c.gates.filter fun g => decide (g.life ≠ .drained ∧ old < g.tClose ∧ g.tClose ≤ new)).length }

/-- An input at an accepted step: its converters are busy, and its stamps under way, for as long as before (R141, R148).
Entry 22, DEDUCED. -/
def stepInput (d : Int) (x : InputState) : InputState :=
  { x with
    path := x.path.map (fun p => { p with tEdge := p.tEdge + d, moved := p.moved + d, backed := p.backed || decide (d < 0) })
    convs := x.convs.map fun (k, c) => (k, { c with busyUntil := c.busyUntil + d }) }

/-- A trigger input at an accepted step: the edges that it compares new ones with move with the scale (R37, R153). -/
def stepTrg (d : Int) (x : Trg) : Trg :=
  { x with lastEdge := x.lastEdge.map (· + d), levels := x.levels.map fun (t, l) => (t + d, l) }

/-- A placed test pulse at a forward step from `old` to `new` (R33): one in the skipped interval is placed again, one
under way ends at the step instant. Entry 56, DEDUCED. Entry 57, DESIGN CHOICE. -/
def stepTest (old new : Tq) (j : TestJob) : TestJob :=
  match j.placed with
  | none => j
  | some p =>
    if old ≤ p.rise ∧ p.rise < new then
      { j with placed := none, retries := min 31 (j.retries + 1), notBefore := max j.notBefore new }
    else if p.rise < old ∧ old < p.fall then { j with placed := some { p with fall := old, cut := true } }
    else j

/-- An estimator's edges move with the scale (R124). -/
def stepEstimator (d : Int) (e : Estimator) : Estimator :=
  { e with edges := e.edges.map fun x => { x with t := x.t + d } }

/-- An encoder's last stamps move with the scale (R124). -/
def stepEncoder (d : Int) (e : Encoder) : Encoder :=
  { e with lastA := e.lastA.map (· + d), lastB := e.lastB.map (· + d), lastCounted := e.lastCounted.map (· + d) }

/-- A sequencer at an accepted step: in the angle domain its last fire time moves with the trajectory; in the time
domain slots whose issue time was skipped play dark (R124, R127). -/
def stepSeq (d : Int) (new : Tq) (q : SeqState) : SeqState :=
  if q.cfg.domain = 0 then { q with lastFire := q.lastFire.map (· + d), stepTo := q.stepTo.map (· + d) }
  else if 0 < d then { q with stepTo := some new } else q

/-- PERIOD in tq. -/
def syncPeriod (c : SyncCfg) : Int := (c.period : Int) * 1024000000

/-- The grid time of number `n`. Entry 25, DEDUCED. -/
def syncGrid (c : SyncCfg) (n : Int) : Tq := c.g0.tq + n * syncPeriod c

/-- The number of the first grid time after `t`, not below 0. -/
def syncNext (c : SyncCfg) (t : Tq) : Int := max 0 ((t - c.g0.tq) / syncPeriod c + 1)

/-- A waiting table takes effect at its whole PERIOD (R130): offsets and counters go on. Entry 57, DESIGN CHOICE. -/
def State.settleSync (s : State) : State :=
  match s.tb.sync.pending with
  | none => s
  | some (c, t) =>
    if s.reached t then
      { s with tb := { s.tb with sync := { s.tb.sync with
        cfg := c, pending := none, nextPulse := syncNext c (t - 1), nextCheck := syncNext c (t - 1) } } }
    else s

/-- The SYNC pins at an accepted step by `d` to `new` (R33, R130): the pulses go on with the first grid time not before the
new time, a repeated pulse in the skipped interval is not sent, a table whose PERIOD was skipped waits for the next one.
Entry 25, DEDUCED. -/
def stepSync (d : Int) (new : Tq) (y : Sync) : Sync :=
  { y with
    stamps := y.stamps.map (· + d)
    ball := y.ball.map fun (r, f) => (r + d, f + d)
    pending := y.pending.map fun (c, t) => (c, if t < new then syncGrid c (syncNext c (new - 1)) else t)
    repeats := if d < 0 then y.repeats.map (· + d) else y.repeats.filter fun t => decide (new ≤ t)
    nextPulse := syncNext y.cfg (new - 1)
    nextCheck := syncNext y.cfg (new - 1) }

/-- A running clock output keeps its phase across a step by `d`, and a pulse that is ending its place (R246). -/
def Cko.move (c : Cko) (d : Int) : Cko :=
  { c with
    origin := if c.gated then c.origin else c.origin + d
    starts := c.starts + d * 1980
    tail := c.tail.map fun (r, f) => (r + d * 1980, f + d * 1980) }

/-- The parts of the device that compare times of before and after an accepted step by `d` (R33, R37, R57, R58, R77, R246).
Entry 22, DEDUCED. -/
def State.stepScale (s : State) (d : Int) (old : Tq) : State :=
  let trgs := s.tb.trgs.map fun (k, x) => (k, stepTrg d x)
  let inputs := s.rx.inputs.map fun (k, x) => (k, stepInput d x)
  let outs := s.tx.outs.map fun (k, x) => (k, { x with lastFall := x.lastFall.map (· + d) })
  let lanes := if 0 < d then s.tx.lanes.map fun (k, l) => (k, l.map (stepTest old (old + d))) else s.tx.lanes
  let blanked := s.tx.blanked.map fun b => { b with lo := b.lo + d, hi := b.hi + d }
  let ckos := s.pll.ckos.map fun (k, c) => (k, c.move d)
  { s with
    tb := { s.tb with trgs := trgs, sync := stepSync d (old + d) s.tb.sync }
    rx := { s.rx with inputs := inputs }
    tx := { s.tx with outs := outs, lanes := lanes, blanked := blanked }
    pll := { s.pll with ckos := ckos, resetting := s.pll.resetting.map (· + d) }
    net := { s.net with heard := s.net.heard.map (· + d) }
    sv := { s.sv with darkSince := min s.sv.darkSince (old + d), darkWas := none } }

/-- An accepted Polestar step by `d`, a whole number of nanoseconds (POLESTAR_STEP, R32, R33, R36).
Entry 22, DEDUCED. Entry 57, DESIGN CHOICE. -/
def State.polestarStep (s : State) (d : Int) : State :=
  let old := s.now
  let new := FullTime.ofTq (old + d)
  let s := s.settleSync
  let s := (if 0 < d then s.stepOutputs old (old + d) else s).stepScale d old
  let tb := { s.tb with sec := new.sec, ns := new.ns.toNat, epoch := s.tb.epoch + 1 }
  let channels := s.rx.channels.map fun (k, c) => (k, stepChannel old (old + d) c)
  let encoders := s.scan.encoders.map fun (k, e) => (k, stepEncoder d e)
  let estimators := s.scan.estimators.map fun (k, e) => (k, stepEstimator d e)
  let seqs := s.sq.seqs.map fun (k, q) => (k, stepSeq d (old + d) q)
  let s := { s with
    tb := tb
    rx := { s.rx with channels := channels }
    scan := { s.scan with encoders := encoders, estimators := estimators }
    sq := { s.sq with seqs := seqs } }
  let s := s.each (List.range 16) fun s n => s.stepAlarm s.now n
  s.publish prodStep s.now 0

/-- SEC[63:48] becomes `v` (R27): an accepted step of the difference times 2^48 s, with every effect of one. -/
def State.setSecHi (s : State) (v : BitVec 16) : State :=
  let d := ((v.toNat : Int) - (s.tb.sec.toNat / 2 ^ 48 : Nat)) * 2 ^ 48 * tqPerSec
  ({ s with tb := { s.tb with pendingSecHi := none } } : State).polestarStep d

/-- A pending SEC[63:48] takes effect when the step is allowed (R27, R32). Entry 22, DEDUCED. -/
def State.applySecHi (s : State) : State :=
  match s.tb.pendingSecHi with
  | none => s
  | some v => if s.tb.sec.toNat / 2 ^ 48 ≤ v.toNat ∨ s.stepAllowed (-1) then s.setSecHi v else s

/-- READY with the HG bits and the ENGINES bit clear (R392). -/
def bistClears (r : BitVec 27) : BitVec 27 :=
  (List.range 8).foldl (fun r k => setBit r (readyHg k) false) (setBit r readyEngines false)

/-- No bank holds a step: the jobs of the last one have ended. -/
def State.banksIdle (s : State) : Bool :=
  s.hist.banks.all fun b => decide (b.2.state = .free) || decide (b.2.state = .held)

/-- A whole-memory BIST that is scheduled begins in Ready-idle (R316, R392), once no bank holds a step, whose jobs R403 keeps.
Entry 44, DEDUCED. -/
def State.startBist (s : State) : State :=
  if (s.calRunState 3).scheduled.isEmpty ∨ s.dev.bist ∨ s.dev.run ≠ .readyIdle ∨ !s.banksIdle then s
  else
    let s := s.modCalRunState 3 fun r => { r with scheduled := [], asked := [] }
    let ready := s.dev.ready
    ((({ s with dev := { s.dev with bist := true, bistReady := ready } } : State).setReadyAll (bistClears ready))).refreshFs

/-- The device enters Ready-idle: classes may change again, a pending SEC[63:48] takes effect, a waiting BIST begins (R22,
R23, R27, R392). -/
def State.enterReadyIdle (s : State) : State :=
  (({ s with dev := { s.dev with run := .readyIdle, classLocked := false } } : State).applySecHi).startBist

/-! ## Counting (R27) -/

/-- The present TCK cycle is the last before a carry of SEC[47:0]. Entry 2, DESIGN CHOICE. -/
def State.atSecCarry (s : State) : Bool :=
  decide (s.tb.ns = 999999999 ∧ s.tb.sec.toNat % 2 ^ 48 = 2 ^ 48 - 1) && !s.dev.rstLow

/-- Polestar counts one nanosecond (R27). -/
def State.count (s : State) : State :=
  let s := { s with clock := s.clock + 1 }
  if s.tb.ns < 999999999 then { s with tb := { s.tb with ns := s.tb.ns + 1 } }
  else { s with tb := { s.tb with ns := 0, sec := s.tb.sec + 1 } }

/-- One TCK cycle: Polestar and the loop advance by 1 ns; at a carry of SEC[47:0] a pending SEC[63:48] takes effect (R27).
While the cold reset is held Polestar stands at 0:0:0 (R28, R388), and the true time alone goes on. Entry 2, DESIGN CHOICE. -/
def State.tick (s : State) : State :=
  if s.dev.rstLow then { s with clock := s.clock + 1 }
  else
    let t := s.runLoop.count
    if s.atSecCarry then t.applySecHi else t

/-- SEC_CARRY (R27): the TCK cycle in which SEC[47:0] carries. -/
def execSecCarry (s : State) : Out := if s.atSecCarry then .next s.tick else .next s

/-! ## Time commands (R374) -/

/-- The number of a time-base source (R39). Entry 4, DEDUCED. -/
def TbSource.code : TbSource → Nat
  | .free => 0
  | .locked => 1
  | .holdover => 2

/-- TIME_STATUS (R374). -/
def execTimeStatus : State → Out :=
  cmdRow .timeStatus fun s =>
    .returns [] s [fU8 s.tb.source.code, fBool s.net.stepRefused, fU16 s.tb.epoch.toNat, fS32 s.rateNow,
      fU32 (s.tb.alarms.foldl (fun n a => Count.add n a.2.skipped) 0)]

/-- A port is in the slave state. -/
def State.anySlave (s : State) : Bool := s.net.ports.any fun p => decide (p.2.run = .slave)

/-- TIME_SET (R32, R265). Entry 22, DEDUCED. -/
def execTimeSet (time : FullTime) : State → Out :=
  cmdRow (.timeSet time) fun s =>
    let s' := s.polestarStep (time.tq - s.now)
    .returns [(!time.ok || decide (time.fns ≠ 0), .badArg), (s.anySlave, .locked),
              (!s.isReady readyTimebase, .notReady), (!s.stepAllowed (time.tq - s.now), .refused)]
      s' [fU16 s'.tb.epoch.toNat]

/-- TIME_SET_SEC_HI (R27). -/
def execTimeSetSecHi (secHi : Nat) : State → Out :=
  cmdRow (.timeSetSecHi secHi) fun s =>
    let s' := { s with tb := { s.tb with pendingSecHi := some (BitVec.ofNat 16 secHi) } }
    .plain [(decide (65535 < secHi), .badArg)] (if s.dev.run = .readyIdle then s'.applySecHi else s')

/-- The mean of the last four offsets; `free` before any is measured (entry 16, DESIGN CHOICE). -/
def meanOffset (os : List Int) (free : Int) : Int :=
  match os with
  | [] => free
  | _ => roundDiv (os.foldl (· + ·) 0) os.length

/-- The span of SEC[47:0] in tq: what PTP writes (R265). -/
def ptpSpan : Int := 2 ^ 48 * tqPerSec

/-- The step of TIME_STEP_ACCEPT (R264): minus the reported mean offset, to the nearest whole nanosecond, within the span of
SEC[47:0], since SEC[63:48] never changes by PTP (R265). Entry 22, DEDUCED. -/
def State.acceptStep (s : State) : Int :=
  let m := s.now % ptpSpan
  (m + roundAway (-(meanOffset s.net.offsets (Config.unmeasured s.fresh))) 1024 * 1024) % ptpSpan - m

/-- TIME_STEP_ACCEPT (R264). Entry 22, DEDUCED. -/
def execTimeStepAccept : State → Out :=
  cmdRow .timeStepAccept fun s =>
    let d := s.acceptStep
    let s' := s.draw.polestarStep d
    let s' := { s' with net := { s'.net with stepRefused := false, offsets := [], bigRun := 0, smallRun := 0 } }
    .returns [(!s.net.stepRefused, .badArg), (decide (s.tb.source = .holdover), .notReady),
              (!s.stepAllowed d, .refused)]
      s' [fS64 d, fU16 s'.tb.epoch.toNat]

/-! ## Snapshots (R34, R422) -/

/-- SNAPSHOT_CAPTURE (R34): the capture that a trigger asked for is made in this TCK cycle. -/
def execSnapshotCapture (s : State) : Out :=
  if s.tb.snap.pending then
    .next { s with tb := { s.tb with
      snap := { pending := false, source := s.tb.source.code, epoch := s.tb.epoch, ns := BitVec.ofNat 30 s.tb.ns,
                sec := s.tb.sec } } }
  else .next s

/-! ## Alarms (R35, R36) -/

/-- ALARM_SET (R35, R36). Entry 23, DEDUCED. -/
def execAlarmSet (alarm : Nat) (cfg : AlarmCfg) : State → Out :=
  cmdRow (.alarmSet alarm cfg) fun s =>
    .plain [(decide (15 < alarm) || !cfg.time.ok || !cfg.time.onTq ||
              !(decide (cfg.period = 0) || within 1024000 1099511627775 cfg.period) || !isBit cfg.enable ||
              !isBit cfg.epochHold, .badArg),
            (decide (cfg.enable = 1 ∧ cfg.time.tq < s.now), .late)]
      (s.modAlarm alarm fun a => { a with cfg := cfg, armed := decide (cfg.enable = 1), next := 0 })

/-- ALARM_CANCEL (R374). -/
def execAlarmCancel (alarm : Nat) : State → Out :=
  cmdRow (.alarmCancel alarm) fun s =>
    .plain [(decide (15 < alarm), .badArg)] (s.modAlarm alarm fun a => { a with armed := false })

/-- ALARM_INSTANCE (R35): Polestar has reached the next instance, which publishes at generation 0. -/
def execAlarmInstance (alarm : Nat) (s : State) : Out :=
  if 15 < alarm then .next s
  else
    let a := s.alarm alarm
    if a.armed && s.isReady readyTimebase && s.reached (a.instanceAt a.next) then
      .next ((s.setAlarm alarm { a with next := a.next + 1, armed := decide (a.cfg.period ≠ 0) }).publish
        (prodAlarm alarm) (a.instanceAt a.next) 0)
    else .next s

/-! ## SYNC pins (R130, R131, R374) -/

/-- SYNC_CONFIG (R130): the change takes effect at the next whole PERIOD after G0. -/
def execSyncConfig (cfg : SyncCfg) : State → Out :=
  cmdRow (.syncConfig cfg) fun s =>
    let s' := s.settleSync
    .plain [(decide (2 < cfg.mode) || !cfg.g0.ok || !cfg.g0.onTq || !within 1 1000 cfg.period ||
              decide (4294967295 < cfg.cableDelay) || !within 1 256 cfg.avg, .badArg)]
      { s' with tb := { s'.tb with sync := { s'.tb.sync with
        pending := some (cfg, syncGrid cfg (syncNext cfg s.now)) } } }

/-- SYNC_RESULT (R131): of the last AVG pulses; with none received the three values are free (entry 16, DESIGN CHOICE).
A value outside 32 bits is returned modulo 2^32. Entry 57, DESIGN CHOICE. Entry 25, DEDUCED. -/
def execSyncResult : State → Out :=
  cmdRow .syncResult fun s =>
    let s := s.settleSync
    let y := s.tb.sync
    let os := y.offsets.take y.cfg.avg
    match os with
    | [] => .returns [] s.draw.draw.draw [fS32 (Config.unmeasured s.fresh), fS32 (Config.unmeasured (s.fresh + 1)),
        fS32 (Config.unmeasured (s.fresh + 2)), fU32 y.received, fU32 y.missing]
    | o :: t => .returns [] s [fS32 (roundDiv (t.foldl (· + ·) o) os.length), fS32 (t.foldl min o),
        fS32 (t.foldl max o), fU32 y.received, fU32 y.missing]

/-- The width of a SYNCO pulse, 100 ns (R130). -/
def syncWidth : Tq := 102400

/-- The pulse that SYNCO drives from `t` on, with one before it that has not ended: the ball stays high.
Entry 25, DEDUCED. -/
def syncoFrom (ball : Option (Tq × Tq)) (t : Tq) : Tq × Tq :=
  match ball with
  | none => (t, t + syncWidth)
  | some (r, f) => (if r ≤ t ∧ t ≤ f then r else t, t + syncWidth)

/-- SYNCO drives a pulse from `t` on. -/
def State.pulseSynco (s : State) (t : Tq) : State :=
  ({ s with tb := { s.tb with sync := { s.tb.sync with ball := some (syncoFrom s.tb.sync.ball t) } } } : State).log
    (.synco t (t + syncWidth))

/-- SYNCO_PULSE (R130): SYNCO drives the pulse that repeats the oldest SYNCI stamp 20,480 tq after it, or in mode 1 that of its
grid time. A repeat that is due behind a change of the table is still sent. Entry 25, DEDUCED. -/
def execSyncoPulse (s : State) : Out :=
  let s := s.settleSync
  let y := s.tb.sync
  let grid := syncGrid y.cfg y.nextPulse
  let onGrid : Out :=
    if y.cfg.mode = 1 ∧ s.reached grid then
      .next (({ s with tb := { s.tb with sync := { y with nextPulse := y.nextPulse + 1 } } } : State).pulseSynco grid)
    else .next s
  match y.repeats with
  | [] => onGrid
  | t :: rest =>
    if s.reached t then .next (({ s with tb := { s.tb with sync := { y with repeats := rest } } } : State).pulseSynco t)
    else onGrid

/-- How near to its grid time a pulse is not missed, 10 µs (R131). -/
def syncNear : Tq := 10240000

/-- SYNC_MISSING (R131): a grid time has passed with no pulse within ±10 µs. Entry 25, DEDUCED. -/
def execSyncMissing (s : State) : Out :=
  let s := s.settleSync
  let y := s.tb.sync
  let g := syncGrid y.cfg y.nextCheck
  if y.cfg.mode ≠ 1 ∧ s.reached (g + syncNear) then
    .next { s with tb := { s.tb with
      sync := { y with
        missing := if y.stamps.any fun t => decide ((t - g).natAbs ≤ syncNear) then y.missing else y.missing.inc
        stamps := y.stamps.filter fun t => decide (g + syncNear < t)
        nextCheck := y.nextCheck + 1 } } }
  else .next s

end Sys2Proof.Machine
end

