-- ==== Sys2Proof/Machine/Results.lean ====
section
/-! DEFINITION. Results: record formats, stream numbers, credits, release into batches, delivery, and the journal's
commits (R197, R200, R208 to R215, R403 to R411). -/

namespace Sys2Proof.Machine

/-! ## Records (R209 to R211) -/

/-- A record of four words. -/
def recOf (w0 w1 w2 w3 : Nat) : Rec :=
  { w0 := BitVec.ofNat 32 w0, w1 := BitVec.ofNat 32 w1, w2 := BitVec.ofNat 32 w2, w3 := BitVec.ofNat 32 w3 }

/-- A special record of type `ty` (R211): channel 511, LAST 1, TAG 0b10110. -/
def specialRec (ty step w1 w2 flags low : Nat) : Rec :=
  recOf (step * 2 ^ 12 + 511 * 8 + ty * 2 + 1) w1 w2 (22 * 2 ^ 27 + flags * 2 ^ 16 + low)

/-- The SKIP record of a run (R211). -/
def skipRec (r : SkipRun) : Rec :=
  specialRec 0 r.firstStep (r.count * 2 ^ 12 + r.reasons.toNat) (FullTime.ofTq r.firstTime).ns.toNat 0
    (min 65535 r.granules)

/-- A LOST_RANGE record (R211). -/
def lostRangeRec (first count cause : Nat) : Rec :=
  specialRec 1 count (first % 2 ^ 32) (first / 2 ^ 32 % 2 ^ 32) 0 cause

/-- The code of a reason (R211). -/
def NotMeasured.code : NotMeasured → Nat
  | .outOfService => 1
  | .noGates => 2
  | .engine => 3
  | .calibration => 4

/-- PARTIAL of a descriptor (R188). -/
def Descriptor.partial_ (d : Descriptor) : Bool := decide (0 < d.gatesMissing) || d.lost

/-- CODE_WEAK of a descriptor (R188). -/
def Descriptor.codeWeak (d : Descriptor) : Bool := decide (d.matchedFull + d.matchedWeak < 2 * d.matchedWeak)

/-- GATE_TIME_NS (R188). -/
def Descriptor.gateTime (d : Descriptor) : Nat := d.gateTimeTq / 1024

/-- The flag bits that a descriptor gives every record of its job (R209, R210). -/
def Descriptor.flags (d : Descriptor) (twilight recomputed erased : Bool) : Nat :=
  flagsValue [d.cal, d.selftest, d.sat, recomputed, d.partial_ || erased, d.suspect, twilight, d.codeWeak, false,
    d.epochChanged, d.multiGate]

/-- AMBIENT (R189). -/
def Descriptor.ambient (d : Descriptor) : Nat :=
  if d.gateTime = 0 then 0
  else min 65535 (roundDiv ((d.stampsIn + d.drops) * 100000 : Nat) d.gateTime).toNat

/-- The NOT_MEASURED record of a job (R211). -/
def notMeasuredRec (j : Job) (why : NotMeasured) : Rec :=
  specialRec 2 j.desc.step (j.channel * 2 ^ 23 + why.code) 0 (j.desc.flags j.step.twilight false false) j.desc.ambient

/-! ## Numbers (R197, R409) -/

/-- Results of a stream that are issued and not delivered. -/
def Stream.undelivered (x : Stream) : Bool := decide (x.delivered + 1 < x.nextIssue)

/-- The streams of a commit (R408): those that a running sequencer names, or that have results undelivered. -/
def State.commitStreams (s : State) : List Nat :=
  (List.range 64).filter fun n => s.streamRunning n || (s.stream n).undelivered

/-- A commit of the retention controller (R408, R409), with an entry for each of `also` too. Before the firmware has taken up
what the last commit before a cold reset says, none is made (R410). Entry 50, DESIGN CHOICE. -/
def State.commitWith (s : State) (also : List Nat) (warning : Bool) : State :=
  if !s.dev.derived then s
  else
  let ns := (List.range 64).filter fun n => also.contains n || s.commitStreams.contains n
  let entry (n : Nat) : CommitEntry :=
    let x := s.stream n
    { stream := n, nextIssue := x.nextIssue, confirmed := x.delivered,
      issueLimit := if warning then x.nextIssue else x.nextIssue + 32768 }
  let c : Commit := { warning := warning, entries := ns.map entry }
  let s := s.each (List.range 64) fun s n => s.modStream n fun x =>
    { x with issueLimit := if ns.contains n then some (entry n).issueLimit else none }
  { s with ret := { s.ret with commit := some c, resetMarker := false } }

/-- A commit that no stream asked for (R407, R408). -/
def State.commitJournal (s : State) (warning : Bool) : State := s.commitWith [] warning

/-- The stream has reached the ISSUE_LIMIT of the last completed commit, or has none in it (R409). Entry 33, DEDUCED. -/
def Stream.atLimit (x : Stream) : Bool :=
  match x.issueLimit with
  | none => true
  | some l => decide (l ≤ x.nextIssue)

/-! ## Batches (R208, R214, R215) -/

/-- Records of a batch. -/
def Batch.records (b : Batch) : Nat := (b.results.map fun r => r.recs.length).sum

/-- Bytes of a result in a Smiurn datagram (R215): a compact word for a point record, a word and a full record for
every special one; full records on a raw stream. -/
def Result.smiurnBytes (r : Result) : Nat :=
  match r.kind with
  | .point => 8 * r.recs.length
  | .raw => 16 * r.recs.length
  | _ => 24 * r.recs.length

/-- Result `r` cannot join batch `b` (R208, R214, R215). -/
def Batch.refuses (b : Batch) (cfg : StreamCfg) (raw : Bool) (mtu : Nat) (r : Result) : Bool :=
  match b.results with
  | [] => false
  | f :: _ =>
    decide (f.seq ≠ r.seq ∨ f.facet ≠ r.facet) || decide (f.epoch ≠ r.epoch) ||
      decide (cfg.batchMax < b.records + r.recs.length) ||
      (decide (cfg.transport = 1) && !raw && decide (f.step ≠ r.step ∨ f.time ≠ r.time)) ||
      (decide (cfg.transport = 1) &&
        decide (mtu - 28 < 64 + (b.results.map Result.smiurnBytes).sum + r.smiurnBytes))

/-- The open batch is closed (R208). -/
def Stream.closeBatch (x : Stream) (timedOut : Bool) : Stream :=
  match x.openBatch with
  | none => x
  | some b =>
    { x with openBatch := none, closed := x.closed ++ [{ b with timedOut := timedOut }], batches := x.batches.inc }

/-- A result is appended to the open batch, which is begun where there is none (R208, R214), and counted (R216). -/
def Stream.append (x : Stream) (now mtu : Nat) (r : Result) : Stream :=
  let x := match x.openBatch with
    | some b => if b.refuses x.cfg x.raw mtu r then x.closeBatch false else x
    | none => x
  let b := x.openBatch.getD
    { results := [], timedOut := false, reconciled := false, firstAfterStart := !x.started, openedAt := now, slot := 0 }
  let b := { b with results := b.results ++ [r] }
  let x :=
    { x with
      openBatch := some b
      started := true
      nextRelease := x.nextRelease + 1
      results := x.results.inc
      records := x.records.add r.recs.length
      skipRecords := if r.kind = .skip then x.skipRecords.inc else x.skipRecords
      notMeasured := if r.kind = .notMeasured then x.notMeasured.inc else x.notMeasured }
  if x.cfg.batchMax ≤ b.records ∨ r.kind = .lostRange then x.closeBatch false else x

/-- The host has enabled the ring or the UDP destination of a stream (R411). -/
def Stream.reachable (x : Stream) : Bool :=
  if x.cfg.transport = 0 then decide (x.ring.cfg.enable = 1) else decide (x.udp.dstMac ≠ 0)

/-- A LOST_RANGE record waits for the host to enable the stream's path (R411). -/
def Stream.lostWaits (x : Stream) : Bool :=
  x.lostRange.isSome && !x.reachable && x.committed.any fun r => decide (r.kind = .lostRange)

/-- The next result in order is committed and may go: a LOST_RANGE record waits for the host (R411). -/
def Stream.nextReady (x : Stream) : Option Result :=
  match x.committed.find? fun r => decide (r.number = x.nextRelease) with
  | none => none
  | some r => if r.kind = .lostRange ∧ !x.reachable then none else some r

/-- Release in sequence-number order (R208): as many results as are committed at most. -/
def Stream.release (now mtu : Nat) : Nat → Stream → Stream
  | 0, x => x
  | n + 1, x =>
    match x.nextReady with
    | none => x
    | some r => Stream.release now mtu n ({ x with committed := x.committed.erase r }.append now mtu r)

/-- Release on stream `n`. -/
def State.releaseStream (s : State) (n : Nat) : State :=
  s.modStream n fun x => x.release s.clock s.net.net.mtu x.committed.length

/-- A result commits (R208). -/
def State.commitResult (s : State) (n : Nat) (r : Result) : State :=
  (s.modStream n fun x => { x with committed := x.committed ++ [r] }).releaseStream n

/-- A special record takes the next number of its stream and commits at once (R212); at the ISSUE_LIMIT a commit of
the journal goes before it (R409). -/
def State.issueSpecial (s : State) (n : Nat) (mk : Nat → Result) : State :=
  let s := if (s.stream n).atLimit then s.commitWith [n] false else s
  let k := (s.stream n).nextIssue
  (s.modStream n fun x => { x with nextIssue := k + 1 }).commitResult n (mk k)

/-! ## Skip runs (R109, R212) -/

/-- The open skip run of sequencer `n` closes into a SKIP record (R212). While a power warning stands nothing is
issued and the run stays open (R407, R412). -/
def State.closeSkip (s : State) (n : Nat) : State :=
  match (s.seq n).skip with
  | none => s
  | some r =>
    if s.dev.pfail then s
    else
      (s.modSeq n fun q => { q with skip := none }).issueSpecial (s.seq n).cfg.resultStream fun k =>
        { number := k, kind := .skip, recs := [skipRec r], seq := n, epoch := r.epoch, facet := r.facet,
          step := r.firstStep, time := r.firstTime }

/-- A skipped step of sequencer `n` joins its run or opens one (R109, R212), and is counted (R110). -/
def State.joinSkip (s : State) (n : Nat) (r : SkipRun) : State :=
  let s := s.modSeq n fun q =>
    { q with counters := { q.counters with skippedSteps := q.counters.skippedSteps.inc } }
  let joins := match (s.seq n).skip with
    | none => false
    | some o => decide ((o.firstStep + o.count) % 2 ^ 20 = r.firstStep % 2 ^ 20) || s.dev.pfail
  let s := if joins then s else s.closeSkip n
  let s := s.modSeq n fun q =>
    { q with skip := match q.skip with
        | none => some r
        | some o => some { o with count := min (2 ^ 20 - 1) (o.count + 1), reasons := o.reasons ||| r.reasons,
                                  granules := o.granules + r.granules } }
  match (s.seq n).skip with
  | some o => if o.count = 2 ^ 20 - 1 then s.closeSkip n else s
  | none => s

/-! ## Credits (R14, R200, R208) -/

/-- Record slots of the output buffer (R200). -/
def recordSlots : Nat := 16384

/-- `k` credits of `echoes` record slots each can be reserved (R14, R200). -/
def State.hasCredit (s : State) (k echoes : Nat) : Bool := decide (s.eng.slotsUsed + k * echoes ≤ recordSlots)

/-- Record slots reserved on a stream. Entry 33, DEDUCED. -/
def State.reserve (s : State) (n k : Nat) : State :=
  let s := s.modStream n fun x => { x with reserved := x.reserved + k }
  { s with eng := { s.eng with slotsUsed := s.eng.slotsUsed + k } }

/-- Reserved record slots returned. -/
def State.unreserve (s : State) (n k : Nat) : State :=
  let s := s.modStream n fun x => { x with reserved := x.reserved - k }
  { s with eng := { s.eng with slotsUsed := s.eng.slotsUsed - k } }

/-- A job's reserved slots become `used` ones, the rest return (R208). -/
def State.useSlots (s : State) (n reserved used : Nat) : State :=
  let s := s.modStream n fun x => { x with reserved := x.reserved - reserved, used := x.used + used }
  { s with eng := { s.eng with slotsUsed := s.eng.slotsUsed + used - reserved } }

/-! ## Delivery (R208, R332, R342) -/

/-- Slots of the output buffer that a result occupies. -/
def Result.slots (r : Result) : Nat :=
  match r.kind with
  | .point | .notMeasured => r.recs.length
  | _ => 0

/-- A batch is delivered: its slots and its export records are freed, CONFIRMED moves, and a LOST_RANGE record of
the journal is done (R173, R208, R411). -/
def State.deliverBatch (s : State) (n : Nat) (b : Batch) : State :=
  let used := (b.results.map Result.slots).sum
  let raws := (b.results.map fun r => if r.kind = .raw then r.recs.length else 0).sum
  let lost := b.results.any fun r => decide (r.kind = .lostRange)
  let last := (b.results.map (·.number)).foldl max (s.stream n).delivered
  let s := s.modStream n fun x =>
    { x with used := x.used - used, delivered := last, lostRange := if lost then none else x.lostRange }
  { s with
    eng := { s.eng with slotsUsed := s.eng.slotsUsed - used }
    rx := { s.rx with exportUsed := s.rx.exportUsed - raws }
    ret := if lost then { s.ret with lostRanges := s.ret.lostRanges.filter fun p => decide (p.1 ≠ n) } else s.ret }

/-! ## The stream header and batch bytes (R214, R215) -/

/-- Bytes of a record in a compact word's flags (R215). -/
def compactWord (r : Rec) : Nat :=
  let w0 := r.w0.toNat
  let f := bitField r.w3.toNat 31 16
  let bit (k : Nat) : Nat := bitField f k k
  let alert := decide (bit 4 + bit 5 + bit 3 + bit 9 ≠ 0)
  let test := decide (bit 0 + bit 1 ≠ 0)
  bitField w0 11 3 * 2 ^ 55 + bitField w0 2 1 * 2 ^ 53 + bitField w0 0 0 * 2 ^ 52 + bitField r.w1.toNat 31 6 * 2 ^ 26 +
    bitField r.w1.toNat 5 0 * 2 ^ 20 + bitField r.w2.toNat 15 4 * 2 ^ 8 + alert.toNat * 128 + bit 2 * 64 + bit 10 * 32 +
    bit 8 * 16 + bit 7 * 8 + bit 6 * 4 + test.toNat * 2

/-- A result in Smiurn form (R215). -/
def Result.smiurn (r : Result) : List Byte :=
  match r.kind with
  | .point => r.recs.flatMap fun x => leBytes 8 (compactWord x)
  | .raw => r.recs.flatMap Rec.bytes
  | _ => r.recs.flatMap fun x => leBytes 8 (511 * 2 ^ 55 + 1) ++ x.bytes

/-- The batch as its transport carries it: the header of R214 with its CRC, then the records. -/
def State.batchBytes (s : State) (n : Nat) (b : Batch) : List Byte :=
  let x := s.stream n
  let body := if x.cfg.transport = 1 then b.results.flatMap Result.smiurn
    else b.results.flatMap fun r => r.recs.flatMap Rec.bytes
  let first := b.results.head?
  let get (f : Result → Nat) : Nat := (first.map f).getD 0
  let time := (first.map (·.time)).getD 0
  let ty := if first.map (·.kind) = some ResultKind.raw then 1 else if x.cfg.transport = 1 then 2 else 0
  let head := leBytes 8 (get (·.number)) ++ leBytes 2 b.records ++ leBytes 2 b.results.length ++
    leBytes 2 (get fun r => r.epoch.toNat) ++ leBytes 1 (get (·.facet)) ++ leBytes 1 (get (·.seq)) ++
    leBytes 14 (FullTime.ofTq time).bits ++ zeroBytes 2 ++ leBytes 1 n ++ leBytes 1 ty ++ leBytes 1 1 ++
    leBytes 1 (flagsValue [b.firstAfterStart, b.reconciled, b.timedOut]) ++ leBytes 4 (get (·.step) % 2 ^ 20) ++
    leBytes 2 s.tx.deviceId ++ zeroBytes 18
  head ++ leBytes 4 (crc32 (head ++ body)) ++ body

end Sys2Proof.Machine
end

