-- ==== Sys2Proof/Machine/AngleOps.lean ====
section
/-! DEFINITION. What encoders and angle estimators share: trajectory, validity, resampling, facets, marks and count
errors (R112 to R124, R272 to R274). -/

namespace Sys2Proof.Machine

/-! ## The trajectory (R113, R118) -/

/-- One revolution in units of 2^-32. -/
def rev : Int := 4294967296

/-- U of an encoder count (R112). -/
def angleOf (cpr : Nat) (count : Int) : Int := count * rev / (cpr : Int)

/-- The edge `i` places before the newest, with its T_W and Θ_W (R113); none where W edges before it are not held. -/
def Estimator.span (e : Estimator) (i : Nat) : Option (AngleEdge × Int × Int) :=
  match e.edges[i]?, e.edges[i + e.cfg.window]? with
  | some a, some b => some (a, a.t - b.t, a.u - b.u)
  | _, _ => none

/-- The time that the trajectory of a span gives for position `x` (R118). -/
def spanTime (p : AngleEdge × Int × Int) (x : Int) : Option Tq :=
  if 0 < p.2.2 then some (p.1.t + ceilDiv ((x - p.1.u) * p.2.1) p.2.2) else none

/-- t(e) of R118 for the edge `i` places before the newest. -/
def Estimator.timeAt (e : Estimator) (i : Nat) (x : Int) : Option Tq := (e.span i).bind fun p => spanTime p x

/-- Least time from a stamp to a fire time taken from it (R118). -/
def resampleLead : Int := 151552

/-- The fire time of position `x` (R118): from the newest usable edge that lies 151,552 tq or more before it. -/
def Estimator.resample (e : Estimator) (x : Int) : Option Tq :=
  (List.range e.edges.length).findSome? fun i =>
    match e.edges[i]?, e.timeAt i x with
    | some a, some t => if a.t + resampleLead ≤ t then some t else none
    | _, _ => none

/-- The crossing time of a mark's position (R117): that of R118, or by the newest edge where no edge lies early enough.
Entry 58, DESIGN CHOICE. -/
def Estimator.crossing (e : Estimator) (x : Int) : Option Tq :=
  match e.resample x with
  | some t => some t
  | none => e.timeAt 0 x

/-- The speed of R113, in 1/256 revolution per second; 0 where no forward trajectory stands. -/
def Estimator.speed (e : Estimator) : Nat :=
  match e.span 0 with
  | none => 0
  | some (_, t, th) =>
    if 0 < t ∧ 0 < th then min (2 ^ 20 - 1) (th * (tqPerSec * 256) / (rev * t)).toNat else 0

/-- The predicted angle at time `t` (R113), rounded down; the newest edge's own angle where no trajectory stands. -/
def Estimator.angleAt (e : Estimator) (t : Tq) : Int :=
  match e.span 0 with
  | some (a, tw, th) => if 0 < tw then a.u + (t - a.t) * th / tw else a.u
  | none => (e.edges.head?.map (·.u)).getD 0

/-- The facet that an angle lies in (R116). -/
def Estimator.facetOf (e : Estimator) (u : Int) : Nat :=
  let m0 : Int := e.meridians.headD 0
  let v := (u - m0) % rev
  ((e.meridians.filter fun m => decide ((m : Int) - m0 ≤ v)).length) - 1

/-! ## Validity (R115, R122) -/

/-- The conditions of R115 but for EDGE_TIMEOUT: an index edge, no count error, forward, MIN_SPEED. -/
def Estimator.conditions (e : Estimator) (forward : Bool) : Bool :=
  e.indexSeen && !e.countError && forward && decide (e.cfg.minSpeed ≤ e.speed) && (e.span 0).isSome

/-- The running angle-domain sequencers of an encoder. -/
def State.angleSeqs (s : State) (enc : Nat) : List Nat :=
  s.runningSeqs.filter fun n => decide ((s.seq n).cfg.domain = 0 ∧ (s.seq n).cfg.encoder = enc)

/-- The banks that a step of sequencer `n` holds and whose slots are not all issued. -/
def State.stepBanks (s : State) (n : Nat) : List Nat :=
  (s.hist.banks.filter fun b => decide (b.2.state = .filling) && match b.2.step with
    | some st => decide (st.seq = n) && !st.allIssued
    | none => false).map (·.1)

/-- A step under way is reported with REFERENCE, and its gates that are open finish with REF_SUSPECT (R109, R122). -/
def State.disturbStep (s : State) (n : Nat) : State :=
  let q := s.seq n
  if q.first then s
  else
    let s := s.setSeq n { q with step := { q.step with reasons := q.step.reasons ||| Reasons.reference } }
    s.each (s.stepBanks n) fun s b => s.modChan (b / 2) fun x =>
      { x with gates := x.gates.map fun g =>
          if g.bank = some b ∧ g.life = .opened ∧ s.now < g.tClose then { g with suspect := true } else g }

/-! ## Angle marks (R117) -/

/-- The positions of a mark within revolution 0. -/
def markBases (m : MarkCfg) (e : Estimator) : List Int :=
  if m.mode = 0 then [(m.angle : Int)] else e.meridians.map fun x => (x : Int) + (m.angle : Int)

/-- The first position of a mark beyond `u`. -/
def markNext (bases : List Int) (u : Int) : Option Int :=
  bases.foldl (fun r b =>
    let p := b + ((u - b) / rev + 1) * rev
    some (match r with
      | none => p
      | some x => min x p)) none

/-- How many positions of a mark lie from `lo` to `hi`, both included. -/
def markCount (bases : List Int) (lo hi : Int) : Nat :=
  (bases.map fun b => ((hi - b) / rev - (lo - 1 - b) / rev).toNat).sum

/-- The angle of an estimator now (R117): by its trajectory while it is valid, else that of its newest usable edge.
Entry 58, DEDUCED. -/
def State.angleNow (s : State) (enc : Nat) : Int :=
  if s.estValid enc then (s.estimator enc).angleAt s.now else ((s.estimator enc).edges.head?.map (·.u)).getD 0

/-- The per-facet marks of an encoder look for their first position beyond the present angle with the meridians that now
stand (R116, R117). Entry 58, DEDUCED. -/
def State.remarkFacets (s : State) (enc : Nat) : State :=
  s.each (List.range 8) fun s k => s.modMark k fun m =>
    if m.cfg.encoder = enc ∧ m.cfg.enable = 1 ∧ m.cfg.mode = 1 then
      { m with next := markNext (markBases m.cfg (s.estimator enc)) (s.angleNow enc) }
    else m

/-- Positions of the marks of an encoder up to angle `u` are passed without publication (R117). -/
def State.missMarks (s : State) (enc : Nat) (u : Int) : State :=
  s.each (List.range 8) fun s k =>
    let m := s.mark k
    if m.cfg.enable = 1 ∧ m.cfg.encoder = enc then
      let bases := markBases m.cfg (s.estimator enc)
      match m.next with
      | none => s.setMark k { m with next := markNext bases u }
      | some p =>
        if p ≤ u then s.setMark k { m with next := markNext bases u, missed := m.missed.add (markCount bases p u) }
        else s
    else s

/-! ## Validity changes -/

/-- The estimator becomes invalid (R115, R119, R122). -/
def State.estLost (s : State) (enc : Nat) : State :=
  let s := s.modEstimator enc fun e => { e with valid := false, invalidEpisodes := e.invalidEpisodes.inc }
  (s.each (s.angleSeqs enc) State.disturbStep).refreshFs

/-- Slots that the moment of validity finds due are played dark (R122). -/
def State.darkenDue (s : State) (enc : Nat) : State :=
  s.each (s.angleSeqs enc) fun s n => s.modSeq n fun q => { q with stepTo := some s.now }

/-- The estimator becomes valid (R115, R122). -/
def State.estGained (s : State) (enc : Nat) : State :=
  let s := s.modEstimator enc fun e => { e with valid := true }
  let s := s.missMarks enc ((s.estimator enc).angleAt s.now)
  (s.darkenDue enc).refreshFs

/-- Polestar is less than EDGE_TIMEOUT past the newest usable edge (R115). Entry 58, DEDUCED. -/
def State.estFresh (s : State) (enc : Nat) : Bool :=
  match (s.estimator enc).edges with
  | [] => false
  | x :: _ => decide (s.now < x.t + (s.estimator enc).cfg.edgeTimeout)

/-- Validity brought up to date after a change of the estimator: `was` tells whether it was valid before (R115). -/
def State.settleEst (s : State) (enc : Nat) (was : Bool) : State :=
  let now := (s.estimator enc).conditions (s.encoder enc).forward && s.estFresh enc
  let s := if (s.estimator enc).valid && !was then s.estLost enc else s
  if now && !(s.estimator enc).valid then s.estGained enc
  else if !now && (s.estimator enc).valid then s.estLost enc
  else s

/-- The estimator is invalid until the next index edge (R114, R271). -/
def State.estRestart (s : State) (enc : Nat) : State :=
  let s := if (s.estimator enc).valid then s.estLost enc else s
  s.modEstimator enc fun e => { e with edges := [], indexSeen := false, countError := false }

/-! ## Usable edges (R112, R119) -/

/-- Edges that an estimator keeps: enough for the search of R118 behind the widest window. -/
def edgesKept : Nat := 192

/-- The time at which the trajectory of a span predicts angle `u`, forward or backward (R113, R119); none where it stands
still. Entry 58, DEDUCED. -/
def predicts (p : AngleEdge × Int × Int) (u : Int) : Option Tq :=
  if 0 < p.2.2 then some (p.1.t + ceilDiv ((u - p.1.u) * p.2.1) p.2.2)
  else if p.2.2 < 0 then some (p.1.t + ceilDiv ((p.1.u - u) * p.2.1) (-p.2.2))
  else none

/-- The absolute RESID of an edge (R119); 0 where no trajectory stands before it. Entry 57, DESIGN CHOICE. -/
def Estimator.resid (e : Estimator) (x : AngleEdge) : Nat :=
  match (e.span 0).bind fun p => predicts p x.u with
  | some t => (x.t - t).natAbs
  | none => 0

/-- A usable edge enters the trajectory. -/
def State.usableEdge (s : State) (enc : Nat) (x : AngleEdge) : State :=
  let was := s.estValid enc
  let s := s.modEstimator enc fun e =>
    { e with edges := (x :: e.edges).take edgesKept, residMax := max e.residMax (e.resid x) }
  s.settleEst enc was

/-! ## Count errors (R273, R291) -/

/-- A count error of an encoder is reported: the estimator is invalid, the supervisor hears of it. -/
def State.countError (s : State) (enc : Nat) : State :=
  let s := s.modEncoder enc fun x => { x with countErrors := x.countErrors.inc }
  let was := s.estValid enc
  let s := (s.modEstimator enc fun e => { e with countError := true }).settleEst enc was
  s.modSvEnc enc fun x => if x.countError then x else { x with countError := true, countErrorAt := s.clock }

/-- The count of an encoder's stamping path becomes `c`, and the edges held move with it (R112, R123). -/
def State.correctCount (s : State) (enc : Nat) (c : Int) : State :=
  let cpr := (s.encCfg enc).cpr
  let d := c - (s.encoder enc).count
  let s := s.modEncoder enc fun x => { x with count := c }
  s.modEstimator enc fun e => { e with edges := e.edges.map fun x =>
    { x with count := x.count + d, u := angleOf cpr (x.count + d) } }

/-- The supervisor's own count at an index edge (R270, R275, R291): the first one starts it, a later one corrects it. One
that finds it within INDEX_TOL of a whole multiple of CPR clears a count error and ends a failure by one. Entry 37, DEDUCED. -/
def SvEncoder.index (y : SvEncoder) (c : EncCfg) (clock : Nat) : SvEncoder :=
  let whole := roundDiv y.count (c.cpr : Int) * (c.cpr : Int)
  let ok := decide ((y.count - whole).natAbs ≤ c.indexTol)
  let wrong := !ok && y.indexSeen
  { y with
    count := if y.indexSeen then whole else 0
    indexSeen := true
    countError := (y.countError || wrong) && !ok
    countErrorAt := if wrong && !y.countError then clock else y.countErrorAt
    countFailed := y.countFailed && !ok }

end Sys2Proof.Machine
end

