-- ==== Sys2Proof/Machine/Angle.lean ====
section
/-! DEFINITION. Commands and happenings of the angle estimators and the encoders' stamping path (R112 to R124, R272,
R273, R382). -/

namespace Sys2Proof.Machine

/-! ## Commands -/

/-- A running sequencer uses the estimator of an encoder (R114, R116). -/
def State.estUsed (s : State) (enc : Nat) : Bool := !(s.angleSeqs enc).isEmpty

/-- ANGLE_CONFIG (R114). -/
def execAngleConfig (encoder : Nat) (cfg : AngleCfg) : State → Out :=
  cmdRow (.angleConfig encoder cfg) fun s =>
    .plain [(decide (1 < encoder) || !isBit cfg.edgeUse || !([4, 8, 16, 32, 64].contains cfg.window) ||
              !within 1 1048575 cfg.minSpeed || !within 1024 1024000000 cfg.edgeTimeout, .badArg),
            (s.estUsed encoder, .busy)]
      ((s.estRestart encoder).modEstimator encoder fun e => { e with cfg := cfg })

/-- Numbers strictly increase. -/
def strictlyRising (l : List Nat) : Bool := (l.zip l.tail).all fun p => decide (p.1 < p.2)

/-- MERIDIAN_SET (R116). -/
def execMeridianSet (encoder facets : Nat) (meridians : List Nat) : State → Out :=
  cmdRow (.meridianSet encoder facets meridians) fun s =>
    .plain [(decide (1 < encoder) || !within 1 16 facets || decide (meridians.length ≠ facets) ||
              (meridians.any fun m => decide (4294967295 < m)) || !strictlyRising meridians, .badArg),
            (s.estUsed encoder, .busy)]
      ((s.modEstimator encoder fun e => { e with facets := facets, meridians := meridians }).remarkFacets encoder)

/-- ANGLE_MARK_SET (R117, R382): armed at the first position beyond the present angle; MISSED is kept.
Entry 58, DEDUCED. -/
def execAngleMarkSet (mark : Nat) (cfg : MarkCfg) : State → Out :=
  cmdRow (.angleMarkSet mark cfg) fun s =>
    let e := s.estimator cfg.encoder
    .plain [(decide (7 < mark) || decide (1 < cfg.encoder) || !isBit cfg.mode || !isBit cfg.enable ||
              decide (4294967295 < cfg.angle), .badArg)]
      (s.modMark mark fun m =>
        { m with cfg := cfg, next := if cfg.enable = 1 then markNext (markBases cfg e) (s.angleNow cfg.encoder) else none })

/-- ANGLE_STATUS (R119): validity, speed, facet, U_e and t_e of the newest usable edge, RESID_MAX, which the read
clears, and the counters. Before any usable edge U_e and t_e are 0, and the facet is that of the angle at present, valid or
not. Entry 57, DESIGN CHOICE. -/
def execAngleStatus (encoder dst : Nat) : State → Out :=
  cmdRow (.angleStatus encoder dst) fun s =>
    let e := s.estimator encoder
    let x := e.edges.head?
    .block [(decide (1 < encoder), .badArg)] (s.modEstimator encoder fun e => { e with residMax := 0 }) dst
      ([fBool (s.estValid encoder), fU32 e.speed, fU8 (e.facetOf (e.angleAt s.now)), fS64 ((x.map (·.u)).getD 0),
        fT (FullTime.ofTq ((x.map (·.t)).getD 0)), fU32 (min countMax e.residMax), fU32 e.countCorrections,
          fU32 e.invalidEpisodes] ++
        (List.range 8).map fun k => fU32 (s.mark k).missed)

/-! ## Edges (R272, R273) -/

/-- FILTER in ns (R271). -/
def filterNs (f : Nat) : Nat := if f = 0 then 0 else if f = 1 then 5 else if f = 2 then 10 else 20

/-- The stamp of an edge at 4 tq resolution (R272). Entry 21, DEDUCED. -/
def stampOf (t : Tq) : Tq := roundDiv t 4 * 4

/-- The new state follows the old one in the forward order, channel A leading; INVERT_DIR reverses the sense (R271,
R272). -/
def edgeForward (x : Encoder) (isB level : Bool) (invert : Nat) : Bool :=
  let f := if isB then decide (level = x.a) else decide (level ≠ x.b)
  if invert = 1 then !f else f

/-- Two stamps lie within `d` of each other, the first missing counting as far. -/
def closeTo (a : Option Tq) (t d : Int) : Bool :=
  match a with
  | none => false
  | some u => decide ((t - u).natAbs ≤ d.toNat)

/-- A counted edge (R272, R273): count, stamps, the supervisor's count, the trajectory, and a count error when the
edge stands too near another. -/
def State.countEdge (s : State) (enc : Nat) (isB level : Bool) (tBall : Tq) : State :=
  let x := s.encoder enc
  let c := s.encCfg enc
  let t := stampOf tBall
  let forward := edgeForward x isB level c.invertDir
  let d : Int := if forward then 1 else -1
  let bad := closeTo (if isB then x.lastA else x.lastB) t 16 || closeTo x.lastCounted t 20479
  let s := s.setEncoder enc
    { x with
      a := if isB then x.a else level
      b := if isB then level else x.b
      count := x.count + d
      forward := forward
      lastA := if isB then x.lastA else some t
      lastB := if isB then some t else x.lastB
      lastCounted := some t
      edges := x.edges.inc }
  let s := s.countEmitted.modSvEnc enc fun y => { y with count := y.count + d, window := y.window + d, lastEdge := s.clock }
  let s := if (s.estimator enc).cfg.edgeUse = 0 ∨ (!isB && level) then
      s.usableEdge enc { t := t, count := x.count + d, u := angleOf c.cpr (x.count + d) }
    else
      let was := s.estValid enc
      s.settleEst enc was
  let s := if bad then s.countError enc else s
  s.refreshDark

/-- The level of A or B at the ball, without a count: ENABLE 0, or a start in which the balls are not acted on
(R271, R401; entry 44, DEDUCED). -/
def Encoder.see (x : Encoder) (isB level : Bool) : Encoder :=
  { x with
    a := if isB then x.a else level
    b := if isB then level else x.b }

/-- ENCODER_EDGE (R272, R274): an edge of A or B to `level` at the ball that was held `heldNs`. -/
def execEncoderEdge (encoder : Nat) (isB level : Bool) (tBall : Tq) (heldNs : Nat) (s : State) : Out :=
  if 1 < encoder then .next s
  else
    let x := s.encoder encoder
    if !s.reached tBall then .next s
    else if (s.encCfg encoder).enable = 0 ∨ !s.ballsActed then .next (s.setEncoder encoder (x.see isB level))
    else if (if isB then x.b else x.a) = level then .next s
    else if heldNs < filterNs (s.encCfg encoder).filter then
      .next (s.modEncoder encoder fun x => { x with filtered := x.filtered.inc })
    else .next (s.countEdge encoder isB level tBall)

/-- The A/B state of an encoder as a number (R271). -/
def Encoder.abState (x : Encoder) : Nat := 2 * x.a.toNat + x.b.toNat

/-- The marks of an encoder look for their first position from the new count on (R112, R117). -/
def State.rearmMarks (s : State) (enc : Nat) : State :=
  s.each (List.range 8) fun s k => s.modMark k fun m =>
    if m.cfg.encoder = enc ∧ m.cfg.enable = 1 then
      { m with next := markNext (markBases m.cfg (s.estimator enc)) (((s.estimator enc).edges.head?.map (·.u)).getD 0) }
    else m

/-- An index edge recognised (R112, R115, R123, R273): the first after ANGLE_CONFIG starts the count; a later one
corrects it, with a count error beyond INDEX_TOL. The supervisor's own count takes it before (R275, R291). -/
def State.indexEdge (s : State) (enc : Nat) : State :=
  let c := s.encCfg enc
  let n := (s.encoder enc).count
  let was := s.estValid enc
  let s := s.countEmitted.modSvEnc enc fun y => y.index c s.clock
  if !(s.estimator enc).indexSeen then
    let s := s.correctCount enc 0
    (s.modEstimator enc fun e => { e with indexSeen := true, countError := false }).rearmMarks enc |>.settleEst enc was
  else
    let whole := roundDiv n (c.cpr : Int) * (c.cpr : Int)
    let off := (n - whole).natAbs
    let s := if n = whole then s
      else
        (s.correctCount enc whole).modEstimator enc fun e => { e with countCorrections := e.countCorrections.inc }
    if c.indexTol < off then s.countError enc
    else
      let s := (s.modEstimator enc fun e => { e with countError := false }).settleEst enc was
      if n < whole ∧ s.estValid enc then s.darkenDue enc else s

/-- ENCODER_INDEX_EDGE (R123, R271): a rising index edge in the INDEX_STATE of the encoder. -/
def execEncoderIndexEdge (encoder : Nat) (tBall : Tq) (s : State) : Out :=
  if 1 < encoder then .next s
  else
    let c := s.encCfg encoder
    if c.enable = 1 ∧ (c.indexState = 4 ∨ c.indexState = (s.encoder encoder).abState) ∧ s.heard tBall then
      .next (((s.indexEdge encoder).refreshPermit))
    else .next s

/-- ESTIMATOR_TIMEOUT (R115): EDGE_TIMEOUT has passed since the newest usable edge. -/
def execEstimatorTimeout (encoder : Nat) (s : State) : Out :=
  if 1 < encoder then .next s
  else if (s.estimator encoder).valid && !s.estValid encoder then .next (s.estLost encoder)
  else .next s

/-- ANGLE_MARK_CROSSING (R117): Polestar has reached the crossing time of the mark's next position; while the
estimator is invalid positions passed are counted in MISSED. One passed again after reverse rotation publishes no second time.
Entry 58, DESIGN CHOICE. -/
def execAngleMarkCrossing (mark : Nat) (s : State) : Out :=
  if 7 < mark then .next s
  else
    let m := s.mark mark
    let e := s.estimator m.cfg.encoder
    if m.cfg.enable = 0 then .next s
    else if !s.estValid m.cfg.encoder then .next (s.missMarks m.cfg.encoder ((e.edges.head?.map (·.u)).getD (-1)))
    else match m.next with
      | none => .next s
      | some p => match e.crossing p with
        | none => .next s
        | some t =>
          if s.reached t then
            .next ((s.setMark mark { m with next := markNext (markBases m.cfg e) p }).publish (prodMark mark) t 0)
          else .next s

end Sys2Proof.Machine
end

