-- ==== Sys2Proof/Machine/GateOps.lean ====
section
/-! DEFINITION. What the receive side shares: codes, gates and their queues, the stamp pool, bank marks, the end of a
gate, and banks returned (R71, R163 to R170, R179, R180, R185). -/

namespace Sys2Proof.Machine

/-! ## Codes (R71) -/

/-- The LFSR after its warm-up for device `d`, row `r` and slot index `k`. -/
def codeSeed (d r : Nat) (k : Int) : Nat :=
  let shot := (k % 32768).toNat ^^^ (r * 512)
  let seed := d * 32768 + shot
  lfsrClocks 24 (if seed = 0 then 0xFFFFFF else seed)

/-- `n` spacings in ns drawn from a state of the LFSR. -/
def drawSpacings : Nat → Nat → List Nat
  | 0, _ => []
  | n + 1, x => (8 + lfsrClocks 8 x % 256 * 33 / 256) :: drawSpacings n (lfsrClocks 8 x)

/-- Offsets in tq from spacings in ns, from `at_` on. -/
def offsetsFrom : Nat → List Nat → List Nat
  | _, [] => []
  | at_, s :: t => (at_ + s * 1024) :: offsetsFrom (at_ + s * 1024) t

/-- The offsets of a shot's burst (CODE_DRAW, R69, R71). -/
def codeOffsets (d r : Nat) (k : Int) (p : CodeProfile) : List Nat :=
  let spacings := if p.mode = 1 then [p.spacing1, p.spacing2, p.spacing3].take (p.n - 1)
    else drawSpacings (p.n - 1) (codeSeed d r k)
  0 :: offsetsFrom 0 spacings

/-! ## Gates in use (R164, R166, R170) -/

/-- A gate is armed, open or closed and holding its queue. -/
def Gate.inUse (g : Gate) : Bool := g.queue.isSome

/-- The queues in use of a channel. -/
def Channel.queues (x : Channel) : List Nat := x.gates.filterMap (·.queue)

/-- The lowest free queue (R164). -/
def Channel.freeQueue (x : Channel) : Option Nat := (List.range 64).find? fun q => !x.queues.contains q

/-- Pool words in use (R166). -/
def Channel.poolUsed (x : Channel) : Nat := (x.gates.map fun g => g.words.length).sum

/-- Words of a channel's stamp pool (R166). -/
def poolSize : Nat := 256

/-- A gate changed by number. -/
def Channel.modGate (x : Channel) (id : Nat) (f : Gate → Gate) : Channel :=
  { x with gates := x.gates.map fun g => if g.id = id then f g else g }

/-- The gate of a number. -/
def Channel.gate (x : Channel) (id : Nat) : Option Gate := x.gates.find? fun g => decide (g.id = id)

/-- Converters of a channel that are excluded (R147): an unlisted converter is not. -/
def State.excluded (s : State) (input : Nat) : Nat := ((s.input input).convs.filter fun c => c.2.excluded).length

/-- A channel is in service (R147): at most one converter is excluded, and its memory has not failed (R392). -/
def State.inService (s : State) (c : Nat) : Bool := decide (s.excluded c < 2) && !(s.chan c).failed

/-- A calibration object has a valid slot (R318, R320). -/
def CalStore.valid (x : CalStore) : Bool := x.a.valid x.id || x.b.valid x.id

/-! ## Bank marks -/

/-- The descriptor of a bank changed, for the bank of a gate. -/
def State.modDesc (s : State) (bank : Option Nat) (f : Descriptor → Descriptor) : State :=
  match bank with
  | none => s
  | some b => s.modBank b fun x => { x with desc := f x.desc }

/-! ## Arming (R163, R164, R171) -/

/-- A gate before its arming. -/
def Gate.new (id : Nat) (tOpen : Tq) (p : GateProfile) (profile : Nat) : Gate :=
  { id := id, queue := none, seq := 0xFF, shot := none, slot := 0, tOpen := tOpen, tClose := tOpen + p.length,
    life := .armed, words := [], drops := 0, calDecided := false, calReused := false, suspect := false, cal := false,
    selftest := false, epochChanged := false, cut := false, inService := true, bank := none, profile := profile,
      matching := MatchProfile.reset,
    binK := p.binK, skewCal := 0, offsets := [], found := [], table := 0, tapStream := none }

/-- A gate is armed on channel `c` in the lowest free queue, or refused (GATE_ARMING, R164); a test pulse that has ended
marks it where it will have been open meanwhile (R82). -/
def State.armGate (s : State) (c : Nat) (g : Gate) : State :=
  let x := s.chan c
  match x.freeQueue with
  | some q =>
    let g := (s.tx.blanked.filter fun b => decide (b.channel = c)).foldl Gate.meets { g with id := x.nextGate, queue := some q }
    s.setChan c { x with gates := x.gates ++ [g], nextGate := x.nextGate + 1 }
  | none =>
    let s := s.setChan c { x with refused := x.refused.inc }
    (s.modDesc g.bank fun d => { d with gatesMissing := d.gatesMissing + 1 }).publish (prodGroup (c / 64) 3) g.tOpen 0

/-- The gate of a slot on a channel (R163). -/
def State.slotGate (s : State) (seq shot : Nat) (slot : Int) (tFire : Tq) (profile : Nat) (bank : Option Nat)
    (offsets : List Nat) : Gate :=
  let p := s.gateProf profile
  let t := (tFire + p.openOffset) / 4 * 4
  { Gate.new 0 t p profile with
    seq := seq, shot := some shot, slot := slot, bank := bank, offsets := offsets, matching := s.matchProf profile }

/-! ## The end of a gate -/

/-- A gate is done: drained, and its bank closed. Entry 30, DEDUCED. -/
def Gate.done (g : Gate) : Bool := decide (g.life = .drained) && g.bank.isNone

/-- Some gate of a shot is not done. -/
def State.hasGates (s : State) (shot : Nat) : Bool :=
  s.rx.channels.any fun c => c.2.gates.any fun g => decide (g.shot = some shot) && !g.done

/-- The gates of a shot leave their channels. -/
def State.dropGates (s : State) (shot : Nat) : State :=
  s.each ((s.rx.channels.filter fun c => c.2.gates.any fun g => decide (g.shot = some shot)).map (·.1)) fun s c =>
    s.modChan c fun x => { x with gates := x.gates.filter fun g => decide (g.shot ≠ some shot) }

/-- A shot and its gates are done once its reference is fixed and every gate is done: until then a neighbour's test
(R186) and a later match of one of its stamps (R168) look at them. -/
def State.settleShot (s : State) (shot : Option Nat) : State :=
  match shot with
  | none => s
  | some k => match s.shot k with
    | some x => if x.ref.isSome && !s.hasGates k then (s.dropGates k).setShot k none else s
    | none => s

/-- A gate leaves its channel, and its shot where it was the last. -/
def State.removeGate (s : State) (c : Nat) (g : Gate) : State :=
  (s.modChan c fun x => { x with gates := x.gates.filter fun y => decide (y.id ≠ g.id) }).settleShot g.shot

/-- A gate that is not opened: its queue is freed at once (R170), its slot counts as missing (R188), and a step that it was
armed across marks its bank (R33). -/
def State.notOpened (s : State) (c : Nat) (g : Gate) : State :=
  let s := s.modChan c fun x => { x with gatesCut := x.gatesCut.inc }
  (s.modDesc g.bank fun d =>
    { d with gatesMissing := d.gatesMissing + 1, epochChanged := d.epochChanged || g.epochChanged }).removeGate c g

/-- A gate armed and not yet open. -/
def Gate.waiting (g : Gate) : Bool := decide (g.life = .armed)

/-- On a loss of lock gates that have not opened are not opened, those still open finish with REF_SUSPECT (R157, R170). -/
def State.unlockGates (s : State) : State :=
  s.each (s.rx.channels.map (·.1)) fun s c =>
    let s := ((s.chan c).gates.filter Gate.waiting).foldl (fun s g => s.notOpened c g) s
    s.modChan c fun x => { x with gates := x.gates.map fun g =>
      if g.life = .opened ∧ s.now < g.tClose then { g with suspect := true } else g }

/-- A bank is released: its blocks are stale, and it is free (R180). -/
def Bank.released : Bank := Bank.reset

/-- Every slot of the step in play has been issued (R188). -/
def State.finishBanks (s : State) (n : Nat) : State :=
  s.each (s.stepBanks n) fun s b => s.modBank b fun x =>
    { x with step := x.step.map fun st => { st with allIssued := true, twilight := (s.seq n).step.twilight } }

/-- A gate loses the stamps that it still holds (R170, R176). -/
def Channel.loseWords (x : Channel) (g : Gate) : Channel :=
  { x.modGate g.id fun y => { y with words := [] } with
    gatesCut := if g.words.isEmpty then x.gatesCut else x.gatesCut.inc }

/-- A gate of a step that is cut (R170): not opened, finishing without its bank, or, drained already, done at once, its stamps
lost and its queue free. -/
def State.cutGate (s : State) (c : Nat) (g : Gate) : State :=
  if g.waiting then s.notOpened c g
  else if g.life = .drained then
    (s.modChan c fun x => (x.loseWords g).modGate g.id fun y => { y with cut := true, bank := none, queue := none }).settleShot
      g.shot
  else s.modChan c fun x => x.modGate g.id fun y => { y with cut := true, bank := none }

/-- The step in play is cut short (R104, R170): its banks and credits are returned, gates not yet open are not opened,
the stamps of open ones are discarded when they close, those of drained ones at once. -/
def State.cutBanks (s : State) (n : Nat) : State :=
  let bs := s.stepBanks n
  s.each bs fun s b =>
    let c := b / 2
    let x := s.bank b
    let s := match x.step with
      | some st => s.unreserve st.stream st.credit
      | none => s
    let mine := (s.chan c).gates.filter fun g => decide (g.bank = some b)
    let s := mine.foldl (fun s g => s.cutGate c g) s
    s.setBank b Bank.released

end Sys2Proof.Machine
end

