-- ==== Sys2Proof/Machine/PllOps.lean ====
section
/-! DEFINITION. The PLL: references, the divide ratio, loss of lock, and changes of plan (R38, R59, R81, R157, R234, R237 to
R249, R250, R252). -/

namespace Sys2Proof.Machine

/-! ## References (R236, R237) -/

/-- Reference 0 is REFA, 1 REFB. -/
def Pll.ref (p : Pll) (k : Nat) : RefState := if k = 0 then p.refA else p.refB

/-- The last window measured a reference within REF_TOL of `f`, and no gap has come since (R237). -/
def RefState.validAt (r : RefState) (f tol : Nat) : Bool :=
  !r.gap && match r.hz with
    | none => false
    | some h => decide (((h : Int) - f).natAbs * 1000000 ≤ f * tol)

/-- A reference brought up to date with its stated frequency. -/
def RefState.refresh (r : RefState) (f tol clock : Nat) : RefState :=
  let v := r.validAt f tol
  { r with valid := v, validSince := if v && !r.valid then clock else r.validSince }

/-- REF_MODE admits a reference (R236). -/
def refAllowed (c : PllRefCfg) (k : Nat) : Bool := decide (c.refMode ≠ 1 - k)

/-- The loop may take a reference. -/
def Pll.usable (p : Pll) (k : Nat) : Bool := refAllowed p.refCfg k && (p.ref k).valid

/-- Some reference can be taken. -/
def Pll.anyUsable (p : Pll) : Bool := p.usable 0 || p.usable 1

/-- A relock is in progress (R241, R245): an attempt at lock is under way. -/
def Pll.relocking (p : Pll) : Bool := !p.locked && p.reacquiring

/-! ## The reference in use (R237) -/

/-- Both references brought up to date. -/
def State.refreshRefs (s : State) : State :=
  let c := s.pll.refCfg
  { s with pll := { s.pll with
      refA := s.pll.refA.refresh c.refaFreq c.refTol s.clock
      refB := s.pll.refB.refresh c.refbFreq c.refTol s.clock } }

/-- The slew component that removes an offset of `o` tq: within SLEW_MAX, and within what the range of RATE leaves to it
beside the servo rate (R30). -/
def State.slewFor (s : State) (o : Int) : Int :=
  let m : Int := s.net.ptp.slewMax
  if o = 0 then 0 else clamp (-rateMax) rateMax (s.tb.servoRate + if o < 0 then m else -m) - s.tb.servoRate

/-- A time correction of `o` tq, by which Polestar is ahead, is slewed until it is removed (R30, R31). One that the range of
RATE leaves no slew stays until the next is measured. Entry 34, DEDUCED. -/
def State.correct (s : State) (o : Int) : State :=
  let c := s.slewFor o
  { s with tb := { s.tb with
      slew := c, slewUntil := if c = 0 then 0 else s.clock + (ceilDiv ((o.natAbs * 2 ^ 38 : Nat) : Int) c.natAbs).toNat } }

/-- What the slew under way has still to remove, in tq. -/
def State.slewLeft (s : State) : Int := -roundDiv (s.tb.slew * ((s.tb.slewUntil - s.clock : Nat) : Int)) (2 ^ 38)

/-- A further correction joins what is still to be removed (R31). -/
def State.correctBy (s : State) (o : Int) : State := if o = 0 then s else s.correct (s.slewLeft + o)

/-- The most that the outputs move at a switch of reference, in tq: 50 ps (R237). -/
def movementMax : Int := 51

/-- The loop takes reference `k` (REF_SWITCH), which is counted. A locked loop stays locked, and what its outputs move is a
free value that Polestar takes as a correction (R31). Entry 34, DEDUCED. -/
def State.switchRef (s : State) (k : Nat) : State :=
  let p := s.pll
  let t := { s with pll := { p with refInUse := k, refSwitches := p.refSwitches.inc } }
  if p.locked then t.draw.correctBy (clamp (-movementMax) movementMax (Config.switchMovement s.fresh)) else t

/-- REFA is due to be taken again (R237): mode 2, and REFA has been valid for REVERT_HOLD. -/
def State.revertDue (s : State) : Bool :=
  let p := s.pll
  decide (p.refCfg.refMode = 2 ∧ p.refInUse = 1 ∧ p.refA.valid ∧
    p.refA.validSince + p.refCfg.revertHold * 1000000000 ≤ s.clock)

/-- The reference that the loop should use now. -/
def State.refDue (s : State) : Nat :=
  let k := s.pll.refInUse
  if s.revertDue || (!s.pll.usable k && s.pll.usable (1 - k)) then 1 - k else k

/-- An attempt at lock begins as soon as a valid reference is there (R245), on the reference that is due then and with the
fields that take effect at an acquisition as they are then (R235, R252). The loop of a cold start waits for the firmware
(R389). -/
def State.beginAttempt (s : State) : State :=
  if s.pll.locked || s.pll.reacquiring || !s.pll.anyUsable || (decide (s.dev.run = .boot) && !s.dev.warm && !s.dev.fwRunning) then s
  else
    let k := s.refDue
    let s := if k = s.pll.refInUse then s else s.switchRef k
    { s with pll := { s.pll with reacquiring := true, acq := s.pll.cfg } }

/-- The attempt under way is lost, and the next begins (R245, R252). -/
def State.restartAttempt (s : State) : State :=
  ({ s with pll := { s.pll with reacquiring := false } } : State).beginAttempt

/-- After a change of the references' validity: a locked loop switches over; an attempt whose reference is no longer valid is
lost; where none is under way one may begin (R237, R245, R252). -/
def State.checkRef (s : State) : State :=
  let k := s.pll.refInUse
  if s.pll.locked then (if !s.pll.usable k && s.pll.usable (1 - k) then s.switchRef (1 - k) else s)
  else if s.pll.reacquiring && s.pll.usable k then s
  else s.restartAttempt

/-! ## Clock outputs (R244, R246, R248, R249) -/

/-- The fields that the output of a table takes (R249): in legacy mode no native field, which stay as they were.
Entry 34, DEDUCED. -/
def takenFields (c old : CkoCfg) : CkoCfg :=
  if c.mode = 1 then { c with fmt := old.fmt, swing := old.swing, div := old.div, phase := old.phase } else c

/-- The format that drives the ball (R248, R249): LVDS in legacy mode. -/
def ckoFormat (c : CkoCfg) : Nat := if c.mode = 1 then 0 else c.fmt

/-- The swing that drives the ball (R248, R249). -/
def ckoSwing (c : CkoCfg) : Nat := if c.mode = 1 then 2 else c.swing

/-- A VCO cycle at divider DT, in 1/1980 tq (R234). -/
def vcoCycle (dt : Nat) : Int := (1024 * (1980 / dt) : Nat)

/-- A TCK cycle in 1/1980 tq. -/
def tckCycle : Int := 1024 * 1980

/-- The period (R246): DIV cycles of the VCO, or LDIV cycles of TCK in legacy mode. -/
def Cko.period (c : Cko) (dt : Nat) : Int := if c.cfg.mode = 1 then c.cfg.ldiv * tckCycle else c.cfg.div * vcoCycle dt

/-- The high time (R248, R249): half the period, or for odd LDIV (LDIV + 1) / 2 cycles. -/
def Cko.high (c : Cko) (dt : Nat) : Int :=
  if c.cfg.mode = 1 then ((c.cfg.ldiv + 1) / 2 : Nat) * tckCycle else c.cfg.div * (vcoCycle dt / 2)

/-- The offset of the rising edges from the origin (R246). -/
def Cko.offset (c : Cko) (dt : Nat) : Int := if c.cfg.mode = 1 then c.cfg.ldelay * tckCycle else c.cfg.phase * vcoCycle dt

/-- Rising edge `n` of an output (R246). Entry 34, DEDUCED. -/
def Cko.rise (c : Cko) (dt : Nat) (n : Int) : Int := c.origin * 1980 + c.offset dt + n * c.period dt

/-- The first rising edge at or after `t`. -/
def Cko.riseFrom (c : Cko) (dt : Nat) (t : Int) : Int :=
  c.rise dt (ceilDiv (t - c.origin * 1980 - c.offset dt) (c.period dt))

/-- The first rising edge of an output since it was ungated. -/
def Cko.firstRise (c : Cko) (dt : Nat) : Int := c.riseFrom dt c.starts

/-- A running output is gated off at its first falling edge after `t` (R244); one that has not risen yet stays gated. -/
def Cko.gateAt (c : Cko) (dt : Nat) (t : Tq) : Cko :=
  if c.gated then c
  else if t * 1980 < c.firstRise dt then { c with gated := true }
  else
    let r := c.riseFrom dt (max c.starts (t * 1980 - c.high dt + 1))
    { c with gated := true, tail := some (r, r + c.high dt), tailPol := c.cfg.pol }

/-- An output runs on the grid of origin `o` from its first rising edge after `t` that leaves the low time behind the pulse
with which it was gated off complete (R244, R246). -/
def Cko.ungateAt (c : Cko) (o : Tq) (dt : Nat) (t : Tq) : Cko :=
  { c with
    gated := false
    origin := o
    starts := match c.tail with
      | none => t * 1980
      | some p => max (t * 1980) (p.2 + (c.period dt - c.high dt)) }

/-- Every clock output is gated (R244). -/
def State.gateClocks (s : State) : State :=
  s.each (List.range 12) fun s k => s.modCko k fun c => c.gateAt s.pll.cfg.dt s.now

/-- Every clock output is loaded as if it had run from origin `o`, and enabled ones run (R246). -/
def State.loadClocks (s : State) (o : Tq) : State :=
  let s := s.each (List.range 12) fun s k => s.modCko k fun c =>
    if c.cfg.enable = 1 then (c.gateAt s.pll.cfg.dt s.now).ungateAt o s.pll.cfg.dt s.now else c
  { s with pll := { s.pll with ckoOrigin := o, resetting := none } }

/-- STARTUP and RECOVERY end once the loop is locked and no reset is armed (R247). -/
def Pll.settle (p : Pll) : Pll :=
  if p.locked && !p.armed && decide (p.run ≠ .test) then { p with run := .locked } else p

/-- The SYNCI divider reset under way has its origin: the clock outputs run anew from it, and the arming ends (R247).
Entry 2, DESIGN CHOICE. Entry 25, DEDUCED. -/
def State.endReset (s : State) : State :=
  match s.pll.resetting with
  | none => s
  | some o =>
    if s.reached o then
      let s := s.loadClocks o
      { s with pll := ({ s.pll with armed := false } : Pll).settle }
    else s

/-! ## Loss of lock (R38, R242 to R244, R250) -/

/-- Converters stop calibrating and keep their last coefficients (R157). -/
def State.dropCals (s : State) : State :=
  let idle (v : Converter) : Converter := { v with calibrating := false }
  let inputs := s.rx.inputs.map fun (i, (x : InputState)) =>
    (i, { x with convs := x.convs.map fun (k, v) => (k, idle v), rolling := none })
  { s with rx := { s.rx with inputs := inputs } }

/-- The state that a loss of lock or a change leads to (R247). -/
def PllRun.lost (r : PllRun) (running : Bool) : PllRun :=
  match r with
  | .locked | .relock => if running then .relock else .recovery
  | r => r

/-- The granule in play of a sequencer turns dark, and is counted where it was not (R98, R110, R250). -/
def SeqState.darkenGranule (q : SeqState) : SeqState :=
  if q.granDark || decide (q.j = 0) then { q with granDark := true }
  else
    { q with
      granDark := true
      step := { q.step with dark := q.step.dark + 1 }
      counters := { q.counters with darkGranules := q.counters.darkGranules.inc } }

/-- What every loss of lock and every change of plan does (R241, R250). A divider reset under way stays armed (R252). -/
def State.loseLock (s : State) : State :=
  let seqs := s.runningSeqs
  let s := s.gateClocks
  let p := s.pll
  let s := { s with
    pll := { p with locked := false, reacquiring := false, resetting := none, run := p.run.lost (!seqs.isEmpty) }
    tb := { s.tb with source := .holdover, rate := s.rateNow } }
  let s := (((s.setReady readyPll false).refreshFs).stopFiring true).unlockGates.dropTests.dropCals
  let s := s.each seqs fun s n => (s.disturbStep n).modSeq n SeqState.darkenGranule
  s.publish prodPllUnlock s.now 0

/-! ## Changes of plan (R241) -/

/-- The table with another frequency and divider of reference `k`. -/
def setRef (c : PllRefCfg) (k freq rdiv : Nat) : PllRefCfg :=
  if k = 0 then { c with refaFreq := freq, refaRdiv := rdiv } else { c with refbFreq := freq, refbRdiv := rdiv }

/-- The plan of a request: what else the tables hold stays as it is when the change is performed (R235, R236).
Entry 34, DEDUCED. -/
def Pll.planned (p : Pll) (h : Option HopEntry) : PllRequest → Pll
  | .recal => { p with change := some .recal }
  | .dt dt =>
    { p with cfg := { p.cfg with dt := dt }, change := some .freq, bandValid := p.bandValid && decide (dt = p.cfg.dt) }
  | .ref k freq rdiv => { p with refCfg := setRef p.refCfg k freq rdiv, change := some .freq }
  | .hop e =>
    match h with
    | none => p
    | some h =>
      { p with
        cfg := { p.cfg with dt := h.dt }, refCfg := setRef p.refCfg h.ref h.freq h.rdiv, refInUse := h.ref,
        change := some (.hop e) }

/-- The entry that a request names. -/
def State.requested (s : State) : PllRequest → Option HopEntry
  | .hop e => s.hop e
  | _ => none

/-- The outputs and islands behave as on loss of lock (R241): a loop that is not locked publishes PLL_UNLOCK alone. -/
def State.unlockFor (s : State) : State :=
  if s.pll.locked then s.loseLock else s.publish prodPllUnlock s.now 0

/-- A change is performed: counted in HOPS, the outputs and islands behave as on loss of lock, and the loop acquires on the new
plan (R241). Entry 34, DEDUCED. -/
def State.performPll (s : State) (r : PllRequest) : State :=
  let s := s.unlockFor
  let p := s.pll.planned (s.requested r) r
  (({ s with pll := { p with hopsDone := p.hopsDone.inc, forced := none, reacquiring := false } } : State).refreshRefs).checkRef

/-- Commands whose change has waited for the sequencers now wait for lock. -/
def State.awaitLock (s : State) : State :=
  { s with mbx := { s.mbx with waiting := s.mbx.waiting.map fun w =>
      if w.1 = .pllForced then (.pllLock, w.2) else w } }

/-- A change that waited for the sequencers is performed once the last has stopped (R241). -/
def State.runForced (s : State) : State :=
  match s.pll.forced with
  | none => s
  | some r => if s.anyRunning then s else (s.performPll r).awaitLock

end Sys2Proof.Machine
end

