-- ==== Sys2Proof/Machine/SlotOps.lean ====
section
/-! DEFINITION. The slot engine: positions and fire times, steps and their admission, under-run, decisions, stops, and
the shots of a slot (R14, R93 to R109, R118 to R127, R163, R212). -/

namespace Sys2Proof.Machine

/-! ## Positions and times (R96, R118, R126) -/

/-- The lead of a slot's issue before its fire time (R97). -/
def issueLead : Int := 20480

/-- Position of slot `k`: the least x with acc(x) + P × 2^16 ≥ k × 2^48 (R96). -/
def Accum.position (a : Accum) (k : Int) : Int :=
  a.x0 + ceilDiv (k * 2 ^ 48 - a.phase * 2 ^ 16 - a.acc0) a.freq

/-- The fire time of position `x` (R118, R126): while the estimator is invalid none; a slot that became due before the
moment of validity is placed by the newest edge (R122). -/
def State.fireTime (s : State) (q : SeqState) (x : Int) : Option Tq :=
  if q.cfg.domain = 1 then some (x + q.trim)
  else if !s.estValid q.cfg.encoder then none
  else
    let e := s.estimator q.cfg.encoder
    match e.resample x with
    | some t => some t
    | none => match e.timeAt 0 x, q.stepTo with
      | some t, some v => if t - issueLead < v then some t else none
      | _, _ => none

/-- The facet of a step's first slot (R116, R214): 0xFF in the time domain. -/
def State.facetAt (s : State) (q : SeqState) (x : Int) : Nat :=
  if q.cfg.domain = 1 then 0xFF else (s.estimator q.cfg.encoder).facetOf x

/-! ## Entries and granules (R91, R93, R95, R105, R106) -/

/-- Length in granules of the step that begins at an entry, and its placeholders, within a segment (R93, R106). -/
def stepScan (m : Memory) : Nat → Nat → Bool → Nat × Nat
  | 0, _, _ => (0, 0)
  | n + 1, i, first =>
    let e := m.entry i
    if !first && decide (e.stepCtrl = 1 ∨ e.stepCtrl = 2) then (0, 0)
    else
      let r := if e.segEnd then (0, 0) else stepScan m n (i + 1) false
      (r.1 + 1, r.2 + e.src.toNat)

/-- The step that begins at entry `i`. -/
def State.stepAt (s : State) (i : Nat) : Nat × Nat := stepScan s.sq.mem 64 i true

/-- The entry of the ring `i` places behind RD (R105). -/
def State.ringEntry (s : State) (q : SeqState) (i : Nat) : ListEntry :=
  s.sq.mem.entry (q.cfg.streamBase + (q.rd + i) % q.cfg.streamLen)

/-- A streamed granule is valid (R91, R95). Entry 29, DEDUCED. -/
def State.streamedOk (s : State) (q : SeqState) (g : ListEntry) : Bool :=
  decide (1 ≤ g.freq ∧ 512 ≤ g.amplitude ∧ g.ctrl = 0 ∧ g.stepCtrl = 0 ∧ g.target = 0 ∧ g.arg = 0) && !g.segEnd && !g.src &&
    ampOk (s.code g.code) g.amplitude && !(decide (g.amplitude < 2048) && s.lvcmosIn q.cfg.rows)

/-- The content that a placeholder takes from its streamed granule (R91). Entry 29, DEDUCED. -/
def mergeStreamed (p g : ListEntry) : ListEntry :=
  { g with segEnd := p.segEnd, ctrl := p.ctrl, stepCtrl := p.stepCtrl, src := p.src, target := p.target, arg := p.arg }

/-- The content of the granule that entry `i` plays now, and whether it is valid. Entry 28, DEDUCED. -/
def State.granule (s : State) (q : SeqState) (i : Nat) : ListEntry × Bool :=
  let p := s.sq.mem.entry i
  if p.src then
    let g := s.ringEntry q 0
    (mergeStreamed p g, s.streamedOk q g)
  else (p, true)

/-- Every streamed granule of the step that begins now is valid. -/
def State.stepOk (s : State) (q : SeqState) (need : Nat) : Bool :=
  (List.range need).all fun i => s.streamedOk q (s.ringEntry q i)

/-- The entry that follows in play (R99). -/
def SeqState.nextEntry (q : SeqState) : Nat :=
  if q.first then q.cfg.startEntry else if q.segEnded then q.after.getD 0 else q.entry + 1

/-- The granule of entry `e` begins a step (R93). -/
def SeqState.begins (q : SeqState) (e : ListEntry) : Bool :=
  q.first || decide (e.stepCtrl = 1 ∨ e.stepCtrl = 2) || decide (64 ≤ q.step.granules) || (q.segEnded && q.step.streamed)

/-! ## Skips (R109) -/

/-- The step in play as a skipped step. -/
def Step.skipRun (st : Step) : SkipRun :=
  { firstStep := st.index, count := 1, reasons := st.reasons, firstTime := st.first, granules := st.dark,
    epoch := st.epoch, facet := st.facet }

/-- The step in play ends with every slot issued: its banks may close, and it is reported where it was skipped or
interrupted. -/
def State.finishStep (s : State) (n : Nat) : State :=
  let s := s.finishBanks n
  let st := (s.seq n).step
  if st.reasons = 0 then s else s.joinSkip n st.skipRun

/-- The run of an under-run that is under way ends, with every reason of its step (R107, R109). -/
def State.finishRun (s : State) (n : Nat) (f : Frozen) : State :=
  if f.granules = 0 then s
  else
    let st := (s.seq n).step
    s.joinSkip n
      { firstStep := st.index, count := 1, reasons := Reasons.underrun ||| st.reasons, firstTime := f.first, granules := f.granules,
        epoch := st.epoch, facet := st.facet }

/-! ## Stops (R22, R99, R102, R104, R298) -/

/-- The last sequencer has stopped (R22, R297): Ready-idle, unless a safety state applies or a warm reset runs, which does not
touch the supervisor. Entry 39, DEDUCED. -/
def State.leaveRanging (s : State) : State :=
  if s.anyRunning || !(s.ranging || s.dev.warm) then s
  else
    let s := if s.sv.run = .twilight then s.svGo .lockout else s
    if s.dev.warm ∨ s.sv.run = .dusk then s else s.enterReadyIdle

/-- What waits for the last sequencer's stop happens (R22, R241). -/
def State.afterStop (s : State) : State := s.leaveRanging.runForced

/-- A pending jump request is discarded and counted, an accepted GRID_TRIM acts, and the sequencer's state returns to STOPPED
(R101, R102, R125). -/
def SeqState.stopped (q : SeqState) : SeqState :=
  let c := q.counters
  { q with
    run := .stopped
    counters := if q.jump.isSome then { c with jumpDropped := c.jumpDropped.inc } else c
    jump := none
    cond := false
    frozen := none
    trim := q.trimPending.getD q.trim
    trimPending := none
    stops := []
    halting := false
    segEnded := false
    after := none
    first := true
    testSlot := none
    stepTo := none
    step := Step.none }

/-- Sequencer `n` stops; `why` is given when the stop cuts the step in play short (R104). Its skip run closes (R212),
and commands that wait for the stop are answered. A SEQ_START whose first slot has not come is answered BUSY.
Entry 57, DESIGN CHOICE. -/
def State.stopSeq (s : State) (n : Nat) (why : Option Reasons) : State :=
  let q := s.seq n
  let s := match q.frozen, why with
    | some f, _ => s.finishRun n f
    | none, some r =>
      if q.first then s
      else
        let s := s.cutBanks n
        s.joinSkip n { q.step.skipRun with reasons := q.step.reasons ||| r }
    | none, none => if q.first then s else s.finishStep n
  let s := (s.closeSkip n).modSeq n SeqState.stopped
  ((s.answerWaiting (.seqStart n) .busy []).answerWaiting (.seqStop n) .ok []).afterStop

/-- The sequencer halts at the end of its segment, `t` being the slot that would have followed (R99, R111, R220). -/
def State.haltSeq (s : State) (n : Nat) (t : Tq) : State := (s.publish (prodSeq n 5) t 0).stopSeq n none

/-- A stop asked of the sequencer is due at a granule boundary (R104): `stepEnd` and `segEnd` tell what ends there. Where
several are due at one boundary, the reasons are those of all. Entry 57, DESIGN CHOICE. Entry 28, DEDUCED. -/
def SeqState.stopDue (q : SeqState) (stepEnd segEnd : Bool) : Option Reasons :=
  let due := q.stops.filter fun r => decide (r.mode = 1 ∨ (r.mode = 0 ∧ stepEnd) ∨ (r.mode = 2 ∧ segEnd))
  if due.isEmpty then none else some (due.foldl (fun m r => m ||| r.reason) 0)

/-! ## Admission (R14, R109, R179, R200) -/

/-- The bank that the next step fills on channel `c`. -/
def State.nextBankOf (s : State) (c : Nat) : Nat := 2 * c + (s.histChan c).nextBank

/-- The hit groups of channels are ready (R25). -/
def State.groupsReady (s : State) (channels : List Nat) : Bool := channels.all fun c => s.isReady (readyHg (c / 64))

/-- The reasons that stand at a step's issue (R109): REFERENCE without lock, or when its first slot is due already (`due`,
R122, R127), SAFETY without permit or in the dark. -/
def State.issueReasons (s : State) (due : Bool) : Reasons :=
  (if s.firingStopped || due then Reasons.reference else 0) |||
  (if !s.sv.permit || s.sv.dark || s.dev.pfail then Reasons.safety else 0)

/-- The reasons for which a step is not admitted: `ok` tells that its streamed granules are valid; a hit group that is not
ready is one of REFERENCE (R25). Entry 28, DESIGN CHOICE. -/
def State.admission (s : State) (q : SeqState) (channels : List Nat) (ok due : Bool) : Reasons :=
  (if s.hasCredit channels.length (s.stream q.cfg.resultStream).cfg.maxEchoes then 0 else Reasons.credit) |||
  (if channels.all fun c => decide ((s.bank (s.nextBankOf c)).state = .free) then 0 else Reasons.bank) |||
  s.issueReasons due ||| (if s.groupsReady channels then 0 else Reasons.reference) |||
  (if ok then 0 else Reasons.program)

/-- The bank of channel `c` is taken by the step in play of sequencer `n` (R179). -/
def State.takeBank (s : State) (n c : Nat) (st : Step) : State :=
  let p := s.gateProf st.profile
  let q := s.seq n
  let s' := s.modBank (s.nextBankOf c) fun b =>
    { b with
      state := .filling
      step := some { seq := n, stream := q.cfg.resultStream, epoch := st.epoch, facet := st.facet, time := st.first,
                     twilight := st.twilight, credit := (s.stream q.cfg.resultStream).cfg.maxEchoes,
                     allIssued := false, cut := false }
      desc := { Descriptor.zero with step := st.index, binK := p.binK, winStart := p.winStart } }
  s'.modHistChan c fun h => { h with nextBank := 1 - h.nextBank }

/-- A step of sequencer `n` begins with granule `g` at fire time `t` (STEP_ADMISSION, R14, R94, R212, R221).
Entry 28, DEDUCED. -/
def State.beginStep (s : State) (n : Nat) (g : ListEntry) (index : Nat) (t : Tq) (x : Int) (ok due : Bool) : State :=
  let q := s.seq n
  let rows := g.mask &&& q.cfg.rows
  let channels := s.channelsOf rows
  let why := s.admission q channels ok due
  let st : Step :=
    { index := index, rows := rows, profile := g.gateProfile, granules := 0, dark := 0, streamed := false,
      admitted := decide (why = 0), first := t, epoch := s.tb.epoch, facet := s.facetAt q x,
      twilight := decide (s.sv.run = .twilight), channels := channels, reasons := why }
  let s := s.setSeq n { q with step := st }
  let s := if why = 0 then
      let s := s.closeSkip n
      let s := s.reserve q.cfg.resultStream (channels.length * (s.stream q.cfg.resultStream).cfg.maxEchoes)
      (s.each channels fun s c => s.takeBank n c st).publish (prodSeq n 0) t 0
    else s
  if g.stepCtrl = 2 then s.publish (prodSeq n 1) t 0 else s

/-! ## Decisions (R99, R100) -/

/-- The source of a BRANCH_CMP (R100). -/
def State.cmpSource (s : State) (q : SeqState) (sel : Nat) : Nat :=
  let e := s.estimator q.cfg.encoder
  if sel = 1 then q.step.index
  else if q.cfg.domain = 1 then 0
  else if sel = 0 then e.facetOf (e.angleAt s.now) else e.speed

/-- The comparison of a BRANCH_CMP holds (R100). -/
def State.cmpHolds (s : State) (q : SeqState) (arg : Nat) : Bool :=
  let v := s.cmpSource q (bitField arg 29 28)
  let w := bitField arg 19 0
  match bitField arg 31 30 with
  | 0 => decide (v = w)
  | 1 => decide (v ≠ w)
  | 2 => decide (w ≤ v)
  | _ => decide (v < w)

/-- SEGMENT_DECISION (R99, R102): the entry after the segment that entry `i` ends, none to stop. -/
def State.decide_ (s : State) (n i : Nat) (g : ListEntry) : State :=
  let q := s.seq n
  let go (after : Option Nat) (q : SeqState) : State := s.setSeq n { q with after := after, halting := after.isNone }
  match q.jump with
  | some target => go (some target) { q with jump := none, loops := [] }
  | none =>
    if g.ctrl = 1 then go (some g.target) q
    else if g.ctrl = 2 then
      let c := Tab.get 0 q.loops i + 1
      if g.arg = 0 ∨ c < g.arg then go (some g.target) { q with loops := Tab.put 0 q.loops i c }
      else
        go (if i + 1 < q.cfg.progBase + q.cfg.progLen then some (i + 1) else none) { q with loops := Tab.put 0 q.loops i 0 }
    else if g.ctrl = 3 then go (some (if q.cond then g.target else i + 1)) { q with cond := false }
    else if g.ctrl = 4 then go (some (if s.cmpHolds q g.arg then g.target else i + 1)) q
    else if g.ctrl = 5 then go none q
    else go (some (i + 1)) q

/-! ## A granule's content (R96, R121) -/

/-- A difference modulo 2^32 in the range −2^31 to 2^31 − 1 (R121). -/
def signed32 (d : Int) : Int := if d % rev < 2147483648 then d % rev else d % rev - rev

/-- FREQ from position `x` on, PHASE from the second slot on (R96, R121). -/
def Accum.apply (a : Accum) (x : Int) (freq : Nat) (phase : Nat) : Accum :=
  { a with x0 := x, acc0 := a.acc0 + (a.freq : Int) * (x - a.x0), freq := freq,
           phaseNext := a.phase + signed32 ((phase : Int) - a.phase) }

/-- Entry `i` plays its granule (R95, R98, R99, R106, R108): position and content in force, a streamed granule
consumed, a decision taken, and whether the granule is dark. -/
def State.playGranule (s : State) (n i : Nat) (g : ListEntry) (ok : Bool) (x : Int) (t : Tq) : State :=
  let q := s.seq n
  let lost := s.firingStopped || !s.groupsReady q.step.channels
  let dark := !q.step.admitted || lost || !ok
  let c := q.counters
  let s := s.setSeq n
    { q with
      entry := i
      gran := g
      granDark := dark
      first := false
      segEnded := g.segEnd
      rd := if g.src ∧ q.cfg.streamLen ≠ 0 then (q.rd + 1) % q.cfg.streamLen else q.rd
      accum := if ok then q.accum.apply x g.freq g.phase else q.accum
      step := { q.step with
        granules := q.step.granules + 1
        streamed := q.step.streamed || g.src
        dark := if dark then q.step.dark + 1 else q.step.dark
        reasons := q.step.reasons ||| (if lost then Reasons.reference else 0) ||| (if ok then 0 else Reasons.program) }
      counters := { c with
        darkGranules := if dark then c.darkGranules.inc else c.darkGranules
        streamInvalid := if ok then c.streamInvalid else c.streamInvalid.inc } }
  if g.segEnd then (s.decide_ n i g).publish (prodSeq n 2) t 0 else s

/-- A granule of an under-run plays dark (R106, R107): the position does not move. -/
def State.darkGranule (s : State) (n : Nat) (t : Tq) : State :=
  s.modSeq n fun q =>
    { q with
      granDark := true
      first := false
      frozen := q.frozen.map fun f =>
        { f with granules := f.granules + 1, first := if f.granules = 0 then t else f.first }
      counters := { q.counters with
        darkGranules := q.counters.darkGranules.inc
        underrunGranules := q.counters.underrunGranules.inc } }

/-! ## Granule boundaries -/

/-- Index of the step after the present one (R93). -/
def nextIndex (k : Nat) : Nat := (k + 1) % 2 ^ 20

/-- A step begins with entry `i` (R93, R95, R106): under-run when too few granules wait, else its granule plays.
Entry 57, DESIGN CHOICE. -/
def State.enterStep (s : State) (n i index : Nat) (x : Int) (t : Tq) (due resumed : Bool) : State :=
  let q := s.seq n
  let (len, need) := s.stepAt i
  if q.waitingCount < need then
    let st : Step := { Step.none with index := index, first := t, epoch := s.tb.epoch, facet := s.facetAt q x,
                                       reasons := s.issueReasons due }
    let s := s.setSeq n
      { q with run := .underrun, fUnderrun := true, entry := i, step := st,
               frozen := some { length := len, granules := 0, first := t } }
    (s.publish (prodSeq n 3) t 0).darkGranule n t
  else
    let s := if resumed then
        (s.setSeq n { q with run := .running, frozen := none }).publish (prodSeq n 4) t 0
      else s
    let (g, ok) := s.granule q i
    let s := s.beginStep n g index t x (s.stepOk q need) due
    s.playGranule n i g ok x t

/-- The frozen step of an under-run can play (R106). -/
def State.canResume (s : State) (q : SeqState) : Bool := decide ((s.stepAt q.entry).2 ≤ q.waitingCount)

/-- A stop that is due at the granule boundary at which the sequencer stands (R104): given with it, the reason when it cuts
the step in play short. -/
def State.stopHere (s : State) (n : Nat) : Option (Option Reasons) :=
  let q := s.seq n
  match q.frozen with
  | some f =>
    let runEnds := decide (f.length ≤ f.granules) && !s.canResume q
    (q.stopDue runEnds runEnds).map fun _ => none
  | none =>
    if q.halting then none
    else
      let begins := q.begins (s.sq.mem.entry q.nextEntry)
      (q.stopDue begins q.segEnded).map fun r => if begins then none else some r

/-- The boundary before a granule of an under-run (R107). Entry 57, DESIGN CHOICE. -/
def State.frozenBoundary (s : State) (n : Nat) (f : Frozen) (x : Int) (t : Tq) (due : Bool) : State :=
  let q := s.seq n
  if s.canResume q then (s.finishRun n f).enterStep n q.entry (nextIndex q.step.index) x t due true
  else if f.length ≤ f.granules then
    let s := s.finishRun n f
    let s := s.modSeq n fun q =>
      { q with
        step := { q.step with index := nextIndex q.step.index, epoch := s.tb.epoch, facet := s.facetAt q x,
                              reasons := s.issueReasons due }
        frozen := some { f with granules := 0 } }
    s.darkGranule n t
  else s.darkGranule n t

/-- The boundary before any other granule (R93, R99). -/
def State.plainBoundary (s : State) (n : Nat) (x : Int) (t : Tq) (due : Bool) : State :=
  let q := s.seq n
  if q.halting then s.haltSeq n t
  else
    let i := q.nextEntry
    let e := s.sq.mem.entry i
    if q.begins e then
      let forced := decide (64 ≤ q.step.granules) && decide (e.stepCtrl = 0) && !q.first
      let s := if forced then
          s.modSeq n fun q => { q with counters := { q.counters with stepForced := q.counters.stepForced.inc } }
        else s
      let s := if q.first then s else s.finishStep n
      s.enterStep n i (if q.first ∨ e.stepCtrl = 2 then 0 else nextIndex q.step.index) x t due false
    else
      let (g, ok) := s.granule q i
      s.playGranule n i g ok x t

/-- A granule boundary at slot position `x` and fire time `t`. Entry 28, DEDUCED. -/
def State.boundary (s : State) (n : Nat) (x : Int) (t : Tq) (due : Bool) : State :=
  match s.stopHere n, (s.seq n).frozen with
  | some why, _ => s.stopSeq n why
  | none, some f => s.frozenBoundary n f x t due
  | none, none => s.plainBoundary n x t due

/-! ## Shots (R72, R97, R163) -/

/-- The entries that a slot delivers to the outputs of row `r` (R43, R97). -/
def State.rowEntries (s : State) (n r : Nat) (t : Tq) (shot : Nat) (offsets : List Nat) (w : Nat) : List (Nat × Entry) :=
  (outputNumbers.filter fun o =>
    let c := (s.out o).cfg
    decide (c.enable = 1 ∧ c.cls ≤ 2 ∧ c.row = r)).map fun o =>
      if (s.out o).cfg.cls = 0 then
        (o, { src := .slot n, tTrig := t, gen := 0, burst := .given offsets w, shot := some shot, came := s.clock })
      else (o, { src := .slot n, tTrig := t, gen := 0, burst := .own, shot := none, came := s.clock })

/-- The bank that the step in play holds on a channel. -/
def State.bankOf (s : State) (n c : Nat) : Option Nat := (s.stepBanks n).find? fun b => decide (b / 2 = c)

/-- Row `r` fires in slot `k` at `t` (R72, R97, R163): its shot, the entries for its outputs, a gate on every channel
that watches it. Entry 28, DEDUCED. -/
def State.fireRow (s : State) (n r : Nat) (k : Int) (t : Tq) : State × List (Nat × Entry) :=
  let q := s.seq n
  let offsets := codeOffsets s.tx.deviceId r k (s.code q.gran.code)
  let es := s.emittersOf r
  let shift := match (es.find? fun o => decide ((s.out o).cfg.enable = 1)).orElse (fun _ => es.head?) with
    | some o => edgeShift (s.out o).cfg
    | none => 0
  let id := s.tx.nextShot
  let shot : Shot :=
    { seq := n, row := r, slot := k, offsets := offsets, w := q.gran.amplitude,
      rises := offsets.map fun d => t + shift + (d : Int), took := 0, darkAll := 0, formed := false, stamps := [],
      staDev := none, ref := none, darkened := false }
  let entries := s.rowEntries n r t id offsets q.gran.amplitude
  let s := { s with tx := { s.tx with nextShot := id + 1, shots := Tab.put none s.tx.shots id (some shot) } }
  let watching := q.step.channels.filter fun c => decide ((s.chan c).row = r)
  (s.each watching fun s c => s.armGate c (s.slotGate n id k t q.step.profile (s.bankOf n c) offsets), entries)

/-- The rows that the present slot of sequencer `n` fires (R94). -/
def State.firedRows (s : State) (n : Nat) : List Nat :=
  rowsOf ((s.seq n).gran.mask &&& (s.seq n).cfg.rows &&& (s.seq n).step.rows)

/-- A slot that is played fires its rows (R94, R97, R98). -/
def State.fireSlot (s : State) (n : Nat) (k : Int) (t : Tq) : State :=
  let q := s.seq n
  let mask := q.gran.mask &&& q.cfg.rows
  let rows := mask &&& q.step.rows
  let s := s.modSeq n fun q =>
    { q with counters := { q.counters with
        maskClipped := if mask = rows then q.counters.maskClipped else q.counters.maskClipped.inc
        shots := if rows = 0 then q.counters.shots else q.counters.shots.inc } }
  let r := (s.firedRows n).foldl (fun p row =>
    let a := p.1.fireRow n row k t
    (a.1, p.2 ++ a.2)) (s, [])
  r.1.arriveAll r.2

/-! ## One slot (R98) -/

/-- A slot after its granule's boundary: dark or played, then the next one (R98, R110, R121, R127). Each condition of R98
that a slot meets counts, also in a granule that is dark. Entry 28, DEDUCED. -/
def State.playSlot (s : State) (n : Nat) (t : Tq) (due : Bool) : State :=
  let q := s.seq n
  let twilight := decide (s.sv.run = .twilight)
  let live := !q.granDark && !due
  let test := q.frozen.isNone && decide (bitField q.gran.testMask q.j q.j = 1)
  let odd := twilight && decide (q.j % 2 = 1)
  let fast := match q.lastFire with
    | some p => decide (t - p < 262144)
    | none => false
  let c := q.counters
  let q' := { q with
      counters := { c with
        slots := c.slots.inc
        testSlots := if test then c.testSlots.inc else c.testSlots
        twilightSlots := if odd then c.twilightSlots.inc else c.twilightSlots
        overspeed := if fast then c.overspeed.inc else c.overspeed }
      testSlot := if test then some t else q.testSlot
      step := { q.step with
        twilight := q.step.twilight || (live && twilight)
        reasons := if due then q.step.reasons ||| Reasons.reference else q.step.reasons } }
  let s := s.setSeq n q'
  let s := if live && !test && !odd && !fast then s.fireSlot n q.k t else s
  s.modSeq n fun q =>
    { q with
      k := q.k + 1
      j := (q.j + 1) % 16
      lastFire := some t
      accum := { q.accum with phase := q.accum.phaseNext }
      trim := if q.j = 0 then q.trimPending.getD q.trim else q.trim
      trimPending := if q.j = 0 then none else q.trimPending }

/-- What SEQ_START returns: the fire time of the first slot and its index (R103, R378). -/
def startRet (t : Tq) (k : Int) : List Fld := [fT (FullTime.ofTq t), (Kind.u64, .num k)]

/-- The next slot of running sequencer `n` at its issue (R97): none while it is not due; while the estimator is invalid a
granule boundary is reached once the granule before it has been issued (R104, R122). -/
def State.issueSlot (s : State) (n : Nat) : State :=
  let q := s.seq n
  let x := q.accum.position q.k
  match s.fireTime q x with
  | none =>
    if q.j ≠ 0 then s
    else if q.halting then (if (q.stopDue true true).isSome then s.stopSeq n none else s)
    else match s.stopHere n with
      | some why => s.stopSeq n why
      | none => s
  | some t =>
    if !s.reached (t - issueLead) then s
    else
      let due := match q.stepTo with
        | some v => decide (t - issueLead < v)
        | none => false
      let s := if due then s else s.modSeq n fun q => { q with stepTo := none }
      let s := s.answerWaiting (.seqStart n) .ok (startRet t q.k)
      let s := if q.j = 0 then s.boundary n x t due else s
      if (s.seq n).running then s.playSlot n t due else s

/-- SLOT_ISSUE (R97). -/
def execSlotIssue (seq : Nat) (s : State) : Out :=
  if 7 < seq then .next s
  else if (s.seq seq).running then .next (s.issueSlot seq) else .next s

end Sys2Proof.Machine
end

