-- ==== Sys2Proof/Machine/Sequencers.lean ====
section
/-! DEFINITION. Commands of the fire sequencers and of program memory (R87 to R92, R101, R103 to R105, R110, R120,
R125 to R127, R377, R378). -/

namespace Sys2Proof.Machine

/-- The first whole tq at or after a time (R126): a slot before it is none at or after the time. -/
def tqUp (t : FullTime) : Tq :=
  (t.sec.toNat : Int) * tqPerSec + (t.ns.toNat : Int) * 1024 + (((t.fns.toNat + 63) / 64 : Nat) : Int)

/-- Sequencer `n` exists. -/
def badSeq (n : Nat) : Bool := decide (7 < n)

/-! ## SEQ_CONFIG (R89, R105) -/

/-- The program range is committed (R87). -/
def State.isCommitted (s : State) (c : SeqCfg) : Bool := s.sq.committed.contains (c.progBase, c.progLen)

/-- The ring of a table meets no committed range and no other sequencer's ring (R88). -/
def State.ringOk (s : State) (n : Nat) (c : SeqCfg) : Bool :=
  !(s.sq.committed.any fun r => overlap c.streamBase c.streamLen r.1 r.2) &&
    !(s.sq.seqs.any fun q => decide (q.1 ≠ n) && overlap c.streamBase c.streamLen q.2.cfg.streamBase q.2.cfg.streamLen)

/-- BAD_ARG of SEQ_CONFIG (R89). -/
def State.seqConfigBad (s : State) (n : Nat) (c : SeqCfg) : Bool :=
  badSeq n || !isBit c.domain || !isBit c.encoder || decide (65535 < c.progBase) || !within 4 65536 c.progLen ||
    decide (63 < c.resultStream) || decide (65535 < c.streamBase) ||
    !(decide (c.streamLen = 0) || within 4 16384 c.streamLen) || decide (65536 < c.streamBase + c.streamLen) ||
    !s.isCommitted c || !s.sq.mem.segStart c.progBase c.progLen c.startEntry ||
    !s.sq.mem.segStart c.progBase c.progLen c.jumpTarget || !s.ringOk n c

/-- A sequencer with a new table: a new ring begins empty, the same ring keeps RD and WR (R105). -/
def SeqState.configure (q : SeqState) (c : SeqCfg) : SeqState :=
  if q.cfg.streamBase = c.streamBase ∧ q.cfg.streamLen = c.streamLen then { q with cfg := c }
  else { q with cfg := c, rd := 0, wr := 0 }

/-- SEQ_CONFIG (R89). -/
def execSeqConfig (seq : Nat) (cfg : SeqCfg) : State → Out :=
  cmdRow (.seqConfig seq cfg) fun s =>
    .plain [(s.seqConfigBad seq cfg, .badArg),
            ((s.seq seq).running || s.resetting 1 seq, .busy)]
      ((s.modSeq seq fun q => q.configure cfg).refreshFs)

/-! ## Program memory (R87, R88, R92, R378) -/

/-- PROG_WRITE (R87, R378): `data` is what the DMA read brings, none where it fails. -/
def execProgWrite (first count src : Nat) (data : Option (List Byte)) : State → Out :=
  cmdRow (.progWrite first count src data) fun s =>
    let bs := data.getD []
    .plain [(decide (65536 < first + count), .badArg),
            (s.isProtected first count || s.meetsWaiting first count, .locked),
            (!s.dmaOk || decide (bs.length ≠ 32 * count), .integrity)]
      (s.writeProgram (32 * first) bs)

/-- A committed range. -/
def State.addCommitted (s : State) (first count : Nat) : State :=
  { s with sq := { s.sq with committed := (first, count) :: s.sq.committed.filter (· ≠ (first, count)) } }

/-- PROG_COMMIT (R92): the CRC of the range, or the lowest offending entry. Entry 57, DESIGN CHOICE. -/
def execProgCommit (first count : Nat) : State → Out :=
  cmdRow (.progCommit first count) fun s =>
    .gives [(decide (65536 < first + count ∨ count = 0), .badArg)]
      (match lowest (s.offending first count) with
       | some i => .done s .badArg [fU16 i] []
       | none => .done (s.addCommitted first count) .ok [fU32 (crc32 (s.sq.mem.bytes (32 * first) (32 * count)))] [])

/-- A BAR2 write into the program-memory part (R86 to R88): ignored and counted where it meets a protected range or a
waiting ring entry. -/
def execProgramMemoryWrite (offset : Nat) (data : List Byte) : State → Out := hostWrite fun s =>
  let first := offset / 32
  let count := (offset + data.length + 31) / 32 - first
  if 2097152 < offset + data.length then .next s
  else if s.isProtected first count || s.meetsWaiting first count then
    .next { s with regs := { s.regs with progWriteReject := s.regs.progWriteReject.inc } }
  else .next (s.writeProgram offset data)

/-! ## SEQ_START (R95, R97, R103, R120, R126) -/

/-- Least distance of a start from the command's execution: 10 µs (R103, R120). -/
def startLead : Tq := 10240000

/-- The content in force at the start (R103): START_ENTRY's, or the streamed granule's at RD. -/
def State.startContent (s : State) (q : SeqState) : ListEntry := (s.granule q q.cfg.startEntry).1

/-- Position of the first slot of a start, and its index: of slot k in the time domain the first at or after `t0`
(R126), slot 0 at the start position in the angle domain (R120). Entry 57, DESIGN CHOICE. -/
def State.startAt (s : State) (q : SeqState) (mode facet : Nat) (time : Tq) : Accum × Int :=
  let g := s.startContent q
  let freq := max 1 g.freq
  if q.cfg.domain = 1 then
    let t0 := if mode = 1 then time else s.now + startLead
    let g0 := q.g0.tq
    let a : Accum := { x0 := g0, acc0 := 0, freq := freq, phase := g.phase, phaseNext := g.phase }
    (a, ((freq : Int) * (t0 - q.trim - 1 - g0) + (g.phase : Int) * 2 ^ 16) / 2 ^ 48 + 1)
  else
    let e := s.estimator q.cfg.encoder
    let x0 := match e.span 0 with
      | none => 0
      | some (a, tw, th) =>
        if mode = 2 then
          let m : Int := e.meridians.getD facet 0
          let least := a.u + (s.now + startLead - 1 - a.t) * th / tw + 1
          m + ceilDiv (least - m) rev * rev
        else a.u + ceilDiv ((s.now + startLead - a.t) * th) tw
    ({ x0 := x0, acc0 := -((g.phase : Int) * 2 ^ 16), freq := freq, phase := g.phase, phaseNext := g.phase }, 0)

/-- An output in the rows breaks the condition of R97. -/
def State.shiftBad (s : State) (rows : BitVec 64) : Bool :=
  outputNumbers.any fun o =>
    let c := (s.out o).cfg
    decide (c.cls ≠ 3) && rows.getLsbD c.row && decide (edgeShift c < -12288)

/-- A resident AMPLITUDE breaks R70 or the LVCMOS floor of R47 (R95). -/
def State.amplitudesBad (s : State) (q : SeqState) : Bool :=
  ((s.residents q).any fun e => !ampOk (s.code e.code) e.amplitude) || (s.lowAmp q && s.lvcmosIn q.cfg.rows)

/-- BAD_ARG of SEQ_START (R95, R103, R126). -/
def State.startBad (s : State) (n mode facet : Nat) (time : FullTime) : Bool :=
  let q := s.seq n
  let r := s.startAt q mode facet (tqUp time)
  badSeq n || decide (2 < mode) || decide (mode = 1 ∧ q.cfg.domain ≠ 1) || decide (mode = 2 ∧ q.cfg.domain ≠ 0) ||
    !s.isCommitted q.cfg || s.amplitudesBad q || s.shiftBad q.cfg.rows ||
    decide (mode = 2 ∧ (s.estimator q.cfg.encoder).facets ≤ facet) || decide (mode = 1) && !time.ok ||
    decide (q.cfg.domain = 1 ∧ r.1.position r.2 < q.g0.tq)

/-- START_ENTRY takes a streamed granule and none waits (R103). -/
def State.startUnfed (s : State) (q : SeqState) : Bool :=
  (s.sq.mem.entry q.cfg.startEntry).src && decide (q.waitingCount = 0)

/-- A sequencer at its start: at START_ENTRY, with COND clear and no request pending (R93, R101, R103). -/
def SeqState.started (q : SeqState) (a : Accum) (k : Int) : SeqState :=
  { q.stopped with run := .running, accum := a, k := k, j := 0, lastFire := none, entry := q.cfg.startEntry,
                   granDark := false, loops := [], jump := none, counters := q.counters }

/-- The sequencer starts, and the device is in Ranging: no CLASS changes until the next Ready-idle (R22, R23). -/
def State.startSeq (s : State) (n mode facet : Nat) (time : Tq) : State :=
  let q := s.seq n
  let r := s.startAt q mode facet time
  let s := s.setSeq n (q.started r.1 r.2)
  { s with dev := { s.dev with run := .ranging, classLocked := true } }

/-- SEQ_START (R103): answered once the first slot's fire time is fixed, in the time domain at once (R378). -/
def execSeqStart (seq mode facet : Nat) (time : FullTime) : State → Out :=
  cmdRow (.seqStart seq mode facet time) fun s =>
    let q := s.seq seq
    let r := s.startAt q mode facet (tqUp time)
    let s' := s.startSeq seq mode facet (tqUp time)
    .gives [(s.startBad seq mode facet time, .badArg),
            (!s.sv.permit || decide (s.sv.run = .dusk) || decide (s.sv.run = .eclipse) || decide (s.dev.run = .eclipse),
              .safetyDenied),
            (!s.fsReady seq || s.startUnfed q, .notReady),
            (q.running || (s.stream q.cfg.resultStream).lostWaits || s.pll.armed ||
              s.resetting 1 seq, .busy),
            (decide (mode = 1 ∧ time.tq < s.now + startLead), .late)]
      (if q.cfg.domain = 1 then .done s' .ok (startRet (r.1.position r.2 + q.trim) r.2) []
       else .waits s' (.seqStart seq))

/-! ## SEQ_STOP and SEQ_JUMP (R101, R104) -/

/-- A stop asked by the host, beside what is asked for already. -/
def SeqState.askStop (q : SeqState) (mode : Nat) : SeqState :=
  { q with stops := q.stops ++ [{ mode := mode, reason := Reasons.stopped }] }

/-- SEQ_STOP (R104): answered when the sequencer has stopped. -/
def execSeqStop (seq mode : Nat) : State → Out :=
  cmdRow (.seqStop seq mode) fun s =>
    .gives [(badSeq seq || decide (2 < mode), .badArg)]
      (if (s.seq seq).running then .waits (s.modSeq seq fun q => q.askStop mode) (.seqStop seq)
       else .done s .ok [] [])

/-- SEQ_JUMP (R101). -/
def execSeqJump (seq target : Nat) : State → Out :=
  cmdRow (.seqJump seq target) fun s =>
    let q := s.seq seq
    .plain [(badSeq seq || !s.sq.mem.segStart q.cfg.progBase q.cfg.progLen target, .badArg),
            (q.jump.isSome, .busy), (!q.running, .refused)]
      (s.modSeq seq fun q => { q with jump := some target })

/-! ## SEQ_STATUS and counters (R110) -/

/-- The code of a state (R110). -/
def SeqRun.code : SeqRun → Nat
  | .stopped => 0
  | .running => 1
  | .underrun => 2

/-- The counters in the order of R110. -/
def SeqCounters.fields (c : SeqCounters) : List Fld :=
  [fU32 c.slots, fU32 c.shots, fU32 c.darkGranules, fU32 c.underrunGranules, fU32 c.skippedSteps, fU32 c.testSlots,
   fU32 c.twilightSlots, fU32 c.overspeed, fU32 c.maskClipped, fU32 c.stepForced, fU32 c.streamInvalid,
   fU32 c.jumpOverrun, fU32 c.condOverrun, fU32 c.jumpDropped]

/-- SEQ_STATUS (R110). Entry 28, DEDUCED. -/
def execSeqStatus (seq dst : Nat) : State → Out :=
  cmdRow (.seqStatus seq dst) fun s =>
    let q := s.seq seq
    .block [(badSeq seq, .badArg)] s dst
      ([fU8 q.run.code, fU16 q.entry, fU64 (q.k - 1).toNat, fU32 q.step.index, fU16 q.rd, fU16 q.wr,
        fFlags [q.fUnderrun, q.pushErr, q.fJumpOverrun, q.fCondOverrun]] ++ q.counters.fields)

/-- SEQ_COUNTERS_CLEAR (R110). -/
def execSeqCountersClear (seq : Nat) : State → Out :=
  cmdRow (.seqCountersClear seq) fun s =>
    .plain [(badSeq seq, .badArg)]
      (s.modSeq seq fun q => { q with pushErr := false, fUnderrun := false, fJumpOverrun := false,
                                      fCondOverrun := false, counters := SeqCounters.zero })

/-! ## Stream pushes (R105, R428) -/

/-- Free space of a ring (R105). -/
def SeqState.ringFree (q : SeqState) : Nat := q.cfg.streamLen - 1 - q.waitingCount

/-- WR advanced by a push. -/
def SeqState.push (q : SeqState) (count : Nat) : SeqState :=
  if q.cfg.streamLen = 0 then q else { q with wr := (q.wr + count) % q.cfg.streamLen }

/-- SEQ_STREAM_PUSH (R105). -/
def execSeqStreamPush (seq count : Nat) : State → Out :=
  cmdRow (.seqStreamPush seq count) fun s =>
    .returns [(badSeq seq || decide ((s.seq seq).ringFree < count), .badArg)]
      (s.modSeq seq fun q => q.push count) [fU16 ((s.seq seq).push count).wr]

/-- The stream doorbell (R105): a push beyond the free space is ignored and sets STREAM_PUSH_ERR. -/
def State.doorbell (s : State) (seq count : Nat) : State :=
  s.modSeq seq fun q => if q.ringFree < count then { q with pushErr := true } else q.push count

/-- A write of the stream doorbell: COUNT in [15:0] (R428). -/
def execSeqPush (seq value : Nat) : State → Out := hostWrite fun s =>
  if 7 < seq then .next s else .next (s.doorbell seq (value % 65536))

/-- A write of STREAM_PUSH_ERR: a 1 in bit 31 clears it (R428). -/
def State.clearPushErr (s : State) (seq value : Nat) : State :=
  if bitField value 31 31 = 1 then s.modSeq seq fun q => { q with pushErr := false } else s

/-- STREAM_PUSH_ERR_CLEAR (R428). -/
def execStreamPushErrClear (seq value : Nat) : State → Out := hostWrite fun s =>
  if 7 < seq then .next s else .next (s.clearPushErr seq value)

/-! ## SEQ_GRID_SET (R125, R127) -/

/-- A change of GRID_TRIM of a running time-domain sequencer exceeds half a slot (R127): measured from the trim in force, at the
FREQ in force; a later change before the boundary takes the place of one that waits. Entry 57, DESIGN CHOICE. -/
def SeqState.trimTooFar (q : SeqState) (trim : Int) : Bool :=
  q.running && decide (q.cfg.domain = 1) && decide (2 ^ 48 < (trim - q.trim).natAbs * 2 * q.accum.freq)

/-- SEQ_GRID_SET (R125, R127): on a running sequencer GRID_TRIM acts at the next granule boundary. -/
def execSeqGridSet (seq : Nat) (g0 : FullTime) (trim : Int) : State → Out :=
  cmdRow (.seqGridSet seq g0 trim) fun s =>
    let q := s.seq seq
    .plain [(badSeq seq || !g0.ok || !g0.onTq || !withinI (-65536) 65535 trim || q.trimTooFar trim, .badArg),
            (q.running && decide (g0 ≠ q.g0), .busy)]
      (s.modSeq seq fun q => if q.running then { q with trimPending := some trim } else { q with g0 := g0, trim := trim })

end Sys2Proof.Machine
end

