-- ==== Sys2Proof/Machine/InputOps.lean ====
section
/-! DEFINITION. What inputs share: converters and stamps, the stamp path, raw queues and raw export (R134 to R154, R166
to R174). -/

namespace Sys2Proof.Machine

/-! ## Input indices (R134) -/

def idxSta (k : Nat) : Nat := 512 + k
def idxTrg (k : Nat) : Nat := 576 + k
def idxSynci : Nat := 584

/-! ## Converters (R140, R141, R144) -/

/-- Converter `k` of an input. -/
def State.conv (s : State) (i k : Nat) : Converter := Tab.get Converter.reset (s.input i).convs k

/-- Converter `k` of an input changed by `f`. -/
def State.modConv (s : State) (i k : Nat) (f : Converter → Converter) : State :=
  s.modInput i fun x => { x with convs := Tab.put Converter.reset x.convs k (f (Tab.get Converter.reset x.convs k)) }

/-- The stamp of a hit by a converter (R140, R308): grid phase edge `phase` of the TCK cycle of `tBall`, `n` slow
periods, `skew` the sum of SKEW_BOARD and of SKEW_CAL, which the converter removes (R136, R309); rounded to 4 tq, halves
later. Entry 5, DESIGN CHOICE. Entry 21, DEDUCED. -/
def Converter.stamp (c : Converter) (tBall : Tq) (phase n : Nat) (skew : Int) : Tq :=
  let d : Int := (c.m2 : Int) - c.m1
  let tPhase := tBall / 1024 * 1024 + 128 * (phase : Int) + c.tables.ph.getD (phase % 8) 0
  (16 * d * (tPhase - 1024 - skew) + 16384 * c.m1 - 16384 * (n : Int) - d * c.tables.inl.getD n 0 + 32 * d) / (64 * d) * 4

/-- A converter may take an edge at `t` (R141). -/
def Converter.free (c : Converter) (t : Tq) : Bool := !c.excluded && !c.calibrating && decide (c.busyUntil ≤ t)

/-- The first free one of `n` converters from number `base` on, in round-robin order from `base + from_` (R141,
R142). Entry 30, DEDUCED. -/
def State.freeConv (s : State) (i base n from_ : Nat) (t : Tq) : Option Nat :=
  ((List.range n).map fun k => base + (from_ + k) % n).find? fun k => (s.conv i k).free t

/-- How long a converter is busy after its edge (R141). Entry 30, DEDUCED. -/
def convTime : Tq := 8192

/-- The duration for which a stamp may be under way (R148). -/
def pathTime : Tq := 32768

/-! ## Losses -/

/-- An edge of an input is lost: the next stamp that is delivered carries DROPPED_BEFORE (R151). -/
def State.lostEdge (s : State) (i : Nat) : State := s.modInput i fun x => { x with droppedBefore := true }

/-- A raw stamp of an input is lost (R151, R159, R172, R173). -/
def State.loseRaw (s : State) (i : Nat) : State :=
  let s := s.lostEdge i
  if i < 512 then s.modChan i fun x => { x with droppedHits := x.droppedHits.inc }
  else s.modInput i fun x => { x with rawDropped := x.rawDropped.inc }

/-- An edge finds no free converter (R141). -/
def State.pairLost (s : State) (i : Nat) : State :=
  s.modInput i fun x => { x with pairLost := x.pairLost.inc, droppedBefore := true }

/-- A stamp enters the stamp path of its input (R148), and counts while the PLL is unlocked (R157). -/
def State.intoPath (s : State) (i : Nat) (p : PathStamp) : State :=
  s.modInput i fun x =>
    { x with path := x.path ++ [p], suspectStamps := if p.suspect then x.suspectStamps.inc else x.suspectStamps }

/-! ## Raw export (R151, R172, R173) -/

/-- Records of the export buffer (R173). -/
def exportSize : Nat := 4096

/-- The record of a raw stamp (R151). -/
def RawStamp.rec_ (r : RawStamp) : Rec :=
  let f := FullTime.ofTq r.t
  recOf (bitField f.fns.toNat 15 8 * 2 ^ 24 + r.source * 2 ^ 14 + r.falling.toNat * 2 ^ 13 + r.holdover.toNat * 2 ^ 12 +
      r.droppedBefore.toNat * 2 ^ 11 + r.epoch.toNat % 256)
    f.ns.toNat (f.sec.toNat % 2 ^ 32) (f.sec.toNat / 2 ^ 32)

/-- The export buffer takes a further record: a power warning keeps it from issue (R407). -/
def State.exportFree (s : State) : Bool := decide (s.rx.exportUsed < exportSize) && !s.dev.pfail

/-- A raw record is issued on a raw stream (R172, R173). Entry 30, DEDUCED. -/
def State.exportRaw (s : State) (n : Nat) (r : RawStamp) : State :=
  let s := { s with rx := { s.rx with exportUsed := s.rx.exportUsed + 1 } }
  s.issueSpecial n fun k =>
    { number := k, kind := .raw, recs := [r.rec_], seq := 0xFF, epoch := r.epoch, facet := 0xFF, step := 0, time := r.t }

/-- Stamps of an input's raw queue leave it while the export buffer has room: `n` of them at most. -/
def State.drainRaw (i : Nat) : Nat → State → State
  | 0, s => s
  | n + 1, s =>
    match (s.input i).queue, (s.input i).stream with
    | r :: rest, some st =>
      if s.exportFree then State.drainRaw i n ((s.modInput i fun x => { x with queue := rest }).exportRaw st r) else s
    | _, _ => s

/-- Every raw queue leaves what the export buffer has room for. -/
def State.drainAllRaw (s : State) : State :=
  s.each ((s.rx.inputs.filter fun p => !p.2.queue.isEmpty).map (·.1)) fun s i =>
    State.drainRaw i (s.input i).queue.length s

/-- A stamp reaches the raw queue of its input (R153, R172, R173). -/
def State.deliverRaw (s : State) (i : Nat) (p : PathStamp) : State :=
  let x := s.input i
  if x.stream.isNone ∨ 64 ≤ x.queue.length then s.loseRaw i
  else
    let r : RawStamp :=
      { t := p.t, source := i, falling := p.falling, holdover := p.suspect, droppedBefore := x.droppedBefore,
        epoch := p.epoch }
    State.drainRaw i (x.queue.length + 1) (s.setInput i { x with queue := x.queue ++ [r], droppedBefore := false })

/-! ## The raw gate (R153, R154) -/

/-- The last stamp of a trigger input at or before `t`, with the level behind it: none where an overrun made it. -/
def Trg.lastAt (x : Trg) (t : Tq) : Option (Tq × Option Bool) := x.levels.find? fun l => decide (l.1 ≤ t)

/-- The level of a trigger input at stamp `t`: none before its first stamp and behind one that an overrun made.
Entry 24, DEDUCED. -/
def Trg.levelAt (x : Trg) (t : Tq) : Option Bool := (x.lastAt t).bind (·.2)

/-- The stamp of a raw edge on the scale that stands, where the trigger stamps lie (R33, R153). Entry 22, DEDUCED.
Entry 24, DEDUCED. -/
def PathStamp.onScale (p : PathStamp) : Tq := p.t + p.moved

/-- The raw gate of a channel is open for a stamp at `t`. Entry 24, DEDUCED. -/
def State.rawOpen (s : State) (c : HitCfg) (t : Tq) : Bool :=
  decide (c.rawGate = 0) || decide ((s.trg c.trgSel).levelAt t = some (decide (c.trgActive = 1)))

/-! ## Gate queues (R166 to R168, R174) -/

/-- A stamp as it is in gate number `id` (R313). -/
def PathStamp.inGate (p : PathStamp) (id : Nat) : Tq := Tab.get p.t p.gated id

/-- The gates open at the ball time `t` (R143). -/
def Channel.openGates (x : Channel) (t : Tq) : List Gate := x.gates.filter fun g => g.openAt t

/-- The gates that a stamp enters (R167). -/
def Channel.targets (x : Channel) (p : PathStamp) : List Gate := x.gates.filter fun g => g.openAt (p.inGate g.id)

/-- The word of a stamp in a gate (R150): REL in 31:6, CONV in 5:4, CAL_REUSED of the gate in 3, REF_SUSPECT in 2. -/
def Gate.word (g : Gate) (p : PathStamp) : Word :=
  { id := p.id, multi := false, t := p.inGate g.id
    bits := BitVec.ofNat 32 ((p.inGate g.id - g.tOpen).toNat * 64 + p.conv % 4 * 16 + g.calReused.toNat * 8 +
      p.suspect.toNat * 4) }

/-- A stamp of channel `c` at `t` is exported by a tap to raw stream `st`, or counted in TAP_LOST (R151, R174). -/
def State.tapExport (s : State) (c st : Nat) (p : PathStamp) (t : Tq) (before : Bool) : State :=
  if s.exportFree then
    s.exportRaw st { t := t, source := c, falling := p.falling, holdover := p.suspect, droppedBefore := before,
                     epoch := p.epoch }
  else (s.modTap (c / 64) fun x => { x with tapLost := x.tapLost.inc }).lostEdge c

/-- The greatest stamp that has passed the stamp path (R184): one of before a backward step tells nothing of the scale that
stands. -/
def Channel.pass (x : Channel) (p : PathStamp) : Channel :=
  if p.backed then x
  else { x with passed := some (match x.passed with
      | none => p.t
      | some u => max u p.t) }

/-- A stamp is written to every gate of its window (R167), the group's tap and gates armed by command export it (R171,
R174). Its first gate is the one armed first. Entry 57, DESIGN CHOICE. -/
def State.enterGates (s : State) (c : Nat) (p : PathStamp) : State :=
  let gs := (s.chan c).targets p
  let before := (s.input c).droppedBefore
  let s := s.modInput c fun x => { x with droppedBefore := false }
  let s := s.modChan c fun x =>
    let x := ({ x with
      gates := x.gates.map fun (g : Gate) =>
        if g.openAt (p.inGate g.id) then { g with words := g.words ++ [g.word p], suspect := g.suspect || p.suspect } else g
      multiAssigned := if 2 ≤ gs.length then x.multiAssigned.inc else x.multiAssigned }).pass p
    { x with poolHigh := max x.poolHigh x.poolUsed }
  let s := gs.foldl (fun s g => s.modDesc g.bank fun d => { d with stampsIn := d.stampsIn + 1 }) s
  let tap := s.tap (c / 64)
  let s := if tap.tapChannel = c % 64 then
      s.tapExport c tap.tapStream p (p.inGate ((gs.head?.map (·.id)).getD 0)) before
    else s
  gs.foldl (fun s g => match g.tapStream with
    | none => s
    | some st => s.tapExport c st p (p.inGate g.id) before) s

/-- A stamp of channel `c` is discarded (R143, R148, R167): UNGATED where no gate holds it, else a drop of each of its
gates. -/
def State.dropStamp (s : State) (c : Nat) (p : PathStamp) : State :=
  let s := s.lostEdge c
  if ((s.chan c).targets p).isEmpty then
    (s.modInput c fun x => { x with ungated := x.ungated.inc }).modChan c fun x => x.pass p
  else
    s.modChan c fun x =>
      ({ x with
        gates := x.gates.map fun (g : Gate) => if g.openAt (p.inGate g.id) then { g with drops := g.drops + 1 } else g
        droppedHits := x.droppedHits.inc }).pass p

/-- The stamp path of an input without its first stamp. -/
def State.popPath (s : State) (i : Nat) : State := s.modInput i fun x => { x with path := x.path.drop 1 }

/-- A stamp of input `i` is of ranging class: by the settings that its edge met (R138). -/
def PathStamp.isRanging (p : PathStamp) (i : Nat) : Bool := decide (i < 512) && decide (p.cfg.cls = 0)

/-- A stamp that waited 32 ns is discarded (R148). -/
def State.timeoutStamp (s : State) (i : Nat) (p : PathStamp) : State :=
  if p.isRanging i then (s.popPath i).dropStamp i p else (s.popPath i).loseRaw i

/-- Every stamp of an input that has waited 32 ns is discarded: `n` of them at most. -/
def State.timeoutStamps (i : Nat) : Nat → State → State
  | 0, s => s
  | n + 1, s =>
    match (s.input i).path with
    | [] => s
    | p :: _ => if s.reached (p.tEdge + pathTime) then State.timeoutStamps i n (s.timeoutStamp i p) else s

/-- The input index exists (R134). -/
def badInput (i : Nat) : Bool := decide (584 < i)

/-- The first stamp in the path of an input is delivered (R148, R153, R167): a ranging stamp waits while the pool has no
room for all its gates. -/
def State.deliverStamp (s : State) (i : Nat) (p : PathStamp) : State :=
  if p.isRanging i then
    let gs := (s.chan i).targets p
    if gs.isEmpty then (s.popPath i).dropStamp i p
    else if (s.chan i).poolUsed + gs.length ≤ poolSize then (s.popPath i).enterGates i p
    else s
  else if i < 512 ∧ !s.rawOpen p.cfg p.onScale then
    (s.popPath i).modInput i fun x => { x with ungated := x.ungated.inc, droppedBefore := true }
  else (s.popPath i).deliverRaw i p

/-- An edge may still follow a trigger stamp within 2.0 ns and lose it to the overrun (R37, R154), at 4 tq resolution.
Entry 24, DEDUCED. -/
def overrunTime : Tq := 2052

/-- A raw stamp's decision waits on trigger edges that may still come: its time is not over, or the trigger stamp before it may
still turn out an overrun's (R154). Entry 24, DEDUCED. -/
def State.awaitsTrg (s : State) (i : Nat) (p : PathStamp) : Bool :=
  decide (i < 512) && !p.isRanging i && decide (p.cfg.rawGate = 1) &&
    (decide (s.now ≤ p.onScale) || match (s.trg p.cfg.trgSel).lastAt p.onScale with
      | none => false
      | some l => decide (s.now < l.1 + overrunTime))

/-- STAMP_DELIVERY (R148, R154, R167): a stamp is delivered within 32 ns of its edge or not at all. -/
def execStampDelivery (input : Nat) (s : State) : Out :=
  if badInput input then .next s
  else match (s.input input).path with
    | [] => .next s
    | p :: _ =>
      if p.tEdge + pathTime < s.now ∨ s.awaitsTrg input p then .next s else .next (s.deliverStamp input p)

/-- STAMP_TIMEOUT (R148). -/
def execStampTimeout (input : Nat) (s : State) : Out :=
  if badInput input then .next s
  else match (s.input input).path with
    | [] => .next s
    | p :: _ => if s.reached (p.tEdge + pathTime) then .next (s.timeoutStamp input p) else .next s

/-! ## Edges at hit inputs (R82, R135 to R143, R153) -/

/-- A lane injects into channel `c` at `t` (R82). -/
def State.injected (s : State) (c : Nat) (t : Tq) : Bool :=
  let now := match s.lane (c / 64) with
    | [] => []
    | j :: _ => match j.placed with
      | none => []
      | some p => [s.injection (c / 64) j p]
  (now ++ s.tx.blanked).any fun b => decide (b.channel = c ∧ b.lo ≤ t ∧ t ≤ b.hi)

/-- An edge at an enabled hit input is converted, or finds no free converter (R140, R141). -/
def State.convertHit (s : State) (c : Nat) (falling : Bool) (tBall : Tq) (phase n : Nat) : State :=
  let x := s.input c
  match s.freeConv c 0 4 x.rr tBall with
  | none => s.pairLost c
  | some k =>
    let ch := s.chan c
    let t (cal : Int) : Tq := (s.conv c k).stamp tBall phase n (ch.cfg.skewBoard + cal)
    let p : PathStamp :=
      { id := ch.nextStamp, t := t (s.inSkew c)
        gated := (ch.gates.filter fun g => decide (g.life = .opened ∧ g.skewCal ≠ s.inSkew c)).map fun g => (g.id, t g.skewCal)
        tEdge := tBall, conv := k, suspect := !s.pll.locked, falling := falling, epoch := s.tb.epoch, cfg := ch.cfg,
        moved := 0, backed := false }
    let s := s.modConv c k fun v => { v with busyUntil := tBall + convTime }
    let s := (s.modInput c fun x => { x with rr := (k + 1) % 4 }).modChan c fun x => { x with nextStamp := x.nextStamp + 1 }
    s.intoPath c p

/-- An edge at a hit input that its EDGE selects (R82, R143, R147, R153). One that is not converted for want of an open gate does
not count as lost for DROPPED_BEFORE. Entry 57, DESIGN CHOICE. -/
def State.hitEdge (s : State) (c : Nat) (falling : Bool) (tBall : Tq) (phase n : Nat) : State :=
  if s.injected c tBall then s.modInput c fun x => { x with lbBlanked := x.lbBlanked.inc, droppedBefore := true }
  else if (s.chan c).cfg.cls = 0 then
    if ((s.chan c).openGates tBall).isEmpty then s.modInput c fun x => { x with ungated := x.ungated.inc }
    else if s.inService c then s.convertHit c falling tBall phase n else s.lostEdge c
  else if s.isReady (readyHg (c / 64)) && s.inService c then s.convertHit c falling tBall phase n
  else s.lostEdge c

/-- HIT_EDGE (R143): an edge at the ball, with the grid phase and the vernier count that the converter reads. -/
def execHitEdge (channel : Nat) (falling : Bool) (tBall : Tq) (phase n : Nat) (s : State) : Out :=
  if 511 < channel then .next s
  else
    let c := (s.chan channel).cfg
    if c.enable = 1 ∧ c.edge = falling.toNat ∧ s.heard tBall then .next (s.hitEdge channel falling tBall phase n)
    else .next s

end Sys2Proof.Machine
end

