-- ==== Sys2Proof/Machine/Inputs.lean ====
section
/-! DEFINITION. Commands of inputs and gates (R137 to R139, R159, R161, R162, R171 to R176, R379). -/

namespace Sys2Proof.Machine

/-! ## Configuration (R137 to R139) -/

/-- The fields of HIT_CONFIG lie in their ranges (R137). -/
def hitRanges (c : HitCfg) : Bool :=
  isBit c.enable && isBit c.cls && isBit c.edge && isBit c.term && decide (c.hyst ≤ 3) &&
    withinI (-65536) 65535 c.skewBoard && isBit c.rawGate && decide (c.trgSel ≤ 7) && isBit c.trgActive

/-- A range of `n` units from `first` on, of `total` (R137, R139, R159, R161, R171, R176). -/
def badRange (first n total : Nat) : Bool := decide (n = 0 ∨ total < first + n)

/-- A channel is watched by a row in the ROWS of a running sequencer (R138). -/
def State.watchedNow (s : State) (c : Nat) : Bool :=
  s.sq.seqs.any fun q => q.2.running && (s.chan c).watches q.2.cfg.rows

/-- A channel has a gate open. -/
def State.hasOpenGate (s : State) (c : Nat) : Bool := (s.chan c).gates.any fun g => g.openAt s.now

/-- A gate of the channel was open at `t`, drained since or not. Entry 30, DEDUCED. -/
def Channel.heldOpenAt (x : Channel) (t : Tq) : Bool := x.gates.any fun g => decide (g.tOpen ≤ t ∧ t < g.tClose)

/-- A new table for a hit input: one that is no enabled raw channel rolls for no relock any more (R146, R158).
Entry 30, DEDUCED. -/
def State.configureHit (s : State) (c : Nat) (cfg : HitCfg) : State :=
  (s.modChan c fun x => { x with cfg := cfg }).modInput c fun x =>
    { x with sweep := if cfg.cls = 1 ∧ cfg.enable = 1 then x.sweep else [] }

/-- HIT_CONFIG (R137, R138, R386). -/
def execHitConfig (first count : Nat) (cfg : HitCfg) : State → Out :=
  cmdRow (.hitConfig first count cfg) fun s =>
    .plain [(badRange first count 512 || !hitRanges cfg ||
              (decide (cfg.rawGate = 1) && decide ((s.trg cfg.trgSel).edges ≠ 3)), .badArg),
            ((numbers first count).any (fun c => s.hasOpenGate c || s.watchedNow c), .busy),
            (s.groupResetting (numbers first count), .busy)]
      (s.each (numbers first count) fun s c => s.configureHit c cfg).refreshFs

/-- TRG_CONFIG would leave a trigger input that gates a raw channel without both edges (R138). -/
def State.gatesRaw (s : State) (t : Nat) : Bool :=
  s.rx.channels.any fun c => decide (c.2.cfg.rawGate = 1 ∧ c.2.cfg.trgSel = t ∧ c.2.cfg.cls = 1)

/-- TRG_CONFIG (R37, R138). -/
def execTrgConfig (trg edges : Nat) : State → Out :=
  cmdRow (.trgConfig trg edges) fun s =>
    .plain [(decide (7 < trg) || decide (3 < edges) || (decide (edges ≠ 3) && s.gatesRaw trg), .badArg)]
      (s.modTrg trg fun x => { x with edges := edges })

/-- The fields of STA_INPUT_CONFIG lie in their ranges (R139). -/
def staInRanges (c : StaInCfg) : Bool :=
  isBit c.enable && isBit c.pol && isBit c.term && decide (c.hyst ≤ 3) && withinI (-65536) 65535 c.skewBoard &&
    isBit c.diag && decide (c.staDev ≤ 8192)

/-- Two tables of a start input differ in more than DIAG and STA_DEV. -/
def staInDiffers (a b : StaInCfg) : Bool := decide ({ a with diag := 0, staDev := 0 } ≠ { b with diag := 0, staDev := 0 })

/-- Shots of a row whose first pulse has risen keep the STA_DEV in force (R139). -/
def State.bindStaDev (s : State) (r dev : Nat) : State :=
  let shots := s.tx.shots.map fun (k, x) => (k, x.map fun x =>
    if x.row = r ∧ x.staDev.isNone ∧ x.rises.headD 0 ≤ s.now then { x with staDev := some dev } else x)
  { s with tx := { s.tx with shots := shots } }

/-- A new table for a start input. -/
def State.configureSta (s : State) (cfg : StaInCfg) (k : Nat) : State :=
  (s.bindStaDev (s.staCfg k).row (s.sta k).cfg.staDev).modSta k fun x => { x with cfg := cfg }

/-- STA_INPUT_CONFIG (R139). -/
def execStaInputConfig (first count : Nat) (cfg : StaInCfg) : State → Out :=
  cmdRow (.staInputConfig first count cfg) fun s =>
    .plain [(badRange first count 64 || !staInRanges cfg, .badArg),
            ((numbers first count).any (fun k => s.rowInUse (s.staCfg k).row && staInDiffers (s.sta k).cfg cfg), .busy)]
      (s.each (numbers first count) (State.configureSta · cfg ·))

/-! ## Input status (R159) -/

/-- The age of a converter's coefficients in tq, saturating. Entry 5, DESIGN CHOICE. Entry 30, DEDUCED. -/
def State.calAge (s : State) (c : Converter) : Nat := min countMax (((s.clock : Int) - c.calAt) * 1024).toNat

/-- What INPUT_STATUS says of one converter. -/
def State.convFields (s : State) (c : Converter) : List Fld :=
  [fS16 (Config.gainCode c.m1 c.m2).toInt, fS16 (Config.offsetCode c.m1 c.m2).toInt, fU32 (s.calAge c), fBool c.excluded]

/-- The values of INPUT_STATUS. -/
def State.inputFields (s : State) (i : Nat) : List Fld :=
  let x := s.input i
  if i < 512 then
    [fU32 x.pairLost, fU32 x.ungated, fU32 x.calFull, fU32 x.calReused, fU32 x.calRolling, fU32 x.convFault,
     fU32 x.lbBlanked, fU32 x.suspectStamps, fU8 (s.chan i).cfg.enable, fU8 (s.chan i).cfg.cls] ++
      (List.range 4).flatMap fun k => s.convFields (s.conv i k)
  else if i < 576 then
    let c := (s.sta (i - 512)).cfg
    let r := s.row (s.staCfg (i - 512)).row
    [fU32 x.pairLost, fU32 x.suspectStamps, fU32 r.staRef, fU32 r.staFallback, fU32 r.staImplausible, fU32 x.rawDropped,
     fU8 c.enable, fU8 c.diag]
  else if i < 584 then [fU32 x.rawDropped, fU32 (s.trg (i - 576)).overrun, fU8 (s.trg (i - 576)).edges]
  else [fU32 x.rawDropped, fU8 s.settleSync.tb.sync.cfg.mode]

/-- INPUT_STATUS (R159). -/
def execInputStatus (input dst : Nat) : State → Out :=
  cmdRow (.inputStatus input dst) fun s => .block [(badInput input, .badArg)] s dst (s.inputFields input)

/-- The counters of one input index cleared, with the emission counters of a start input's row (R159). -/
def State.clearInput (s : State) (i : Nat) : State :=
  let s := s.modInput i fun x =>
    { x with pairLost := 0, ungated := 0, calFull := 0, calReused := 0, calRolling := 0, convFault := 0, lbBlanked := 0,
             suspectStamps := 0, rawDropped := 0 }
  if 512 ≤ i ∧ i < 576 then
    let r := (s.staCfg (i - 512)).row
    if r ≤ 63 then s.modRow r fun x => { x with staRef := 0, staFallback := 0, staImplausible := 0 } else s
  else if 576 ≤ i ∧ i < 584 then s.modTrg (i - 576) fun x => { x with overrun := 0 }
  else s

/-- INPUT_COUNTERS_CLEAR (R159). -/
def execInputCountersClear (first count : Nat) : State → Out :=
  cmdRow (.inputCountersClear first count) fun s =>
    .plain [(badRange first count 585, .badArg)] (s.each (numbers first count) State.clearInput)

/-! ## Gates (R161, R162, R171, R174, R176) -/

/-- GATE_PROFILE_SET (R162). -/
def execGateProfileSet (profile : Nat) (cfg : GateProfile) : State → Out :=
  cmdRow (.gateProfileSet profile cfg) fun s =>
    .plain [(decide (15 < profile) || decide (65536000 < cfg.openOffset) || decide (cfg.openOffset % 4 ≠ 0) ||
              !within 1024 65536000 cfg.length || decide (cfg.length % 4 ≠ 0) || decide (5 < cfg.binK) ||
              decide (65536000 < cfg.winStart), .badArg),
            (s.ranging, .locked)]
      (s.setGateProf profile cfg)

/-- CHANNEL_ROW_SET (R161, R386). -/
def execChannelRowSet (first count row : Nat) : State → Out :=
  cmdRow (.channelRowSet first count row) fun s =>
    let cs := numbers first count
    .plain [(badRange first count 512 || !(within 0 63 row || decide (row = 0x7F)), .badArg),
            (s.rowInUse row || cs.any (fun c => (s.chan c).gates.any Gate.inUse || s.rowInUse (s.chan c).row), .busy),
            (s.groupResetting cs, .busy)]
      (s.each cs fun s c => s.modChan c fun x => { x with row := row }).refreshFs

/-- GATE_STATUS (R176). -/
def execGateStatus (channel dst : Nat) : State → Out :=
  cmdRow (.gateStatus channel dst) fun s =>
    let x := s.chan channel
    .block [(decide (511 < channel), .badArg)] s dst
      [fU8 x.row, fU8 x.queues.length, fU16 x.poolUsed, fU16 x.poolHigh, fU32 x.opened, fU32 x.refused,
       fU32 x.droppedHits, fU32 x.multiAssigned, fU32 x.gatesCut, fU32 (s.tap (channel / 64)).tapLost]

/-- The gate counters of one channel cleared, with TAP_LOST of its group (R176). -/
def State.clearGates (s : State) (c : Nat) : State :=
  (s.modChan c fun x => { x with opened := 0, refused := 0, droppedHits := 0, multiAssigned := 0, gatesCut := 0,
                                 poolHigh := x.poolUsed }).modTap (c / 64) fun x => { x with tapLost := 0 }

/-- GATE_COUNTERS_CLEAR (R176). -/
def execGateCountersClear (first count : Nat) : State → Out :=
  cmdRow (.gateCountersClear first count) fun s =>
    .plain [(badRange first count 512, .badArg)] (s.each (numbers first count) State.clearGates)

/-- The stream is the RESULT_STREAM of a sequencer. -/
def State.isResultStream (s : State) (n : Nat) : Bool :=
  (List.range 8).any fun q => decide ((s.seq q).cfg.resultStream = n)

/-- The inputs that RAW_EXPORT_SET binds anew or unbinds. -/
def State.rebound (s : State) (n : Nat) (ins : List Nat) : List Nat :=
  (ins.filter fun i => decide ((s.input i).stream ≠ some n)) ++
    (s.rx.inputs.filter fun p => decide (p.2.stream = some n) && !ins.contains p.1).map (·.1)

/-- The inputs of a list bound to a raw stream, every other one of its inputs unbound (R172, R379). An empty list ends the raw
stream; one whose inputs are all rebound elsewhere stays raw. Entry 57, DESIGN CHOICE. -/
def State.bindRaw (s : State) (n : Nat) (ins : List Nat) : State :=
  let s := s.each (s.rebound n ins) fun s i =>
    s.modInput i fun x => { x with stream := if ins.contains i then some n else none }
  s.modStream n fun x => { x with raw := !ins.isEmpty }

/-- RAW_EXPORT_SET (R172, R386). -/
def execRawExportSet (stream : Nat) (inputs : List Nat) : State → Out :=
  cmdRow (.rawExportSet stream inputs) fun s =>
    .plain [(decide (63 < stream) || inputs.any badInput || s.isResultStream stream, .badArg),
            ((s.rebound stream inputs).any (fun i => !(s.input i).queue.isEmpty), .busy),
            (s.groupResetting ((inputs ++ s.rebound stream inputs).filter (· < 512)), .busy)]
      (s.bindRaw stream inputs)

/-- GATE_TAP_SET (R174, R386). -/
def execGateTapSet (group tapChannel tapStream monChannel : Nat) : State → Out :=
  cmdRow (.gateTapSet group tapChannel tapStream monChannel) fun s =>
    .plain [(decide (7 < group) || !(within 0 63 tapChannel || decide (tapChannel = 0x7F)) || decide (63 < tapStream) ||
              decide (63 < monChannel) || !(s.stream tapStream).raw, .badArg),
            (s.groupResetting [64 * group], .busy)]
      (s.modTap group fun x => { x with tapChannel := tapChannel, tapStream := tapStream, monChannel := monChannel })

/-- A channel watches a row (R161). -/
def Channel.watchesRow (x : Channel) : Bool := decide (x.row ≤ 63 ∧ x.cfg.enable = 1 ∧ x.cfg.cls = 0)

/-- A gate without shot is armed on a channel (R171). -/
def State.armTap (s : State) (profile stream : Nat) (t : Tq) (c : Nat) : State :=
  s.armGate c { Gate.new 0 t (s.gateProf profile) profile with tapStream := some stream }

/-- GATE_ARM (R158, R171). Entry 30, DEDUCED. -/
def execGateArm (first count profile stream : Nat) (tOpen : FullTime) : State → Out :=
  cmdRow (.gateArm first count profile stream tOpen) fun s =>
    let cs := numbers first count
    .plain [(badRange first count 512 || decide (15 < profile) || decide (63 < stream) || !tOpen.ok ||
              decide (tOpen.fns.toNat % 256 ≠ 0) || !(s.stream stream).raw ||
              cs.any (fun c => !(s.chan c).watchesRow), .badArg),
            (cs.any (fun c => !s.isReady (readyHg (c / 64))) || !s.pll.locked ||
              !(decide (s.dev.run = .readyIdle) || s.ranging), .notReady),
            (cs.any (fun c => (s.chan c).freeQueue.isNone), .busy),
            (decide (tOpen.tq - 18432 < s.now), .late)]
      (s.each cs (State.armTap · profile stream tOpen.tq ·))

end Sys2Proof.Machine
end

