-- ==== Sys2Proof/Machine/Converters.lean ====
section
/-! DEFINITION. Calibration of converters, and the opening of gates (R144 to R147, R157, R158, R163, R175, R316). -/

namespace Sys2Proof.Machine

/-- A calibration of channel `c` runs. -/
def State.calibrating (s : State) (c : Nat) : Bool := (List.range 4).any fun k => (s.conv c k).calibrating

/-- A gate waits for its calibration decision (R145): armed, and 18 ns before it opens. -/
def State.calDue (s : State) (g : Gate) : Bool :=
  g.waiting && !g.calDecided && s.reached (g.tOpen - 18432) && s.pll.locked

/-- A word with CAL_REUSED set (R150). -/
def Word.reused (w : Word) : Word := { w with bits := setBit w.bits 3 true }

/-- A gate with its calibration decision (R145, R150): CAL_REUSED is the gate's, in the words that it holds already too. -/
def Gate.decided (g : Gate) (full : Bool) : Gate :=
  { g with calDecided := true, calReused := !full, words := if full then g.words else g.words.map Word.reused }

/-- The calibration decision of a gate (R145, R158): a full calibration when 18 ns before its t_open no gate was open and none
runs, or for the first gate after relock; else the coefficients are reused. Entry 30, DEDUCED. -/
def State.decideCal (s : State) (c : Nat) (g : Gate) : State :=
  let full := (s.chan c).needFull || (!(s.chan c).heldOpenAt (g.tOpen - 18432) && !s.calibrating c)
  let s := s.modChan c fun x => x.modGate g.id fun g => g.decided full
  if full then
    let s := s.each (List.range 4) fun s k => s.modConv c k fun v => { v with calibrating := true }
    (s.modChan c fun x => { x with needFull := false }).modInput c fun x =>
      { x with calFull := x.calFull.inc, rolling := none, sweep := [] }
  else s.modInput c fun x => { x with calReused := x.calReused.inc }

/-- GATE_CAL_DECISION (R145). -/
def execGateCalDecision (channel gate : Nat) (s : State) : Out :=
  if 511 < channel then .next s
  else match (s.chan channel).gate gate with
    | none => .next s
    | some g => if s.calDue g then .next (s.decideCal channel g) else .next s

/-- The readings of a calibration pass (R144): G from 3.5 to 4.5 tq and |O| at most 64 tq. -/
def calPasses (m1 m2 : Nat) : Bool :=
  decide (m1 < m2 ∧ 7 * (m2 - m1) ≤ 2048 ∧ 2048 ≤ 9 * (m2 - m1)) &&
    decide ((1024 * ((m2 : Int) - m1) - 1024 * m1).natAbs ≤ 64 * (m2 - m1))

/-- A converter after its calibration (R144, R147): three failures in succession exclude it, a pass returns it. -/
def Converter.calibrated (c : Converter) (clock : Int) (m1 m2 : Nat) : Converter :=
  if calPasses m1 m2 then
    { c with m1 := m1, m2 := m2, calAt := clock, fails := 0, excluded := false, calibrating := false }
  else { c with fails := c.fails + 1, excluded := c.excluded || decide (2 ≤ c.fails), calibrating := false }

/-- The turn of the next excluded converter after a rolling calibration (R147). -/
def State.nextTurn (s : State) (i : Nat) : State :=
  match (s.input i).rolling with
  | none => s
  | some (taken, next) =>
    match (List.range 4).find? fun k => decide (next ≤ k ∧ k ≠ taken) && (s.conv i k).excluded with
    | none => s.modInput i fun x => { x with rolling := none }
    | some k =>
      (s.modConv i k fun v => { v with calibrating := true }).modInput i fun x =>
        { x with rolling := some (taken, k + 1), calRolling := x.calRolling.inc }

/-- A converter's calibration ends (R144, R147). -/
def State.calDone (s : State) (i k m1 m2 : Nat) : State :=
  let s := if calPasses m1 m2 then s else s.modInput i fun x => { x with convFault := x.convFault.inc }
  (s.modConv i k fun v => v.calibrated s.clock m1 m2).nextTurn i

/-- CONVERTER_CAL_DONE (R144): the readings m1 and m2 of a calibration under way. -/
def execConverterCalDone (input conv m1 m2 : Nat) (s : State) : Out :=
  if 511 < input ∨ 3 < conv then .next s
  else if (s.conv input conv).calibrating then .next (s.calDone input conv m1 m2) else .next s

/-- The converters from which a rolling calibration takes the oldest (R146): those in the round-robin, all four when
none is. Entry 30, DEDUCED. -/
def State.rollCandidates (s : State) (c : Nat) : List Nat :=
  let l := (List.range 4).filter fun k => !(s.conv c k).excluded
  if l.isEmpty then List.range 4 else l

/-- The converter with the oldest calibration, lowest number first (R146). -/
def State.oldestConv (s : State) (c : Nat) : Nat :=
  (s.rollCandidates c).foldl (fun a k => if (s.conv c k).calAt < (s.conv c a).calAt then k else a)
    ((s.rollCandidates c).headD 0)

/-- A rolling calibration keeps channel `c` fresh (R146, R157): a ranging channel with a gate open, an enabled raw
channel always, while the PLL is locked. -/
def State.rolls (s : State) (c : Nat) : Bool :=
  s.pll.locked && !s.calibrating c &&
    (if (s.chan c).cfg.cls = 0 then s.hasOpenGate c
     else decide ((s.chan c).cfg.enable = 1) && s.isReady (readyHg (c / 64)))

/-- 3 µs in the converters' ages. -/
def rollAge : Int := 3000

/-- Converter `k` of channel `c` leaves the round-robin for a rolling calibration (R146). -/
def State.roll (s : State) (c k : Nat) : State :=
  (s.modConv c k fun v => { v with calibrating := true }).modInput c fun x =>
    { x with rolling := some (k, 0), calRolling := x.calRolling.inc }

/-- ROLLING_CAL_DUE (R146, R158): the oldest calibration reaches 3 µs, or a relock wants every converter calibrated,
lowest number first. -/
def execRollingCalDue (channel : Nat) (s : State) : Out :=
  if 511 < channel then .next s
  else if s.rolls channel then
    match (s.input channel).sweep with
    | k :: rest => .next ((s.modInput channel fun x => { x with sweep := rest }).roll channel k)
    | [] =>
      let k := s.oldestConv channel
      if rollAge ≤ (s.clock : Int) - (s.conv channel k).calAt then .next (s.roll channel k) else .next s
  else .next s

/-- New VERNIER tables act from the first gate that opens after the run (R316). -/
def State.applyTables (s : State) (i : Nat) : State :=
  match (s.input i).newTables with
  | none => s
  | some ts =>
    let s := s.each (List.range 4) fun s k => s.modConv i k fun v => { v with tables := ts.getD k v.tables }
    s.modInput i fun x => { x with newTables := none, table := x.table + 1 }

/-- A gate opens (R163, R175, R188, R313): whether its channel is in service and its SKEW_CAL are noted, and the monitored
channel's producer publishes. -/
def State.openGate (s : State) (c : Nat) (g : Gate) : State :=
  let s := s.applyTables c
  let ok := s.inService c
  let n := (s.input c).table
  let k := s.inSkew c
  let s := s.modChan c fun x =>
    { x.modGate g.id fun g => { g with life := .opened, inService := ok, skewCal := k, table := n } with opened := x.opened.inc }
  if (s.tap (c / 64)).monChannel = c % 64 then s.publish (prodGroup (c / 64) 0) g.tOpen 0 else s

/-- GATE_OPEN (R163). -/
def execGateOpen (channel gate : Nat) (s : State) : Out :=
  if 511 < channel then .next s
  else match (s.chan channel).gate gate with
    | none => .next s
    | some g => if g.waiting && s.reached g.tOpen then .next (s.openGate channel g) else .next s

end Sys2Proof.Machine
end

