-- ==== Sys2Proof/Machine/HistOps.lean ====
section
/-! DEFINITION. The code matcher, accumulation, and the life of a gate to its end (R165, R168, R170, R177 to R190). -/

namespace Sys2Proof.Machine

/-! ## Bins and blocks (R177, R181, R190) -/

/-- The parity of a number: 1 where it has an odd number of ones among its low `n` bits. -/
def oddOnes : Nat → Nat → Bool
  | 0, _ => false
  | n + 1, v => (decide (v % 2 = 1)).xor (oddOnes n (v / 2))

/-- A bin with fresh parity. -/
def Bin.of (v : Nat) : Bin := { v := BitVec.ofNat 16 v, p := oddOnes 16 (v % 65536) }

/-- A bin's parity is good. -/
def Bin.good (b : Bin) : Bool := decide (b.p = oddOnes 16 b.v.toNat)

/-- Bin `i` of a block. -/
def Block.bin (b : Block) (i : Nat) : Bin := Tab.get Bin.zero b.bins i

/-- A block's sum has good parity. -/
def Block.sumGood (b : Block) : Bool := decide (b.sumP = oddOnes 24 b.sum.toNat)

/-- A block with its sum one higher and fresh parity; a bad sum is left as it stands. -/
def Block.bump (b : Block) : Block :=
  if b.sumGood then { b with sum := b.sum + 1, sumP := oddOnes 24 (b.sum + 1).toNat } else b

/-- What an accumulation does to a counter set: nothing, a saturated bin, a bad bin. -/
inductive AccOutcome where
  | plain
  | saturated
  | badBin
  deriving DecidableEq, Repr

/-- An accumulation into bin `i` of a block (R180, R181, R190). -/
def Block.accumulate (b : Block) (i : Nat) : Block × AccOutcome :=
  if b.stale then
    ({ stale := false, sum := 1, sumP := true, bins := Tab.put Bin.zero [] i (Bin.of 1) }, .plain)
  else if !(b.bin i).good then (b.bump, .badBin)
  else if (b.bin i).v = 65535 then (b, .saturated)
  else ({ b.bump with bins := Tab.put Bin.zero b.bins i (Bin.of ((b.bin i).v.toNat + 1)) }, .plain)

/-- Bin width of a BIN_K in tq (R178). -/
def binWidth (k : Nat) : Nat := 32 * 2 ^ k

/-- The bin of a time of flight (R178), none outside the window. -/
def binOf (d : Descriptor) (tau : Int) : Option Nat :=
  let w : Int := binWidth d.binK
  if (d.winStart : Int) ≤ tau ∧ tau < d.winStart + 16384 * w ∧ tau < 2 ^ 26 then
    some ((tau - d.winStart) / w).toNat
  else none

/-- The bank marks MULTI_GATE (R168). -/
def State.markMulti (s : State) (bank : Option Nat) : State := s.modDesc bank fun d => { d with multiGate := true }

/-- A kept match counts in the descriptor of its bank (R188), in the window or not. -/
def Descriptor.keep (d : Descriptor) (full : Bool) : Descriptor :=
  { d with
    matchedFull := if full then d.matchedFull + 1 else d.matchedFull
    matchedWeak := if full then d.matchedWeak else d.matchedWeak + 1 }

/-- A kept match is accumulated into the bank of its gate (R178, R181, R187, R190): whether it lay in the window. -/
def State.accumulate (s : State) (c b : Nat) (tau : Int) (full multi : Bool) : State × Bool :=
  let s := s.modDesc (some b) (·.keep full)
  match binOf (s.bank b).desc tau with
  | none => (s.modHistChan c fun h => { h with outOfWindow := h.outOfWindow.inc }, false)
  | some i =>
    let blocks := (s.bank b).blocks
    let r := (Tab.get Block.reset blocks (i / 64)).accumulate (i % 64)
    let s := s.modBank b fun x =>
      { x with
        blocks := Tab.put Block.reset blocks (i / 64) r.1
        desc := { x.desc with
          sat := x.desc.sat || decide (r.2 = .saturated)
          multiGate := x.desc.multiGate || multi } }
    (s.modHistChan c fun h =>
      { h with
        satBins := if r.2 = .saturated then h.satBins.inc else h.satBins
        parityAcc := if r.2 = .badBin then h.parityAcc.inc else h.parityAcc }, true)

/-! ## The code matcher (R183, R184) -/

/-- The distance of a word from where pulse `k` is expected. -/
def missBy (u s : Word) (gap : Int) : Nat := (u.t - s.t - gap).natAbs

/-- The word nearest to its place, the earlier one on equal distances. -/
def nearest (s : Word) (gap : Int) : List Word → Option Word
  | [] => none
  | u :: t => match nearest s gap t with
    | none => some u
    | some v => if missBy u s gap ≤ missBy v s gap then some u else some v

/-- The words that a hypothesis takes (R183): `s` as pulse `j`, and a partner for each later pulse within 2w. -/
def hypothesis (offsets : List Nat) (w : Nat) (s : Word) (later : List Word) (j : Nat) : List (Nat × Word) :=
  (j, s) :: (numbers (j + 1) (offsets.length - (j + 1))).filterMap fun k =>
    let gap : Int := (offsets.getD k 0 : Int) - offsets.getD j 0
    match nearest s gap (later.filter fun u => decide (s.t < u.t)) with
    | none => none
    | some u => if missBy u s gap ≤ 2 * w then some (k, u) else none

/-- The hypothesis with the highest count, the lowest j on equal counts. -/
def bestHypothesis (offsets : List Nat) (w : Nat) (s : Word) (later : List Word) : List (Nat × Word) :=
  (List.range offsets.length).foldl (fun best j =>
    let h := hypothesis offsets w s later j
    if best.length < h.length then h else best) []

/-- The effective MIN_PULSES (R182). -/
def minPulses (m : MatchProfile) (n : Nat) : Nat := if m.minPulses = 0 ∨ n < m.minPulses then n else m.minPulses

/-- The decision of a gate's first word is due (R184): a later stamp has passed, or the gate is drained. -/
def Channel.wordDue (x : Channel) (g : Gate) (s : Word) (w : Nat) : Bool :=
  decide (g.life = .drained) || match x.passed with
    | none => false
    | some t => decide (s.t + (g.offsets.getLast?.getD 0 : Int) + 2 * w < t)

/-- The time of flight of a match (R185). -/
def flightTime (offsets : List Nat) (stamps : List (Nat × Tq)) (ref : Tq) : Int :=
  (stamps.foldl (fun a p => a + (p.2 - (offsets.getD p.1 0 : Int))) 0) / (stamps.length : Int) - ref

/-! ## A gate's matches once its reference is fixed (R185, R186) -/

/-- A match changed in its gate, by its place. -/
def Gate.setMatch (g : Gate) (i : Nat) (m : Match) : Gate := { g with found := g.found.set i m }

/-- A match is accumulated or found outside the window, and settled. -/
def State.keepMatch (s : State) (c : Nat) (g : Gate) (i : Nat) (m : Match) : State :=
  match g.bank, m.tau with
  | some b, some tau =>
    let r := s.accumulate c b tau m.full m.multi
    r.1.modChan c fun x => x.modGate g.id fun g => g.setMatch i { m with state := if r.2 then .kept else .dropped }
  | _, _ => s

/-- A match of a gate once its shot's reference is fixed (R185): dropped when the shot was darkened, else given its
time of flight, and with NB_N 1 accumulated. -/
def State.settleMatch (s : State) (c id i : Nat) : State :=
  match (s.chan c).gate id with
  | none => s
  | some g => match g.found[i]?, g.shot.bind s.shot with
    | some m, some x => match x.ref with
      | none => s
      | some r =>
        if m.state ≠ .pending ∨ m.tau.isSome then s
        else if x.darkened then
          (s.modHistChan c fun h => { h with darkMatches := h.darkMatches.inc }).modChan c fun y =>
            y.modGate id fun g => g.setMatch i { m with state := .dropped }
        else
          let m := { m with tau := some (flightTime g.offsets m.stamps r.time) }
          let s := s.modChan c fun y => y.modGate id fun g => g.setMatch i m
          if g.matching.nbN = 1 then s.keepMatch c g i m else s
    | _, _ => s

/-- Every match of a gate that waits for its reference. -/
def State.settleMatches (s : State) (c : Nat) (g : Gate) : State :=
  s.each (List.range g.found.length) fun s i => s.settleMatch c g.id i

/-! ## The end of a gate (R165, R168, R170) -/

/-- The gate has no word and no match under way. -/
def Gate.settled (g : Gate) : Bool := g.words.isEmpty && g.found.all fun m => decide (m.state ≠ .pending)

/-- A drained gate without words frees its queue (R164, R165). -/
def Gate.freed (g : Gate) : Gate := if g.life = .drained ∧ g.words.isEmpty then { g with queue := none } else g

/-- The stamps of an accepted match are marked in every other gate (R168). -/
def Gate.seeMatch (ids : List Nat) (g : Gate) : Gate :=
  { g with
    words := g.words.map (fun w => if ids.contains w.id then { w with multi := true } else w)
    found := g.found.map (fun m => if m.ids.any ids.contains then { m with multi := true } else m) }

/-- Banks that hold an accumulation of a stamp among `ids` from another gate (R168). -/
def Channel.multiBanks (x : Channel) (id : Nat) (ids : List Nat) : List (Option Nat) :=
  (x.gates.filter fun g => decide (g.id ≠ id) && g.found.any fun m => decide (m.state = .kept) && m.ids.any ids.contains).map
    (·.bank)

/-- A match is accepted in a gate (R183, R185, R195): consumed, held while fewer than 64 wait, else lost. -/
def State.acceptMatch (s : State) (c : Nat) (g : Gate) (h : List (Nat × Word)) : State :=
  let ids := h.map (·.2.id)
  let full := decide (h.length = g.offsets.length)
  let s := s.modHistChan c fun y =>
    { y with
      matchedFull := if full then y.matchedFull.inc else y.matchedFull
      matchedWeak := if full then y.matchedWeak else y.matchedWeak.inc }
  let s := ((s.chan c).multiBanks g.id ids).foldl State.markMulti s
  let take (y : Gate) : Gate := ({ y with words := y.words.filter fun w => !ids.contains w.id } : Gate).freed
  let s := s.modChan c fun x =>
    { x with gates := x.gates.map fun (y : Gate) => if y.id = g.id then take y else y.seeMatch ids }
  if 64 ≤ (g.found.filter fun m => decide (m.state = .pending)).length then
    (s.modHistChan c fun y => { y with matchLost := y.matchLost.inc }).modDesc g.bank fun d => { d with lost := true }
  else
    let m : Match :=
      { multi := h.any (fun p => p.2.multi), ids := ids, stamps := h.map (fun p => (p.1, p.2.t)), full := full, tau := none,
        state := .pending }
    let s := s.modChan c fun x => x.modGate g.id fun y => { y with found := y.found ++ [m] }
    s.settleMatch c g.id g.found.length

/-- The first word of a gate is decided (R183): matched, or rejected. A gate armed by command has no code, and its words
leave undecided (R171). -/
def State.decideWord (s : State) (c : Nat) (g : Gate) (w : Word) (rest : List Word) : State :=
  let pop (s : State) : State := s.modChan c fun x => x.modGate g.id fun y => ({ y with words := rest } : Gate).freed
  if g.shot.isNone then pop s
  else
    let h := bestHypothesis g.offsets (binWidth g.binK) w rest
    if minPulses g.matching g.offsets.length ≤ h.length then s.acceptMatch c g h
    else (pop s).modHistChan c fun y => { y with rejected := y.rejected.inc }

/-- MATCH_DECISION (R184): the first undecided word of a gate is decided when a later stamp has passed or the gate is
drained. Words of a gate cut short wait for its close (R170). -/
def execMatchDecision (channel gate : Nat) (s : State) : Out :=
  if 511 < channel then .next s
  else match (s.chan channel).gate gate with
    | none => .next s
    | some g => match g.words with
      | [] => .next s
      | w :: rest =>
        if !g.cut && (g.shot.isNone || (s.chan channel).wordDue g w (binWidth g.binK)) then
          .next (s.decideWord channel g w rest)
        else .next s

/-! ## Drain (R82, R165, R175) -/

/-- A loop-back pulse that still waits for its stamp marks the gates it met (R82). -/
def State.markHead (s : State) (c : Nat) : State :=
  match s.lane (c / 64) with
  | [] => s
  | j :: _ => match j.placed with
    | none => s
    | some p =>
      if j.req.channel = c % 64 ∧ p.rise - 2048 < s.now then
        s.markInjected (s.injection (c / 64) j p)
      else s

/-- When a gate is drained (R165), with the SKEW_BOARD that stands then. Entry 57, DESIGN CHOICE. -/
def State.drainTime (s : State) (c : Nat) (g : Gate) : Tq := g.tClose + max 0 (s.chan c).cfg.skewBoard + 32768

/-- A gate is drained (R165, R170, R175): producers publish, a gate cut short loses its stamps and is gone, and so is a
gate armed by command once its words have left. -/
def State.drainGate (s : State) (c : Nat) (g : Gate) : State :=
  let s := State.timeoutStamps c (s.input c).path.length (s.markHead c)
  let s := if g.cut then s.modChan c fun x => x.loseWords ((x.gate g.id).getD g) else s
  let s := s.modChan c fun x => x.modGate g.id fun y => ({ y with life := .drained } : Gate).freed
  let s := if (s.tap (c / 64)).monChannel = c % 64 then s.publish (prodGroup (c / 64) 1) g.tClose 0 else s
  let drops := (((s.chan c).gate g.id).map (·.drops)).getD 0
  let s := if 0 < drops then s.publish (prodGroup (c / 64) 2) g.tClose 0 else s
  if g.cut ∨ g.shot.isNone then s.removeGate c g else s

/-- GATE_DRAIN (R165). -/
def execGateDrain (channel gate : Nat) (s : State) : Out :=
  if 511 < channel then .next s
  else match (s.chan channel).gate gate with
    | none => .next s
    | some g =>
      if g.life = .opened ∧ s.reached (s.drainTime channel g) then .next (s.drainGate channel g) else .next s

/-! ## Neighbour coincidence (R186) -/

/-- The neighbours of a channel: those of its neighbourhood that watch the same row. -/
def State.neighbours (s : State) (c n : Nat) : List Nat :=
  let h := (n - 1) / 2
  (numbers (c - h) (2 * h + 1)).filter fun d =>
    decide (d ≠ c ∧ d ≤ c + h ∧ c ≤ d + h ∧ d ≤ 511) && (s.chan d).watchesRow && decide ((s.chan d).row = (s.chan c).row)

/-- The gate of a neighbour in the same slot. -/
def State.slotGateOf (s : State) (d : Nat) (g : Gate) : Option Gate :=
  (s.chan d).gates.find? fun y => decide (y.shot = g.shot)

/-- A gate's matches all have their times of flight or are gone, and its words are decided. -/
def Gate.ready (g : Gate) : Bool :=
  decide (g.life = .drained) && g.words.isEmpty && g.found.all fun m => decide (m.state ≠ .pending) || m.tau.isSome

/-- A neighbour's gate has an accepted match within `tol` of `tau`. -/
def Gate.sees (g : Gate) (tau : Int) (tol : Nat) : Bool :=
  g.found.any fun m => match m.tau with
    | none => false
    | some t => decide ((t - tau).natAbs ≤ tol)

/-- The neighbour test of one match of a gate. -/
def State.testMatch (s : State) (c : Nat) (g : Gate) (i : Nat) : State :=
  match g.found[i]? with
  | none => s
  | some m => match m.tau with
    | none => s
    | some tau =>
      if m.state ≠ .pending then s
      else
        let p := g.matching
        let tol := p.nbTol * binWidth g.binK
        let n := ((s.neighbours c p.nbN).filter fun d => match s.slotGateOf d g with
          | none => false
          | some y => y.sees tau tol).length
        if p.nbK - 1 ≤ n then s.keepMatch c g i m
        else
          (s.modHistChan c fun h => { h with nbRejected := h.nbRejected.inc }).modChan c fun y =>
            y.modGate g.id fun g => g.setMatch i { m with state := .dropped }

/-- NEIGHBOUR_TEST (R186): made once every gate of the slot in the neighbourhood is drained and has its times of
flight. -/
def execNeighbourTest (channel gate : Nat) (s : State) : Out :=
  if 511 < channel then .next s
  else match (s.chan channel).gate gate with
    | none => .next s
    | some g =>
      let p := g.matching
      if p.nbN ≠ 1 ∧ g.ready ∧ (s.neighbours channel p.nbN).all (fun d => match s.slotGateOf d g with
          | none => true
          | some y => y.ready) then
        .next (s.each (List.range g.found.length) fun s i => s.testMatch channel g i)
      else .next s

end Sys2Proof.Machine
end

