-- ==== Sys2Proof/Machine/CalOps.lean ====
section
/-! DEFINITION. Calibration values: items of the per-set objects, their sensors, interpolation, and the runs that learn
from shots and records (R307 to R312, R321). -/

namespace Sys2Proof.Machine

/-! ## Items (R307, R384) -/

/-- The objects of temperature sets. -/
def perSet (o : Nat) : Bool := decide (o = calOut ∨ o = calIn ∨ o = calLane ∨ o = calTof)

def itemM0Out (n : Nat) : Nat := 136 + n
def itemM0In (c : Nat) : Nat := 576 + c
def itemChOfs (c : Nat) : Nat := 2 * c
def itemWalk (c : Nat) : Nat := 2 * c + 1
def itemEmitSch (r : Nat) : Nat := 1024 + 3 * r
def itemEmitSta (r : Nat) : Nat := 1025 + 3 * r
def itemNominal (r : Nat) : Nat := 1026 + 3 * r

/-- The sensor of an output (R311). -/
def outSensor (o : Nat) : Nat := if o < 128 then 8 + o / 16 else 8

/-- The sensor of a row's emitter values (R311). -/
def State.rowSensor (s : State) (r : Nat) : Nat :=
  match s.emittersOf r with
  | o :: _ => outSensor o
  | [] => 8

/-- The sensor of item `i` of an object (R311). -/
def State.itemSensor (s : State) (o i : Nat) : Nat :=
  if o = calOut then (if i < 136 then outSensor i else outSensor (i - 136))
  else if o = calIn then (if i < 512 then i / 64 else if i < 576 then (i - 512) / 8 else (i - 576) / 64)
  else if o = calLane then i
  else if i < 1024 then i / 128 else s.rowSensor ((i - 1024) / 3)

/-- The die temperature that bands go by (R240): the highest reading of the sensors. Entry 42, DEDUCED. -/
def State.dieTemp (s : State) : Int := (List.range 16).foldl (fun m k => max m (s.sensor k)) (s.sensor 0)

/-! ## Interpolation (R312) -/

/-- An item of a set. -/
def CalSet.item (x : CalSet) (i : Nat) : Int := Tab.get 0 x.vals i

/-- The value of an item between two neighbouring sets, rounded to the nearest tq, halves upward. -/
def between (a b : CalSet) (i : Nat) (t : Int) : Int :=
  roundDiv (a.item i * (b.temp - a.temp) + (b.item i - a.item i) * (t - a.temp)) (b.temp - a.temp)

/-- The value of an item at reading `t` behind the set `a`. -/
def interpolateFrom (i : Nat) (t : Int) : CalSet → List CalSet → Int
  | a, [] => a.item i
  | a, b :: rest => if t < b.temp then between a b i t else interpolateFrom i t b rest

/-- The value of an item at reading `t` (R312): 0 for an object without sets (R320). -/
def interpolate (i : Nat) (t : Int) : List CalSet → Int
  | [] => 0
  | a :: rest => if t ≤ a.temp then a.item i else interpolateFrom i t a rest

/-- The values of an object at the present sensor readings. -/
def State.calValues (s : State) (o : Nat) : Tab Int :=
  let sets := s.calWork o
  (List.range (calItems o)).foldr (fun i t =>
    let v := interpolate i (s.sensor (s.itemSensor o i)) sets
    if v = 0 then t else (i, v) :: t) []

/-- Sets of an object have strictly increasing TEMP (R312). -/
def tempsRise : List CalSet → Bool
  | [] => true
  | [_] => true
  | a :: b :: t => decide (a.temp < b.temp) && tempsRise (b :: t)

/-- A value as an item of 16 bits holds it. -/
def asItem (v : Int) : Int := if -32768 ≤ v ∧ v < 32768 then v else (Config.outsideItem v).toInt

/-- An item of a set of an object's working copy changed. -/
def State.setItem (s : State) (o k i : Nat) (v : Int) : State :=
  s.modCalWork o fun sets => sets.modify k fun x => { x with vals := Tab.put 0 x.vals i (asItem v) }

/-- An item of a set of an object's working copy. -/
def State.getItem (s : State) (o k i : Nat) : Int := (((s.calWork o)[k]?).map fun x => x.item i).getD 0

/-! ## Values in force -/

/-- STA_NOMINAL of a row (R155, R310). -/
def State.staNominal (s : State) (r : Nat) : Int := Tab.get 0 (s.calForce calTof) (itemNominal r)

/-- By how much an STA reference of a row is moved later (R310). -/
def State.staShift (s : State) (r : Nat) : Int :=
  Tab.get 0 (s.calForce calTof) (itemEmitSta r) - Tab.get 0 (s.calForce calTof) (itemEmitSch r)

/-- TOF_OFFSET of a channel (R310). -/
def State.tofOffset (s : State) (c : Nat) : Int :=
  Tab.get 0 (s.calForce calTof) (itemChOfs c) +
    (if (s.chan c).row ≤ 63 then Tab.get 0 (s.calForce calTof) (itemEmitSch (s.chan c).row) else 0)

/-- WALK of a channel (R204). -/
def State.walk (s : State) (c : Nat) : Int := Tab.get 0 (s.calForce calTof) (itemWalk c)

/-- Channel `c` has a valid calibration (R211, R320): OUT_SKEW, IN_SKEW, LANE and TOF each have a valid slot. A missing
VERNIER object delays the hit group instead. -/
def State.calibrated (s : State) (c : Nat) : Bool :=
  (s.calStore calTof).valid && (s.calStore calIn).valid && (s.calStore calLane).valid &&
    ((s.calStore calOut).valid || (s.emittersOf (s.chan c).row).isEmpty)

/-! ## CAL_STA_LEARN (R321) -/

/-- SET exists: one that is added starts with the values in force at the present readings. Entry 42, DEDUCED. -/
def State.ensureSet (s : State) (k : Nat) (temp : Int) : State :=
  if k < (s.calWork calTof).length then s
  else s.modCalWork calTof fun sets => sets ++ [{ temp := temp, vals := s.calForce calTof }]

/-- Rows of a run that still want shots. -/
def StaLearn.wants (l : StaLearn) : Bool := (rowsOf l.rows).any fun r => decide ((Tab.get (0, 0) l.sums r).1 < l.shots)

/-- The TOF object's sets after a run are in the order of R312; a run that would break it is answered REFUSED and changes
nothing. Entry 42, DESIGN CHOICE. -/
def State.concludeRun (s t : State) (k : WaitKey) : State :=
  if tempsRise (t.calWork calTof) then t.answerWaiting k .ok [] else s.answerWaiting k .refused []

/-- A run ends: STA_NOMINAL takes the mean, EMIT_OFS_STA follows. -/
def State.finishLearn (s : State) (l : StaLearn) : State :=
  let s := { s with cal := { s.cal with learns := s.cal.learns.filter fun x => decide (x.id ≠ l.id) } }
  let t := (s.ensureSet l.set (s.sensor 8)).each (rowsOf l.rows) fun s r =>
    let p := Tab.get (0, 0) l.sums r
    let mean := asItem (roundDiv p.2 p.1)
    (s.setItem calTof l.set (itemNominal r) mean).setItem calTof l.set (itemEmitSta r)
      (s.getItem calTof l.set (itemEmitSch r) - mean)
  s.concludeRun t (.staLearn l.id)

/-- A run takes a plausible shot of row `r` whose pulse 0 was stamped `d` after its rising edge. -/
def StaLearn.shot (r : Nat) (d : Int) (l : StaLearn) : StaLearn :=
  let p := Tab.get (0, 0) l.sums r
  if l.rows.getLsbD r ∧ p.1 < l.shots then { l with sums := Tab.put (0, 0) l.sums r (p.1 + 1, p.2 + d) } else l

/-- Every run takes a plausible shot, and one that wants no more ends. -/
def State.learnShot (s : State) (r : Nat) (d : Int) : State :=
  let ls := s.cal.learns.map (StaLearn.shot r d)
  (ls.filter fun l => !l.wants).foldl State.finishLearn { s with cal := { s.cal with learns := ls } }

/-! ## CAL_TARGET (R321) -/

/-- The channels of a run. -/
def TargetRun.channels (t : TargetRun) : List Nat := numbers t.first t.count

/-- The mean of a channel's records. -/
def TargetRun.mean (t : TargetRun) (c : Nat) : Int :=
  let p := Tab.get (0, 0, 0) t.sums c
  roundDiv p.2.2 (max 1 p.2.1)

/-- A run ends: REFUSED where a channel has too few valid records, else the set is written and takes the sensor's
reading as its TEMP, within the order of R312. -/
def State.finishTarget (s : State) (t : TargetRun) : State :=
  let s := { s with cal := { s.cal with targets := s.cal.targets.filter fun x => decide (x.id ≠ t.id) } }
  if t.channels.any fun c => decide (2 * (Tab.get (0, 0, 0) t.sums c).2.1 < t.steps) then
    s.answerWaiting (.calTarget t.id) .refused []
  else
    let u := (s.ensureSet t.set (s.sensor (t.first / 64))).each t.channels fun s c =>
      if t.mode = 0 then
        s.setItem calTof t.set (itemChOfs c) (s.getItem calTof t.set (itemChOfs c) + t.mean c - t.range)
      else s.setItem calTof t.set (itemWalk c) (s.getItem calTof t.set (itemWalk c) + t.range - t.mean c)
    let u := u.modCalWork calTof fun sets => sets.modify t.set fun x => { x with temp := s.sensor (t.first / 64) }
    s.concludeRun u (.calTarget t.id)

/-- A run takes a job of channel `c` whose step began at `time`: `tof` is that of its echo 0 with SAT, none where the record is
not valid for a run; MODE 1 takes saturated records only. -/
def TargetRun.job (c : Nat) (time : Tq) (tof : Option (Int × Bool)) (t : TargetRun) : TargetRun :=
  let p := Tab.get (0, 0, 0) t.sums c
  if t.channels.contains c ∧ p.1 < t.steps ∧ t.since ≤ time then
    let q := match tof with
      | some (v, sat) => if t.mode = 1 && !sat then (p.1 + 1, p.2.1, p.2.2) else (p.1 + 1, p.2.1 + 1, p.2.2 + v)
      | none => (p.1 + 1, p.2.1, p.2.2)
    { t with sums := Tab.put (0, 0, 0) t.sums c q }
  else t

/-- A run has seen every step of its channels. -/
def TargetRun.complete (t : TargetRun) : Bool :=
  t.channels.all fun d => decide (t.steps ≤ (Tab.get (0, 0, 0) t.sums d).1)

/-- Every run takes a job that has ended, and one that is complete ends. -/
def State.targetJob (s : State) (c : Nat) (time : Tq) (tof : Option (Int × Bool)) : State :=
  let ts := s.cal.targets.map (TargetRun.job c time tof)
  (ts.filter TargetRun.complete).foldl State.finishTarget { s with cal := { s.cal with targets := ts } }

end Sys2Proof.Machine
end

