-- ==== Sys2Proof/Machine/StartInputs.lean ====
section
/-! DEFINITION. Edges at start inputs, match windows, and the emission reference of a shot (R62 to R64, R142, R155, R156,
R185, R295, R296). -/

namespace Sys2Proof.Machine

/-! ## Reports to the supervisor (R64, R295, R296) -/

/-- The time within which EMIS_LIMIT emissions demand a safe stop, in ns (R295). -/
def emissionSpan : Nat := 100000000

/-- An unexpected or overwidth emission of row `r` at `t` reaches the supervisor: with dark asserted then an unexpected one
is a stop fault, EMIS_LIMIT within 100 ms are a demand. -/
def State.reportEmission (s : State) (r : Nat) (unexpected : Bool) (t : Tq) : State :=
  let l := (s.clock :: Tab.get [] s.sv.emissions r).filter fun t => decide (s.clock ≤ t + emissionSpan)
  let s := { s with sv := { s.sv with emissions := Tab.put [] s.sv.emissions r l } }
  let s := if unexpected && s.darkAt t then s.svFault .emission else s
  if s.sv.active.sv.emisLimit ≤ l.length then s.svFault .emisLimit else s

/-! ## Edges (R62, R64, R142) -/

/-- A match window takes a stamp (R62): without dark, or when its pulse had left the ball before (R64).
Entry 26, DEDUCED. Entry 30, DEDUCED. -/
def State.windowTakes (s : State) (r : Nat) (t : Tq) (w : MatchWin) : Bool :=
  decide (w.row = r ∧ w.lo ≤ t ∧ t ≤ w.hi) && (!s.sv.dark || decide (w.rise < s.sv.darkSince))

/-- The earliest of a list of windows. -/
def earliest : List MatchWin → Option MatchWin
  | [] => none
  | w :: t => match earliest t with
    | none => some w
    | some v => if v.rise < w.rise then some v else some w

/-- The window that a rising edge of row `r` at `t` matches: none outside Ranging (R64). -/
def State.windowOf (s : State) (r : Nat) (t : Tq) : Option MatchWin :=
  if s.ranging then earliest (s.tx.windows.filter (s.windowTakes r t)) else none

/-- A rising edge of a start input that monitors row `r` (R62, R63, R64). -/
def State.staRise (s : State) (k r : Nat) (t : Tq) : State :=
  match s.windowOf r t with
  | some w =>
    let s := { s with tx := { s.tx with windows := s.tx.windows.erase w } }
    let s := s.modShot' w.shot fun x => { x with stamps := x.stamps ++ [(w.k, t)] }
    (s.modRow r fun x => { x with missRun := 0 }).modSta k fun x => { x with lastRise := some (t, some (r, w.w)) }
  | none =>
    let s := (s.modRow r fun x => { x with unexpected := x.unexpected.inc }).publish (prodUnexpected r) t 0
    (s.modSta k fun x => { x with lastRise := some (t, none) }).reportEmission r true t

/-- A falling edge (R62): the duration of a matched pulse is compared with W. -/
def State.staFall (s : State) (k : Nat) (t : Tq) : State :=
  match (s.sta k).lastRise with
  | some (t0, some (r, w)) =>
    let s := s.modSta k fun x => { x with lastRise := none }
    if (w : Int) + (s.staCfg k).widthTol < t - t0 then
      (s.modRow r fun x => { x with overwidth := x.overwidth.inc }).reportEmission r false t
    else s
  | _ => s

/-- A stamped edge of a start input (R62, R64, R139): ROW 0x7F monitors no row. -/
def State.staStamp (s : State) (k : Nat) (rising : Bool) (t : Tq) : State :=
  if 63 < (s.staCfg k).row then s
  else if rising then s.staRise k (s.staCfg k).row t else s.staFall k t

/-- An edge at an enabled start input (R139, R142, R157): converters 0 and 1 take rising edges at the ball, 2 and 3 falling
ones. -/
def State.staEdge (s : State) (k : Nat) (falling : Bool) (tBall : Tq) (phase n : Nat) : State :=
  let i := idxSta k
  let x := s.input i
  let base := if falling then 2 else 0
  match s.freeConv i base 2 (if falling then x.rrFall else x.rr) tBall with
  | none => s.pairLost i
  | some v =>
    let c := (s.sta k).cfg
    let t := (s.conv i v).stamp tBall phase n (c.skewBoard + s.staSkew k)
    let s := s.modConv i v fun y => { y with busyUntil := tBall + convTime }
    let s := s.modInput i fun y =>
      if falling then { y with rrFall := (v - 2 + 1) % 2 } else { y with rr := (v + 1) % 2 }
    let p : PathStamp :=
      { id := 0, t := t, gated := [], tEdge := tBall, conv := v, suspect := !s.pll.locked, falling := falling,
        epoch := s.tb.epoch, cfg := HitCfg.reset, moved := 0, backed := false }
    let s := if c.diag = 1 then s.intoPath i p
      else s.modInput i fun y => { y with suspectStamps := if s.pll.locked then y.suspectStamps else y.suspectStamps.inc }
    s.staStamp k (decide (falling = decide (c.pol = 1))) t

/-- STA_EDGE (R62, R142). -/
def execStaEdge (sta : Nat) (falling : Bool) (tBall : Tq) (phase n : Nat) (s : State) : Out :=
  if 63 < sta then .next s
  else if (s.sta sta).cfg.enable = 1 ∧ s.heard tBall then .next (s.staEdge sta falling tBall phase n)
  else .next s

/-! ## A window closes (R63) -/

/-- A pulse of row `r` has gone unmatched: MISS_LIMIT of them in succession publish. One that dark kept from forming does
not count (R58, R62). -/
def State.missPulse (s : State) (r : Nat) (w : MatchWin) : State :=
  let dark := s.isDarkWindow w
  let s := { s with tx := { s.tx with windows := s.tx.windows.erase w } }
  let limit := match s.staOfRow r with
    | some k => (s.staCfg k).missLimit
    | none => 0
  let n := (s.row r).missRun + 1
  if dark then s else
  let full := decide (0 < limit ∧ limit ≤ n)
  let s := s.modRow r fun x => { x with missing := x.missing.inc, missRun := if full then 0 else n }
  if full then s.publish (prodMissing r) w.hi 0 else s

/-- STA_WINDOW_CLOSE (R63): the earliest match window of the row has closed without a match. -/
def execStaWindowClose (row : Nat) (s : State) : Out :=
  if 63 < row then .next s
  else match earliest (s.tx.windows.filter fun w => decide (w.row = row ∧ w.hi < s.now)) with
    | none => .next s
    | some w => .next (s.missPulse row w)

/-! ## The emission reference (R155, R156, R185) -/

/-- When the reference of a shot is fixed (R156): with LAT_MAX 0 on a row without start input. Entry 30, DEDUCED. -/
def State.fixTime (s : State) (x : Shot) : Tq :=
  let lat := match s.staOfRow x.row with
    | some k => (s.staCfg k).latMax
    | none => 0
  x.rises.getLast?.getD 0 + lat + 32768

/-- Outputs whose burst of a shot is under way and was kept wholly dark. -/
def State.darkNow (s : State) (shot : Nat) : Nat :=
  (outputNumbers.filter fun o => match (s.out o).active with
    | none => false
    | some b => decide (b.shot = some shot) && b.fired && (s.darkenNow b).allDark).length

/-- A shot is darkened (R185): every EMITTER output that took it kept every pulse dark. -/
def State.isDarkened (s : State) (k : Nat) (x : Shot) : Bool :=
  decide (0 < x.took) && !x.formed && decide (x.took ≤ x.darkAll + s.darkNow k)

/-- A candidate is plausible (R155). -/
def plausible (dev : Nat) (nominal : Int) (rise t : Tq) : Bool :=
  decide (dev = 0) || decide ((t - rise - nominal).natAbs ≤ dev)

/-- The candidates of a shot with their plausibility (R155): pulse, stamp. -/
def State.candidates (s : State) (x : Shot) (k : Nat) : List (Nat × Tq × Bool) :=
  x.stamps.map fun p =>
    (p.1, p.2, plausible (x.staDev.getD (s.sta k).cfg.staDev) (s.staNominal x.row) (x.rises.getD p.1 0) p.2)

/-- The plausible candidate of the lowest pulse. -/
def bestCandidate : List (Nat × Tq × Bool) → Option (Nat × Tq)
  | [] => none
  | (k, t, ok) :: rest => match bestCandidate rest with
    | none => if ok then some (k, t) else none
    | some b => if ok ∧ k < b.1 then some (k, t) else some b

/-- The reference of a shot with its row's counters (R155). -/
def State.chooseRef (s : State) (x : Shot) (dark : Bool) : State × Reference :=
  let plain : Reference := { time := x.rises.headD 0, sta := false }
  match s.staOfRow x.row with
  | none => (s, plain)
  | some k =>
    if dark then (s, plain)
    else
      let cs := s.candidates x k
      let bad := (cs.filter fun c => !c.2.2).length
      match bestCandidate cs with
      | some (j, t) =>
        let s := s.modRow x.row fun r => { r with staImplausible := r.staImplausible.add bad, staRef := r.staRef.inc }
        let s := if j = 0 then s.learnShot x.row (t - x.rises.headD 0) else s
        (s, { time := t - (x.offsets.getD j 0 : Int) + s.staShift x.row, sta := true })
      | none =>
        (s.modRow x.row fun r => { r with staImplausible := r.staImplausible.add bad, staFallback := r.staFallback.inc },
          plain)

/-- The reference of a shot is fixed, and the matches that waited for it are settled (R156, R185). -/
def State.fixReference (s : State) (k : Nat) (x : Shot) : State :=
  let dark := s.isDarkened k x
  let r := s.chooseRef x dark
  let s := r.1.setShot k (some { x with ref := some r.2, darkened := dark })
  let s := s.each (s.rx.channels.map (·.1)) fun s c =>
    ((s.chan c).gates.filter fun g => decide (g.shot = some k)).foldl (fun s g => s.settleMatches c g) s
  s.settleShot (some k)

/-- EMISSION_REFERENCE_FIXED (R156). -/
def execEmissionReferenceFixed (shot : Nat) (s : State) : Out :=
  match s.shot shot with
  | none => .next s
  | some x => if x.ref.isNone && s.reached (s.fixTime x) then .next (s.fixReference shot x) else .next s

end Sys2Proof.Machine
end

