-- ==== Sys2Proof/Machine/Histograms.lean ====
section
/-! DEFINITION. Commands of histograms and the code matcher (R182, R188, R193 to R195, R379). -/

namespace Sys2Proof.Machine

/-- MATCH_PROFILE_SET (R182). -/
def execMatchProfileSet (profile : Nat) (cfg : MatchProfile) : State → Out :=
  cmdRow (.matchProfileSet profile cfg) fun s =>
    .plain [(decide (15 < profile) || !(decide (cfg.minPulses = 0) || within 2 4 cfg.minPulses) ||
              !([1, 3, 5, 7].contains cfg.nbN) || !within 1 cfg.nbN cfg.nbK || decide (15 < cfg.nbTol), .badArg),
            (s.ranging, .locked)]
      (s.setMatchProf profile cfg)

/-- The code of a bank's state (R195). -/
def BankState.code : BankState → Nat
  | .free => 0
  | .filling => 1
  | .closed => 2
  | .held => 3

/-- HIST_STATUS (R195). -/
def execHistStatus (channel dst : Nat) : State → Out :=
  cmdRow (.histStatus channel dst) fun s =>
    let h := s.histChan channel
    .block [(decide (511 < channel), .badArg)] s dst
      [fU8 h.nextBank, fU8 (s.bank (2 * channel)).state.code, fU8 (s.bank (2 * channel + 1)).state.code, fU32 h.rejected,
       fU32 h.matchedFull, fU32 h.matchedWeak, fU32 h.nbRejected, fU32 h.outOfWindow, fU32 h.matchLost, fU32 h.darkMatches,
       fU32 h.satBins, fU32 h.parityAcc, fU32 h.recomputedBins, fU32 h.erasedBlocks]

/-- The eight words of a bank descriptor (R188). -/
def Descriptor.words (d : Descriptor) (channel bank : Nat) : List Nat :=
  [d.step % 2 ^ 20 * 2 ^ 12 + channel * 8 + bank * 4, d.binK * 2 ^ 29 + d.winStart, d.stampsIn % 2 ^ 32, d.drops % 2 ^ 32,
   d.gateTime % 2 ^ 32, d.matchedFull % 2 ^ 32, d.matchedWeak % 2 ^ 32,
   flagsValue [d.codeWeak, d.partial_, d.epochChanged, d.selftest, d.cal, d.suspect, d.multiGate, d.sat] * 2 ^ 24 +
     d.gatesMissing % 2048 * 2 ^ 11 + d.gatesUsed % 2048]

/-- The word of a block sum in HIST_READ (R180, R194): a stale block reads 0 with good parity. -/
def Block.sumWord (b : Block) : Nat :=
  if b.stale then 2 ^ 25 else b.sum.toNat + (!b.sumGood).toNat * 2 ^ 24

/-- The 1,056 bytes of HIST_READ (R194). -/
def State.histBytes (s : State) (channel bank : Nat) : List Byte :=
  let b := s.bank (2 * channel + bank)
  (b.desc.words channel bank ++ (List.range 256).map fun i => (Tab.get Block.reset b.blocks i).sumWord).flatMap (leBytes 4)

/-- HIST_READ (R194, R379): BUSY but on a held bank, or on any bank in Ready-idle. -/
def execHistRead (channel bank dst : Nat) : State → Out :=
  cmdRow (.histRead channel bank dst) fun s =>
    { checks := [(decide (511 < channel) || decide (1 < bank), .badArg),
                 (!(decide (s.dev.run = .readyIdle) || decide ((s.bank (2 * channel + bank)).state = .held)), .busy)]
      dst := some dst
      run := .done s .ok [] (s.histBytes channel bank) }

/-- A held bank is released, or a pending hold cancelled (R193). -/
def State.endHold (s : State) (c : Nat) : State :=
  let s := match (s.histChan c).held with
    | some b => s.setBank (2 * c + b) Bank.released
    | none => s
  s.modHistChan c fun h => { h with holdPending := false, held := none }

/-- HIST_HOLD (R193). -/
def execHistHold (channel mode : Nat) : State → Out :=
  cmdRow (.histHold channel mode) fun s =>
    let h := s.histChan channel
    .plain [(decide (511 < channel) || decide (1 < mode), .badArg),
            (decide (mode = 1) && (h.holdPending || h.held.isSome), .busy)]
      (if mode = 1 then s.modHistChan channel fun h => { h with holdPending := true } else s.endHold channel)

/-- The histogram counters of one channel cleared (R195). -/
def State.clearHist (s : State) (c : Nat) : State :=
  s.modHistChan c fun h =>
    { h with rejected := 0, matchedFull := 0, matchedWeak := 0, nbRejected := 0, outOfWindow := 0, matchLost := 0,
             darkMatches := 0, satBins := 0, parityAcc := 0, recomputedBins := 0, erasedBlocks := 0 }

/-- HIST_COUNTERS_CLEAR (R195). -/
def execHistCountersClear (first count : Nat) : State → Out :=
  cmdRow (.histCountersClear first count) fun s =>
    .plain [(badRange first count 512, .badArg)] (s.each (numbers first count) State.clearHist)

end Sys2Proof.Machine
end

