-- ==== Sys2Proof/Machine/Kernels.lean ====
section
/-! DEFINITION. The kernels: what an echo engine makes of a bank (R189, R191, R201 to R204, R209, R210). -/

namespace Sys2Proof.Machine

/-! ## Reading a bank (R180, R191) -/

/-- The block `b` of a bank. -/
def Bank.block (x : Bank) (b : Nat) : Block := Tab.get Block.reset x.blocks b

/-- The block sum as the kernel reads it: none when its parity is bad, 0 when stale. -/
def Block.sumRead (b : Block) : Option Nat :=
  if b.stale then some 0 else if b.sumGood then some b.sum.toNat else none

/-- What the fetch of a block gives. -/
inductive Fetch where
  | good (bins : List Nat)
  | recomputed (bins : List Nat)
  | erased
  deriving DecidableEq, Repr

/-- A block fetched with its bins (R191): one bad bin is recomputed from the block sum. -/
def Block.fetch (b : Block) : Fetch :=
  if b.stale then .good (List.replicate 64 0)
  else if !b.sumGood then .erased
  else
    let bins := (List.range 64).map b.bin
    match (List.range 64).filter fun i => !(b.bin i).good with
    | [] => .good (bins.map fun x => x.v.toNat)
    | [i] =>
      let others := ((List.range 64).filter (· ≠ i)).foldl (fun a k => a + (b.bin k).v.toNat) 0
      if others ≤ b.sum.toNat ∧ b.sum.toNat - others ≤ 65535 then
        .recomputed ((List.range 64).map fun k => if k = i then b.sum.toNat - others else (b.bin k).v.toNat)
      else .erased
    | _ => .erased

/-! ## The candidate search (R202) -/

/-- The sum of block `b` in a search: 0 for an erased block and outside 0 to 255. -/
def sumAt (sums : List (Option Nat)) (b : Int) : Nat := if b < 0 then 0 else ((sums.getD b.toNat none).getD 0)

/-- Block `b` may be the neighbour of a candidate: it exists and is not erased. -/
def canRead (sums : List (Option Nat)) (b : Int) : Bool := decide (0 ≤ b) && (sums.getD b.toNat none).isSome

/-- The candidates, by descending sum, the lower block first. -/
def candidateBlocks (sums : List (Option Nat)) (blockMin : Nat) : List Nat :=
  sortBy (fun a b => decide (sumAt sums b < sumAt sums a) || (decide (sumAt sums a = sumAt sums b) && decide (a ≤ b)))
    ((List.range 256).filter fun b =>
      canRead sums b && decide (1 ≤ sumAt sums b) &&
        decide (blockMin ≤ sumAt sums b + max (sumAt sums ((b : Int) - 1)) (sumAt sums ((b : Int) + 1))))

/-- The neighbour read with a candidate: the one of larger sum, the lower on equal ones, itself when there is none. -/
def neighbourBlock (sums : List (Option Nat)) (b : Nat) : Nat :=
  let lo := decide (0 < b) && canRead sums ((b : Int) - 1)
  let hi := decide (b < 255) && canRead sums ((b : Int) + 1)
  if lo && hi then (if sumAt sums ((b : Int) - 1) < sumAt sums ((b : Int) + 1) then b + 1 else b - 1)
  else if lo then b - 1 else if hi then b + 1 else b

/-- A block added to those to be read. -/
def addBlock (read : List Nat) (b : Nat) : List Nat := if read.contains b then read else read ++ [b]

/-- The blocks whose bins are read, and whether the search was cut short at FINE_MAX. -/
def searchBlocks (sums : List (Option Nat)) (fineMax : Nat) : List Nat → List Nat → List Nat × Bool
  | [], read => (read, false)
  | b :: t, read =>
    let more := addBlock (addBlock read b) (neighbourBlock sums b)
    if fineMax < more.length then (read, true) else searchBlocks sums fineMax t more

/-! ## Runs (R202) -/

/-- A run of bins: its bins above 0 in rising order. -/
abbrev Run := List (Nat × Nat)

/-- The total of a run. -/
def Run.total (r : Run) : Nat := (r.map (·.2)).sum

/-- The runs of fetched bins given in rising order; `cur` is the run under way reversed, `last` the last bin seen. -/
def runsFrom (gapMax : Nat) : Run → Nat → List (Nat × Nat) → List Run
  | cur, _, [] => if cur.isEmpty then [] else [cur.reverse]
  | cur, last, (i, n) :: t =>
    let breaks := decide (i ≠ last + 1) || decide (gapMax + 1 + (cur.head?.map (·.1)).getD 0 < i)
    let cur' := if breaks then [] else cur
    let next := if n = 0 then cur' else (i, n) :: cur'
    (if breaks && !cur.isEmpty then [cur.reverse] else []) ++ runsFrom gapMax next i t

/-! ## Fields (R189, R203, R204) -/

/-- An echo: its time of flight and the other fields of its record. -/
structure Echo where
  tof : Int
  width : Nat
  intensity : Nat
  quality : Nat
  total : Nat
  sat : Bool
  precip : Bool
  deriving DecidableEq, Repr

/-- QUALITY (R203): b_bin is `s / (64 k)`; the greatest m up to 63 with m ≤ 8 (T - B_run) / sqrt(T). -/
def qualityOf (t len s k : Nat) : Nat :=
  let q := max 1 (64 * k)
  let p := if k = 0 then 0 else s * len
  if t * q ≤ p then 0
  else ((List.range 64).filter fun m => decide (m * m * (q * q * t) ≤ 64 * ((t * q - p) * (t * q - p)))).length - 1

/-- The largest bin of a run. -/
def Run.peak (r : Run) : Nat := (r.map (·.2)).foldl max 0

/-- The first bin of a run with half the largest count or more (R204). -/
def Run.lead (r : Run) : Nat := ((r.find? fun b => decide ((r.peak + 1) / 2 ≤ b.2)).map (·.1)).getD 0

/-- The echo of a run (R203, R204): `s` and `k` give the background. -/
def echoOf (j : Job) (s k : Nat) (r : Run) : Echo :=
  let w := binWidth j.desc.binK
  let f := (r.head?.map (·.1)).getD 0
  let l := (r.getLast?.map (·.1)).getD 0
  let t := r.total
  let len := l + 1 - f
  let sat := decide (j.kernel.satrecEn = 1) && decide (j.kernel.satFrac * j.desc.gatesUsed ≤ 16 * t)
  let tof : Int :=
    if sat then (j.desc.winStart : Int) + (r.lead * w : Nat) - j.tofOffset + j.walk
    else (j.desc.winStart : Int) + ((r.map fun b => b.2 * (b.1 * w + w / 2)).sum / t : Nat) - j.tofOffset
  { tof := tof
    width := min 65535 (len * w)
    intensity := min 65535 (roundDiv (t * 4096 : Nat) (max 1 j.desc.gatesUsed)).toNat
    quality := qualityOf t len s k
    total := t
    sat := sat
    precip := decide (j.kernel.precipEn = 1) && decide (tof < j.kernel.precipMaxTof) &&
      decide (j.kernel.precipMinWidth ≤ len ∧ r.peak ≤ j.kernel.precipMaxPeak) }

/-- A time of flight fits the record (R202). -/
def Echo.inRange (e : Echo) : Bool := decide (0 ≤ e.tof ∧ e.tof < 2 ^ 26 - 1)

/-- The echoes kept: the `n` of largest total, nearer first on equal ones, in ascending time of flight. -/
def keepEchoes (n : Nat) (es : List Echo) : List Echo :=
  let strong := (sortBy (fun a b => decide (b.total < a.total) || (decide (a.total = b.total) && decide (a.tof ≤ b.tof))) es).take n
  sortBy (fun a b => decide (a.tof ≤ b.tof)) strong

/-! ## Records (R209, R210) -/

/-- A point record. -/
def pointRec (j : Job) (flags echo : Nat) (last : Bool) (tof quality width intensity : Nat) : Rec :=
  recOf (j.desc.step % 2 ^ 20 * 2 ^ 12 + j.channel * 8 + echo * 2 + last.toNat) (tof * 64 + quality)
    (width * 2 ^ 16 + intensity) (flags * 2 ^ 16 + j.desc.ambient)

/-- The flags of an echo's record (R210). -/
def Echo.flags (e : Echo) (base : Nat) : Nat := base ||| (e.sat.toNat * 4) ||| (e.precip.toNat * 256)

/-- The records of the echoes kept, or a NO_RETURN record. -/
def pointRecs (j : Job) (base : Nat) (es : List Echo) : List Rec :=
  if es.isEmpty then [pointRec j base 0 true 0x3FFFFFF 0 0 0]
  else (List.range es.length).filterMap fun i => (es[i]?).map fun e =>
    pointRec j (e.flags base) i (decide (i + 1 = es.length)) e.tof.toNat e.quality e.width e.intensity

/-! ## A run of a job (R202) -/

/-- What a kernel run yields: records, echoes, and what it counts. -/
structure KernelRun where
  recs : List Rec
  echoes : List Echo
  elements : Nat
  truncated : Bool
  outOfRange : Nat
  recomputedBins : Nat
  erasedBlocks : Nat
  deriving DecidableEq, Repr

/-- The fetched blocks in rising order, with what each gave. -/
def fetchAll (x : Bank) (read : List Nat) : List (Nat × Fetch) :=
  (sortBy (fun a b => decide (a ≤ b)) read).map fun b => (b, (x.block b).fetch)

/-- The bins of fetched blocks that are not erased, by number. -/
def fetchedBins (fs : List (Nat × Fetch)) : List (Nat × Nat) :=
  fs.flatMap fun p => match p.2 with
    | .good bs | .recomputed bs => (List.range 64).map fun i => (64 * p.1 + i, bs.getD i 0)
    | .erased => []

/-- A kernel run on a bank (R202). -/
def runKernel (j : Job) (x : Bank) : KernelRun :=
  let sums := (List.range 256).map fun b => (x.block b).sumRead
  let (read, cut) := searchBlocks sums j.kernel.fineMax (candidateBlocks sums j.kernel.blockMin) []
  let fs := fetchAll x read
  let rest := (List.range 256).filter fun b => (sums.getD b none).isSome && !read.contains b
  let runs := (runsFrom j.kernel.gapMax [] 0 (fetchedBins fs)).filter fun r => decide (j.kernel.echoMin ≤ r.total)
  let es := runs.map (echoOf j ((rest.map fun b => sumAt sums b).sum) rest.length)
  let es := es.filter fun e => !(e.precip && decide (j.kernel.precipDrop = 1))
  let kept := keepEchoes (if j.kernel.kernel = 0 then 1 else j.maxEchoes) (es.filter Echo.inRange)
  let lost := (fs.filter fun p => decide (p.2 = .erased)).length + (sums.filter fun o => o.isNone).length
  let redone := (fs.filter fun p => match p.2 with
    | .recomputed _ => true
    | _ => false).length
  { recs := pointRecs j (j.desc.flags j.step.twilight (decide (0 < redone)) (decide (0 < lost))) kept
    echoes := kept
    elements := 256 + 64 * read.length
    truncated := cut
    outOfRange := (es.filter fun e => !e.inRange).length
    recomputedBins := redone
    erasedBlocks := lost }

end Sys2Proof.Machine
end

