-- ==== Sys2Proof/Machine/EngineOps.lean ====
section
/-! DEFINITION. Point jobs and engines: bank close and issue, commits, faults, self-tests, and engines in service (R188,
R193, R196 to R198, R205 to R211, R394). -/

namespace Sys2Proof.Machine

/-! ## Engines in service (R198, R206, R393, R394) -/

/-- The number of engines. -/
def engineCount : Nat := 96

/-- An engine is in service: IDLE or BUSY. -/
def Engine.serves (e : Engine) : Bool := decide (e.run = .idle) || decide (e.run = .busy)

/-- The engines in service. -/
def State.servingEngines (s : State) : List Nat := (List.range engineCount).filter fun e => (s.engine e).serves

/-- ENGINES_READY (R394). -/
def State.enginesReady (s : State) : Nat := s.servingEngines.length

/-- Some engine in service may take a job (R198). -/
def State.jobServed (s : State) (j : Job) : Bool := s.servingEngines.any fun e => !j.faultedOn.contains e

/-- A waiting job counts the time in which no engine in service may take it (R206). Entry 33, DEDUCED. -/
def State.waitOf (s : State) (j : Job) : Job :=
  if s.jobServed j then { j with waitFrom := none } else { j with waitFrom := some (j.waitFrom.getD s.clock) }

/-- The ENGINES bit of READY and the waits of queued jobs follow the engines in service. -/
def State.refreshEngines (s : State) : State :=
  let s := { s with eng := { s.eng with queue := s.eng.queue.map s.waitOf } }
  s.setReady readyEngines (decide (0 < s.enginesReady) && !s.dev.bist)

/-! ## The end of a job (R193, R200, R208, R211) -/

/-- The bank of a job whose result commits: released, or held when a hold is pending (R193). -/
def State.endBank (s : State) (j : Job) : State :=
  if (s.histChan j.channel).holdPending then
    (s.modBank (2 * j.channel + j.bank) fun x => { x with state := .held }).modHistChan j.channel fun h =>
      { h with holdPending := false, held := some j.bank }
  else s.setBank (2 * j.channel + j.bank) Bank.released

/-- A job's result commits (R208). -/
def State.commitJob (s : State) (j : Job) (kind : ResultKind) (recs : List Rec) (tof : Option (Int × Bool)) : State :=
  let s := (s.useSlots j.stream j.step.credit recs.length).endBank j
  let s := s.commitResult j.stream
    { number := j.number, kind := kind, recs := recs, seq := j.step.seq, epoch := j.step.epoch, facet := j.step.facet,
      step := j.desc.step, time := j.step.time }
  s.targetJob j.channel j.step.time tof

/-- A job ends as NOT_MEASURED (R211). -/
def State.notMeasured (s : State) (j : Job) (why : NotMeasured) : State :=
  let s := if why = .engine then
      { s with eng := { s.eng with pool := { s.eng.pool with
          notMeasuredEngine := s.eng.pool.notMeasuredEngine.inc } } }
    else s
  s.commitJob j .notMeasured [notMeasuredRec j why] none

/-! ## Bank close (R188, R196, R211) -/

/-- The gates of a bank. -/
def State.bankGates (s : State) (b : Nat) : List Gate := (s.chan (b / 2)).gates.filter fun g => decide (g.bank = some b)

/-- The reference of a gate's shot is fixed. -/
def State.refFixed (s : State) (g : Gate) : Bool := ((g.shot.bind s.shot).map fun x => x.ref.isSome).getD true

/-- A gate's shot was darkened (R185). -/
def State.gateDarkened (s : State) (g : Gate) : Bool := ((g.shot.bind s.shot).map (·.darkened)).getD false

/-- A bank may close (R188): every slot of its step is issued, and its gates are drained with all their matches decided. -/
def State.bankDue (s : State) (b : Nat) : Bool :=
  decide ((s.bank b).state = .filling) && (((s.bank b).step.map (·.allIssued)).getD false) &&
    (s.bankGates b).all fun g => decide (g.life = .drained) && g.settled && s.refFixed g

/-- A gate's share of the descriptor (R188). -/
def State.addGate (s : State) (d : Descriptor) (g : Gate) : Descriptor :=
  let used := g.inService && !s.gateDarkened g
  { d with
    gatesUsed := if used then d.gatesUsed + 1 else d.gatesUsed
    gatesMissing := if used then d.gatesMissing else d.gatesMissing + 1
    gateTimeTq := if used then d.gateTimeTq + (g.tClose - g.tOpen).toNat else d.gateTimeTq
    drops := d.drops + g.drops
    suspect := d.suspect || g.suspect
    cal := d.cal || g.cal
    selftest := d.selftest || g.selftest
    epochChanged := d.epochChanged || g.epochChanged }

/-- Gates with two different tables mark CAL (R316). -/
def twoTables (gs : List Gate) : Bool := gs.any fun g => gs.any fun h => decide (g.table ≠ h.table)

/-- The descriptor of a bank at its close. Entry 55, DEDUCED. -/
def State.finalDesc (s : State) (b : Nat) : Descriptor :=
  let gs := s.bankGates b
  let d := gs.foldl s.addGate (s.bank b).desc
  { d with cal := d.cal || twoTables gs }

/-- Why a job is not measured before it runs: the first that applies (R211). Entry 30, DEDUCED. -/
def State.unmeasurable (s : State) (j : Job) : Option NotMeasured :=
  if !s.inService j.channel then some .outOfService
  else if !s.calibrated j.channel then some .calibration
  else if j.desc.gatesUsed = 0 then some .noGates
  else none

/-- The job of a bank that closes (R196, R198). -/
def State.jobOf (s : State) (b : Nat) (st : BankStep) (d : Descriptor) : Job :=
  let x := s.stream st.stream
  { stream := st.stream, number := x.nextIssue, channel := b / 2, bank := b % 2, desc := d, step := st, kernel := x.kernel,
    maxEchoes := x.cfg.maxEchoes, tofOffset := s.tofOffset (b / 2), walk := s.walk (b / 2), faultedOn := [],
    waitFrom := none }

/-- The gates of a bank are done with it. -/
def State.leaveBank (s : State) (b : Nat) : State :=
  let gs := s.bankGates b
  let s := s.modChan (b / 2) fun x =>
    { x with gates := x.gates.map fun (g : Gate) => if g.bank = some b then { g with bank := none } else g }
  gs.foldl (fun s g => s.settleShot g.shot) s

/-- A bank closes: its descriptor is fixed and its job takes the next number of its stream and joins the queue, or is
answered NOT_MEASURED at once (BANK_CLOSE). -/
def State.closeBank (s : State) (b : Nat) (st : BankStep) : State :=
  let d := s.finalDesc b
  let j := s.jobOf b st d
  let s := (s.leaveBank b).modBank b fun x => { x with state := .closed, desc := d }
  let s := s.modStream st.stream fun x => { x with nextIssue := x.nextIssue + 1 }
  match s.unmeasurable j with
  | some why => s.notMeasured j why
  | none => { s with eng := { s.eng with queue := s.eng.queue ++ [s.waitOf j] } }

/-! ## Taking and ending a job (R198, R202, R206) -/

/-- The oldest waiting job that engine `e` may take, with the rest of the queue. -/
def takeJob (e : Nat) : List Job → Option (Job × List Job)
  | [] => none
  | j :: t => if j.faultedOn.contains e then (takeJob e t).map fun p => (p.1, j :: p.2) else some (j, t)

/-- Engine `e` takes a job; a second run is counted (R216). -/
def State.startJob (s : State) (e : Nat) (j : Job) (rest : List Job) : State :=
  let pool := s.eng.pool
  let pool := if j.faultedOn.isEmpty then pool else { pool with recomputes := pool.recomputes.inc }
  let s := { s with eng := { s.eng with queue := rest, pool := pool } }
  s.modEngine e fun x => { x with run := .busy, job := some j, since := s.clock }

/-- The time of flight that CAL_TARGET takes from a job (R321): echo 0's, with whether it is saturated. -/
def targetTof (j : Job) (r : KernelRun) : Option (Int × Bool) :=
  match r.echoes with
  | [] => none
  | e :: _ => if j.desc.suspect || j.desc.partial_ || decide (0 < r.erasedBlocks) then none else some (e.tof, e.sat)

/-- What a run adds to the counters (R191, R216). -/
def State.countRun (s : State) (e : Nat) (j : Job) (r : KernelRun) : State :=
  let p := s.eng.pool
  let p := { p with
    truncatedSearch := if r.truncated then p.truncatedSearch.inc else p.truncatedSearch
    outOfRange := p.outOfRange.add r.outOfRange
    noReturn := if r.echoes.isEmpty then p.noReturn.inc else p.noReturn }
  let s := { s with eng := { s.eng with pool := p } }
  let s := s.modHistChan j.channel fun h =>
    { h with recomputedBins := h.recomputedBins.add r.recomputedBins, erasedBlocks := h.erasedBlocks.add r.erasedBlocks }
  s.modEngine e fun x => { x with run := .idle, job := none, jobs := x.jobs.inc, elements := x.elements.add r.elements }

/-- A kernel run ends and its job commits (ENGINE_JOB_DONE, R202, R208). -/
def State.finishJob (s : State) (e : Nat) (j : Job) : State :=
  let r := runKernel j (s.bank (2 * j.channel + j.bank))
  ((s.countRun e j r).commitJob j .point r.recs (targetTof j r))

/-! ## Faults (R205, R206) -/

/-- Engine `e` faults during its job `j` (R206): it is SUSPECT and under test; the job waits for another engine, or ends
as NOT_MEASURED at its second fault. -/
def State.engineFault (s : State) (e : Nat) (j : Job) (why : FaultCause) : State :=
  let s := s.modEngine e fun x =>
    { x with run := .suspect, lastFault := why, faults := x.faults.inc, job := none, since := s.clock }
  let s := if j.faultedOn.isEmpty then
      { s with eng := { s.eng with queue := { j with faultedOn := [e] } :: s.eng.queue } }
    else s.notMeasured j .engine
  s.refreshEngines

/-- Engine `e` without a job detects an ECC error (R205): an IDLE engine is SUSPECT and under test, an engine that is under
test or QUARANTINED stays so. Entry 33, DEDUCED. -/
def State.idleFault (s : State) (e : Nat) : State :=
  (s.modEngine e fun x =>
    { x with
      run := if x.run = .idle then .suspect else x.run
      lastFault := .ecc
      faults := x.faults.inc
      since := if x.run = .idle then s.clock else x.since }).refreshEngines

/-- The self-test kernel of engine `e` has ended (R206, R207, R315). -/
def State.endTest (s : State) (e : Nat) (pass : Bool) : State :=
  let s := s.modEngine e fun x =>
    { x with
      run := if pass then .idle else .quarantined
      lastFault := if pass then x.lastFault else .selftest
      faults := if pass then x.faults else x.faults.inc
      lastTest := s.clock }
  let s := s.modCalRunState 2 fun r => if pass then r.ran e s.dieTemp s.now else r.ended e s.dieTemp s.now
  (s.refreshEngines).answerWaiting (.engineTest e) .ok [fBool pass]

/-- Engine `e` begins its self-test kernel. -/
def State.beginTest (s : State) (e : Nat) : State :=
  (s.modEngine e fun x =>
    { x with run := .selftest, since := s.clock, wasQuarantined := decide (x.run = .quarantined) }).refreshEngines

/-- A test that a command waits for is given up, and the engine is what it was before (R207, R386). -/
def State.dropTest (s : State) (w : WaitKey × Option Taken) : State :=
  match w.1 with
  | .engineTest e =>
    s.modEngine e fun x =>
      if x.run = .selftest then { x with run := if x.wasQuarantined then .quarantined else .idle } else x
  | _ => s

/-- Every command whose answer waits is answered BUSY, and nothing of it is done (R386, R407). -/
def State.turnAway (s : State) : State := (s.mbx.waiting.foldl State.dropTest s).refreshEngines.answerAllBusy

end Sys2Proof.Machine
end

