-- ==== Sys2Proof/Machine/Engines.lean ====
section
/-! DEFINITION. Commands and happenings of banks, engines and streams (R188, R196 to R208, R216, R315, R380, R409). -/

namespace Sys2Proof.Machine

/-! ## Stream and kernel configuration (R199, R201) -/

/-- The stream holds nothing but the LOST_RANGE record that waits for the host to enable its path (R411). -/
def Stream.onlyLostRange (x : Stream) : Bool :=
  decide (x.nextIssue = 2) && match x.committed with
    | [r] => decide (r.kind = .lostRange)
    | _ => false

/-- A running sequencer names the stream, or it holds undelivered results (R199). A LOST_RANGE record that waits for the
stream's path does not keep the host from setting that path (R411). Entry 33, DEDUCED. -/
def State.streamBusy (s : State) (n : Nat) : Bool :=
  s.streamRunning n || ((s.stream n).undelivered && !(s.stream n).onlyLostRange)

/-- BATCH_MAX exceeds what a datagram carries (R215). -/
def overMtu (mtu : Nat) (raw : Bool) (c : StreamCfg) : Bool :=
  decide (c.transport = 1) && decide (mtu - 28 < 64 + (if raw then 16 else 8) * c.batchMax)

/-- STREAM_CONFIG (R199, R215): on a raw stream MAX_ECHOES is ignored, and stays as it is; a LOST_RANGE record that waits for
the path which TRANSPORT now gives is released (R411). -/
def execStreamConfig (stream : Nat) (cfg : StreamCfg) : State → Out :=
  cmdRow (.streamConfig stream cfg) fun s =>
    let raw := (s.stream stream).raw
    .plain [(decide (63 < stream) || (!raw && !within 1 4 cfg.maxEchoes) || !isBit cfg.transport || !within 1 4096 cfg.batchMax ||
              !within 1 10000 cfg.batchTimeout || (!raw && decide (cfg.batchMax < cfg.maxEchoes)) ||
              overMtu s.net.net.mtu raw cfg, .badArg),
            (s.streamBusy stream, .busy)]
      ((s.modStream stream fun x =>
        { x with cfg := { cfg with maxEchoes := if raw then x.cfg.maxEchoes else cfg.maxEchoes } }).releaseStream stream)

/-- A field other than the kernel's code is out of range (R201). -/
def kernelRanges (c : KernelCfg) : Bool :=
  within 1 255 c.blockMin && within 2 16 c.fineMax && within 1 255 c.echoMin && decide (c.gapMax ≤ 7) && isBit c.satrecEn &&
    within 1 16 c.satFrac && isBit c.precipEn && decide (c.precipMaxTof ≤ 2 ^ 26 - 2) && within 2 255 c.precipMinWidth &&
    within 1 255 c.precipMaxPeak && isBit c.precipDrop && within 8 1000 c.jobTimeout

/-- KERNEL_CONFIG (R201). -/
def execKernelConfig (stream : Nat) (cfg : KernelCfg) : State → Out :=
  cmdRow (.kernelConfig stream cfg) fun s =>
    .plain [(decide (1 < cfg.kernel), .unsupported), (decide (63 < stream) || !kernelRanges cfg, .badArg),
            (s.streamBusy stream, .busy)]
      (s.modStream stream fun x => { x with kernel := cfg })

/-! ## Status (R216) -/

/-- The number of an engine's state (R216, R370). -/
def EngineRun.code : EngineRun → Nat
  | .idle => 0
  | .busy => 1
  | .suspect => 2
  | .quarantined => 3
  | .selftest => 4

/-- The number of a fault cause: 0 before any, else the place in the table of R205. Entry 33, DEDUCED. -/
def FaultCause.code : FaultCause → Nat
  | .none => 0
  | .ecc => 1
  | .timeout => 2
  | .check => 3
  | .selftest => 4

/-- What ENGINE_STATUS says of an engine. -/
def Engine.fields (e : Engine) : List Fld :=
  [fU8 e.run.code, fU8 e.lastFault.code, fU32 e.jobs, fU32 e.elements, fU32 e.faults]

/-- Jobs in flight (R196): issued and not committed, in the queue or on an engine. -/
def State.jobsInFlight (s : State) : Nat := s.eng.queue.length + (s.eng.engines.filter fun e => e.2.job.isSome).length

/-- ENGINE_STATUS (R216). -/
def execEngineStatus (first count dst : Nat) : State → Out :=
  cmdRow (.engineStatus first count dst) fun s =>
    let p := s.eng.pool
    .block [(badRange first count engineCount, .badArg)] s dst
      ((numbers first count).flatMap (fun e => (s.engine e).fields) ++
        [fU8 s.enginesReady, fU16 s.eng.queue.length, fU16 s.jobsInFlight, fU32 p.recomputes, fU32 p.notMeasuredEngine,
         fU32 p.truncatedSearch, fU32 p.outOfRange, fU32 p.noReturn])

/-- STREAM_STATUS (R216). -/
def execStreamStatus (stream dst : Nat) : State → Out :=
  cmdRow (.streamStatus stream dst) fun s =>
    let x := s.stream stream
    .block [(decide (63 < stream), .badArg)] s dst
      [fU64 x.nextIssue, fU64 x.nextRelease, fU16 x.committed.length, fU16 x.reserved, fU16 x.used, fU32 x.results,
       fU32 x.records, fU32 x.skipRecords, fU32 x.notMeasured, fU32 x.batches]

/-- ENGINE_COUNTERS_CLEAR (R216). -/
def execEngineCountersClear : State → Out :=
  cmdRow .engineCountersClear fun s =>
    .plain []
      (({ s with eng := { s.eng with pool := Pool.zero } } : State).each (List.range engineCount) fun s e =>
        s.modEngine e fun x => { x with jobs := 0, elements := 0, faults := 0 })

/-- ENGINE_RETEST (R207): the answer waits for the end of the self-test kernel. -/
def execEngineRetest (engine : Nat) : State → Out :=
  cmdRow (.engineRetest engine) fun s =>
    let r := (s.engine engine).run
    .gives [(decide (engineCount ≤ engine), .badArg), (s.dev.bist, .notReady),
            (decide (r = .busy) || decide (r = .suspect) || decide (r = .selftest), .busy)]
      (.waits (s.beginTest engine) (.engineTest engine))

/-! ## Banks and jobs -/

/-- BANK_CLOSE (R188, R196): a job is issued while an engine is in service (R25), its stream is below its ISSUE_LIMIT
(R409) and no power warning stands (R407). -/
def execBankClose (channel bank : Nat) (s : State) : Out :=
  if 511 < channel ∨ 1 < bank then .next s
  else
    let b := 2 * channel + bank
    match (s.bank b).step with
    | none => .next s
    | some st =>
      if s.bankDue b && s.isReady readyEngines && !s.dev.pfail && !(s.stream st.stream).atLimit then
        .next (s.closeBank b st)
      else .next s

/-- ISSUE_LIMIT_COMMIT (R409). -/
def execIssueLimitCommit (stream : Nat) (s : State) : Out :=
  if 63 < stream then .next s
  else if (s.stream stream).atLimit && !s.dev.pfail then .next (s.commitWith [stream] false) else .next s

/-- ENGINE_JOB_START (R198). -/
def execEngineJobStart (engine : Nat) (s : State) : Out :=
  if engineCount ≤ engine then .next s
  else if (s.engine engine).run = .idle then
    match takeJob engine s.eng.queue with
    | none => .next s
    | some (j, rest) => .next (s.startJob engine j rest)
  else .next s

/-- The run of an engine has exceeded its job's JOB_TIMEOUT (R205). -/
def State.overran (s : State) (e : Nat) (j : Job) : Bool :=
  decide ((s.engine e).since + j.kernel.jobTimeout * 1000 < s.clock)

/-- ENGINE_JOB_DONE (R202, R205, R208): a run past JOB_TIMEOUT is a fault, whatever it yields. -/
def execEngineJobDone (engine : Nat) (s : State) : Out :=
  if engineCount ≤ engine then .next s
  else match (s.engine engine).job with
    | none => .next s
    | some j => .next (if s.overran engine j then s.engineFault engine j .timeout else s.finishJob engine j)

/-- ENGINE_FAULT (R205, R206): without a job there is no result to check, an ECC error is detected all the same. -/
def execEngineFault (engine : Nat) (cause : EngineFault) (s : State) : Out :=
  if engineCount ≤ engine then .next s
  else match (s.engine engine).job with
    | none => .next (if cause = .ecc then s.idleFault engine else s)
    | some j => .next (s.engineFault engine j (if cause = .ecc then .ecc else .check))

/-- JOB_TIMEOUT (R205, R206): a run exceeds JOB_TIMEOUT. -/
def execJobTimeout (engine : Nat) (s : State) : Out :=
  if engineCount ≤ engine then .next s
  else match (s.engine engine).job with
    | none => .next s
    | some j =>
      if s.overran engine j then .next (s.engineFault engine j .timeout) else .next s

/-- ENGINE_SELFTEST_DONE (R206, R207): the test of a SUSPECT engine does not wait for the firmware. -/
def execEngineSelftestDone (engine : Nat) (pass : Bool) (s : State) : Out :=
  if engineCount ≤ engine then .next s
  else if decide ((s.engine engine).run = .suspect) || (s.dev.fwRunning && decide ((s.engine engine).run = .selftest)) then
    .next (s.endTest engine pass)
  else .next s

/-- The interleaved self-test of an engine is due (R314, R315): asked for by CAL_RUN, or ENGINE_PERIOD past the last. -/
def State.testDue (s : State) (e : Nat) : Bool :=
  (s.calRunState 2).scheduled.contains e ||
    (decide (s.cal.cfg.auto / 4 % 2 = 1) &&
      decide ((s.engine e).lastTest + s.cal.cfg.enginePeriod * 1000000000 ≤ s.clock))

/-- ENGINE_SELFTEST_DUE (R207, R315): on an IDLE engine while no job waits. -/
def execEngineSelftestDue (engine : Nat) (s : State) : Out :=
  if engineCount ≤ engine then .next s
  else if s.dev.fwRunning && decide ((s.engine engine).run = .idle) && s.eng.queue.isEmpty && s.testDue engine then
    .next (s.beginTest engine)
  else .next s

/-- The first job whose wait for an engine in service has run out, with the rest of the queue (R206). -/
def State.lateJob (s : State) : List Job → Option (Job × List Job)
  | [] => none
  | j :: t =>
    if (match j.waitFrom with
        | none => false
        | some w => decide (w + j.kernel.jobTimeout * 1000 ≤ s.clock)) && !s.jobServed j then some (j, t)
    else (s.lateJob t).map fun p => (p.1, j :: p.2)

/-- NO_ENGINE_IN_SERVICE_TIMEOUT (R206). -/
def execNoEngineInServiceTimeout (s : State) : Out :=
  match s.lateJob s.eng.queue with
  | none => .next s
  | some (j, rest) => .next (({ s with eng := { s.eng with queue := rest } } : State).notMeasured j .engine)

/-- BATCH_TIMEOUT (R208). -/
def execBatchTimeout (stream : Nat) (s : State) : Out :=
  if 63 < stream then .next s
  else match (s.stream stream).openBatch with
    | none => .next s
    | some b =>
      if b.openedAt + (s.stream stream).cfg.batchTimeout * 1000 ≤ s.clock then
        .next (s.modStream stream fun x => x.closeBatch true)
      else .next s

end Sys2Proof.Machine
end

