-- ==== Sys2Proof/Machine/Rings.lean ====
section
/-! DEFINITION. Result rings, host links and MSI-X: batches written and confirmed, reconciliation, Smiurn datagrams (R323 to
R338, R341, R342, R380, R428, R439). -/

namespace Sys2Proof.Machine

/-! ## Rings -/

/-- The ring of a stream changed. -/
def State.modRing (s : State) (n : Nat) (f : Ring → Ring) : State := s.modStream n fun x => { x with ring := f x.ring }

/-- SLOT_SIZE (R329). -/
def Stream.slotSize (x : Stream) : Nat := 64 + 16 * x.cfg.batchMax

/-- The address of the slot that holds batch `k` of a ring (R329, R330). -/
def Stream.slotAddr (x : Stream) (k : Nat) : Nat := x.ring.cfg.base + k % x.ring.cfg.ringLen * x.slotSize

/-- The difference of two 32-bit counts of batches (R330). -/
def countDiff (a b : BitVec 32) : Nat := (a - b).toNat

/-- The 16 bytes of the producer writeback (R330). -/
def writeback (r : Ring) (next : Nat) : List Byte := leBytes 4 r.pi.toNat ++ zeroBytes 4 ++ leBytes 8 next

/-- The number that follows the last result of a batch. -/
def Batch.following (b : Batch) : Nat := ((b.results.getLast?.map (·.number)).getD 0) + 1

/-- A batch is written into its own slot: its records, then its header (R330). -/
def State.writeSlot (s : State) (n : Nat) (b : Batch) : State :=
  s.log (.ringWrite n ((s.stream n).slotAddr b.slot) b.slot (s.batchBytes n b))

/-- The producer writeback leaves (R330). -/
def State.writePi (s : State) (n next : Nat) : State :=
  let r := (s.stream n).ring
  s.log (.dma r.cfg.piAddr (writeback r next))

/-- The stream's ring may be written (R325, R328, R333, R407); in a warm reset committed results wait (R398). -/
def State.ringOpen (s : State) (n : Nat) : Bool :=
  let x := s.stream n
  decide (x.cfg.transport = 0 ∧ x.ring.cfg.enable = 1) && s.dmaOk && !x.ring.reconPending && !s.dev.pfail && !s.dev.warm

/-- A confirmation read is due: 8 batches, or 2 µs of writing, since the previous one (R332). Entry 32, DEDUCED. -/
def State.readDue (s : State) (r : Ring) : Bool :=
  decide (8 ≤ r.uncovered) || (decide (0 < r.uncovered) && decide (r.firstUncovered + 2000 ≤ s.clock))

/-- RING_BATCH_WRITE (R330, R332): writing waits for a confirmation read that is due. -/
def execRingBatchWrite (stream : Nat) (s : State) : Out :=
  if 63 < stream then .next s
  else
    let x := s.stream stream
    let r := x.ring
    match x.closed with
    | [] => .next s
    | b :: rest =>
      if s.ringOpen stream && decide (countDiff r.pi r.ci < r.cfg.ringLen) && decide (r.unconfirmed.length < 64) &&
          !s.readDue r then
        let b := { b with slot := r.pi.toNat, reconciled := b.reconciled || r.markReconciled }
        let s := s.writeSlot stream b
        let s := s.modStream stream fun x => { x with closed := rest }
        let s := s.modRing stream fun r =>
          { r with
            pi := r.pi + 1
            unconfirmed := r.unconfirmed ++ [b]
            firstUncovered := if r.uncovered = 0 then s.clock else r.firstUncovered
            uncovered := r.uncovered + 1
            piAdvanced := true
            markReconciled := false
            written := r.written.inc }
        .next (s.writePi stream b.following)
      else .next s

/-- RING_INTERRUPT (R330): PI has advanced and IRQ_HOLDOFF has passed since the ring's last interrupt. -/
def execRingInterrupt (stream : Nat) (s : State) : Out :=
  if 63 < stream then .next s
  else
    let r := (s.stream stream).ring
    let quiet := match r.lastIrq with
      | none => true
      | some t => decide (t + r.cfg.irqHoldoff * 1000 ≤ s.clock)
    if r.piAdvanced && quiet then
      .next ((s.modRing stream fun r => { r with piAdvanced := false, lastIrq := some s.clock }).vector r.cfg.vector)
    else .next s

/-- The confirmation reads that have not completed, of every ring. -/
def State.outstandingReads (s : State) : Nat := (s.eng.streams.map fun x => x.2.ring.reading.length).sum

/-- CONFIRMATION_READ (R332): a read of the last header written; it covers every batch written since the last one. At most 256
are outstanding (R323), and once a power warning stands the final reads are the last (R407). Entry 32, DEDUCED. -/
def execConfirmationRead (stream : Nat) (s : State) : Out :=
  if 63 < stream then .next s
  else
    let x := s.stream stream
    match x.ring.unconfirmed.getLast? with
    | none => .next s
    | some b =>
      if 0 < x.ring.uncovered ∧ s.dmaOk ∧ !x.ring.reconPending ∧ s.outstandingReads < 256 ∧ !s.dev.pfail then
        let s := s.log (.hostRead (x.slotAddr b.slot))
        .next (s.modRing stream fun r => { r with reading := r.reading ++ [r.uncovered], uncovered := 0 })
      else .next s

/-- The `k` oldest unconfirmed batches are confirmed: delivered, and their slots freed (R208, R332).
Entry 32, DEDUCED. -/
def State.confirmBatches (s : State) (n k : Nat) : State :=
  let bs := (s.stream n).ring.unconfirmed.take k
  let s := s.modRing n fun r => { r with unconfirmed := r.unconfirmed.drop k }
  (bs.foldl (fun s b => s.deliverBatch n b) s).drainAllRaw

/-- An outstanding read ends without success: its batches fall to the next read, or wait for one (R332).
Entry 32, DEDUCED. -/
def Ring.readFailed (r : Ring) : Ring :=
  match r.reading with
  | [] => r
  | [k] => { r with reading := [], uncovered := r.uncovered + k }
  | k :: j :: t => { r with reading := (k + j) :: t }

/-- BATCH_CONFIRMED (R332): the oldest outstanding read completes, successfully or not; not while a power warning stands, at
which the final reads took the place of those outstanding (R407). Entry 50, DEDUCED. -/
def execBatchConfirmed (stream : Nat) (ok : Bool) (s : State) : Out :=
  if 63 < stream ∨ s.dev.pfail then .next s
  else match (s.stream stream).ring.reading with
    | [] => .next s
    | k :: rest =>
      if ok then .next ((s.modRing stream fun r => { r with reading := rest }).confirmBatches stream k)
      else .next ((s.modRing stream Ring.readFailed).readError)

/-! ## Reconciliation (R333 to R336) -/

/-- A batch's slot lies behind CI: the host has consumed it. -/
def behindCi (ci : BitVec 32) (k : Nat) : Bool := decide (0 < countDiff ci (BitVec.ofNat 32 k) ∧ countDiff ci (BitVec.ofNat 32 k) < 2 ^ 31)

/-- How many of the unconfirmed batches landed, from the results of the header reads in order (true: as written, false:
another, none: an error): none when a read fails, else the number and the results left (R333, R334). -/
def landedOf (ci : BitVec 32) : List Batch → List (Option Bool) → Option (Nat × List (Option Bool))
  | [], rs => some (0, rs)
  | b :: t, rs =>
    if behindCi ci b.slot then (landedOf ci t rs).map fun p => (p.1 + 1, p.2)
    else match rs with
      | some true :: rs => (landedOf ci t rs).map fun p => (p.1 + 1, p.2)
      | some false :: rs => some (0, rs)
      | _ => none

/-- What every pending ring finds, or the stream whose read fails. -/
def State.survey (s : State) : List Nat → List (Option Bool) → Nat ⊕ List (Nat × Nat)
  | [], _ => .inr []
  | n :: t, rs =>
    match landedOf (s.stream n).ring.ci (s.stream n).ring.unconfirmed rs with
    | none => .inl n
    | some (k, rs) => match s.survey t rs with
      | .inl m => .inl m
      | .inr ks => .inr ((n, k) :: ks)

/-- The first of a list of batches carries RECONCILED. -/
def markFirst : List Batch → List Batch
  | [] => []
  | b :: t => { b with reconciled := true } :: t

/-- One ring is reconciled: `k` batches landed, the rest are written again (R333). -/
def State.reconcileRing (s : State) (n k : Nat) : State :=
  let s := s.confirmBatches n k
  let again := markFirst (s.stream n).ring.unconfirmed
  let next := match again.getLast? with
    | some b => b.following
    | none => (s.stream n).delivered + 1
  let s := again.foldl (fun s b => s.writeSlot n b) s
  let s := s.modRing n fun r =>
    { r with
      unconfirmed := again
      reading := []
      uncovered := again.length
      firstUncovered := s.clock
      reconPending := false
      markReconciled := again.isEmpty
      rewritten := r.rewritten.add again.length
      reconciliations := r.reconciliations.inc }
  s.writePi n next

/-- The streams whose rings wait for their reconciliation. -/
def State.pendingRings (s : State) : List Nat := (List.range 64).filter fun n => (s.stream n).ring.reconPending

/-- Every pending ring is reconciled; when a read fails all are abandoned (R333, R334). -/
def State.reconcile (s : State) (reads : List (Option Bool)) : State :=
  match s.survey s.pendingRings reads with
  | .inr ks => ks.foldl (fun s p => s.reconcileRing p.1 p.2) s
  | .inl n => ((s.modRing n fun r => { r with reconcileFail := r.reconcileFail.inc }).readError).cause 6

/-- Enabled rings wait for a reconciliation, and outstanding reads are lost (R333, R335). -/
def State.suspendRings (s : State) : State :=
  s.each (List.range 64) fun s n =>
    if (s.stream n).ring.cfg.enable = 1 then s.modRing n fun r => { r with reconPending := true, reading := [] } else s

/-- The host has configured the endpoint and set Bus Master Enable; messages that wait are sent.
Entry 14, DESIGN CHOICE. -/
def State.enableMaster (s : State) : State :=
  let p := s.regs.pcie
  let s := { s with regs := { s.regs with pcie := { p with
    busMaster := true, linkReset := false, config := { p.config with msixEnable := true } } } }
  s.each (List.range 64) State.flushVector

/-- RING_RECONCILIATION (R333): Bus Master Enable is 1 again after a host-link reset, or the firmware has resumed; every ring
that is enabled then is reconciled. While a power warning stands none is (R413), and in a warm reset the rings wait for the
resumption (R335, R398). Entry 44, DEDUCED. -/
def execRingReconciliation (reads : List (Option Bool)) (s : State) : Out :=
  if s.regs.pcie.linkReset && s.regs.pcie.linkUp && !s.dev.pfail then
    if s.dev.warm then .next s.enableMaster
    else if s.dev.fwRunning then .next (s.enableMaster.suspendRings.reconcile reads)
    else .next s
  else .next s

/-- RING_RESUME (R334): with nothing pending, while a power warning stands (R413) and in a warm reset (R398) it has no effect;
over a link that cannot be used the reads fail. -/
def execRingResume (reads : List (Option Bool)) : State → Out :=
  cmdRow (.ringResume reads) fun s =>
    .plain [] (match s.pendingRings with
      | [] => s
      | n :: _ =>
        if s.dev.pfail || s.dev.warm then s
        else if s.dmaOk then s.reconcile reads
        else (s.modRing n fun r => { r with reconcileFail := r.reconcileFail.inc }).cause 6)

/-- READY.PCIE follows the link and the firmware (R393); in a warm reset it sets as the firmware resumes (R398). -/
def State.refreshPcie (s : State) : State := s.setReady readyPcie (s.regs.pcie.linkUp && s.dev.fwRunning && !s.dev.warm)

/-- The configuration space after a host-link reset: AER is sticky and is cleared by a conventional reset alone (R323, R324).
Entry 14, PRESUMED. -/
def PcieConfig.cleared (c : PcieConfig) (kind : LinkReset) : PcieConfig :=
  if kind = .perst then PcieConfig.reset
  else { PcieConfig.reset with
    aerUncorrectable := c.aerUncorrectable
    aerUncorrectableMask := c.aerUncorrectableMask
    aerSeverity := c.aerSeverity
    aerCorrectable := c.aerCorrectable
    aerCorrectableMask := c.aerCorrectableMask
    headerLog := c.headerLog }

/-- A host-link reset (R324): the endpoint's configuration space is cleared, the rings wait for their reconciliation. The
clearing of Bus Master Enable alone leaves the MSI-X table and the link; a Function Level Reset leaves the link.
Entry 14, PRESUMED. Entry 32, DEDUCED. -/
def State.hostLinkReset (s : State) (kind : LinkReset) : State :=
  let p := s.regs.pcie
  let up := p.linkUp && (decide (kind = .flr) || decide (kind = .busMasterClear))
  let s := (({ s with regs := { s.regs with pcie := { p with busMaster := false, linkReset := true, linkUp := up } } } :
    State).suspendRings).refreshPcie
  if kind = .busMasterClear then s
  else
    { s with regs := { s.regs with pcie := { s.regs.pcie with
        config := p.config.cleared kind, msixTable := [], msixMask := [], msixPending := [] } } }

/-- HOST_LINK_RESET (R324). -/
def execHostLinkReset (kind : LinkReset) (s : State) : Out := .next (s.hostLinkReset kind)

/-- A vector is unmasked (R327): a message that waits is sent. -/
def State.unmask (s : State) (vector : Nat) : State :=
  let p := s.regs.pcie
  ({ s with regs := { s.regs with pcie := { p with msixMask := Tab.put true p.msixMask vector false } } } :
    State).flushVector vector

/-- MSIX_UNMASK (R327). -/
def execMsixUnmask (vector : Nat) : State → Out :=
  hostWrite fun s => if 63 < vector then .next s else .next (s.unmask vector)

/-- A word of an entry of the MSI-X table written: address, data, or the vector control, whose bit 0 masks the vector
(R325, R327). -/
def State.writeMsix (s : State) (vector word : Nat) (value : BitVec 32) : State :=
  let p := s.regs.pcie
  let e := Tab.get MsixEntry.zero p.msixTable vector
  let set (e : MsixEntry) : State :=
    { s with regs := { s.regs with pcie := { p with msixTable := Tab.put MsixEntry.zero p.msixTable vector e } } }
  if word = 0 then set { e with addr := e.addr.extractLsb' 32 32 ++ value }
  else if word = 1 then set { e with addr := value ++ e.addr.extractLsb' 0 32 }
  else if word = 2 then set { e with data := value }
  else if value.getLsbD 0 then
    { s with regs := { s.regs with pcie := { p with msixMask := Tab.put true p.msixMask vector true } } }
  else if Tab.get true p.msixMask vector then s.unmask vector
  else s

/-! ## Doorbells (R331, R428) -/

/-- RING_CI (R331): a value that moves CI backwards or past PI is ignored. -/
def execRingCi (stream value : Nat) : State → Out := hostWrite fun s =>
  if 63 < stream then .next s
  else
    let v := BitVec.ofNat 32 value
    let r := (s.stream stream).ring
    if countDiff v r.ci ≤ countDiff r.pi r.ci then .next (s.modRing stream fun r => { r with ci := v })
    else .next ((s.modRing stream fun r => { r with ciErr := true }).cause 7)

/-- CI_ERR_CLEAR (R428): bit 31 of RING_STAT, W1C. -/
def execCiErrClear (stream value : Nat) : State → Out := hostWrite fun s =>
  if 63 < stream then .next s
  else if value / 2 ^ 31 % 2 = 1 then .next (s.modRing stream fun r => { r with ciErr := false }) else .next s

/-! ## Ring commands (R328, R336 to R338) -/

/-- The fields of a ring are out of range (R328). -/
def ringRanges (c : RingCfg) : Bool :=
  isBit c.enable && decide (c.base < 2 ^ 64 ∧ c.base % 4096 = 0) && within 64 65536 c.ringLen &&
    decide (c.piAddr < 2 ^ 64 ∧ c.piAddr % 64 = 0) && within 36 63 c.vector && decide (c.irqHoldoff ≤ 1000) && isBit c.replay

/-- The ring overlaps the producer writeback (R328). -/
def Stream.overlapsPi (x : Stream) (c : RingCfg) : Bool :=
  decide (c.base < c.piAddr + 16 ∧ c.piAddr < c.base + c.ringLen * x.slotSize)

/-- A ring starts anew: PI and CI at 0 (R328). -/
def Ring.restart (r : Ring) : Ring := { r with pi := 0, ci := 0, piAdvanced := false }

/-- The unconfirmed batches go to the new ring, the first with RECONCILED (R337). -/
def Stream.replayAll (x : Stream) : Stream :=
  let bs := markFirst x.ring.unconfirmed
  { x with
    closed := bs ++ x.closed
    ring := { x.ring.restart with
      unconfirmed := [], uncovered := 0, reading := [], reconPending := false
      rewritten := x.ring.rewritten.add bs.length } }

/-- RING_CONFIG takes effect (R328, R337). Entry 32, DEDUCED. -/
def Stream.configureRing (x : Stream) (c : RingCfg) : Stream :=
  let moved := decide (c.base ≠ x.ring.cfg.base ∨ c.ringLen ≠ x.ring.cfg.ringLen)
  let x := if c.replay = 1 ∧ !x.ring.unconfirmed.isEmpty then x.replayAll
    else
      { x with ring := { (if moved then x.ring.restart else x.ring) with
        reconPending := x.ring.reconPending && decide (c.replay = 0) } }
  { x with ring := { x.ring with cfg := c } }

/-- RING_CONFIG (R328, R336, R337): a LOST_RANGE record that waits for the ring is released (R411). -/
def execRingConfig (stream : Nat) (cfg : RingCfg) : State → Out :=
  cmdRow (.ringConfig stream cfg) fun s =>
    let x := s.stream stream
    .plain [(decide (63 < stream) || !ringRanges cfg || decide (x.cfg.transport = 1) || x.overlapsPi cfg, .badArg),
            (s.streamRunning stream ||
              (decide (cfg.replay = 0) && (!x.ring.unconfirmed.isEmpty || x.ring.reconPending)), .busy)]
      ((s.modStream stream fun x => x.configureRing cfg).releaseStream stream)

/-- RING_STATUS (R338). -/
def execRingStatus (stream dst : Nat) : State → Out :=
  cmdRow (.ringStatus stream dst) fun s =>
    let r := (s.stream stream).ring
    .block [(decide (63 < stream), .badArg)] s dst
      [fU8 r.cfg.enable, fU32 r.pi.toNat, fU32 r.ci.toNat, fU8 r.unconfirmed.length, fBool r.reconPending, fBool r.ciErr,
       fU32 r.written, fU32 r.rewritten, fU32 r.reconciliations, fU32 r.reconcileFail]

/-! ## Egress queues (R343) -/

/-- A frame whose passage is stamped (R257). -/
def frameIsEvent (k : FrameKind) : Bool := decide (k = .sync) || decide (k = .delayReq) || decide (k = .ptpEvent)

/-- The egress queue of a tag's priority: 1 to 3. -/
def tagQueue : Option VlanTag → Nat
  | none => 3
  | some t => if 6 ≤ t.pcp then 1 else if 4 ≤ t.pcp then 2 else 3

/-- The egress queue of a forwarded frame: 0 for PTP event frames. -/
def frameQueue (f : NetFrame) : Nat := if frameIsEvent f.kind then 0 else tagQueue f.tag

/-- A message of the device whose passage is stamped (R257). -/
def PtpContent.isEvent : PtpContent → Bool
  | .sync .. | .pdelayReq .. | .pdelayResp .. | .delayReq .. => true
  | .announce .. | .delayResp .. => false

/-- The egress queue of an own frame. -/
def OwnFrame.number (f : OwnFrame) : Nat :=
  match f.body with
  | .ptp m => if m.isEvent then 0 else tagQueue f.tag
  | _ => tagQueue f.tag

/-- The egress queue of a frame (R343). -/
def Queued.number : Queued → Nat
  | .forwarded f _ => frameQueue f
  | .own f => f.number

/-- A frame is a forwarded one. -/
def Queued.isForwarded : Queued → Bool
  | .forwarded .. => true
  | .own .. => false

/-- No frame waits that goes before an own frame of queue `q` on port `k`. Entry 35, DEDUCED. -/
def State.ownLeaves (s : State) (k q : Nat) : Bool := (s.port k).queue.all fun x => decide (q < x.number)

/-! ## Smiurn (R341, R342) -/

/-- STREAM_UDP_SET (R341): a LOST_RANGE record that waits for the destination is released (R411). -/
def execStreamUdpSet (stream : Nat) (cfg : UdpCfg) : State → Out :=
  cmdRow (.streamUdpSet stream cfg) fun s =>
    .plain [(decide (63 < stream) || decide (2 ^ 48 ≤ cfg.dstMac) || decide (2 ^ 32 ≤ cfg.dstIp) ||
              !within 1 65535 cfg.dstPort || !within 1 65535 cfg.srcPort || decide (3 < cfg.egress) || decide (7 < cfg.pcp),
              .badArg),
            (s.streamBusy stream, .busy)]
      ((s.modStream stream fun x => { x with udp := cfg }).releaseStream stream)

/-- The port by which a stream's datagrams leave (R341). -/
def State.egressPort (s : State) (c : UdpCfg) : Nat :=
  if c.egress < 3 then c.egress
  else ((s.net.macs.find? fun m => decide (m.1 = c.dstMac)).map (·.2.port)).getD 0

/-- The frame of a stream's batch (R341 to R343). -/
def State.smiurnFrame (s : State) (stream : Nat) (b : Batch) : OwnFrame :=
  let u := (s.stream stream).udp
  { tag := s.ownTag u.pcp
    body := .smiurn stream (s.datagram u.dstMac u.dstIp u.srcPort u.dstPort (s.batchBytes stream b)) }

/-- SMIURN_SEND (R215, R342, R343): a batch leaves as one datagram and is delivered; frames of the same queue that came before
it, and those of the queues before, leave first. In a warm reset committed results wait (R398). -/
def execSmiurnSend (stream : Nat) (s : State) : Out :=
  if 63 < stream then .next s
  else
    let x := s.stream stream
    match x.closed with
    | [] => .next s
    | b :: rest =>
      let f := s.smiurnFrame stream b
      if x.cfg.transport = 1 ∧ x.udp.dstMac ≠ 0 ∧ s.net.net.ipAddr ≠ 0 ∧ s.isReady (readyPort (s.egressPort x.udp)) ∧
          s.ownLeaves (s.egressPort x.udp) f.number ∧ !s.dev.pfail ∧ !s.dev.warm then
        let s := s.log (.own (s.egressPort x.udp) f)
        let s := s.modStream stream fun x => { x with closed := rest }
        .next ((s.deliverBatch stream b).drainAllRaw)
      else .next s

end Sys2Proof.Machine
end

