-- ==== Sys2Proof/Machine/Fabric.lean ====
section
/-! DEFINITION. The event fabric: wiring, locks, software firing, delivery waves and host event inputs (R101, R218 to R233,
R381, R423, R427). -/

namespace Sys2Proof.Machine

/-! ## Locks (R229, R230) -/

/-- Channel `c` carries a key-lock in the active safety configuration. -/
def State.keyLocked (s : State) (c : Nat) : Bool :=
  s.sv.keysRestored && s.sv.active.keylocks.any fun p => decide (p.1 = c)

/-- Channel `c` is locked. -/
def State.chLocked (s : State) (c : Nat) : Bool := (s.evch c).sticky || s.keyLocked c

/-! ## Wiring (R218, R219) -/

/-- EVCH_CONFIG (R218). -/
def execEvchConfig (channel source : Nat) : State → Out :=
  cmdRow (.evchConfig channel source) fun s =>
    .plain [(decide (255 < channel) || !(isProducer source || decide (source = 0xFFF)), .badArg),
            (s.chLocked channel, .locked)]
      (s.modEvch channel fun c => { c with source := source })

/-- Slot `slot` of a task input. -/
def Subs.slot (x : Subs) (slot : Nat) : Sub := if slot = 0 then x.sub0 else x.sub1

/-- Slot `slot` of a task input set. -/
def Subs.setSlot (x : Subs) (slot : Nat) (v : Sub) : Subs := if slot = 0 then { x with sub0 := v } else { x with sub1 := v }

/-- The command adds or removes a subscription to a locked channel (R219). -/
def State.rewiresLocked (s : State) (old new : Sub) : Bool :=
  (old.enable && s.chLocked old.channel && decide (new ≠ old)) ||
    (new.enable && s.chLocked new.channel && decide (new ≠ old))

/-- Both slots are enabled on one channel (R219). -/
def Subs.doubled (x : Subs) : Bool := x.sub0.enable && x.sub1.enable && decide (x.sub0.channel = x.sub1.channel)

/-- EVCH_SUBSCRIBE (R219). -/
def execEvchSubscribe (consumer slot channel enable : Nat) : State → Out :=
  cmdRow (.evchSubscribe consumer slot channel enable) fun s =>
    let new : Sub := { channel := channel, enable := decide (enable = 1) }
    let x := (s.subs consumer).setSlot slot new
    .plain [(!isConsumer consumer || !isBit slot || decide (255 < channel) || !isBit enable || x.doubled, .badArg),
            (s.rewiresLocked ((s.subs consumer).slot slot) new, .locked)]
      (s.setSubs consumer x)

/-- EVCH_LOCK (R229). -/
def execEvchLock (channel : Nat) : State → Out :=
  cmdRow (.evchLock channel) fun s =>
    .plain [(decide (255 < channel), .badArg)] (s.modEvch channel fun c => { c with sticky := true })

/-- Enabled subscription slots that name channel `c` (R233). -/
def State.subscribers (s : State) (c : Nat) : Nat :=
  let names (x : Sub) : Nat := if x.enable ∧ x.channel = c then 1 else 0
  (s.fab.subs.map fun p => names p.2.sub0 + names p.2.sub1).sum

/-- What EVCH_STATUS says of a channel (R233). -/
def State.evchFields (s : State) (c : Nat) : List Fld :=
  let x := s.evch c
  [fU16 x.source, fFlags [x.sticky, s.keyLocked c], fU16 (s.subscribers c), fBool x.loop, fU32 x.published,
   fU32 x.collide, fU32 x.loopCount, fU32 x.fireReject]

/-- EVCH_STATUS (R233). -/
def execEvchStatus (first count dst : Nat) : State → Out :=
  cmdRow (.evchStatus first count dst) fun s =>
    .block [(badRange first count 256, .badArg)] s dst ((numbers first count).flatMap s.evchFields)

/-- The counters and LOOP of a channel cleared (R233). -/
def EvChannel.clear (c : EvChannel) : EvChannel :=
  { c with loop := false, published := 0, collide := 0, loopCount := 0, fireReject := 0 }

/-- EVCH_COUNTERS_CLEAR (R233). -/
def execEvchCountersClear (first count : Nat) : State → Out :=
  cmdRow (.evchCountersClear first count) fun s =>
    .plain [(badRange first count 256, .badArg)] (s.each (numbers first count) fun s c => s.modEvch c EvChannel.clear)

/-! ## Software firing (R228, R423) -/

/-- A channel fired at a time: with SOURCE 0xFFF the event is published and delivered to nobody (R228). -/
def EvChannel.fire (x : EvChannel) (t : Tq) : EvChannel :=
  { x.publish t 0 with nobody := x.nobody || (x.holding.isNone && decide (x.source = 0xFFF)) }

/-- A fire of channel `c` at the present time. -/
def State.fireChannel (s : State) (c : Nat) : State :=
  if s.chLocked c then
    let s := s.modEvch c fun x => { x with fireReject := x.fireReject.inc }
    { s with fab := { s.fab with fireRejected := true } }
  else s.modEvch c fun x => x.fire s.now

/-- A write of EVCH_FIRE (R423): it acts once FABRIC is ready (R393). -/
def State.writeEvchFire (s : State) (value : Nat) : State :=
  if value / 2 ^ 31 % 2 = 1 then { s with fab := { s.fab with fireRejected := false } }
  else if s.isReady readyFabric then s.fireChannel (value % 256) else s

/-- EVCH_FIRE (R228). -/
def execEvchFire (value : Nat) : State → Out := hostWrite fun s => .next (s.writeEvchFire value)

/-- FIRE_REJECTED_CLEAR (R423): a write of EVCH_FIRE with bit 31 set. -/
def execFireRejectedClear (value : Nat) : State → Out := hostWrite fun s => .next (s.writeEvchFire value)

/-! ## Delivery waves (R222 to R227) -/

/-- A wave: the contents of the filled holding places with their channels. -/
abbrev Wave := List (Nat × Event)

/-- The wave that an arbiter round takes, without what goes to nobody. -/
def State.wave (s : State) : Wave :=
  s.fab.channels.filterMap fun c => if c.2.nobody then none else c.2.holding.map fun e => (c.1, e)

/-- Every holding place is emptied. -/
def State.emptyPlaces (s : State) : State :=
  let channels := s.fab.channels.map fun (k, (c : EvChannel)) => (k, { c with holding := none, nobody := false })
  { s with fab := { s.fab with channels := channels } }

/-- A slot is subscribed to a channel. -/
def Sub.takes (x : Sub) (c : Nat) : Bool := x.enable && decide (x.channel = c)

/-- The events of a wave for a task input, by carried time, then channel (R226). -/
def Subs.arrivals (x : Subs) (w : Wave) : Wave :=
  sortBy (fun a b => decide (a.2.time < b.2.time) || (decide (a.2.time = b.2.time) && decide (a.1 ≤ b.1)))
    (w.filter fun p => x.sub0.takes p.1 || x.sub1.takes p.1)

/-- The entry that an event makes at a schedule input (R43). -/
def State.fabricEntry (s : State) (p : Nat × Event) : Entry :=
  { src := .fabric p.1, tTrig := p.2.time, gen := p.2.gen + 1, burst := .own, shot := none, came := s.clock }

/-- An event at a JUMP input (R101). -/
def SeqState.jumpEvent (q : SeqState) : SeqState :=
  if !q.running then q
  else match q.jump with
    | none => { q with jump := some q.cfg.jumpTarget }
    | some _ => { q with fJumpOverrun := true, counters := { q.counters with jumpOverrun := q.counters.jumpOverrun.inc } }

/-- An event at a COND input (R101). -/
def SeqState.condEvent (q : SeqState) : SeqState :=
  if !q.running then q
  else if q.cond then
    { q with fCondOverrun := true, counters := { q.counters with condOverrun := q.counters.condOverrun.inc } }
  else { q with cond := true }

/-- An event at a host event input (R231). -/
def State.hevEvent (s : State) (n : Nat) (p : Nat × Event) : State :=
  let h := s.hev n
  if h.valid then s.setHev n { h with overrun := h.overrun.inc }
  else (s.setHev n { h with valid := true, gen := p.2.gen, channel := p.1, time := p.2.time }).cause 1

/-- Events reach task input `i`, one after the other. -/
def State.arriveAt (s : State) (i : Nat) (es : Wave) : State :=
  if i < 0x888 then s.arriveAll (es.map fun p => (i - 0x800, s.fabricEntry p))
  else if i < 0x890 then s
  else if i < 0x8A0 then
    s.modSeq ((i - 0x890) / 2) fun q =>
      es.foldl (fun q _ => if i % 2 = 0 then q.jumpEvent else q.condEvent) q
  else es.foldl (fun s p => s.hevEvent (i - 0x8A0) p) s

/-- DELIVERY_WAVE (R223, R226). -/
def execDeliveryWave (s : State) : Out :=
  if !s.isReady readyFabric then .next s
  else
    let w := s.wave
    .next (s.fab.subs.foldl (fun s c => match c.2.arrivals w with
      | [] => s
      | es => s.arriveAt c.1 es) s.emptyPlaces)

/-! ## Host event inputs (R231, R427) -/

/-- HEV_VALID_CLEAR (R231, R427). -/
def execHevValidClear (n value : Nat) : State → Out := hostWrite fun s =>
  if 15 < n then .next s
  else if value / 2 ^ 31 % 2 = 1 then .next (s.modHev n fun h => { h with valid := false }) else .next s

/-- A count with the bits cleared that a write of 1 names (R10). -/
def clearBits (c : Count) (value : Nat) : Count := (BitVec.ofNat 32 c &&& ~~~BitVec.ofNat 32 value).toNat

/-- HEV_OVERRUN_CLEAR (R10, R427): W1C, so that 0xFFFF_FFFF clears the count. -/
def execHevOverrunClear (n value : Nat) : State → Out := hostWrite fun s =>
  if 15 < n then .next s
  else .next (s.modHev n fun h => { h with overrun := clearBits h.overrun value })

end Sys2Proof.Machine
end

