-- ==== Sys2Proof/Machine/StoreOps.lean ====
section
/-! DEFINITION. The A/B store of calibration objects (CALIBRATION_STORE, R318, R319, R393). -/

namespace Sys2Proof.Machine

/-! ## Slots and their CRC-32 (R214, R318) -/

/-- A signed value as an item of 16 bits. -/
def itemBytes (v : Int) : List Byte := leBytes 2 (v % 65536).toNat

/-- A hop entry item by item. -/
def hopItems : Option HopEntry → List Int
  | none => []
  | some e => [e.dt, e.ref, e.freq, e.rdiv, e.band.toNat, e.temp]

/-- The bytes of an object's payload (R307, R384): sets with their TEMP before their items, tables input by input, and what the
manual does not lay out in items as CAL_SET_READ copies it. Entry 43, DESIGN CHOICE. -/
def CalPayload.bytes (id : Nat) : CalPayload → List Byte
  | .sets l => l.flatMap fun x =>
      itemBytes x.temp ++ (List.range (calItems id)).flatMap fun i => itemBytes (Tab.get 0 x.vals i)
  | .vernier t => (List.range 576).flatMap fun i => (List.range 4).flatMap fun k =>
      let v := (Tab.get [] t i).getD k VernierTables.zero
      ((List.range 33).flatMap fun n => itemBytes (v.inl.getD n 0)) ++ (List.range 8).flatMap fun n => itemBytes (v.ph.getD n 0)
  | .hop h => (Config.hopImage ((List.range 16).map fun k => hopItems (Tab.get none h k))).flatMap itemBytes
  | .safety c => (Config.safetyImage c).flatMap itemBytes

/-- The header and the payload of a slot in bytes (R318). -/
def CalSlot.image (x : CalSlot) : List Byte :=
  leBytes 2 x.objectId ++ leBytes 2 x.version ++ leBytes 4 x.generation.toNat ++ leBytes 4 x.length ++
    x.payload.bytes x.objectId

/-- The CRC-32 that is stored behind them (R214, R318). -/
def CalSlot.crc (x : CalSlot) : BitVec 32 := BitVec.ofNat 32 (crc32 x.image) ^^^ x.crcDiff

/-- Slot A is newer than slot B (R318). -/
def newerA (x : CalStore) : Bool := decide ((x.a.generation - x.b.generation).toNat < 2 ^ 31)

/-- Slot A is in force: valid, and newer than a valid slot B (R318). -/
def CalStore.aInForce (x : CalStore) : Bool := x.a.valid x.id && (!x.b.valid x.id || newerA x)

/-- The slot in force, none when the object is missing (R318, R320). -/
def CalStore.inForce (x : CalStore) : Option CalSlot :=
  if x.aInForce then some x.a else if x.b.valid x.id then some x.b else none

/-- The generation in force, 0 for a missing object. -/
def CalStore.generation (x : CalStore) : BitVec 32 := ((x.inForce).map (·.generation)).getD 0

/-- A store targets slot A (R319): the invalid slot, else the one with the older generation; A when both are invalid. -/
def CalStore.targetsA (x : CalStore) : Bool := if !x.a.valid x.id then true else if !x.b.valid x.id then false else !newerA x

/-- The object with a new payload written to its target slot; a slot whose verification failed is not valid, and leaves
STORE_BEGIN without STORE_DONE in the journal (R319). Entry 43, DEDUCED. -/
def CalStore.write (x : CalStore) (p : CalPayload) (verified : Bool) : CalStore :=
  let gen := x.generation + 1
  let slot := CalSlot.of x.id gen p verified
  let x := { x with begun := if verified then none else some gen }
  if x.targetsA then { x with a := slot } else { x with b := slot }

/-- Object `id` is stored with payload `p`; a failed verification is counted (R319). Entry 43, DEDUCED. -/
def State.storeObject (s : State) (id : Nat) (p : CalPayload) (verified : Bool) : State :=
  let s := s.modCalStore id fun x => x.write p verified
  if verified then s else { s with cal := { s.cal with storeFail := s.cal.storeFail.inc } }

/-- A store of an object that ends before its CRC is written: the target slot is not valid (R319). -/
def CalStore.cut (x : CalStore) : CalStore :=
  let x := { x with begun := some (x.generation + 1) }
  if x.targetsA then { x with a := CalSlot.empty } else { x with b := CalSlot.empty }

/-- A command that stores: what it does with a store that is verified, INTEGRITY with one that is not (R319); the effect
of `good` is that of the verified store. -/
def State.storing (s : State) (id : Nat) (p : CalPayload) (verified : Bool) (good : State → State × List Fld) : Answer :=
  let s := s.storeObject id p verified
  if verified then .done (good s).1 .ok (good s).2 [] else .done s .integrity [] []

/-- What the journal scan of a start finds of an object (R319, R391). -/
def CalStore.scan (x : CalStore) : CalStore := { x with interrupted := x.begun }

/-- The journal scan of a start (R319, R391): a STORE_BEGIN without STORE_DONE is STORE_INTERRUPTED. -/
def State.scanStores (s : State) : State := s.each (numbers 1 7) fun s k => s.modCalStore k CalStore.scan

/-- Retention memory is not ready for a store (R393). Entry 43, DEDUCED. -/
def State.noStore (s : State) : Bool × Status := (!s.isReady readyRetention, .notReady)

end Sys2Proof.Machine
end

