-- ==== Sys2Proof/Machine/Pll.lean ====
section
/-! DEFINITION. Commands and happenings of the timing PLL and the clock outputs (R234 to R253, R375). -/

namespace Sys2Proof.Machine

/-! ## Commands that change the plan (R235, R236, R241) -/

/-- A reference can serve a new plan. -/
def State.planRef (s : State) : PllRequest → Bool
  | .recal => s.pll.anyUsable
  | .dt _ => s.pll.anyUsable
  | .ref k freq rdiv =>
    let refs := setRef s.pll.refCfg k freq rdiv
    let at_ (k : Nat) : Bool := refAllowed refs k && (s.pll.ref k).validAt (refFreq refs k) refs.refTol
    at_ 0 || at_ 1
  | .hop e => match s.hop e with
    | none => false
    | some h => refAllowed s.pll.refCfg h.ref && (s.pll.ref h.ref).validAt h.freq s.pll.refCfg.refTol

/-- What keeps a change of plan from being performed (R241); `force` allows it in Ranging. Entry 34, DEDUCED. -/
def State.changeChecks (s : State) (r : PllRequest) (force : Nat) : List (Bool × Status) :=
  [(decide (s.dev.run = .boot) || decide (s.dev.run = .selfTest), .notReady), (!s.planRef r, .notReady),
   (s.ranging && decide (force = 0), .busy), (s.pll.relocking || s.pll.forced.isSome, .busy)]

/-- A change of plan is performed, in Ranging once the sequencers have stopped with reason FORCED (R241). -/
def State.changePlan (s : State) (r : PllRequest) : State :=
  if s.anyRunning then
    let s := s.stopSequencers Reasons.forced
    { s with pll := { s.pll with forced := some r } }
  else s.performPll r

/-- PLL_CONFIG lies in its ranges (R235). -/
def pllRanges (c : PllCfg) : Bool :=
  within 9 12 c.dt && decide (c.loopBw ≤ 3) && isBit c.ditherEn && within 1 16777215 c.ditherSeed && isBit c.alignSrc &&
    isBit c.force

/-- What a command that asks for a change waits for. -/
def State.changeWait (s : State) : WaitKey := if s.anyRunning then .pllForced else .pllLock

/-- The fields of PLL_CONFIG but DT stand at once, to take effect at the next acquisition or alignment (R235). -/
def State.pllFields (s : State) (cfg : PllCfg) : State :=
  { s with pll := { s.pll with cfg := { cfg with dt := s.pll.cfg.dt } } }

/-- PLL_CONFIG (R235): a change of DT is a frequency change. -/
def execPllConfig (cfg : PllCfg) : State → Out :=
  cmdRow (.pllConfig cfg) fun s =>
    let t := s.pllFields cfg
    if cfg.dt = s.pll.cfg.dt then .plain [(!pllRanges cfg, .badArg)] t
    else .gives ((!pllRanges cfg, .badArg) :: s.changeChecks (.dt cfg.dt) cfg.force) (.waits (t.changePlan (.dt cfg.dt)) s.changeWait)

/-- PLL_REF_CONFIG lies in its ranges, and F_PFD in 10 to 250 MHz (R236). -/
def refRanges (c : PllRefCfg) : Bool :=
  decide (c.refMode ≤ 3) && within 10000000 250000000 c.refaFreq && within 10000000 250000000 c.refbFreq &&
    within 1 25 c.refaRdiv && within 1 25 c.refbRdiv && within 50 1000 c.refTol && within 1 60 c.revertHold &&
    within (10000000 * c.refaRdiv) (250000000 * c.refaRdiv) c.refaFreq &&
    within (10000000 * c.refbRdiv) (250000000 * c.refbRdiv) c.refbFreq

/-- The frequency or divider of the reference in use changes (R236). -/
def State.refChanges (s : State) (c : PllRefCfg) : Bool :=
  let k := s.pll.refInUse
  decide (refFreq c k ≠ refFreq s.pll.refCfg k ∨ refDiv c k ≠ refDiv s.pll.refCfg k)

/-- What PLL_REF_CONFIG changes at once: all but the frequency and RDIV of the reference in use (R236). -/
def State.refFields (s : State) (cfg : PllRefCfg) : State :=
  let k := s.pll.refInUse
  { s with pll := { s.pll with refCfg := setRef cfg k (refFreq s.pll.refCfg k) (refDiv s.pll.refCfg k) } }

/-- PLL_REF_CONFIG (R236). -/
def execPllRefConfig (cfg : PllRefCfg) : State → Out :=
  cmdRow (.pllRefConfig cfg) fun s =>
    let k := s.pll.refInUse
    let t := s.refFields cfg
    if s.refChanges cfg then
      let r := PllRequest.ref k (refFreq cfg k) (refDiv cfg k)
      .gives ((!refRanges cfg, .badArg) :: t.changeChecks r s.pll.cfg.force)
        (.waits (t.refreshRefs.changePlan r) s.changeWait)
    else .plain [(!refRanges cfg, .badArg)] t.refreshRefs.checkRef

/-- PLL_RECAL (R241). -/
def execPllRecal : State → Out :=
  cmdRow .pllRecal fun s =>
    .gives (s.changeChecks .recal s.pll.cfg.force) (.waits (s.changePlan .recal) s.changeWait)

/-- PLL_HOP (R241): an entry that is empty or out of range is answered BAD_ARG. -/
def execPllHop (entry : Nat) : State → Out :=
  cmdRow (.pllHop entry) fun s =>
    .gives ((decide (15 < entry) || (s.hop entry).isNone, .badArg) :: s.changeChecks (.hop entry) s.pll.cfg.force)
      (.waits (s.changePlan (.hop entry)) s.changeWait)

/-! ## The hop table (R240) -/

/-- The locked plan with its band. -/
def Pll.hopEntry (p : Pll) : HopEntry :=
  { dt := p.cfg.dt, ref := p.refInUse, freq := refFreq p.refCfg p.refInUse, rdiv := refDiv p.refCfg p.refInUse,
    band := p.band, temp := p.bandTemp }

/-- PLL_HOP_STORE (R240, R319). -/
def execPllHopStore (entry : Nat) (verified : Bool) : State → Out :=
  cmdRow (.pllHopStore entry verified) fun s =>
    let hops := Tab.put none s.pll.hops entry (some s.pll.hopEntry)
    .gives [(decide (15 < entry), .badArg), (!s.pll.locked, .notReady), s.noStore]
      (s.storing calHop (.hop hops) verified fun s => ({ s with pll := { s.pll with hops := hops } }, []))

/-! ## Arming and TEST (R247) -/

/-- PLL_SYNC_ARM (R247). -/
def execPllSyncArm (arm : Nat) : State → Out :=
  cmdRow (.pllSyncArm arm) fun s =>
    let s' := s.settleSync
    .plain [(!isBit arm || (decide (arm = 1) && decide (s'.tb.sync.cfg.mode = 1)), .badArg),
            (decide (arm = 1) && !([PllRun.startup, .test, .recovery].contains s.pll.run), .refused)]
      { s' with pll := ({ s'.pll with armed := decide (arm = 1) } : Pll).settle }

/-- PLL_TEST_MODE (R247): in TEST, EMITTER- and GATE-class outputs stay dark. While a reset is armed the state is held
(R252), and the command is turned away. Entry 27, DESIGN CHOICE. -/
def execPllTestMode (enable : Nat) : State → Out :=
  cmdRow (.pllTestMode enable) fun s =>
    let s' := if enable = 1 then (({ s with pll := { s.pll with run := .test } } : State).stopFiring false).refreshFs
      else if s.pll.run = .test then
        ({ s with pll := ({ s.pll with run := .recovery } : Pll).settle } : State).refreshFs
      else s
    .plain [(!isBit enable, .badArg), (decide (s.dev.run ≠ .readyIdle ∧ s.dev.run ≠ .nadir) || s.pll.armed, .refused)] s'

/-! ## Status (R253) -/

/-- The number of a state (R247, R419). -/
def PllRun.code : PllRun → Nat
  | .startup => 0
  | .locked => 1
  | .relock => 2
  | .recovery => 3
  | .test => 4

/-- The measured offset of a reference in ppm, to the nearest; `free` before any measurement (entry 16, DESIGN CHOICE).
Entry 34, DEDUCED. -/
def RefState.ppm (r : RefState) (f : Nat) (free : Int) : Int :=
  match r.hz with
  | none => free
  | some h => roundDiv (((h : Int) - f) * 1000000) f

/-- PLL_STATUS (R253). -/
def execPllStatus (dst : Nat) : State → Out :=
  cmdRow (.pllStatus dst) fun s =>
    let p := s.pll
    let free (k : Nat) : Int := Config.unmeasured (s.fresh + k)
    .block [] s.draw.draw dst
      [fU8 p.run.code, fU8 p.refInUse, fBool p.refA.valid, fS32 (p.refA.ppm p.refCfg.refaFreq (free 0)), fBool p.refB.valid,
       fS32 (p.refB.ppm p.refCfg.refbFreq (free 1)), fU8 p.cfg.dt, fU8 p.band.toNat, fU64 s.nEffNow,
       fT (FullTime.ofTq (p.syncOrigin.getD 0)), fBool p.syncOrigin.isSome, fS8 p.residual, fU32 p.unlocks,
       fU32 p.refSwitches, fU32 p.hopsDone, fU32 p.hopSearched, fU32 p.searches]

/-- PLL_COUNTERS_CLEAR (R253). -/
def execPllCountersClear : State → Out :=
  cmdRow .pllCountersClear fun s =>
    .plain [] { s with pll := { s.pll with unlocks := 0, refSwitches := 0, hopsDone := 0, hopSearched := 0, searches := 0 } }

/-! ## Clock outputs (R246, R248) -/

/-- A native output is too fast for its format at this DT (R248). -/
def tooFast (dt : Nat) (c : CkoCfg) : Bool :=
  decide (c.mode = 0) && decide ((if c.fmt = 3 then 250 else 1500) * c.div < dt * 1000)

/-- CKO_CONFIG lies in its ranges (R248). -/
def ckoRanges (c : CkoCfg) : Bool :=
  isBit c.mode && isBit c.enable && decide (c.fmt ≤ 3) && decide (c.swing ≤ 7) && isBit c.pol && within 8 65536 c.div &&
    decide (c.phase < c.div) && within 1 1024 c.ldiv && decide (c.ldelay ≤ 255)

/-- CKO_CONFIG changes what an enabled output may not change. -/
def ckoDiffers (a b : CkoCfg) : Bool := decide (a.mode ≠ b.mode ∨ a.fmt ≠ b.fmt ∨ a.div ≠ b.div ∨ a.ldiv ≠ b.ldiv)

/-- A clock output with a new table (R244, R248): enabled it runs from its next edge on the grid of the last alignment, or,
moved or inverted while it runs, from the first edge behind a complete low time; disabled it is gated off at its next falling
edge; without lock it stays gated. Entry 34, DEDUCED. -/
def Cko.configure (c : Cko) (cfg : CkoCfg) (o : Tq) (dt : Nat) (locked : Bool) (now : Tq) : Cko :=
  let on := decide (cfg.enable = 1) && locked
  let n : Cko := { c.gateAt dt now with cfg := cfg }
  if on && c.gated then n.ungateAt o dt now
  else if on then (if n.offset dt = c.offset dt ∧ cfg.pol = c.cfg.pol then { c with cfg := cfg } else n.ungateAt c.origin dt now)
  else n

/-- CKO_CONFIG (R248, R249). -/
def execCkoConfig (cko : Nat) (cfg : CkoCfg) : State → Out :=
  cmdRow (.ckoConfig cko cfg) fun s =>
    let old := (s.cko cko).cfg
    let new := takenFields cfg old
    .plain [(decide (11 < cko) || !ckoRanges cfg || tooFast s.pll.cfg.dt cfg, .badArg),
            (decide (old.enable = 1) && ckoDiffers old new, .busy)]
      (s.modCko cko fun c => c.configure new s.pll.ckoOrigin s.pll.cfg.dt (s.pll.locked && s.pll.resetting.isNone) s.now)

/-- The alignment origin (R246). -/
def Pll.origin (p : Pll) : Tq := if p.cfg.alignSrc = 0 then 0 else p.syncOrigin.getD 0

/-! ## References (R237) -/

/-- REF_MEASUREMENT_WINDOW (R237): the frequencies that the window measured, in Hz. -/
def execRefMeasurementWindow (hzA hzB : Nat) (s : State) : Out :=
  let p := s.pll
  let p := { p with refA := { p.refA with hz := some hzA, gap := false }, refB := { p.refB with hz := some hzB, gap := false } }
  .next (({ s with pll := p } : State).refreshRefs).checkRef

/-- REF_EDGE_GAP (R237): a gap of more than four stated periods. -/
def execRefEdgeGap (ref : Nat) (s : State) : Out :=
  if 1 < ref then .next s
  else
    let p := s.pll
    let p := if ref = 0 then { p with refA := { p.refA with gap := true } } else { p with refB := { p.refB with gap := true } }
    .next (({ s with pll := p } : State).refreshRefs).checkRef

/-- REVERT_HOLD_EXPIRY (R237, R252): in mode 2 REFA has been valid for REVERT_HOLD, and the loop returns to it, without lock at
the next attempt. -/
def execRevertHoldExpiry (s : State) : Out :=
  if s.revertDue && s.pll.locked then .next (s.switchRef 0) else .next s

/-! ## Lock (R38, R39, R242, R245) -/

/-- PLL_UNLOCK (R242, R245): for want of a valid reference only while none is valid. A loss during an attempt at lock is the
end of the attempt, and the next begins. -/
def execPllUnlock (cause : UnlockCause) (s : State) : Out :=
  if decide (cause = .noReference) && s.pll.anyUsable then .next s
  else if s.pll.locked then
    .next ({ s with pll := { s.pll with unlocks := s.pll.unlocks.inc } } : State).loseLock.beginAttempt
  else .next s.restartAttempt

/-- A band found at `temp` may be reused (R240): within ±30 °C. -/
def State.bandFits (s : State) (temp : Int) : Bool := decide ((s.dieTemp - temp).natAbs ≤ 240)

/-- A full band search (R240); the band that it finds is a free value. -/
def State.searchBand (s : State) : State :=
  { s.draw with pll := { s.pll with
      band := Config.bandFound s.fresh, bandTemp := s.dieTemp, bandValid := true, searches := s.pll.searches.inc } }

/-- The band that an acquisition uses (R240, R241, R245). -/
def State.chooseBand (s : State) : State :=
  let reuse := if s.pll.bandValid && s.bandFits s.pll.bandTemp then s else s.searchBand
  match s.pll.change with
  | some .recal => s.searchBand
  | some (.hop e) =>
    match s.hop e with
    | none => reuse
    | some h =>
      if s.bandFits h.temp then
        { s with pll := { s.pll with band := h.band, bandTemp := h.temp, bandValid := true } }
      else
        let s := s.searchBand
        let s := { s with pll := { s.pll with hopSearched := s.pll.hopSearched.inc } }
        s.setHop e (some { h with band := s.pll.band, temp := s.pll.bandTemp })
  | _ => reuse

/-- After a relock the first gate of each channel wants a full calibration, and raw-class channels sweep their converters
(R158). -/
def State.renewCals (s : State) : State :=
  s.each (s.rx.channels.map (·.1)) fun s c =>
    let s := s.modChan c fun x => { x with needFull := true }
    if (s.chan c).cfg.cls = 1 ∧ (s.chan c).cfg.enable = 1 then
      s.modInput c fun x => { x with sweep := (List.range 4).filter fun k => !(Tab.get Converter.reset x.convs k).excluded }
    else s

/-- A recalibration's reading and time (R315). -/
def State.noteRecal (s : State) : State :=
  if s.pll.change = some .recal then
    s.modCalRunState 4 fun r => r.ran 0 s.dieTemp s.now
  else s

/-- PLL_LOCK (R245, R246): lock and phase alignment are complete; `residual` is what Polestar takes as a correction. -/
def State.lockPll (s : State) (residual : Int) : State :=
  let s := s.chooseBand.noteRecal
  let p := s.pll
  let source := if s.net.control then TbSource.locked else .free
  let s := { s with
    pll := { p with locked := true, reacquiring := false, change := none, residual := residual,
                    modulator := Modulator.load p.acq.ditherSeed }
    tb := { s.tb with source := source } }
  let s := s.loadClocks s.pll.origin
  let s := ({ s with pll := s.pll.settle } : State).correctBy residual
  let s := (s.setReady readyPll true).refreshFs.renewCals
  (s.publish prodPllLock s.now 0).answerWaiting .pllLock .ok []

/-- The most by which TCK edges miss the nanosecond boundaries after phase alignment, in tq (R245). -/
def residualMax : Nat := 4

/-- PLL_LOCK (R245): the attempt under way has locked, and TCK is aligned within ±4 tq. -/
def execPllLock (residual : Int) (s : State) : Out :=
  if s.pll.relocking && decide (residual.natAbs ≤ residualMax) then .next (s.lockPll residual) else .next s

/-! ## SYNCI (R130, R131, R247) -/

/-- The first VCO edge at or after `t`, in whole tq (R247). Entry 25, DEDUCED. -/
def vcoEdge (dt : Nat) (t : Tq) : Tq := ceilDiv (ceilDiv (t * dt) 1024 * 1024) dt

/-- An armed reset acts on a SYNCI stamp (R247): the clock outputs are gated, to run anew from SYNC_ORIGIN.
Entry 25, DEDUCED. -/
def State.syncReset (s : State) (t : Tq) : State :=
  let p := s.pll
  if p.armed && p.locked && p.resetting.isNone then
    let o := vcoEdge p.cfg.dt (t + 20480)
    let s := s.gateClocks
    { s with pll := { s.pll with syncOrigin := some o, resetting := some o } }
  else s

/-- A SYNCI stamp's offset joins the last ones (R131); in mode 2 a pulse repeats it (R130). Entry 25, DEDUCED. -/
def Sync.stamp (y : Sync) (t : Tq) : Sync :=
  let n := roundDiv (t - y.cfg.g0.tq) (syncPeriod y.cfg)
  let d := t - syncGrid y.cfg n
  { y with
    offsets := (d - y.cfg.cableDelay) :: y.offsets.take 255
    stamps := t :: y.stamps
    repeats := if y.cfg.mode = 2 then y.repeats ++ [t + 20480] else y.repeats
    received := y.received.inc }

/-- SYNCI_EDGE (R131, R151, R247): a rising edge is stamped at 4 tq in modes 0 and 2. -/
def execSynciEdge (tBall : Tq) (s : State) : Out :=
  let s := s.settleSync
  if s.tb.sync.cfg.mode = 1 ∨ !s.heard tBall then .next s
  else
    let t := stampOf tBall
    let s := ({ s with tb := { s.tb with sync := s.tb.sync.stamp t } } : State).syncReset t
    let p : PathStamp :=
      { id := 0, t := t, gated := [], tEdge := tBall, conv := 0, suspect := !s.pll.locked, falling := false, epoch := s.tb.epoch,
        cfg := HitCfg.reset, moved := 0, backed := false }
    .next (s.intoPath idxSynci p)

end Sys2Proof.Machine
end

