-- ==== Sys2Proof/Machine/Network.lean ====
section
/-! DEFINITION. Network time, the three-port bridge, the network settings, and the trigger inputs that GNSS PPS comes by
(R37, R254 to R269, R339, R340, R374). -/

namespace Sys2Proof.Machine

/-! ## Ports (R25, R268, R393) -/

/-- The bridge forwards: its test has passed and no fault is latched (R268, R391). -/
def State.bridgeWorks (s : State) : Bool := s.net.bridgePassed && !s.net.bridgeFault

/-- READY.PORT of port `n`: block lock, its own test passed, a bridge that works (R391, R405), and no function reset under
way. -/
def State.refreshPort (s : State) (n : Nat) : State :=
  let p := s.port n
  s.setReady (readyPort n) (p.blockLock && p.testPassed && s.bridgeWorks && !p.resetting)

/-- READY.PORT of every port. -/
def State.refreshPorts (s : State) : State := s.each (List.range 3) State.refreshPort

/-- BYPASS_N is driven low (R268, R401). -/
def State.bypassLow (s : State) : Bool := s.bridgeWorks && !s.ballsOff && !s.dev.warm

/-- PHY_LINK_CHANGE (R25). -/
def execPhyLinkChange (port : Nat) (up : Bool) (s : State) : Out :=
  if 2 < port then .next s
  else .next ((s.modPort port fun p => { p with blockLock := up }).refreshPort port)

/-! ## Roles and masters (R254, R255, R263) -/

/-- The state of a port before any master is known, by ROLE and PTP_EN (R255, R256). Entry 10, DESIGN CHOICE. -/
def rolePort (role : Nat) (en : Nat) : PtpRun :=
  if en = 0 ∨ role = 2 then .disabled else if role = 1 then .master else .listening

/-- RATE is held (R261 to R263). -/
def State.holdRate (s : State) : State :=
  { s with tb := { s.tb with servoRate := s.rateNow, slew := 0, slewUntil := 0 } }

/-- The servo loses control: RATE is held, and the source status becomes FREE outside holdover (R39, R261, R263). -/
def State.loseControl (s : State) : State :=
  let s := s.holdRate
  { s with
    tb := { s.tb with source := if s.tb.source = .locked then .free else s.tb.source }
    net := { s.net with control := false } }

/-- PTP starts anew in a role; a grandmaster waits for PPS from now on (R261). Entry 35, DEDUCED. -/
def State.restartPtp (s : State) : State :=
  let s := s.loseControl
  let s := { s with net := { s.net with
    master := none, heard := none, offsets := [], bigRun := 0, smallRun := 0, clockClass := 248, lastPps := s.clock } }
  s.each (List.range 3) fun s n => s.modPort n fun p => { p with run := rolePort s.net.ptp.role p.cfg.ptpEn, best := none }

/-- PTP_CONFIG lies in its ranges (R255). -/
def ptpRanges (c : PtpCfg) : Bool :=
  decide (c.profile ≤ 2) && decide (c.domain ≤ 127) && decide (c.profile ≠ 2 ∨ c.domain = 0) && decide (c.role ≤ 2) &&
    decide (c.priority1 ≤ 255 ∧ c.priority2 ≤ 255) && within 102400 1024000000000 c.stepThresh &&
    decide (c.slewMax ≤ 140737488) && decide (c.servoBw ≤ 2)

/-- PTP_CONFIG changes the profile, domain or role. -/
def ptpMoves (a b : PtpCfg) : Bool := decide (a.profile ≠ b.profile ∨ a.domain ≠ b.domain ∨ a.role ≠ b.role)

/-- PTP_PORT_CONFIG lies in its ranges (R256). -/
def ptpPortRanges (c : PtpPortCfg) : Bool :=
  isBit c.ptpEn && decide (c.ingressLat ≤ 1048575 ∧ c.egressLat ≤ 1048575) && withinI (-1048576) 1048575 c.asym &&
    withinI (-7) 4 c.logSync && withinI (-7) 4 c.logAnnounce && withinI (-7) 4 c.logPdelay && within 2 10 c.announceTimeout

/-! ## The best master (R254, R255, R261, R263) -/

/-- Lists of numbers in lexical order. -/
def lexLt : List Nat → List Nat → Bool
  | [], _ => false
  | _ :: _, [] => false
  | a :: s, b :: t => decide (a < b) || (decide (a = b) && lexLt s t)

/-- What the best master clock algorithm compares, the first difference deciding: priority1, class, accuracy, variance,
priority2, identity, then the way (R254). Entry 35, PRESUMED. -/
def announceRank (a : AnnounceMsg) (port : Nat) : List Nat :=
  [a.priority1, a.clockClass, a.accuracy, a.variance, a.priority2, a.master, a.steps, a.sender, port]

/-- What the device announces of itself as grandmaster (R255, R261). -/
def State.ownAnnounce (s : State) : AnnounceMsg :=
  { priority1 := s.net.ptp.priority1, clockClass := s.net.clockClass, accuracy := Config.clockAccuracy,
    variance := Config.clockVariance, priority2 := s.net.ptp.priority2, master := Config.clockIdentity, steps := 0,
    sender := Config.clockIdentity }

/-- A grandmaster port hears a better master (R254): it does not act as master. Entry 35, PRESUMED. -/
def State.outranked (s : State) (n : Nat) : Bool :=
  match (s.port n).best with
  | none => false
  | some a => lexLt (announceRank a n) (announceRank s.ownAnnounce n)

/-- The port with the best Announce (R254), of those with a PTP role (R256). -/
def State.bestPort (s : State) : Option (Nat × AnnounceMsg) :=
  (List.range 3).foldl (fun b n => if (s.port n).cfg.ptpEn = 0 then b else match (s.port n).best, b with
    | none, _ => b
    | some a, none => some (n, a)
    | some a, some q => if lexLt (announceRank a n) (announceRank q.2 q.1) then some (n, a) else b) none

/-- What a device that follows Announce `a` announces on: one step further (R254). -/
def announceOnward (a : AnnounceMsg) : AnnounceMsg := { a with steps := a.steps + 1, sender := Config.clockIdentity }

/-- The state of a port beside the slave port (R254): listening, or in gPTP master where what the device announces on beats
what the port has heard, else passive. Entry 35, PRESUMED. -/
def State.besideSlave (s : State) (a : AnnounceMsg) (k : Nat) : PtpRun :=
  if s.net.ptp.profile ≠ 2 then .listening
  else match (s.port k).best with
    | none => .master
    | some b => if lexLt (announceRank b k) (announceRank (announceOnward a) k) then .passive else .master

/-- The best master clock algorithm selects on port `n` the master of Announce `a`: a new one is measured afresh (R263).
Entry 35, DEDUCED. -/
def State.selectMaster (s : State) (n : Nat) (a : AnnounceMsg) : State :=
  let s := if s.net.master = some a.master ∧ (s.port n).run = .slave then s
    else { s with net := { s.net with
      master := some a.master, heard := none, offsets := [], bigRun := 0, smallRun := 0
      masterChanges := s.net.masterChanges.inc } }
  s.each (List.range 3) fun s k => s.modPort k fun p =>
    { p with run := if p.cfg.ptpEn = 0 then .disabled else if k = n then .slave else s.besideSlave a k }

/-- The best master clock algorithm decides anew (R254): a slave-capable device takes the best of all ports as its master, a
grandmaster port is master or passive. Entry 35, DEDUCED. -/
def State.selectBest (s : State) : State :=
  if s.net.ptp.role = 0 then
    match s.bestPort with
    | none => s
    | some (k, b) => s.selectMaster k b
  else if s.net.ptp.role = 1 then
    s.each (List.range 3) fun s n => s.modPort n fun p =>
      { p with run := if p.cfg.ptpEn = 0 then .disabled else if s.outranked n then .passive else .master }
  else s

/-- The slave's port has no master any more (R263): the device is without a master. Entry 35, DEDUCED. -/
def State.loseMaster (s : State) : State :=
  let s := { s.loseControl with net := { s.loseControl.net with master := none, heard := none } }
  s.each (List.range 3) fun s k => s.modPort k fun p => { p with run := rolePort s.net.ptp.role p.cfg.ptpEn }

/-- PTP_CONFIG (R255): PROFILE, DOMAIN and ROLE change at once, the other fields at the next servo update. -/
def execPtpConfig (cfg : PtpCfg) : State → Out :=
  cmdRow (.ptpConfig cfg) fun s =>
    let moves := ptpMoves s.net.ptp cfg
    let ptp := { s.net.ptp with profile := cfg.profile, domain := cfg.domain, role := cfg.role }
    let s' := { s with net := { s.net with ptp := ptp, newPtp := some cfg } }
    .plain [(!ptpRanges cfg, .badArg), (moves && s.anyRunning, .busy)] (if moves then s'.restartPtp else s')

/-- Settings of a port take effect (R256): one whose PTP_EN changes forgets what it has heard and has a new role; a slave
leaves its state, and the best of the other ports counts. Entry 35, DEDUCED. -/
def State.adoptPort (s : State) (n : Nat) (c : PtpPortCfg) : State :=
  let old := s.port n
  let moves := decide (old.cfg.ptpEn ≠ c.ptpEn)
  let s := s.modPort n fun p =>
    { p with
      cfg := c
      newCfg := none
      best := if moves then none else p.best
      run := if moves then rolePort s.net.ptp.role c.ptpEn else p.run }
  if moves then (if old.run = .slave then s.loseMaster else s).selectBest else s

/-- A message is stamped on port `n`: a change of its settings takes effect with it (R256). -/
def State.stampOn (s : State) (n : Nat) : State :=
  match (s.port n).newCfg with
  | none => s
  | some c => s.adoptPort n c

/-- PTP_PORT_CONFIG (R256). -/
def execPtpPortConfig (port : Nat) (cfg : PtpPortCfg) : State → Out :=
  cmdRow (.ptpPortConfig port cfg) fun s =>
    .plain [(decide (2 < port) || !ptpPortRanges cfg, .badArg), (s.resetting 2 port, .busy)]
      (s.modPort port fun p => { p with newCfg := some cfg })

/-! ## The servo (R260 to R262) -/

/-- The run of large offsets of one sign after a further one. -/
def signRun (run o : Int) : Int := if o < 0 then (if run < 0 then run - 1 else -1) else (if 0 < run then run + 1 else 1)

/-- A large offset (R260, R262): discarded and counted; the fourth in a row of one sign is a refused step. -/
def State.largeOffset (s : State) (o : Int) : State :=
  let run := signRun s.net.bigRun o
  let s := { s with net := { s.net with bigRun := run, smallRun := 0, outliers := s.net.outliers.inc } }
  if run.natAbs = 4 ∧ !s.net.stepRefused then
    let s := s.holdRate
    let s := { s with net := { s.net with stepRefused := true, control := false, refusedSteps := s.net.refusedSteps.inc } }
    s.publish prodStepRefused s.now 0
  else s

/-- The servo takes control with offset `o`: it writes the rate term and slews; in holdover it writes none (R39, R260). -/
def State.applyOffset (s : State) (o : Int) : State :=
  let s := { s with net := { s.net with control := true } }
  if s.tb.source = .holdover then s
  else
    let rate := clamp (-rateMax) rateMax (Config.servoRate s.net.ptp.servoBw s.fresh o)
    let s := { s.draw with tb := { s.tb with servoRate := rate, source := .locked } }
    s.correct o

/-- The waiting fields of PTP_CONFIG take effect (R255). Entry 35, DEDUCED. -/
def State.adoptPtp (s : State) : State :=
  match s.net.newPtp with
  | none => s
  | some c => ({ s with net := { s.net with ptp := c, newPtp := none } } : State).selectBest

/-- An offset reaches the servo, which takes its waiting settings first (R255, R260 to R262). -/
def State.servo (s : State) (o : Int) : State :=
  let s := s.adoptPtp
  let s := { s with net := { s.net with offsets := o :: s.net.offsets.take 3 } }
  if s.net.ptp.stepThresh ≤ o.natAbs then s.largeOffset o
  else
    let n := s.net.smallRun + 1
    let s := { s with net := { s.net with bigRun := 0, smallRun := n } }
    if !s.net.stepRefused then s.applyOffset o
    else if 4 ≤ n then ({ s with net := { s.net with stepRefused := false } } : State).applyOffset o
    else s

/-! ## PTP frames (R254, R257 to R260, R263) -/

/-- An Announce comes by port `n` (R254, R263): it is the port's best where it beats the port's best or comes from the same
sender. Entry 35, DEDUCED. -/
def State.announced (s : State) (n : Nat) (a : AnnounceMsg) : State :=
  let takes := match (s.port n).best with
    | none => true
    | some b => decide (b.sender = a.sender) || lexLt (announceRank a n) (announceRank b n)
  if !takes ∨ 255 ≤ a.steps then s
  else
    (s.modPort n fun p => { p with best := some a, lastAnnounce := s.clock }).selectBest

/-- A passage at the PCS as it is stamped, at a resolution of 64 tq (R257). -/
def pcsStamp (t : Tq) : Tq := t / 64 * 64

/-- The time at the line of an event message received on a port (R257). -/
def Port.lineIn (p : Port) (t : Tq) : Tq := pcsStamp t - p.cfg.ingressLat

/-- The time at the line of an event message sent by a port (R257). -/
def Port.lineOut (p : Port) (t : Tq) : Tq := pcsStamp t + p.cfg.egressLat

/-- The mean path delay of an E2E exchange (R257, R258): ASYM enters both directions and falls out of it.
Entry 35, PRESUMED. -/
def Port.pathDelay (p : Port) (t1 t2 t3 t4 : Tq) (corr : Int) : Int :=
  roundDiv ((p.lineIn t2 - p.lineOut t3) + (t4 - t1) - corr) 2

/-- A difference of a Polestar time and a PTP time, which has 48 bits of seconds: the nearest to 0 of its span (R265). -/
def ptpFold (d : Int) : Int := (d + ptpSpan / 2) % ptpSpan - ptpSpan / 2

/-- The offset that a Sync shows (R257, R260): Polestar minus the master's time at the same instant.
Entry 35, PRESUMED. -/
def Port.offset (p : Port) (t1 t2 : Tq) (corr delay : Int) : Int := ptpFold (p.lineIn t2 - t1 - corr - p.cfg.asym - delay)

/-- The mean link delay that a Pdelay exchange shows (R257, R258). Entry 35, PRESUMED. -/
def Port.linkDelay (p : Port) (sent received : Tq) (corr : Int) : Int :=
  roundDiv (p.lineIn received - p.lineOut sent - corr) 2

/-- A gPTP Sync tells the offset to its master, from which the bridge's own Syncs pass its time on (R254, R260).
Entry 35, DEDUCED. -/
def State.hear (s : State) (o : Int) : State :=
  if s.net.ptp.profile = 2 then { s with net := { s.net with heard := some o } } else s

/-- A PTP message completes what it completes. Entry 35, DEDUCED. -/
def State.ptpFrame (s : State) (n : Nat) : PtpBody → State
  | .announce a => s.announced n a
  | .exchange t1 t2 t3 t4 syncCorr delayCorr =>
    let p := s.port n
    if p.run = .slave ∧ s.net.ptp.profile = 0 then
      let d := p.pathDelay t1 t2 t3 t4 (syncCorr + delayCorr)
      (s.modPort n fun p => { p with meanDelay := d }).servo (p.offset t1 t2 syncCorr d)
    else s
  | .sync t1 t2 corr =>
    let p := s.port n
    if p.run = .slave ∧ s.net.ptp.profile ≠ 0 then (s.hear (p.offset t1 t2 corr p.meanDelay)).servo (p.offset t1 t2 corr p.meanDelay)
    else s
  | .pdelay sent received corr =>
    if s.net.ptp.profile = 0 then s else s.modPort n fun p => { p with meanDelay := p.linkDelay sent received corr }
  | .delayReq t requester corr =>
    let p := s.port n
    if p.run = .master ∧ s.net.ptp.profile = 0 then
      s.sendOwn n s.net.net.ptpPcp (.ptp (.delayResp s.net.ptp.domain requester (p.lineIn t) corr))
    else s
  | .pdelayReq t corr =>
    if s.net.ptp.profile = 0 then s
    else s.sendOwn n s.net.net.ptpPcp (.ptp (.pdelayResp ((s.port n).lineIn t) corr))
  | .oneStep ok => if s.net.ptp.profile = 2 then s.modPort n fun p => { p with oneStepUnsupported := !ok } else s

/-- PTP runs on port `n` (R256, R393). -/
def State.ptpOn (s : State) (n : Nat) : Bool :=
  s.isReady (readyPort n) && s.isReady readyTimebase && decide ((s.port n).cfg.ptpEn = 1)

/-- A message whose passage is stamped (R257). -/
def ptpIsEvent : PtpBody → Bool
  | .announce _ | .oneStep _ => false
  | _ => true

/-- The tag of a frame is that of the device's own frames (R339). -/
def State.ourTag (s : State) (t : Option VlanTag) : Bool := decide ((t.map (·.vlan)).getD 0 = s.net.net.vlanId)

/-- A message of the device's domain, by a transport of its profile, with no tag or the device's (R254, R255, R339).
Entry 35, DEDUCED. -/
def State.speaks (s : State) (f : PtpFrame) : Bool :=
  decide (f.domain = s.net.ptp.domain) && !(f.udp && decide (s.net.ptp.profile = 2)) && (f.tag.isNone || s.ourTag f.tag)

/-- PTP_FRAME_RECEIVED (R254 to R263). -/
def execPtpFrameReceived (port : Nat) (frame : PtpFrame) (s : State) : Out :=
  if 2 < port then .next s
  else
    let s := if ptpIsEvent frame.body then s.stampOn port else s
    if s.ptpOn port && s.speaks frame then .next (s.ptpFrame port frame.body) else .next s

/-- 2^value s in ns. -/
def logInterval (v : Int) : Nat := (1000000000 * 2 ^ (v + 7).toNat) / 128

/-- ANNOUNCE_TIMEOUT (R254, R263): what the port has heard is forgotten, a slave leaves its state, and the best of the other
ports counts. -/
def execAnnounceTimeout (port : Nat) (s : State) : Out :=
  if 2 < port then .next s
  else
    let p := s.port port
    if (p.best.isSome ∨ p.run = .slave) ∧
        p.lastAnnounce + p.cfg.announceTimeout * logInterval p.cfg.logAnnounce ≤ s.clock then
      let s := s.modPort port fun p => { p with best := none }
      .next (if p.run = .slave then s.loseMaster else s).selectBest
    else .next s

/-- PPS_TIMEOUT (R261): no PPS for 2 s. -/
def execPpsTimeout (s : State) : Out :=
  if s.net.ptp.role = 1 ∧ s.net.clockClass ≠ 7 ∧ s.net.lastPps + 2000000000 ≤ s.clock then
    .next ({ s.loseControl with net := { s.loseControl.net with clockClass := 7 } } : State).selectBest
  else .next s

/-- The interval and the time of the last message of a kind: none is given for a slave's Delay_Req. Entry 35, DESIGN CHOICE. -/
def Port.schedule (p : Port) : PtpMessage → Nat × Nat
  | .sync => (logInterval p.cfg.logSync, p.lastSent.1)
  | .announce => (logInterval p.cfg.logAnnounce, p.lastSent.2.1)
  | .pdelayReq => (logInterval p.cfg.logPdelay, p.lastSent.2.2)
  | .delayReq => (0, 0)

/-- A message of a kind has been sent at `t`. -/
def Port.sentAt (p : Port) (t : Nat) : PtpMessage → Port
  | .sync => { p with lastSent := (t, p.lastSent.2.1, p.lastSent.2.2) }
  | .announce => { p with lastSent := (p.lastSent.1, t, p.lastSent.2.2) }
  | .pdelayReq => { p with lastSent := (p.lastSent.1, p.lastSent.2.1, t) }
  | .delayReq => p

/-- The port sends messages of a kind (R254, R256, R258, R259): a gPTP bridge passes a master's time on once it has heard it. -/
def State.sends (s : State) (p : Port) : PtpMessage → Bool
  | .sync => decide (p.run = .master) &&
      !(decide (s.net.ptp.profile = 2) && (p.oneStepUnsupported || (s.net.master.isSome && s.net.heard.isNone)))
  | .announce => decide (p.run = .master)
  | .pdelayReq => decide (s.net.ptp.profile ≠ 0)
  | .delayReq => decide (p.run = .slave ∧ s.net.ptp.profile = 0)

/-- What the device announces (R255, R261): itself as grandmaster, or the master that it follows, one step further on.
Entry 35, DEDUCED. -/
def State.announces (s : State) : AnnounceMsg :=
  match s.net.master, s.bestPort with
  | some _, some (_, a) => announceOnward a
  | _, _ => s.ownAnnounce

/-- The time that a Sync that leaves at `t` carries (R254, R259): Polestar's, or in gPTP that of the master that the bridge
follows. Entry 35, PRESUMED. -/
def State.timeCarried (s : State) (t : Tq) : Tq := t - s.net.heard.getD 0

/-- What a message that port `p` sends now says (R254, R256 to R259). -/
def State.content (s : State) (p : Port) : PtpMessage → PtpContent
  | .sync => .sync s.net.ptp.domain (s.timeCarried (p.lineOut s.now))
  | .announce => .announce s.net.ptp.domain s.announces
  | .pdelayReq => .pdelayReq (-p.cfg.asym)
  | .delayReq => .delayReq s.net.ptp.domain (p.lineOut s.now)

/-- PTP_MESSAGE_TRANSMIT (R256, R258, R259, R343): the message leaves once no frame waits that goes before it; one that is
stamped brings a change of the port's settings into effect. -/
def execPtpMessageTransmit (port : Nat) (message : PtpMessage) (s : State) : Out :=
  if 2 < port then .next s
  else
    let t := if message = .announce then s else s.stampOn port
    let p := t.port port
    let (interval, last) := p.schedule message
    let f : OwnFrame := { tag := t.ownTag t.net.net.ptpPcp, body := .ptp (t.content p message) }
    if t.ptpOn port && t.sends p message && decide (last + interval ≤ t.clock) && t.ownLeaves port f.number then
      .next ((t.log (.own port f)).modPort port fun p => p.sentAt t.clock message)
    else .next s

/-! ## Status (R269) -/

/-- The number of a port's PTP state. Entry 10, DESIGN CHOICE. -/
def PtpRun.code : PtpRun → Nat
  | .disabled => 0
  | .listening => 1
  | .slave => 2
  | .master => 3
  | .passive => 4

/-- A master port whose neighbour does not signal one-step receive (R259). -/
def State.oneStepMissing (s : State) (p : Port) : Bool :=
  decide (s.net.ptp.profile = 2) && decide (p.run = .master) && p.oneStepUnsupported

/-- What PTP_STATUS says of a port. -/
def State.ptpPortFields (s : State) (n : Nat) : List Fld :=
  [fU8 (s.port n).run.code, fS32 (s.port n).meanDelay, fBool (s.oneStepMissing (s.port n))]

/-- PTP_STATUS (R269); without a master its identity is a free value. -/
def execPtpStatus (dst : Nat) : State → Out :=
  cmdRow (.ptpStatus dst) fun s =>
    let n := s.net
    let master : Int := match n.master with
      | some m => (m : Int)
      | none => Config.unmeasured s.fresh
    .block [] s.draw.draw dst
      ((List.range 3).flatMap s.ptpPortFields ++
        [(Kind.u64, .num master), fS64 (meanOffset n.offsets (Config.unmeasured (s.fresh + 1))), fS32 s.rateNow,
         fBool n.stepRefused, fU8 s.tb.source.code, fU32 n.outliers, fU32 n.refusedSteps, fU32 n.masterChanges,
         fU32 n.delayReqDropped])

/-- BRIDGE_STATUS (R269): BYPASS_N by its level. -/
def execBridgeStatus (dst : Nat) : State → Out :=
  cmdRow (.bridgeStatus dst) fun s =>
    .block [] s dst
      ([fU16 s.net.macs.length, fBool !s.bypassLow, fBool s.net.bridgeFault] ++
        (List.range 3).flatMap fun n =>
          [fU32 (s.port n).forwarded, fU32 (s.port n).discarded, fU32 (s.port n).learnFull])

/-! ## The bridge (R258, R266 to R268, R340) -/

/-- BRIDGE_CONFIG (R267). -/
def execBridgeConfig (cfg : BridgeCfg) (flush : Nat) : State → Out :=
  cmdRow (.bridgeConfig cfg flush) fun s =>
    .plain [(!within 10 3600 cfg.ageTime || decide (7 < cfg.learn) || !isBit flush, .badArg)]
      { s with net := { s.net with bridge := cfg, macs := if flush = 1 then [] else s.net.macs } }

/-- A 48-bit address is a group address. -/
def isGroup (mac : Nat) : Bool := decide (mac / 2 ^ 40 % 2 = 1)

/-- A source address is learned on port `n`, or the full table is counted (R266, R267). -/
def State.learn (s : State) (n mac : Nat) : State :=
  if s.net.bridge.learn / 2 ^ n % 2 = 0 ∨ isGroup mac then s
  else
    let known := s.net.macs.any fun m => decide (m.1 = mac)
    if known ∨ s.net.macs.length < 1024 then
      { s with net := { s.net with
          macs := (mac, { port := n, seen := s.clock }) :: s.net.macs.filter fun m => decide (m.1 ≠ mac) } }
    else s.modPort n fun p => { p with learnFull := p.learnFull.inc }

/-- The ports that a frame of port `n` is for: the learned one, else all others (R266). -/
def State.egress (s : State) (n dst : Nat) : List Nat :=
  let others := (List.range 3).filter fun k => decide (k ≠ n) && (s.port k).blockLock
  if isGroup dst then others
  else match s.net.macs.find? fun m => decide (m.1 = dst) with
    | some m => others.filter fun k => decide (k = m.2.port)
    | none => others

/-- The frame as it leaves port `k` now, having come by port `n` (R257, R258): a Sync, and in E2E a Delay_Req, carries its
residence time, with peer delay also the mean link delay of its ingress port; ASYM of the ingress port is added to a Sync, that
of the egress port is subtracted from a Delay_Req. A port with PTP_EN 0 stamps nothing. Entry 35, DEDUCED. -/
def State.corrected (s : State) (n k : Nat) (f : NetFrame) : NetFrame :=
  let residence := (s.port k).lineOut (s.now + 64 * f.outPhase) - (s.port n).lineIn f.tIn
  if (s.port n).cfg.ptpEn = 0 ∨ (s.port k).cfg.ptpEn = 0 then f
  else match f.kind with
    | .sync =>
      { f with
        correction := f.correction + residence + (s.port n).cfg.asym +
          if s.net.ptp.profile ≠ 0 then (s.port n).meanDelay else 0 }
    | .delayReq => { f with correction := f.correction + residence - (s.port k).cfg.asym }
    | _ => f

/-- The device takes the frame itself and does not forward it (R256, R258, R259, R266): what is for its own address, and on a
port with a PTP role peer delay messages, and the messages of gPTP unless it is transparent only (R255). Management messages
are forwarded (R254). Entry 35, DEDUCED. -/
def State.consumes (s : State) (n : Nat) (f : NetFrame) : Bool :=
  decide (f.dst = Config.mac.toNat) ||
    (decide ((s.port n).cfg.ptpEn = 1) && match f.kind with
      | .ptpEvent => true
      | .sync | .delayReq | .ptpGeneral => decide (s.net.ptp.profile = 2) && decide (s.net.ptp.role ≠ 2)
      | _ => false)

/-- An egress queue of a port has room for one more frame (R343). -/
def Port.hasRoom (p : Port) (f : NetFrame) : Bool :=
  decide ((p.queue.countP fun x => decide (x.number = frameQueue f)) ≤ Config.egressRoom)

/-- A frame that came by port `n` joins its egress queue on port `k`; a full queue discards and counts it (R343). -/
def State.enqueue (n : Nat) (f : NetFrame) (s : State) (k : Nat) : State :=
  s.modPort k fun p =>
    if p.hasRoom f then { p with queue := p.queue ++ [.forwarded f n] }
    else { p with discarded := p.discarded.inc }

/-- A frame is forwarded by the bridge, and counted where a port takes it. Entry 35, DEDUCED. -/
def State.forward (s : State) (n : Nat) (f : NetFrame) : State :=
  let ks := s.egress n f.dst
  let taken := ks.any fun k => (s.port k).hasRoom f
  let s := s.each ks (State.enqueue n f)
  if taken then s.modPort n fun p => { p with forwarded := p.forwarded.inc } else s

/-- The frame that a port sends next: strict priority, first in first out in each queue (R343). -/
def Port.nextOut (p : Port) : Option Queued :=
  (List.range 4).findSome? fun q => p.queue.find? fun x => decide (x.number = q)

/-- A frame is stamped as it leaves (R257). -/
def Queued.isStamped : Queued → Bool
  | .forwarded f _ => frameIsEvent f.kind
  | .own f => match f.body with
    | .ptp m => m.isEvent
    | _ => false

/-- An own frame as it leaves a port at `t`: a one-step Pdelay_Resp carries the time from the receipt of its request
(R257, R258). -/
def OwnFrame.leaves (f : OwnFrame) (p : Port) (t : Tq) : OwnFrame :=
  match f.body with
  | .ptp (.pdelayResp received corr) => { f with body := .ptp (.pdelayResp received (corr + (p.lineOut t - received))) }
  | _ => f

/-- What leaves port `k` with a frame of its queues. -/
def State.passes (s : State) (k : Nat) : Queued → Sent
  | .forwarded f n => .frame k (s.corrected n k f)
  | .own f => .own k (f.leaves (s.port k) s.now)

/-- A port with block lock sends one frame. -/
def State.sendFrame (s : State) (k : Nat) : State :=
  match (s.port k).nextOut with
  | none => s
  | some x =>
    if s.bridgeWorks && (s.port k).blockLock then
      let s := if x.isStamped then s.stampOn k else s
      (s.modPort k fun p => { p with queue := p.queue.erase x }).log (s.passes k x)
    else s

/-- One TCK cycle (R27, R247, R343): each port sends the next frame of its egress queues, Polestar counts, and a divider reset
whose origin has come ends. Entry 35, DEDUCED. Entry 2, DESIGN CHOICE. -/
def State.cycle (s : State) : State := (s.each (List.range 3) State.sendFrame).tick.endReset

/-- A frame of legal length is handled (R258, R266, R340). Entry 35, DEDUCED. -/
def State.bridgeFrame (s : State) (n : Nat) (f : NetFrame) : State :=
  let s := s.learn n f.src
  let s := if f.kind = .arpForUs ∧ s.net.net.ipAddr ≠ 0 ∧ s.ourTag f.tag then s.sendOwn n 0 .arp else s
  let s := if frameIsEvent f.kind then s.stampOn n else s
  if f.kind = .delayReq ∧ s.net.ptp.profile = 1 ∧ (s.port n).cfg.ptpEn = 1 then
    { s with net := { s.net with delayReqDropped := s.net.delayReqDropped.inc } }
  else if s.consumes n f then s
  else s.forward n f

/-- BRIDGE_FRAME_RECEIVED (R266): a port with block lock of a bridge that works. -/
def execBridgeFrameReceived (port : Nat) (frame : NetFrame) (s : State) : Out :=
  if 2 < port then .next s
  else if s.bridgeWorks && (s.port port).blockLock then
    if 9018 < frame.length then .next (s.modPort port fun p => { p with discarded := p.discarded.inc })
    else .next (s.bridgeFrame port frame)
  else .next s

/-- MAC_ENTRY_AGEING (R267). -/
def execMacEntryAgeing (mac : Nat) (s : State) : Out :=
  let old (m : Nat × MacEntry) : Bool :=
    decide (m.1 = mac) && decide (m.2.seen + s.net.bridge.ageTime * 1000000000 ≤ s.clock)
  .next { s with net := { s.net with macs := s.net.macs.filter fun m => !old m } }

/-- BRIDGE_FAULT (R268, R405): the ports are not ready. -/
def execBridgeFault (s : State) : Out :=
  .next ({ s with net := { s.net with bridgeFault := true } } : State).refreshPorts

/-! ## NET_CONFIG (R339) -/

/-- NET_CONFIG lies in its ranges. -/
def netRanges (c : NetCfg) : Bool :=
  decide (c.ipAddr < 2 ^ 32) && within 8 30 c.netmask && decide (c.vlanId ≤ 4094) && within 1500 9000 c.mtu &&
    within 1024 65528 c.mbxUdpBase && decide (c.mbxPcp ≤ 7 ∧ c.ptpPcp ≤ 7)

/-- A configured stream with TRANSPORT 1 could no longer meet the MTU. -/
def State.mtuBreaks (s : State) (mtu : Nat) : Bool := s.eng.streams.any fun x => overMtu mtu x.2.raw x.2.cfg

/-- A stream with TRANSPORT 1 is enabled. -/
def State.smiurnOn (s : State) : Bool := s.eng.streams.any fun x => decide (x.2.cfg.transport = 1 ∧ x.2.udp.dstMac ≠ 0)

/-- NET_CONFIG (R339). -/
def execNetConfig (cfg : NetCfg) : State → Out :=
  cmdRow (.netConfig cfg) fun s =>
    let old := s.net.net
    .plain [(!netRanges cfg || (decide (cfg.mtu ≠ old.mtu) && s.mtuBreaks cfg.mtu), .badArg),
            (decide (cfg.ipAddr ≠ old.ipAddr ∨ cfg.vlanId ≠ old.vlanId) && s.smiurnOn, .busy)]
      { s with net := { s.net with net := cfg } }

/-! ## Trigger inputs (R37, R153, R154, R261) -/

/-- GNSS PPS on TRG0 (R261): the stamp's NS folded to half a second either way. -/
def State.pps (s : State) (t : Tq) : State :=
  let ns := t % tqPerSec / 1024
  let o := 1024 * if ns < 500000000 then ns else ns - 1000000000
  (({ s with net := { s.net with lastPps := s.clock, clockClass := 6 } } : State).selectBest).servo o

/-- A trigger edge is stamped (R37). -/
def State.trgStamp (s : State) (n : Nat) (falling : Bool) (tBall t : Tq) : State :=
  let s := s.modTrg n fun x => { x with lastEdge := some tBall, levels := ((t, some !falling) :: x.levels).take 64 }
  let s := s.publish (prodTrg n) t 0
  let p : PathStamp :=
    { id := 0, t := t, gated := [], tEdge := tBall, conv := 0, suspect := !s.pll.locked, falling := falling, epoch := s.tb.epoch,
      cfg := HitCfg.reset, moved := 0, backed := false }
  let s := s.intoPath (idxTrg n) p
  if n = 0 ∧ s.net.ptp.role = 1 ∧ !falling then s.pps t else s

/-- An edge within 2.0 ns of the last stamped one yields no stamp of its own (R37): the raw gates that follow the input close
at that stamp (R154). Entry 24, DEDUCED. -/
def Trg.merge (x : Trg) : Trg :=
  { x with overrun := x.overrun.inc, levels := match x.levels with
      | [] => []
      | l :: t => (l.1, none) :: t }

/-- TRG_EDGE (R37): an edge that EDGES selects, once the time base is ready. -/
def execTrgEdge (trg : Nat) (falling : Bool) (tBall : Tq) (s : State) : Out :=
  if 7 < trg then .next s
  else
    let x := s.trg trg
    let t := stampOf tBall
    if !s.isReady readyTimebase || !s.heard tBall || !(if falling then decide (2 ≤ x.edges) else decide (x.edges % 2 = 1)) then .next s
    else
      let close := match x.lastEdge with
        | none => false
        | some l => decide ((tBall - l).natAbs < 2048)
      if close then .next ((s.modTrg trg Trg.merge).lostEdge (idxTrg trg)) else .next (s.trgStamp trg falling tBall t)

end Sys2Proof.Machine
end

