-- ==== Sys2Proof/Machine/MotorOps.lean ====
section
/-! DEFINITION. The motor: reference, duty and entry to FAULT (R276 to R281). -/

namespace Sys2Proof.Machine

/-- `part` hundredths of `ms` milliseconds have passed since the true time `since`: the supervisor's timer is accurate
to ±2 % (R285), so nothing that it times happens before 98 hundredths. Entry 37, DEDUCED. -/
def State.elapsed (s : State) (since ms part : Nat) : Bool := decide (since * 100 + ms * 1000000 * part ≤ s.clock * 100)

/-- The speed source's estimator is valid and its speed lies within SPEED_TOL of the target (R276, R279). -/
def State.inTolerance (s : State) : Bool :=
  let m := s.motor
  let v := (s.estimator m.cfg.encoder).speed
  s.estValid m.cfg.encoder && decide (((v : Int) - (m.target : Int)).natAbs * 1000 ≤ m.cfg.speedTol * m.target)

/-- D of a reference in 1/1000 of a unit (R277). -/
def dutyOf (c : MotorCfg) (reference : Nat) : Nat :=
  min 65535 (roundDiv (65536 * reference : Nat) (1000 * c.speedFull : Nat)).toNat

/-- The firmware serves the motor: it runs, and no warm reset holds MSPD (R282). -/
def State.motorServed (s : State) : Bool := s.dev.fwRunning && !s.dev.warm

/-- The frequency of MSPD in force at the true time `t` in ns and the time from which its periods follow each other (R276, R277):
from power-up on, and anew from the end of the period in which PWM_FREQ changed. Entry 36, DESIGN CHOICE. -/
def Motor.pwm (m : Motor) (t : Nat) : Nat × Nat := if t < m.pwmFrom then m.pwmOld else (m.cfg.pwmFreq, m.pwmFrom)

/-- The end of the period of MSPD that runs at `t`, upward to ns (R277). -/
def Motor.boundary (m : Motor) (t : Nat) : Nat :=
  if t < m.pwmFrom then m.pwmFrom
  else
    let f := max m.cfg.pwmFreq 1
    m.pwmFrom + (((t - m.pwmFrom) * f / 1000000000 + 1) * 1000000000 + f - 1) / f

/-- The D of the period that runs at `t`: a new D acts from the next period boundary (R277). -/
def Motor.dIn (m : Motor) (t : Nat) : Nat := if t < m.dAt then m.dBefore else m.d

/-- D is set at the true time `t` (R277). -/
def Motor.setD (m : Motor) (t d : Nat) : Motor := { m with d := d, dBefore := m.dIn t, dAt := m.boundary t }

/-- MOTOR_CONFIG takes effect at the true time `t` (R276): a new PWM_FREQ with the next period, so that none is
shortened. Entry 36, DESIGN CHOICE. -/
def Motor.configure (m : Motor) (t : Nat) (c : MotorCfg) : Motor :=
  if c.pwmFreq = m.cfg.pwmFreq then { m with cfg := c }
  else { m with cfg := c, pwmOld := m.pwm t, pwmFrom := m.boundary t }

/-- The reference one 1 ms update later (R277, R279), in 1/1000 of a unit. -/
def Motor.nextReference (m : Motor) : Nat :=
  let goal : Nat := if m.run = .starting ∨ m.run = .running then 1000 * m.target else 0
  if m.run = .stopped ∨ m.run = .fault then 0
  else if m.run = .starting ∧ !m.mrdySeen then 0
  else if m.reference < goal then min goal (m.reference + m.cfg.rampUp)
  else max goal (m.reference - m.cfg.rampDown)

/-- The correction of closed loop after the next update (R277): frozen while the speed source's estimator is invalid,
changed by at most 655 otherwise. Entry 36, DEDUCED. -/
def State.nextCorrection (s : State) : Int :=
  let m := s.motor
  if m.cfg.control = 0 ∨ m.run = .stopped ∨ m.run = .fault then 0
  else if s.estValid m.cfg.encoder then clamp (m.correction - 655) (m.correction + 655) (Config.motorCorrection s.fresh)
  else m.correction

/-- Reference, correction and D after one update; in STOPPED and FAULT, and before MRDY, D is 0 (R279), as it is in Nadir
(R401). -/
def State.updateReference (s : State) : State :=
  let r := s.motor.nextReference
  let k := s.nextCorrection
  let idle := s.motor.run = .stopped ∨ s.motor.run = .fault ∨ (s.motor.run = .starting ∧ !s.motor.mrdySeen) ∨
    s.dev.run = .nadir
  let d : Nat := if idle then 0 else (clamp 0 65535 ((dutyOf s.motor.cfg r : Int) + k)).toNat
  { s.draw with motor := { s.motor with reference := r, correction := k }.setD s.clock d }

/-- The time within SPEED_TOL is kept (R279). -/
def State.watchSpeed (s : State) : State :=
  let m := s.motor
  let since : Option Nat :=
    if (m.run = .starting ∨ m.run = .running) ∧ s.inTolerance then some (m.inTolSince.getD s.clock) else none
  { s with motor := { m with inTolSince := since } }

/-- Entry to FAULT (R279, R280): D is 0 at once, the fault is counted and the supervisor is told.
Entry 36, DEDUCED. -/
def State.motorFault (s : State) : State :=
  if s.motor.run = .fault then s
  else
    ({ s with motor := { s.motor.setD s.clock 0 with
        run := .fault
        atSpeed := false
        reference := 0
        correction := 0
        inTolSince := none
        faults := s.motor.faults.inc } }).svFault .motorFault

/-- STOPPED is entered (R279): D is 0, STO is removed. -/
def State.motorStop (s : State) : State :=
  let s := { s with
    motor := { s.motor.setD s.clock 0 with
      run := .stopped
      atSpeed := false
      reference := 0
      target := 0
      correction := 0
      inTolSince := none }
    sv := { s.sv with torqueAsked := false } }
  s.refreshSto

/-- The firmware takes the motor up at the end of a start (R282): a fault of the driver that came in between is entered
now. Entry 36, DEDUCED. -/
def State.resumeMotor (s : State) : State :=
  let m := s.motor
  if !m.mfltN ∨ (m.run ≠ .stopped ∧ m.mrdySeen ∧ !m.mrdy) then s.motorFault else s

end Sys2Proof.Machine
end

