-- ==== Sys2Proof/Machine/Motor.lean ====
section
/-! DEFINITION. Commands and happenings of the motor (R276 to R283, R382). -/

namespace Sys2Proof.Machine

/-- Fields of MOTOR_CONFIG in their ranges (R276). -/
def motorCfgOk (c : MotorCfg) : Bool :=
  within 1000 100000 c.pwmFreq && within 256 1048575 c.speedFull && isBit c.control && isBit c.encoder &&
    within 1 1048575 c.rampUp && within 1 1048575 c.rampDown && within 1 100 c.speedTol && within 1 10000 c.settleTime &&
    within 1 10000 c.readyTimeout

/-- MOTOR_CONFIG (R276). -/
def execMotorConfig (cfg : MotorCfg) : State → Out :=
  cmdRow (.motorConfig cfg) fun s =>
    .plain [(!motorCfgOk cfg, .badArg), (decide (s.motor.run ≠ .stopped ∧ s.motor.run ≠ .fault), .busy)]
      { s with motor := s.motor.configure s.clock cfg }

/-- The supervisor withholds torque (R279, R298). Entry 36, DEDUCED. -/
def State.torqueWithheld (s : State) : Bool :=
  decide (s.sv.run ≠ .normal ∧ s.sv.run ≠ .twilight) || decide (s.dev.run = .nadir)

/-- START (R279): torque is asked for, from STOPPED anew, and but in FAULT the reference goes to the new target.
Entry 36, DEDUCED. -/
def State.motorStart (s : State) (target : Nat) : State :=
  let m := { s.motor with
    run := .starting
    atSpeed := false
    target := target
    inTolSince := none
    startedAt := s.clock
    mrdySeen := s.motor.mrdy }
  match s.motor.run with
  | .stopped => { s with motor := m, sv := { s.sv with torqueAsked := true } }.refreshSto
  | .fault => s
  | _ =>
    { s with
      motor := { m with mrdySeen := s.motor.mrdySeen || s.motor.mrdy }
      sv := { s.sv with torqueAsked := true } }.refreshSto

/-- SET_SPEED (R279): the target of STARTING and RUNNING. -/
def State.motorSetSpeed (s : State) (target : Nat) : State :=
  if s.motor.run = .starting ∨ s.motor.run = .running then
    { s with motor := { s.motor with target := target, atSpeed := false, inTolSince := none } }
  else s

/-- STOP (R279): STOPPING, or STOPPED from FAULT with MFLT_N high. -/
def State.motorHalt (s : State) : State :=
  match s.motor.run with
  | .starting | .running =>
    { s with motor := { s.motor with run := .stopping, atSpeed := false, target := 0, inTolSince := none } }
  | .fault => if s.motor.mfltN then s.motorStop else s
  | _ => s

/-- MOTOR_RUN (R278, R279): ACTION 0 STOP, 1 START, 2 SET_SPEED; MDIR changes only in STOPPED. Until the firmware has resumed the
motor after a warm reset (R282) it answers NOT_READY. Entry 36, DESIGN CHOICE. -/
def execMotorRun (action dir target : Nat) : State → Out :=
  cmdRow (.motorRun action dir target) fun s =>
    let s' := if s.motor.run = .stopped then { s with motor := { s.motor with mdir := dir } } else s
    .plain [(decide (2 < action) || !isBit dir || decide (1048575 < target) || decide (s.motor.cfg.speedFull < target),
              .badArg),
            (s.torqueWithheld, .safetyDenied), (decide ((s.encCfg s.motor.cfg.encoder).enable = 0) || s.dev.warm, .notReady),
            (decide (dir ≠ s.motor.mdir ∧ s.motor.run ≠ .stopped), .busy)]
      (if action = 0 then s'.motorHalt else if action = 1 then s'.motorStart target else s'.motorSetSpeed target)

/-- The number of a state of R279. -/
def MotorRunState.code : MotorRunState → Nat
  | .stopped => 0
  | .starting => 1
  | .running => 2
  | .stopping => 3
  | .fault => 4

/-- MOTOR_STATUS (R283). -/
def execMotorStatus (dst : Nat) : State → Out :=
  cmdRow (.motorStatus dst) fun s =>
    let m := s.motor
    let enc (e : Nat) : List Fld :=
      let x := s.encoder e
      [fU16 (x.count % ((s.encCfg e).cpr : Int)).toNat, fBool (!x.forward), fU32 (s.estimator e).speed, fU32 x.edges,
       fU32 x.filtered, fU32 x.countErrors]
    .block [] s dst
      ([fU8 m.run.code, fBool m.atSpeed, fU16 m.d, fU32 (m.reference / 1000), fU32 m.target, fU8 m.mdir, fBool m.mrdy,
        fBool m.mfltN, fBool s.sv.sto] ++ enc 0 ++ enc 1 ++ [fU32 m.faults, fU32 m.readyTimeouts])

/-- MOTOR_COUNTERS_CLEAR (R283). -/
def execMotorCountersClear : State → Out :=
  cmdRow .motorCountersClear fun s =>
    .plain []
      (({ s with motor := { s.motor with faults := 0, readyTimeouts := 0 } }).each [0, 1] fun s e =>
        s.modEncoder e fun x => { x with edges := 0, filtered := 0, countErrors := 0 })

/-- MFLT_N_FAULT (R279, R280): MFLT_N has been low for 10 µs, or with `level` has risen again. A start acts on it at its
end (R401). -/
def execMfltNFault (level : Bool) (s : State) : Out :=
  let s := { s with motor := { s.motor with mfltN := level } }
  if level || !s.ballsActed then .next s
  else if s.motorServed then .next s.motorFault
  else .next (s.svFault .motorFault)

/-- MRDY_CHANGE (R279): a rise lets the reference ramp; a fall outside STOPPED is a FAULT. -/
def execMrdyChange (level : Bool) (s : State) : Out :=
  let fell := s.motor.mrdy && !level
  let s := { s with motor := { s.motor with mrdy := level, mrdySeen := s.motor.mrdySeen || level } }
  if fell && decide (s.motor.run ≠ .stopped) && s.motorServed then .next s.motorFault else .next s

/-- READY_TIMEOUT (R279): MRDY is low READY_TIMEOUT after torque was asked for. -/
def execReadyTimeout (s : State) : Out :=
  if s.motorServed ∧ s.motor.run = .starting ∧ !s.motor.mrdySeen ∧
      s.elapsed s.motor.startedAt s.motor.cfg.readyTimeout 100 then
    .next ({ s with motor := { s.motor with readyTimeouts := s.motor.readyTimeouts.inc } }).motorFault
  else .next s

/-- AT_SPEED (R279): the measured speed has been within SPEED_TOL for SETTLE_TIME. -/
def execAtSpeed (s : State) : Out :=
  match s.motor.inTolSince with
  | none => .next s
  | some t =>
    if s.motorServed ∧ (s.motor.run = .starting ∨ s.motor.run = .running) ∧ s.inTolerance ∧
        s.elapsed t s.motor.cfg.settleTime 100 then
      .next { s with motor := { s.motor with run := .running, atSpeed := true } }
    else .next s

/-- MOTOR_STOPPED (R279): in STOPPING the speed source has counted no edge for 100 ms. -/
def execMotorStopped (s : State) : Out :=
  if s.motorServed ∧ s.motor.run = .stopping ∧ s.elapsed (s.svEnc s.motor.cfg.encoder).lastEdge 100 100 then
    .next s.motorStop
  else .next s

/-- MOTOR_REF_UPDATE (R277): the firmware's update, 1 ms after the last at the earliest. -/
def execMotorRefUpdate (s : State) : Out :=
  if s.motorServed ∧ s.motor.refAt + 1000000 ≤ s.clock then
    let s := s.updateReference.watchSpeed
    .next { s with motor := { s.motor with refAt := s.clock } }
  else .next s

end Sys2Proof.Machine
end

