-- ==== Sys2Proof/Machine/SvOps.lean ====
section
/-! DEFINITION. What the supervisor does at a sample, at the end of a speed window and at a safety reset, and how its
configuration changes (R285 to R303). -/

namespace Sys2Proof.Machine

/-! ## The status pair as it reads (R302, R420) -/

/-- SSTA and SSTB read back as they are driven, or as the other level while their read-back mismatch stands (R296, R420). -/
def Supervisor.sstaReads (v : Supervisor) : Bool := v.ssta != v.standing.contains (.sstReadback 0)
def Supervisor.sstbReads (v : Supervisor) : Bool := v.sstb != v.standing.contains (.sstReadback 1)

/-- A change of SSTA or SSTB as it reads is a cause (R421), where no change of SV_STATE or of a driven level between the state
`old` and this one is. Entry 52, DEDUCED. -/
def State.noteReadback (s old : State) : State :=
  let told := s.sv.run ≠ old.sv.run ∨ s.sv.ssta ≠ old.sv.ssta ∨ s.sv.sstb ≠ old.sv.sstb
  if !told ∧ (s.sv.sstaReads ≠ old.sv.sstaReads ∨ s.sv.sstbReads ≠ old.sv.sstbReads) then s.cause 3 else s

/-! ## Safe inputs (R288, R289) -/

/-- A channel shows the demanding value (R288): low in MODE 0; in MODE 1, A low or B high. -/
def channelDemands (mode : Nat) (isB level : Bool) : Bool := if mode = 1 ∧ isB then level else !level

/-- One sample of a safe input (R289): demanding from the first sample in which either channel demands to the first in
which neither does and no fault is latched. A discrepancy is counted in samples. -/
def SafeInput.sample (x : SafeInput) (c : SvInputCfg) (a b : Bool) : SafeInput :=
  let da := channelDemands c.mode false a
  let db := channelDemands c.mode true b
  let demanding := da || db || x.faultLatched
  { x with
    a := a
    b := b
    demanding := demanding
    disagree := if da = db then 0 else x.disagree + 1
    bothDemanded := x.bothDemanded || (x.faultLatched && da && db)
    awaitsReset := x.awaitsReset || demanding }

/-- Samples of disagreement that make a discrepancy fault: Td / 10 µs (R289). -/
def discSamples (c : SvInputCfg) : Nat := c.discTime * 100

/-! ## SRSTA and SRSTB (R300) -/

/-- Samples of low that make 10 ms before a rise. -/
def resetLow : Nat := 1000

/-- One sample of a channel of SRST. -/
def ResetPin.sample (p : ResetPin) (n : Nat) (level : Bool) : ResetPin :=
  if level = p.level then { p with run := p.run + 1 }
  else if level then
    { p with level := true, run := 1, rise := some n, lowOk := decide (resetLow ≤ p.run), fell := false }
  else { p with level := false, run := 1, highRun := p.run, fell := p.rise.isSome }

/-- The channel's own conditions of a valid reset. -/
def ResetPin.ok (p : ResetPin) : Bool := p.lowOk && within 4901 294116 p.highRun

/-- The rises lie within RESET_DISC of each other under the arithmetic of R289. -/
def risesAgree (disc : Nat) (p q : ResetPin) : Bool :=
  match p.rise, q.rise with
  | some a, some b => decide (((a : Int) - (b : Int)).natAbs < disc * 100)
  | _, _ => false

/-- Both channels sampled: at the later fall a reset is ready, or rejected and counted. Entry 38, DEDUCED. -/
def State.sampleReset (s : State) (a b : Bool) : State :=
  let p := s.sv.srsta.sample s.sv.samples a
  let q := s.sv.srstb.sample s.sv.samples b
  if p.fell && q.fell then
    let ok := p.ok && q.ok && risesAgree s.sv.active.sv.resetDisc p q
    { s with sv := { s.sv with
        srsta := { p with fell := false, rise := none }
        srstb := { q with fell := false, rise := none }
        resetReady := ok
        counters := if ok then s.sv.counters
          else { s.sv.counters with resetsRejected := s.sv.counters.resetsRejected.inc } } }
  else { s with sv := { s.sv with srsta := p, srstb := q } }

/-! ## A sample (R285, R289) -/

/-- A STOP input is demanding (R288, R295). -/
def State.stopDemanded (s : State) : Bool :=
  (List.range 4).any fun i => decide ((s.svInputCfg i).function = 2) && (s.safeInput i).demanding

/-- The least true time in ns from one sample to the next, and from one end of a speed window to the next (R285). -/
def samplePeriod : Nat := 9800
def windowPeriod : Nat := 980000

/-- At least `d` ns have passed since a true time, if there is one (R285). Entry 37, DEDUCED. -/
def State.since (s : State) (t : Option Nat) (d : Nat) : Bool :=
  match t with
  | none => true
  | some t => decide (t + d ≤ s.clock)

/-- A sample is taken now. Entry 38, DEDUCED. -/
def State.countSample (s : State) : State :=
  { s with sv := { s.sv with samples := s.sv.samples + 1, sampleAt := some s.clock } }

/-- One sample of 10 µs: inputs, SRST, and what follows of them. Entry 38, DEDUCED. -/
def State.svSample (s : State) (l : SafeLevels) : State :=
  let s := s.each [0, 1, 2, 3] fun s i =>
    s.modSafeInput i fun x => x.sample (s.svInputCfg i) (l.sinA.getD i false) (l.sinB.getD i false)
  let s := s.sampleReset l.srstA l.srstB
  let s := s.countSample
  (if s.stopDemanded then s.safeStop else s).refreshPermit

/-! ## Encoders that have failed -/

/-- Every used encoder that has failed raises its fault, or, where none serves, all of them one stop fault, which is none anew
while it is latched (R291, R296). Entry 39, DEDUCED. -/
def State.checkEncoders (s : State) : State :=
  if s.serving.isEmpty then (if s.sv.faults.contains .bothEncoders then s else s.svFault .bothEncoders)
  else s.each (usedEncoders s.sv.active) fun s e => if s.encFailed e then s.encoderFault e false else s

/-! ## Safety reset (R297, R300, R303) -/

/-- The cause of a latched fault persists (R296): an encoder is failed, the encoders still disagree, the movement is
still reverse or too fast, the driver still reports its fault, a read-back, core, oscillator or supply fault still stands.
The others are happenings that leave no state. Entry 38, DEDUCED. -/
def State.persists (s : State) : SvFault → Bool
  | .encoderFailed e => s.encFailed e
  | .bothEncoders => s.serving.isEmpty
  | .agreement => decide (10 ≤ s.sv.agreeRun)
  | .direction => s.serving.any fun e => decide (s.sv.active.sv.sdiTol < (s.svEnc e).reverse)
  | .slsHigh => s.fasterAbove s.limitSet.slsHigh
  | .motorFault => !s.motor.mfltN
  | .emisLimit | .emission | .rampViolation => false
  | f => s.sv.standing.contains f

/-- Some fault's cause persists; an encoder in use that has failed is one whether or not it is latched. -/
def State.anyPersists (s : State) : Bool :=
  (s.sv.faults.any fun f => s.persists f) || (usedEncoders s.sv.active).any fun e => s.encFailed e

/-- An input with a function is demanding (R297). Entry 38, DEDUCED. -/
def State.anyDemanding (s : State) : Bool :=
  (List.range 4).any fun i => decide ((s.svInputCfg i).function ≠ 0) && (s.safeInput i).demanding

/-- What a reset clears of an input (R289, R293): a fault after which both channels have demanded, and the wait of an
input that no longer demands. Entry 38, DEDUCED. -/
def SafeInput.clearReset (x : SafeInput) (c : SvInputCfg) : SafeInput :=
  let latched := x.faultLatched && !x.bothDemanded
  let demanding := channelDemands c.mode false x.a || channelDemands c.mode true x.b || latched
  { x with
    faultLatched := latched
    bothDemanded := x.bothDemanded && latched
    demanding := demanding
    awaitsReset := x.awaitsReset && demanding }

/-- Every safe input after a reset. -/
def State.clearInputs (s : State) : State :=
  s.each [0, 1, 2, 3] fun s i => s.modSafeInput i fun x => x.clearReset (s.svInputCfg i)

/-- A reset in NORMAL has something to do (R300): a discrepancy fault, or a PERMIT with RESTART 1 that waits. -/
def State.resetHelps (s : State) : Bool :=
  (List.range 4).any fun i =>
    let x := s.safeInput i
    let c := s.svInputCfg i
    (x.faultLatched && x.bothDemanded) ||
      (decide (c.function = 1 ∧ c.restart = 1) && x.awaitsReset && !(x.clearReset c).awaitsReset)

/-- A reset that is acted on, and one that is rejected (R300, R304). -/
def State.countReset (s : State) (accepted : Bool) : State :=
  let c := s.sv.counters
  { s with sv := { s.sv with
      resetReady := false
      counters := if accepted then { c with resetsAccepted := c.resetsAccepted.inc }
        else { c with resetsRejected := c.resetsRejected.inc } } }

/-- A valid safety reset acts (R297, R300, R303): none ends LOCKOUT while the SAFETY object is missing (R320), nor what a power
warning led to while it stands (R412). Entry 38, DEDUCED. -/
def State.safetyReset (s : State) : State :=
  let t := s.clearInputs
  if s.sv.run = .lockout ∨ s.sv.run = .eclipse then
    if t.anyDemanding || t.anyPersists || t.sv.awaitsCommit || t.dev.pfail then s.countReset false
    else
      let t := { t with sv := { t.sv with faults := [] } }
      let t := if t.dev.run = .eclipse then t.enterReadyIdle else t
      (t.svGo .normal).countReset true
  else if s.sv.run = .normal ∧ s.resetHelps then (t.countReset true).refreshPermit
  else s.countReset false

/-! ## Speed windows (R290 to R292, R294, R299) -/

/-- A window ends for one encoder: its count, and the reverse counts since the last forward window (R290). -/
def SvEncoder.closeWindow (x : SvEncoder) : SvEncoder :=
  { x with
    lastWindow := x.window
    window := 0
    reverse := if 0 < x.window then 0 else x.reverse + x.window.natAbs }

/-- The last windows of the two encoders disagree (R291), with no failure reported for either. -/
def State.disagrees (s : State) : Bool :=
  let p := (s.svEnc 0).lastWindow * (s.encCfg 1).cpr
  let q := (s.svEnc 1).lastWindow * (s.encCfg 0).cpr
  decide (100 * (p - q).natAbs >
    s.sv.active.sv.agreeTol * max p.natAbs q.natAbs + 100 * ((s.encCfg 0).cpr + (s.encCfg 1).cpr))

/-- The run of windows in which the encoders disagree (R291). -/
def State.watchAgreement (s : State) : State :=
  let run : Nat :=
    if s.sv.active.sv.speedSrc = 0 ∧ !s.encFailed 0 ∧ !s.encFailed 1 ∧ s.disagrees then s.sv.agreeRun + 1 else 0
  { s with sv := { s.sv with agreeRun := run } }

/-- The counts of a new sector grid (R294): the sum of the old sectors that overlap in angle. -/
def regrid (old new : Nat) (counts : Tab Nat) : Tab Nat :=
  if old = new then counts
  else (List.range new).foldl (fun t j =>
    Tab.put 0 t j (((List.range old).filter fun i => decide (i * new < (j + 1) * old ∧ j * old < (i + 1) * new)).foldl
      (fun n i => n + Tab.get 0 counts i) 0)) []

/-- The set in force at a boundary of the speed windows (R292). Entry 38, DEDUCED. -/
def State.chooseSet (s : State) : State :=
  let b := (List.range 4).any fun i => decide ((s.svInputCfg i).function = 3) && (s.safeInput i).demanding
  if b = s.sv.setB then s
  else
    let old := s.limitSet.sectors
    let s := { s with sv := { s.sv with setB := b } }
    { s with sv := { s.sv with sectorCounts := regrid old s.limitSet.sectors s.sv.sectorCounts } }

/-- The envelope v_lim(t) of R299 times 10^9, never below STOP_SPEED. Entry 37, DEDUCED. -/
def State.envelope (s : State) (since : Nat) (v0 : Int) : Int :=
  let c := s.sv.active.sv
  max ((c.stopSpeed : Int) * 1000000000)
    ((v0 + c.rampMargin) * 1000000000 - (c.decelMin : Int) * ((s.clock : Int) - since))

/-- The faster encoder's window is above a speed given times 10^9 (R290, R299). -/
def State.aboveScaled (s : State) (v : Int) : Bool :=
  s.serving.any fun e =>
    decide (s.windowCount e > (98 * ((s.encCfg e).cpr : Int) * v) / (25600000 * 1000000000) - 1)

/-- The check of DUSK at a window (R299): a ramp violation, or a window below STOP_SPEED. -/
def State.checkDusk (s : State) : State :=
  match s.sv.dusk with
  | none => s
  | some (t, v0) =>
    if s.aboveScaled (s.envelope t v0) then
      ({ s with sv := { s.sv with
          counters := { s.sv.counters with rampViolations := s.sv.counters.rampViolations.inc } } }).svFault .rampViolation
    else if s.fasterBelow s.sv.active.sv.stopSpeed then s.enterEclipse else s

/-- A window above SLS_HIGH, and net reverse movement above SDI_TOL (R290, R295). -/
def State.checkSpeed (s : State) : State :=
  let s := if s.fasterAbove s.limitSet.slsHigh then s.svFault .slsHigh else s
  if s.serving.any fun e => decide (s.sv.active.sv.sdiTol < (s.svEnc e).reverse) then s.svFault .direction else s

/-- The end of a speed window. -/
def State.closeSpeedWindow (s : State) : State :=
  let s := s.countEmitted.each [0, 1] fun s e => s.modSvEnc e SvEncoder.closeWindow
  let s := ({ s with sv := { s.sv with windowAt := some s.clock } } : State).chooseSet.watchAgreement
  let s := if s.sv.run = .dusk then s.checkDusk else s.checkSpeed
  s.refreshPermit

/-- No used encoder that serves has counted an edge for STANDSTILL_TIME (R290, R299). Entry 37, DEDUCED. -/
def State.standing (s : State) : Bool :=
  s.serving.all fun e => s.elapsed (s.svEnc e).lastEdge s.sv.active.sv.standstillTime 98

/-! ## Changes of the configuration (R271, R286) -/

/-- LOCKOUT is entered after a change of the configuration; the device is in Ready-idle then (R286, R297).
Entry 39, DEDUCED. -/
def State.enterLockout (s : State) : State :=
  let s := if s.dev.run = .eclipse then s.enterReadyIdle else s
  ({ s with sv := { s.sv with dusk := none } }).svGo .lockout

/-- The CRC-32 of the active configuration. -/
def State.safetyCrc (s : State) : Fld := fU32 (Config.safetyCrc s.sv.active).toNat

/-- The staging commands and SV_COMMIT are LOCKED (R286). -/
def State.safetyLocked (s : State) : Bool :=
  !(decide (s.sv.run = .lockout) || decide (s.sv.run = .eclipse) || (decide (s.sv.run = .normal) && !s.anyRunning))

/-- Fields of SV_CONFIG in their ranges (R287). -/
def svCfgOk (c : SvCfg) : Bool :=
  isBit c.startMode && decide (c.speedSrc ≤ 2) && decide (c.secIndexOffset ≤ 65535) && within 1 20 c.agreeTol &&
    within 1 1000 c.standstillTime && decide (c.sdiTol ≤ 65535) && within 1 1048575 c.stopSpeed &&
    within 1 1048575 c.decelMin && decide (c.rampMargin ≤ 1048575) && within 10 60000 c.rampTime &&
    within 1 600 c.twilightTime && within 1 100 c.twilightFrac && within 1 255 c.emisLimit && within 1 500 c.resetDisc

/-- Fields of SV_INPUT_CONFIG in their ranges (R288). -/
def svInputCfgOk (c : SvInputCfg) : Bool :=
  decide (c.function ≤ 3) && isBit c.mode && within 1 500 c.discTime && isBit c.restart

/-- Fields of SV_LIMIT_SET in their ranges, SLS_HIGH above SLS_LOW (R292). -/
def limitSetOk (c : LimitSet) : Bool :=
  decide (c.slsLow ≤ 1048575) && within (c.slsLow + 1) 1048575 c.slsHigh && [1, 2, 4, 8, 16, 32, 64].contains c.sectors &&
    within 1 1000 c.budgetWin && decide (c.budget ≤ 4294967295)

/-- Fields of SV_SLP_WINDOW in their ranges (R292). -/
def slpWindowOk (c : SlpWindow) : Bool := isBit c.enable && decide (c.start ≤ 65535) && decide (c.stop ≤ 65535)

/-- Fields of ENC_CONFIG in their ranges (R271). -/
def encCfgOk (c : EncCfg) : Bool :=
  isBit c.enable && within 256 32768 c.cpr && decide (c.cpr % 4 = 0) && isBit c.invertDir && decide (c.indexState ≤ 4) &&
    decide (c.indexTol ≤ 15) && decide (c.filter ≤ 3) && isBit c.term

/-- The staging area as a whole (R286). -/
def safetyCfgOk (c : SafetyCfg) : Bool :=
  svCfgOk c.sv && (c.inputs.all fun p => svInputCfgOk p.2) && (c.limits.all fun p => limitSetOk p.2) &&
    (c.weights.all fun p => decide (p.2 ≤ 255)) && (c.slp.all fun p => slpWindowOk p.2) &&
    (c.encoders.all fun p => encCfgOk p.2)

/-- The staging area with a change. -/
def State.stage (s : State) (f : SafetyCfg → SafetyCfg) : State :=
  { s with sv := { s.sv with staged := f s.sv.staged } }

/-- Active configuration and staging area with a change (R286). -/
def State.reconfigure (s : State) (f : SafetyCfg → SafetyCfg) : State :=
  { s with sv := { s.sv with active := f s.sv.active, staged := f s.sv.staged } }

end Sys2Proof.Machine
end

