-- ==== Sys2Proof/Machine/Supervisor.lean ====
section
/-! DEFINITION. Commands and happenings of the safety supervisor (R271, R273, R284 to R304, R230, R382). -/

namespace Sys2Proof.Machine

/-! ## Safety configuration commands -/

/-- ENC_CONFIG (R271, R286). -/
def execEncConfig (encoder : Nat) (cfg : EncCfg) (verified : Bool) : State → Out :=
  dualRow (.encConfig encoder cfg verified) fun s =>
    let f (c : SafetyCfg) : SafetyCfg := { c with encoders := Tab.put EncCfg.reset c.encoders encoder cfg }
    .gives [(decide (1 < encoder) || !encCfgOk cfg, .badArg), (s.ranging, .locked), s.noStore,
            (!s.isReady readySafety, .notReady)]
      (s.storing calSafety (.safety (f s.sv.active)) verified fun s =>
        let s := ((s.countEmitted.reconfigure f).estRestart encoder).modSvEnc encoder fun y => { y with indexSeen := false }
        let s := if s.sv.run = .nadir then s else s.enterLockout
        (s.checkEncoders.refreshPermit, [s.safetyCrc]))

/-- EVCH_KEYLOCK (R230, R286): ACTION 1 lock, 0 release. -/
def execEvchKeylock (channel action key : Nat) (verified : Bool) : State → Out :=
  dualRow (.evchKeylock channel action key verified) fun s =>
    let held := s.sv.active.keylocks.find? fun p => decide (p.1 = channel)
    let idle := s.dev.run = .readyIdle ∨ s.dev.run = .eclipse
    let f (c : SafetyCfg) : SafetyCfg :=
      { c with keylocks := if action = 1 then Tab.insert c.keylocks channel key else Tab.erase c.keylocks channel }
    .gives [(decide (255 < channel) || !isBit action || decide (65535 < key), .badArg),
            (decide (action = 0) && !(decide idle && (held.all fun p => decide (p.2 = key))), .safetyDenied),
            (decide (action = 1) && held.isSome, .busy),
            (!s.isReady readySafety, .notReady), (decide (action = 1 ∨ held.isSome) && s.noStore.1, .notReady)]
      (if action = 0 ∧ held.isNone then .done s .ok [s.safetyCrc] []
       else s.storing calSafety (.safety (f s.sv.active)) verified fun s =>
         let s := s.reconfigure f
         (s, [s.safetyCrc]))

/-- SV_CONFIG (R286, R287). -/
def execSvConfig (cfg : SvCfg) : State → Out :=
  dualRow (.svConfig cfg) fun s =>
    .plain [(!svCfgOk cfg, .badArg), (s.safetyLocked, .locked)] (s.stage fun c => { c with sv := cfg })

/-- SV_INPUT_CONFIG (R286, R288). -/
def execSvInputConfig (input : Nat) (cfg : SvInputCfg) : State → Out :=
  dualRow (.svInputConfig input cfg) fun s =>
    .plain [(decide (3 < input) || !svInputCfgOk cfg, .badArg), (s.safetyLocked, .locked)]
      (s.stage fun c => { c with inputs := Tab.put SvInputCfg.reset c.inputs input cfg })

/-- SV_LIMIT_SET (R286, R292). -/
def execSvLimitSet (set : Nat) (cfg : LimitSet) : State → Out :=
  dualRow (.svLimitSet set cfg) fun s =>
    .plain [(decide (1 < set) || !limitSetOk cfg, .badArg), (s.safetyLocked, .locked)]
      (s.stage fun c => { c with limits := Tab.put LimitSet.reset c.limits set cfg })

/-- SV_ROW_WEIGHT (R286, R292). -/
def execSvRowWeight (first count : Nat) (weights : List Nat) : State → Out :=
  dualRow (.svRowWeight first count weights) fun s =>
    .plain [(badRange first count 64 || decide (weights.length ≠ count) || (weights.any fun w => decide (255 < w)), .badArg),
            (s.safetyLocked, .locked)]
      (s.stage fun c => { c with
        weights := ((numbers first count).zip weights).foldl (fun t p => Tab.put 1 t p.1 p.2) c.weights })

/-- SV_SLP_WINDOW (R286, R292). -/
def execSvSlpWindow (set window : Nat) (cfg : SlpWindow) : State → Out :=
  dualRow (.svSlpWindow set window cfg) fun s =>
    .plain [(decide (1 < set) || decide (15 < window) || !slpWindowOk cfg, .badArg), (s.safetyLocked, .locked)]
      (s.stage fun c => { c with slp := Tab.put SlpWindow.reset c.slp (16 * set + window) cfg })

/-- SV_COMMIT (R286): the staging area is checked, stored, made active; the supervisor enters LOCKOUT. -/
def execSvCommit (verified : Bool) : State → Out :=
  dualRow (.svCommit verified) fun s =>
    .gives [(!safetyCfgOk s.sv.staged, .badArg), (s.safetyLocked, .locked), s.noStore]
      (s.storing calSafety (.safety s.sv.staged) verified fun s =>
        let s := s.countEmitted
        let s := { s with sv := { s.sv with active := s.sv.staged, awaitsCommit := false } }
        (s.enterLockout.checkEncoders.refreshPermit, [s.safetyCrc]))

/-! ## Status -/

/-- The number of a state of R297. -/
def SvRun.code : SvRun → Nat
  | .init => 0
  | .lockout => 1
  | .normal => 2
  | .twilight => 3
  | .dusk => 4
  | .eclipse => 5
  | .nadir => 6

/-- The faults of each class in the order of R296, those of two lines together. -/
def faultsOf : FaultClass → List (List SvFault)
  | .single => [[.stoReadback 0, .stoReadback 1], [.darkReadback 0, .darkReadback 1], [.sstReadback 0, .sstReadback 1],
                [.encoderFailed 0], [.encoderFailed 1]]
  | .demand => [[.agreement], [.direction], [.slsHigh], [.motorFault], [.emisLimit]]
  | .stop => [[.bothEncoders], [.coreMismatch], [.oscillator], [.supplyMonitor], [.emission], [.rampViolation]]

/-- The latched faults of one class, one bit each (R304). Entry 40, DEDUCED. -/
def State.faultFlags (s : State) (k : FaultClass) : Fld := fFlags ((faultsOf k).map fun l => l.any fun f => s.sv.faults.contains f)

/-- The conditions of R293 that withdraw the permit, in its order. -/
def State.withdrawing (s : State) : Fld :=
  fFlags [decide (s.sv.run ≠ .normal ∧ s.sv.run ≠ .twilight), s.permitInputBlocks, s.tooSlow, !s.directionOk]

/-- The Twilight time remaining in s, rounded up; 0 outside TWILIGHT. -/
def State.twilightLeft (s : State) : Nat :=
  if s.sv.run = .twilight then
    (s.sv.active.sv.twilightTime * 1000000000 - (s.clock - s.sv.twilightFrom) + 999999999) / 1000000000
  else 0

/-- SV_STATUS (R304). Entry 40, DEDUCED. -/
def execSvStatus (dst : Nat) : State → Out :=
  cmdRow (.svStatus dst) fun s =>
    let s := s.countEmitted
    let c := s.sv.counters
    let sectors := List.range s.limitSet.sectors
    let input (i : Nat) : List Fld :=
      let x := s.safeInput i
      [fBool x.a, fBool x.b, fBool x.faultLatched]
    let enc (e : Nat) : List Fld := [fS32 (s.svEnc e).lastWindow, fBool (s.encFailed e)]
    .block [] s dst
      ([fU8 s.sv.run.code, s.faultFlags .single, s.faultFlags .demand, s.faultFlags .stop, fBool s.sv.emissionFault,
        fBool s.sv.permit, s.withdrawing, fBool s.sv.setB] ++ (List.range 4).flatMap input ++ enc 0 ++ enc 1 ++
        (sectors.map fun k => fU32 (min countMax (s.sectorCount k))) ++ [fU16 s.twilightLeft, s.safetyCrc] ++
        ((List.range 4).map fun i => fU32 (s.safeInput i).discFaults) ++
        [fU32 c.twilightEntries, fU32 c.safeStops, fU32 c.stopFaults, fU32 c.rampViolations] ++
        (sectors.map fun k => fU32 (Tab.get 0 c.budgetDark k)) ++
        [fU32 c.slsLowDark, fU32 c.resetsAccepted, fU32 c.resetsRejected])

/-- SV_SAFE_STOP (R295, R297, R303). -/
def execSvSafeStop : State → Out := cmdRow .svSafeStop fun s => .plain [] s.safeStop

/-- SV_COUNTERS_CLEAR (R304). -/
def execSvCountersClear : State → Out :=
  cmdRow .svCountersClear fun s =>
    .plain []
      (({ s with sv := { s.sv with counters := SvCounters.zero } }).each [0, 1, 2, 3] fun s i =>
        s.modSafeInput i fun x => { x with discFaults := 0 })

/-! ## Happenings -/

/-- SV_SAMPLE_TICK (R285, R289, R300): levels at the balls once per timer period, acted on once the supervisor has passed
its own test and the Self-test of a cold start has ended (R401); a reset in INIT is rejected (R402). Entry 38, DEDUCED. -/
def execSvSampleTick (levels : SafeLevels) (s : State) : Out :=
  if !s.since s.sv.sampleAt samplePeriod then .next s
  else if s.sv.run = .init then
    if s.dev.rstLow then .next s
    else
      let t := (s.sampleReset levels.srstA levels.srstB).countSample
      .next (if t.sv.resetReady then t.countReset false else t)
  else if !s.ballsActed then .next s.countSample
  else .next (s.svSample levels)

/-- DISCREPANCY_FAULT (R289): the count of disagreement has reached Td / 10 µs. -/
def execDiscrepancyFault (input : Nat) (s : State) : Out :=
  if 3 < input then .next s
  else
    let x := s.safeInput input
    if discSamples (s.svInputCfg input) ≤ x.disagree ∧ !x.faultLatched then
      .next ((s.setSafeInput input
        { x with faultLatched := true, bothDemanded := false, demanding := true, discFaults := x.discFaults.inc }).refreshPermit)
    else .next s

/-- SAFETY_RESET (R300): a reset whose conditions were met acts at the later fall. -/
def execSafetyReset (s : State) : Out := if s.sv.resetReady then .next s.safetyReset else .next s

/-- SPEED_WINDOW (R285, R290): the end of a 1 ms window. -/
def execSpeedWindow (s : State) : Out :=
  if s.sv.run = .init ∨ !s.since s.sv.windowAt windowPeriod then .next s else .next s.closeSpeedWindow

/-- AGREEMENT_FAULT (R291): the encoders have disagreed in 10 consecutive windows. -/
def execAgreementFault (s : State) : Out :=
  if 10 ≤ s.sv.agreeRun then .next (s.svFault .agreement) else .next s

/-- STANDSTILL (R290, R297): in DUSK it ends the stop. -/
def execStandstill (s : State) : Out :=
  if s.sv.run = .dusk ∧ s.standing then .next s.enterEclipse else .next s

/-- RAMP_TIME_EXPIRY (R297, R299). -/
def execRampTimeExpiry (s : State) : Out :=
  match s.sv.dusk with
  | none => .next s
  | some (t, _) =>
    if s.sv.run = .dusk ∧ s.elapsed t s.sv.active.sv.rampTime 98 then .next s.enterEclipse else .next s

/-- TWILIGHT_TIMEOUT (R295, R298). -/
def execTwilightTimeout (s : State) : Out :=
  if s.sv.run = .twilight ∧ s.elapsed s.sv.twilightFrom (s.sv.active.sv.twilightTime * 1000) 98 then .next s.safeStop
  else .next s

/-- BUDGET_WINDOW_END (R294): counts restart; the next window has the BUDGET_WIN of the set in force. -/
def execBudgetWindowEnd (s : State) : Out :=
  if s.sv.run ≠ .init ∧ s.elapsed s.sv.budgetStart s.sv.budgetWin 98 then
    let s := s.countEmitted
    .next ({ s with sv := { s.sv with
      sectorCounts := []
      budgetStart := s.clock
      budgetWin := s.limitSet.budgetWin } }).refreshDark
  else .next s

/-- SECTOR_BUDGET_REACHED (R294): the count of a sector, every pulse emitted so far counted, has reached the budget in force. -/
def execSectorBudgetReached (sector : Nat) (s : State) : Out :=
  if 63 < sector then .next s
  else
    let counted := s.countEmitted
    if counted.budget ≤ counted.sectorCount sector then .next counted.refreshDark else .next s

/-- The fault of a happening of the supervisor itself (R296). -/
def faultOf : SvFaultCause → SvFault
  | .stoReadback n => .stoReadback n
  | .darkReadback n => .darkReadback n
  | .sstReadback n => .sstReadback n
  | .coreMismatch => .coreMismatch
  | .oscillator => .oscillator
  | .supplyMonitor => .supplyMonitor

/-- SUPERVISOR_FAULT (R281, R296, R302): a fault is found, or (`stands` false) its cause has gone. Entry 38, DEDUCED. -/
def execSupervisorFault (finding : SvFinding) (s : State) : Out :=
  let f := faultOf finding.cause
  let rest := s.sv.standing.filter (· ≠ f)
  if !finding.cause.lineOk then .next s
  else if finding.stands then
    .next ((({ s with sv := { s.sv with standing := f :: rest } } : State).svFault f).noteReadback s)
  else .next (({ s with sv := { s.sv with standing := rest } } : State).noteReadback s)

/-- ENCODER_PAIR_FAULT (R270, R273, R291): a receiver reports an open or shorted pair, that of the stamping path as a count
error, or that of the supervisor as a failure of the encoder; ENABLE 0 ignores both (R271), and so does a cold start until its
Self-test ends (R401). -/
def execEncoderPairFault (receiver : PairReceiver) (s : State) : Out :=
  let encoder := receiver.encoder
  if 1 < encoder then .next s
  else if (s.encCfg encoder).enable = 0 ∨ !s.ballsActed then .next s
  else if receiver.supervisor then
    let was := s.encFailed encoder
    let s := s.countEmitted.modSvEnc encoder fun x => { x with pairOpen := true, pairAt := s.clock }
    .next ((s.encoderFault encoder !was).refreshPermit)
  else .next (s.countError encoder)

/-- ENCODER_PAIR_RESTORED (R291): the receiver has reported the pair sound for 10 ms. -/
def execEncoderPairRestored (encoder : Nat) (s : State) : Out :=
  if 1 < encoder then .next s
  else if (s.svEnc encoder).pairOpen ∧ s.elapsed (s.svEnc encoder).pairAt 10 98 then
    .next ((s.countEmitted.modSvEnc encoder fun x => { x with pairOpen := false }).refreshPermit)
  else .next s

/-- COUNT_ERROR_NOT_CLEARED (R291): no index edge has cleared a count error within 10 ms. -/
def execCountErrorNotCleared (encoder : Nat) (s : State) : Out :=
  if 1 < encoder then .next s
  else
    let x := s.svEnc encoder
    if x.countError ∧ !x.countFailed ∧ s.elapsed x.countErrorAt 10 98 then
      .next (((s.countEmitted.setSvEnc encoder { x with countFailed := true }).encoderFault encoder !s.encFailed encoder
        ).refreshPermit)
    else .next s

end Sys2Proof.Machine
end

