-- ==== Sys2Proof/Machine/CalRuns.lean ====
section
/-! DEFINITION. Runs of calibration: what is due, interpolation every 1 ms, nonlinearity runs and skew tracking (R308,
R312, R315, R317, R446). -/

namespace Sys2Proof.Machine

/-! ## Interpolation -/

/-- Every per-set value at the present readings (R312). -/
def State.refreshCal (s : State) : State :=
  s.each [calOut, calIn, calLane, calTof] fun s o => s.setCalForce o (s.calValues o)

/-! ## What is due (R315) -/

/-- The number of inputs of R134 that a nonlinearity run can take. -/
def nlInputs : Nat := 576

/-- The sensor of an input. -/
def inSensor (i : Nat) : Nat := if i < 512 then i / 64 else (i - 512) / 8

/-- The sensor has moved by more than ΔT since the run of the unit. -/
def State.moved (s : State) (r : CalRunState) (u sensor : Nat) : Bool :=
  decide (8 * s.cal.cfg.deltaT < (s.sensor sensor - r.reading u).natAbs)

/-- Units added to those scheduled. -/
def CalRunState.ask (r : CalRunState) (us : List Nat) : CalRunState :=
  { r with scheduled := r.scheduled ++ us.filter fun u => !r.scheduled.contains u }

/-- Units that CAL_RUN asks for. -/
def CalRunState.command (r : CalRunState) (us : List Nat) : CalRunState :=
  { r.ask us with asked := r.asked ++ us.filter fun u => !r.asked.contains u }

/-- What CAL_RUN asked for is given up (R404). -/
def CalRunState.giveUp (r : CalRunState) : CalRunState :=
  { r with scheduled := r.scheduled.filter fun u => !r.asked.contains u, asked := [] }

/-- Automatic runs that are scheduled are stopped, but for those that `keep` names (R314). -/
def CalRunState.stopAuto (r : CalRunState) (keep : Nat → Bool) : CalRunState :=
  { r with scheduled := r.scheduled.filter fun u => r.asked.contains u || keep u }

/-- An idle-only function is scheduled once the die has moved by more than ΔT since its last successful run (R315): there is
none to compare with before the first. Entry 42, DEDUCED. -/
def State.scheduleIdle (s : State) (k : Nat) : State :=
  let r := s.calRunState k
  if r.done && decide (8 * s.cal.cfg.deltaT < (s.dieTemp - r.reading 0).natAbs) then s.setCalRunState k (r.ask [0]) else s

/-- Scheduled idle-only functions begin in Ready-idle (R315): the BIST, else a recalibration once no relock is in progress. -/
def State.startIdle (s : State) : State :=
  let s := s.startBist
  if s.dev.run = .readyIdle ∧ !s.dev.bist ∧ !(s.calRunState 4).scheduled.isEmpty ∧ s.pll.locked ∧ s.pll.anyUsable then
    (s.modCalRunState 4 fun r => r.drop 0).performPll .recal
  else s

/-- Runs that the temperature calls for are scheduled, where AUTO allows (R314, R315). Entry 42, DEDUCED. -/
def State.scheduleRuns (s : State) : State :=
  let a := s.cal.cfg.auto
  let nl := s.calRunState 0
  let sk := s.calRunState 1
  let s := if a % 2 = 1 then
      s.setCalRunState 0 (nl.ask ((List.range nlInputs).filter fun i => s.moved nl i (inSensor i)))
    else s
  let s := if a / 2 % 2 = 1 then s.setCalRunState 1 (sk.ask ((List.range 16).filter fun k => s.moved sk k k)) else s
  [3, 4].foldl State.scheduleIdle s

/-! ## Over-temperature (R446) -/

/-- A reading at or above 135 °C demands a safe stop, repeated until every reading lies below 130 °C.
Entry 42, DEDUCED. -/
def State.watchHeat (s : State) : State :=
  let at_ (t : Int) : Bool := (List.range 16).any fun k => decide (t ≤ s.sensor k)
  let begins := at_ 1080 && !s.cal.hot
  let hot := at_ 1080 || (s.cal.hot && at_ 1040)
  let s := { s with cal := { s.cal with hot := hot } }
  let s := if hot then s.safeStop else s
  if begins then s.cause 3 else s

/-! ## Nonlinearity runs (R308, R316) -/

/-- An input opens gates, so that new tables wait for the next gate that opens: a hit channel of ranging class. -/
def State.opensGates (s : State) (i : Nat) : Bool := decide (i < 512) && decide ((s.chan i).cfg.cls = 0)

/-- The codes of a converter: 4 tq each over one TCK cycle (R140, R160). Entry 42, DEDUCED. -/
def codeCount : Nat := 256

/-- A converter's code-density histogram passes (R160, R308): at least 131,072 conversions, and every code as wide as a code
within half a code. Entry 42, DEDUCED. -/
def densityPasses (h : List Nat) : Bool :=
  decide (h.length = codeCount ∧ 131072 ≤ h.sum) &&
    h.all fun n => decide (h.sum ≤ 2 * codeCount * n ∧ 2 * codeCount * n ≤ 3 * h.sum)

/-- A run passes: each of the four converters does. -/
def runPasses (counts : List (List Nat)) : Bool := decide (counts.length = 4) && counts.all densityPasses

/-- The tables that the device derives from a histogram (R308). Entry 16, DESIGN CHOICE. -/
def tablesOf (h : List Nat) : VernierTables :=
  { inl := (List.range 33).map (Config.inlOf h), ph := (List.range 8).map (Config.phOf h) }

/-- An input's run passes: new tables, in force from the next gate that opens. -/
def State.newVernier (s : State) (i : Nat) (ts : List VernierTables) : State :=
  let s := s.modInput i fun x => { x with newTables := some ts }
  let s := if s.opensGates i then s else s.applyTables i
  s.modCalRunState 0 fun r => r.ran i (s.sensor (inSensor i)) s.now

/-- An input's run fails: the previous values stay. Entry 42, DEDUCED. -/
def State.nlFailed (s : State) (i : Nat) : State :=
  let s := { s with cal := { s.cal with nlFail := s.cal.nlFail.inc } }
  s.modCalRunState 0 fun r => r.ended i (s.sensor (inSensor i)) s.now

/-- The VERNIER object's values as they stand: for each listed input, the newest tables of its four converters. -/
def State.vernierNow (s : State) : Tab (List VernierTables) :=
  s.rx.inputs.filterMap fun (i, (x : InputState)) =>
    let ts := x.newTables.getD ((List.range 4).map fun k => (Tab.get Converter.reset x.convs k).tables)
    if ts.all fun v => decide (v = VernierTables.zero) then none else some (i, ts)

/-! ## Skew tracking (R317) -/

/-- A correction within ±64 tq is applied, one beyond keeps the previous and is counted. -/
def State.correctSkew (s : State) (isOut : Bool) (u : Nat) (d : Int) : State :=
  if 64 < d.natAbs then { s with cal := { s.cal with driftLimit := s.cal.driftLimit.inc } }
  else if isOut then { s with cal := { s.cal with outCorr := Tab.put 0 s.cal.outCorr u d } }
  else { s with cal := { s.cal with inCorr := Tab.put 0 s.cal.inCorr u d } }

/-- Δo of an output from its measurement. -/
def State.trackOut (s : State) (p : Nat × Int) : State :=
  if 127 < p.1 then s else s.correctSkew true p.1 (p.2 - Tab.get 0 (s.calForce calOut) (itemM0Out p.1))

/-- Δc of a channel from its measurement, with Δo of its lane's reference output. -/
def State.trackIn (s : State) (p : Nat × Int) : State :=
  let o := s.cal.cfg.refOut.getD (p.1 / 64) 0
  if 511 < p.1 then s
  else s.correctSkew false p.1 (p.2 - Tab.get 0 (s.calForce calIn) (itemM0In p.1) - Tab.get 0 s.cal.outCorr o)

/-- The objects that tracking needs are there (R320). -/
def State.tracks (s : State) : Bool :=
  (s.calStore calOut).valid && (s.calStore calIn).valid && (s.calStore calLane).valid

/-- What a run on a sensor measures (R311, R315): the channels of a hit group, or sixteen outputs. -/
def skewUnits (sensor : Nat) : List SkewUnit :=
  if sensor < 8 then (numbers (64 * sensor) 64).map .channel else (numbers (16 * (sensor - 8)) 16).map .output

/-- The output, the lane and the lane's channel of a measurement: m(n, REF_CH(l)) of an output, m(REF_OUT(k), j) of a
channel (R317). -/
def State.skewPath (s : State) : SkewUnit → Nat × Nat × Nat
  | .output n => (n, n % 8, s.cal.cfg.refCh.getD (n % 8) 0 % 64)
  | .channel c => (s.cal.cfg.refOut.getD (c / 64) 0, c / 64, c % 64)

/-- The firmware's request for a measurement (R84, R315): SLOT mode where the output's sequencer reserves test slots, GAP mode
otherwise. Entry 42, DEDUCED. -/
def State.skewReq (s : State) (width deadline : Nat) (u : SkewUnit) : TestReq :=
  let (o, l, c) := s.skewPath u
  let slots := match s.seqOfOutput o with
    | some n => (s.seq n).testSlot.isSome
    | none => false
  { testId := 0, output := o, lane := l, channel := c, width := width, mode := slots.toNat, earliest := FullTime.zero,
    deadline := deadline }

/-- A lane serves a measurement of the firmware. -/
def State.laneTracks (s : State) (l : Nat) : Bool := (s.lane l).any fun j => j.unit.isSome

/-- One measurement of a run: left out where the output allows no test pulse, put off while its lane serves another, is full
or is not ready, else in the lane's queue, in arrival order (R76, R84). Entry 42, DEDUCED. -/
def State.feedUnit (width deadline : Nat) (p : State × List SkewUnit) (u : SkewUnit) : State × List SkewUnit :=
  let (s, later) := p
  let q := s.skewReq width deadline u
  if (s.testCfg q.output).testAllow = 0 then (s, later)
  else if s.laneTracks q.lane ∨ 16 ≤ (s.lane q.lane).length ∨ !(s.isReady readyPll && s.isReady (readyHg q.lane)) then
    (s, later ++ [u])
  else (s.modLane q.lane (· ++ [s.testJob q (some u)]), later)

/-- A run goes on: what can be measured now enters the lanes' queues. -/
def State.feedTrack (s : State) (width deadline : Nat) (r : SkewRun) : State :=
  let (s, later) := r.todo.foldl (State.feedUnit width deadline) (s, [])
  { s with cal := { s.cal with track := s.cal.track.map fun x => { x with todo := later } } }

/-- A run begins. -/
def State.beginTrack (s : State) (sensor width deadline : Nat) : State :=
  let r : SkewRun := { sensor := sensor, todo := skewUnits sensor, outM := [], inM := [] }
  ({ s with cal := { s.cal with track := some r } } : State).feedTrack width deadline r

/-- A run is measured: corrections follow from the measurements with status OK (R317). A run without one was no successful
run. -/
def State.endTrack (s : State) (r : SkewRun) : State :=
  let t := r.inM.foldl State.trackIn (r.outM.foldl State.trackOut s)
  let t := { t with cal := { t.cal with track := none } }
  t.modCalRunState 1 fun x =>
    if r.outM.isEmpty && r.inM.isEmpty then x.ended r.sensor (s.sensor r.sensor) s.now
    else x.ran r.sensor (s.sensor r.sensor) s.now

/-- The run of skew tracking under way ends where its sensor is no longer scheduled: its measurements that wait in the lanes'
queues are dropped, a pulse that is placed goes on (R314). Entry 42, DEDUCED. -/
def State.stopTrack (s : State) : State :=
  match s.cal.track with
  | none => s
  | some r =>
    if (s.calRunState 1).scheduled.contains r.sensor then s
    else
      let s := s.each (List.range 8) fun s l => s.modLane l fun q => q.filter fun j => j.unit.isNone || j.placed.isSome
      { s with cal := { s.cal with track := none } }

/-- A cleared AUTO bit stops automatic runs, those that are scheduled too (R314); the runs that a missing VERNIER object calls
for are not among them (R320). Entry 42, DEDUCED. -/
def State.stopAuto (s : State) : State :=
  let a := s.cal.cfg.auto
  let needed (i : Nat) : Bool := !(s.calStore calVernier).valid && !s.isReady (readyHg (inSensor i))
  let s := if a % 2 = 1 then s else s.modCalRunState 0 fun r => r.stopAuto needed
  let s := if a / 2 % 2 = 1 then s else s.modCalRunState 1 fun r => r.stopAuto fun _ => false
  s.stopTrack

/-- Everything of a run has been asked for and served. -/
def State.trackDone (s : State) (r : SkewRun) : Bool := r.todo.isEmpty && !(List.range 8).any s.laneTracks

end Sys2Proof.Machine
end

