-- ==== Sys2Proof/Machine/Calibration.lean ====
section
/-! DEFINITION. Commands and happenings of calibration (R307 to R322, R383, R384, R446). -/

namespace Sys2Proof.Machine

/-! ## Commands -/

/-- Fields of CAL_CONFIG in their ranges (R314). -/
def calCfgOk (c : CalCfg) : Bool :=
  within 1 16 c.deltaT && decide (c.auto ≤ 7) && within 1 3600 c.enginePeriod && decide (c.refOut.length = 8) &&
    decide (c.refCh.length = 8) && (List.range 8).all fun k =>
      let o := c.refOut.getD k 0
      decide (o < 128 ∧ o % 8 = k) && decide (c.refCh.getD k 0 / 64 = k)

/-- CAL_CONFIG (R314): a cleared AUTO bit stops automatic runs at once. -/
def execCalConfig (cfg : CalCfg) : State → Out :=
  cmdRow (.calConfig cfg) fun s =>
    .plain [(!calCfgOk cfg, .badArg),
            (s.ranging && decide (cfg.refOut ≠ s.cal.cfg.refOut ∨ cfg.refCh ≠ s.cal.cfg.refCh), .locked)]
      ({ s with cal := { s.cal with cfg := cfg } } : State).stopAuto

/-- FIRST and COUNT of CAL_RUN (R384). -/
def calUnitsBad (function first count : Nat) : Bool :=
  if function = 0 then badRange first count nlInputs
  else if function = 2 then badRange first count engineCount
  else decide (first ≠ 0 ∨ count ≠ 0)

/-- The runs that CAL_RUN schedules (R315, R316, R392): a recalibration is performed at once in Ready-idle, and in Ranging once
the sequencers have stopped; elsewhere it waits for Ready-idle, its mode in R315. Entry 42, DEDUCED. -/
def State.askRun (s : State) (function first count : Nat) : State :=
  if function = 4 then
    if s.dev.run = .readyIdle ∨ s.ranging then s.changePlan .recal else s.modCalRunState 4 fun r => r.command [0]
  else
    let units := if function = 1 then List.range 16 else if function = 3 then [0] else numbers first count
    let s := s.modCalRunState function fun r => r.command units
    if function ≠ 3 then s
    else if s.anyRunning then s.stopSequencers Reasons.forced
    else s.startBist

/-- What CAL_RUN works on is not ready (R392, R393): the hit groups of the inputs, for skew tracking every group, the engines.
Entry 42, DEDUCED. -/
def State.runUnready (s : State) (function first count : Nat) : Bool :=
  if function = 0 then (numbers first count).any fun i => !s.isReady (readyHg (inSensor i))
  else if function = 1 then (List.range 8).any fun k => !s.isReady (readyHg k)
  else decide (function = 2) && !s.isReady readyEngines

/-- CAL_RUN (R241, R316, R321, R384). Entry 42, DEDUCED. -/
def execCalRun (function force first count : Nat) : State → Out :=
  cmdRow (.calRun function force first count) fun s =>
    .gives ([(decide (4 < function) || !isBit force || calUnitsBad function first count, .badArg),
            (decide (3 ≤ function) && s.ranging && decide (force = 0), .busy),
            (decide (function = 3) && s.dev.bist, .busy),
            (!s.pll.locked || s.runUnready function first count, .notReady)] ++
            (if function = 4 then s.changeChecks .recal force else []))
      (.done (s.askRun function first count) .accepted [] [])

/-- What CAL_STATUS says of an object (R322). -/
def State.calObjectFields (s : State) (o : Nat) : List Fld :=
  let x := s.calStore o
  [fBool !x.valid, fU32 x.generation.toNat, fBool (x.a.valid x.id), fBool (x.b.valid x.id), fBool x.interrupted.isSome,
   fU32 (x.interrupted.getD 0).toNat]

/-- CAL_STATUS (R322). Entry 42, DEDUCED. -/
def execCalStatus (dst : Nat) : State → Out :=
  cmdRow (.calStatus dst) fun s =>
    let run (k : Nat) : List Fld := [fS16 (s.calRunState k).lastReading, fT (FullTime.ofTq (s.calRunState k).lastTime)]
    .block [] s dst
      ((numbers 1 7).flatMap s.calObjectFields ++ (List.range 5).flatMap run ++
        ((List.range 16).map fun k => fS16 (s.sensor k)) ++
        [fU32 s.cal.nlFail, fU32 s.cal.driftLimit, fU32 s.cal.storeFail])

/-- A list of sets with set `k` replaced, or added behind the last. -/
def putSet (sets : List CalSet) (k : Nat) (x : CalSet) : List CalSet :=
  if k < sets.length then sets.set k x else sets ++ [x]

/-- SET names one of the up to 8 sets of an object, or the next (R307). -/
def State.setBad (s : State) (o k : Nat) : Bool := decide (7 < k ∨ (s.calWork o).length < k)

/-- Values as a set holds them. -/
def valsOf (l : List Int) : Tab Int := (((List.range l.length).zip l).filter fun p => decide (p.2 ≠ 0))

/-- The DMA read of a set fails over a link that works (R323, R356). Entry 14, PRESUMED. -/
def State.noteSetRead (s : State) (c : Instr) (object len : Nat) (data : Option (List Int)) : State :=
  if s.rowDue c ∧ s.dmaOk ∧ data.isNone ∧ perSet object ∧ len = 2 * calItems object then s.readError else s

/-- CAL_SET_WRITE (R312, R321, R384): `data` is what the DMA read brings, none where it fails; of an object that it does
not write, or with another LEN, nothing is read. -/
def execCalSetWrite (object set : Nat) (temp : Int) (len src : Nat) (data : Option (List Int)) (s : State) : Out :=
  let c : Instr := .calSetWrite object set temp len src data
  s.noteSetRead c object len data |> cmdRow c fun s =>
    let vs := data.getD []
    let sets := putSet (s.calWork object) set { temp := temp, vals := valsOf vs }
    .plain [(!within 1 7 object || (perSet object && (s.setBad object set || decide (len ≠ 2 * calItems object) ||
              !tempsRise sets)) || (decide (object = calVernier) && decide (len ≠ (CalPayload.vernier []).size object)), .badArg),
            (!perSet object, .locked),
            (perSet object && decide (len = 2 * calItems object) &&
              (!s.dmaOk || decide (vs.length ≠ calItems object) || vs.any fun v => !withinI (-32768) 32767 v), .integrity)]
      (s.setCalWork object sets)

/-- The values of VERNIER item by item (R307): per input and converter, INL(0) to INL(32), then PH(0) to PH(7). -/
def State.vernierFields (s : State) : List Fld :=
  let all := s.vernierNow
  (List.range nlInputs).flatMap fun i => (List.range 4).flatMap fun k =>
    let v := (Tab.get [] all i).getD k VernierTables.zero
    ((List.range 33).map fun n => fS16 (v.inl.getD n 0)) ++ (List.range 8).map fun n => fS16 (v.ph.getD n 0)

/-- What CAL_SET_READ copies: the set in force, item by item (R307, R321, R384). Entry 42, DEDUCED. -/
def State.setFields (s : State) (object set : Nat) : List Fld :=
  if object = calVernier then s.vernierFields
  else if object = calHop then (Config.hopImage ((List.range 16).map fun k => hopItems (s.hop k))).map fS16
  else if object = calSafety then (Config.safetyImage s.sv.active).map fS16
  else
    let x := ((s.calWork object)[set]?).getD CalSet.zero25
    (List.range (calItems object)).map fun i => fS16 (x.item i)

/-- CAL_SET_READ (R321, R384). Entry 42, DEDUCED. -/
def execCalSetRead (object set dst : Nat) : State → Out :=
  cmdRow (.calSetRead object set dst) fun s =>
    .block [(!within 1 7 object || decide ((if perSet object then (s.calWork object).length else 1) ≤ set), .badArg)] s dst
      (s.setFields object set)

/-- A number that none of a list has. -/
def freshId (l : List Nat) : Nat := l.foldl max 0 + 1

/-- CAL_TARGET (R321): the answer waits for the last step. Entry 42, DEDUCED. -/
def execCalTarget (mode set first count range steps : Nat) : State → Out :=
  cmdRow (.calTarget mode set first count range steps) fun s =>
    let id := freshId (s.cal.targets.map (·.id))
    let run : TargetRun :=
      { id := id, mode := mode, set := set, first := first, count := count, range := range, steps := steps, since := s.now,
        sums := [] }
    .gives [(!isBit mode || s.setBad calTof set || badRange first count 512 || decide (steps = 0), .badArg),
            ((numbers first count).any fun c => !s.watchedNow c, .notReady)]
      (.waits { s with cal := { s.cal with targets := s.cal.targets ++ [run] } } (.calTarget id))

/-- CAL_STA_LEARN (R321): the answer waits for the last shot. -/
def execCalStaLearn (set shots : Nat) (rows : BitVec 64) : State → Out :=
  cmdRow (.calStaLearn set shots rows) fun s =>
    let id := freshId (s.cal.learns.map (·.id))
    let run : StaLearn := { id := id, set := set, shots := shots, rows := rows, sums := [] }
    .gives [(s.setBad calTof set || decide (shots = 0) || decide (rows = 0), .badArg),
            ((rowsOf rows).any fun r => (s.staOfRow r).isNone, .notReady)]
      (.waits { s with cal := { s.cal with learns := s.cal.learns ++ [run] } } (.staLearn id))

/-- CAL_STORE (R319, R321). -/
def execCalStore (object : Nat) (verified : Bool) : State → Out :=
  cmdRow (.calStore object verified) fun s =>
    let p : CalPayload := if object = calVernier then .vernier s.vernierNow else .sets (s.calWork object)
    .gives [(!within 1 7 object, .badArg), (decide (object = calHop ∨ object = calSafety), .locked), s.noStore]
      (s.storing object p verified fun s => (s, []))

/-! ## Happenings -/

/-- TEMPERATURE_UPDATE (R312, R315, R446): the sixteen readings in 1/8 °C, every 1 ms. -/
def execTemperatureUpdate (readings : List Int) (s : State) : Out :=
  if s.dev.rstLow then .next s
  else
    let s := ((List.range 16).zip readings).foldl (fun s p => s.setSensor p.1 p.2) s
    let s := s.refreshCal
    if s.dev.fwRunning then .next s.scheduleRuns.startIdle.watchHeat else .next s

/-- NONLINEARITY_RUN (R308, R315, R316): a scheduled run of one input ends with the code-density histogram of each
converter. Where it found no gap, the lane injected during gates, in the interval `during` (R82): gates open in it are
marked CAL and edges in it are blanked. -/
def execNonlinearityRun (input : Nat) (counts : List (List Nat)) (result : NonlinearityResult) (s : State) : Out :=
  if nlInputs ≤ input then .next s
  else if s.dev.fwRunning ∧ (s.calRunState 0).scheduled.contains input then
    let s := match result.during with
      | some (lo, hi) =>
        if input < 512 then s.keepBlanked { channel := input, lo := lo, hi := hi, interleaved := true } else s
      | none => s
    .next (if runPasses counts then s.newVernier input (counts.map tablesOf) else s.nlFailed input)
  else .next s

/-- SKEW_TRACKING (R315, R317): the scheduled run on one sensor begins, goes on as the lanes serve its test pulses, and ends
with its last measurement; the firmware chooses width and deadline within R84. Entry 42, DEDUCED. -/
def execSkewTracking (sensor width deadline : Nat) (s : State) : Out :=
  if 15 < sensor ∨ !within 512 32768 width ∨ !within 1024 1024000000 deadline then .next s
  else if s.dev.fwRunning ∧ s.tracks ∧ (s.calRunState 1).scheduled.contains sensor then
    match s.cal.track with
    | none => .next (s.beginTrack sensor width deadline)
    | some r =>
      if r.sensor ≠ sensor then .next s
      else if s.trackDone r then .next (s.endTrack r)
      else .next (s.feedTrack width deadline r)
  else .next s

end Sys2Proof.Machine
end

