-- ==== Sys2Proof/Machine/Resets.lean ====
section
/-! DEFINITION. Resets and device states: Nadir, the warm reset, the cold reset, resumption, and what the tests of a start
lead to (R387 to R400, R408 to R411). -/

namespace Sys2Proof.Machine

/-! ## A store in progress (R319) -/

/-- The row of a storing command that a payload spells by its fields, its store verified (R240, R286, R321).
Entry 43, DEDUCED. -/
def storingRow (op : Nat) (v : List Nat) : Option (State → Out) :=
  let f (i : Nat) : Nat := v.getD i 0
  if op = 0x0908 then some (execCalStore (f 0) true)
  else if op = 0x0205 then some (execPllHopStore (f 0) true)
  else if op = 0x0801 then
    some (execEncConfig (f 0)
      { enable := f 1, cpr := f 2, invertDir := f 3, indexState := f 4, indexTol := f 5, filter := f 6, term := f 7 } true)
  else if op = 0x0820 then some (execEvchKeylock (f 0) (f 1) (f 2) true)
  else if op = 0x0835 then some (execSvCommit true)
  else none

/-- The numbers that the fields of a payload hold (R367). -/
def payloadNumbers (op : Nat) (p : List Byte) : List Nat := (readFrom 0 ((payloadKinds op).getD []) p).map Val.nat

/-- The object whose store is in progress: the storing command which has been taken and has not ended writes it, as it does
where its checks pass. Entry 43, DESIGN CHOICE. -/
def State.storeInProgress (s : State) : Option Nat :=
  match s.mbx.executing with
  | none => none
  | some (t, _) => match storingRow t.frame.opcode (payloadNumbers t.frame.opcode t.payload) with
    | none => none
    | some row => match row s with
      | .next s' => (numbers 1 7).find? fun k => decide (s'.calStore k ≠ s.calStore k)
      | _ => none

/-- A store in progress is cut off (R319, R402, R413). -/
def State.cutStore (s : State) : State :=
  match s.storeInProgress with
  | none => s
  | some k => s.modCalStore k CalStore.cut

/-! ## Nadir (R395) -/

/-- VOUT_MODE is read once at start, when PMBus is no longer idle: as the Self-test of the start ends (R346, R401). Entry 51,
DEDUCED. -/
def State.readMode (s : State) : State :=
  if s.regs.pmbus.modeRead then s
  else
    let p := s.regs.pmbus
    ({ s with regs := { s.regs with pmbus := { p with modeRead := true } } } : State).log (.pmbus p.cfg.addr 0x20 none)

/-- An output is quiet: its registers and schedule input are emptied; pulses formed so far have left. -/
def State.quietOutput (s : State) (o : Nat) : State :=
  let s := match (s.out o).active with
    | some b => if b.fired then (s.closeWindows b s.now).endBurst o (s.darkenNow b) s.now else s
    | none => s
  s.modOut o fun x => { x with sched := [], active := none, next := none }

/-- Nadir is entered (R390, R395): emission latched dark, STO removed, no output takes an entry, D is 0
(R401), vector 35. Entry 44, DEDUCED. -/
def State.enterNadir (s : State) : State :=
  let s := { s with
    dev := { s.dev with run := .nadir, warm := false, retesting := false }
    motor := s.motor.setD s.clock 0 }
  (((((s.svGo .nadir).turnAway).each outputNumbers State.quietOutput).cause 8).refreshPcie).readMode

/-! ## Tests of a start (R390, R391) -/

/-- Device tests of a cold start before the first PLL lock. -/
def coldTests : List SelfTest := [.processor, .programMemory, .retention, .fabric, .darkPath, .supervisor]

/-- Device tests of a warm reset. -/
def warmTests : List SelfTest := [.processor, .retention, .fabric]

/-- The tests that a RETEST runs (R391, R396): those of ports and bridge where their precondition, block lock, holds. -/
def State.retests (s : State) : List SelfTest :=
  let ports := (List.range 3).filter fun n => (s.port n).blockLock
  [.processor, .retention, .fabric, .darkPath, .supervisor, .outputLoopback] ++ (List.range engineCount).map .engine ++
    [.pll] ++ (List.range 8).map .hitGroup ++ ports.map .port ++ (if ports.isEmpty then [] else [.bridge])

/-- The row of a test in the table of R391. -/
def testRow : SelfTest → Nat
  | .processor => 0
  | .programMemory => 1
  | .retention => 2
  | .fabric => 3
  | .darkPath => 4
  | .supervisor => 5
  | .outputLoopback => 6
  | .engine _ => 7
  | .pll => 8
  | .hitGroup _ => 9
  | .port _ => 10
  | .bridge => 11

/-- The row at which the RETEST under way has come: the first with a test that has not passed (R396). -/
def State.retestRow (s : State) : Nat :=
  ((s.retests.filter fun t => !s.dev.passed.contains t).map testRow).foldl min 12

/-- A test may run now: in a RETEST in the table's order (R396). -/
def State.inTurn (s : State) (t : SelfTest) : Bool :=
  !s.dev.retesting || (s.retests.contains t && decide (testRow t = s.retestRow))

/-- What the firmware sets going at the present row of a RETEST (R391, R396): the kernel of idle engines, and once the band
search of the PLL. Entry 44, DEDUCED. -/
def State.retestStep (s : State) : State :=
  if s.retestRow = 7 then
    s.each (List.range engineCount) fun s e =>
      if (s.engine e).run = .idle ∧ !s.dev.passed.contains (.engine e) then s.beginTest e else s
  else if s.retestRow = 8 ∧ !s.dev.retestSearch then
    ({ s with dev := { s.dev with retestSearch := true } } : State).performPll .recal
  else s

/-- The device tests that the present start needs before the device resumes. -/
def State.startTests (s : State) : List SelfTest :=
  if s.dev.coldDone || (s.dev.warm && s.dev.warmFromNadir) then warmTests else coldTests

/-- A test's result is noted. -/
def State.noteTest (s : State) (t : SelfTest) (pass : Bool) : State :=
  let keep := s.dev.passed.filter (· ≠ t)
  { s with dev := { s.dev with
      results := (t, pass) :: s.dev.results.filter (·.1 ≠ t)
      passed := if pass then t :: keep else keep } }

/-- The SAFETY object is missing (R320). -/
def State.noSafetyObject (s : State) : Bool := !(s.calStore calSafety).valid

/-- The supervisor leaves INIT, or NADIR after a RETEST, by START_MODE (R297, R320), to LOCKOUT while a power warning stands or
where one came in INIT (R407, R412); what has failed is a fault. -/
def State.startSupervisor (s : State) : State :=
  let s := { s with sv := { s.sv with
      budgetStart := s.clock
      budgetWin := s.limitSet.budgetWin
      awaitsCommit := s.sv.awaitsCommit || s.noSafetyObject } }
  let s := s.svGo (if s.sv.active.sv.startMode = 0 ∧ !s.sv.awaitsCommit ∧ !s.dev.pfail ∧ !s.sv.lockAtStart then .normal
    else .lockout)
  let s := { s with sv := { s.sv with lockAtStart := false } }
  let s := if s.motor.mfltN then s else s.svFault .motorFault
  (s.checkEncoders.setReady readySafety true).refreshPermit

/-- The firmware resumes after a warm reset (R398): in Nadir, Eclipse or Dusk where these stand, else in Ready-idle. Rings
are reconciled (R335). -/
def State.resume (s : State) : State :=
  let p := s.regs.pcie
  let s := { s with
    dev := { s.dev with warm := false, watchdogs := [] }
    regs := { s.regs with pcie := { p with linkReset := true } } }
  let s := if s.sv.run = .twilight then s.svGo .lockout else s
  let s := if s.dev.warmFromNadir then { s with dev := { s.dev with run := .nadir } }
    else if s.sv.run = .eclipse then { s with dev := { s.dev with run := .eclipse } }
    else if s.sv.run = .dusk then { s with dev := { s.dev with run := .ranging } }
    else s.enterReadyIdle
  (s.resumeMotor.refreshPcie).refreshFs

/-- A RETEST has passed every test (R385, R396): from Nadir to Ready-idle; a latched bridge fault clears. -/
def State.finishRetest (s : State) : State :=
  let s := { s with
    dev := { s.dev with retesting := false, testRun := .passed, failing := none, coldDone := true }
    net := { s.net with bridgeFault := false } }
  let s := s.refreshPorts
  if s.dev.run = .nadir then s.startSupervisor.enterReadyIdle else s

/-- Where the passed tests lead (R390, R396, R398). -/
def State.testsDone (s : State) : State :=
  if s.dev.retesting then
    if s.retests.all fun t => s.dev.passed.contains t then s.finishRetest else s.retestStep
  else if s.dev.run = .selfTest ∧ (s.startTests.all fun t => s.dev.passed.contains t) then
    let s := ({ s with dev := { s.dev with coldDone := true, testRun := .passed } } : State).readMode
    if s.dev.warm then s.resume else s.enterReadyIdle.resumeMotor
  else s

/-- A device test has failed (R390). Entry 44, DEDUCED. -/
def State.testFailed (s : State) (t : SelfTest) : State :=
  let s := s.noteTest t false
  ({ s with dev := { s.dev with testRun := .failed, failing := some t } }).enterNadir

/-! ## The warm reset (R386, R397, R398) -/

/-- The first submission of a dual submission is answered SAFETY_DENIED (R360, R413). Entry 47, DEDUCED. -/
def State.denyHeld (s : State) : State :=
  match s.mbx.held with
  | none => s
  | some (t, _) => ({ s with mbx := { s.mbx with held := none } } : State).denyPair t

/-- What waits in an Ethernet mailbox is discarded unanswered (R352, R398). -/
def State.dropQueued (s : State) : State :=
  s.each (numbers 32 8) fun s n => s.modBox n fun b => { b with queue := [] }

/-- Background work of commands ends and is not resumed (R404). Entry 44, DEDUCED. -/
def State.dropWork (s : State) : State :=
  let ready := if s.dev.bist then s.dev.ready ||| s.dev.bistReady else s.dev.ready
  let s := { s with
    cal := { s.cal with targets := [], learns := [], track := none }
    pll := { s.pll with forced := none }
    fw := { s.fw with update := none }
    dev := { s.dev with retesting := false, bist := false } }
  let s := s.each (List.range 5) fun s k => s.modCalRunState k CalRunState.giveUp
  s.setReadyAll ready

/-- A command that was taken and has not run is given up: on PCIe it stays in its slot (R398). Entry 44, DEDUCED. -/
def State.dropTaken (s : State) : State :=
  let free (s : State) (t : Taken) : State := s.modBox t.mailbox fun b => { b with busy := false }
  match s.mbx.executing with
  | none => s
  | some (t, none) => (free s t).release
  | some (t, some p) => (free (free s t) p).release

/-- A warm reset begins (R398). Entry 44, DEDUCED. -/
def State.warmReset (s : State) : State :=
  let s := ((s.turnAway).denyHeld).dropTaken.dropQueued.dropWork
  let s := ((s.stopSequencers Reasons.forced).stopFiring false).emptyPlaces.suspendRings
  let s := { s with
    dev := { s.dev with
      warmFromNadir := if s.dev.warm then s.dev.warmFromNadir else decide (s.dev.run = DevRun.nadir)
      warm := true
      run := .boot
      fwRunning := false
      testRun := .running
      failing := none
      passed := s.dev.passed.filter fun t => !warmTests.contains t
      results := s.dev.results.filter fun p => !warmTests.contains p.1 }
    fw := { s.fw with running := none }
    pll := ({ s.pll with run := .startup } : Pll).settle
    mbx := { s.mbx with baud := 115200, uartFrom := s.clock } }
  s.refreshPcie.refreshFs

/-! ## The cold reset (R397, R408) -/

/-- The payload of a calibration object in force. -/
def State.stored (s : State) (o : Nat) : Option CalPayload := ((s.calStore o).inForce).map (·.payload)

/-- The sets of an object in the store, none for a missing one (R320). -/
def State.storedSets (s : State) (o : Nat) : List CalSet :=
  match s.stored o with
  | some (.sets l) => l
  | _ => []

/-- The safety configuration in the store. -/
def State.storedSafety (s : State) : SafetyCfg :=
  match s.stored calSafety with
  | some (.safety c) => c
  | _ => SafetyCfg.reset

/-- The hop table in the store. -/
def State.storedHops (s : State) : Tab (Option HopEntry) :=
  match s.stored calHop with
  | some (.hop h) => h
  | _ => []

/-- The converters' tables in the store. -/
def State.storedVernier (s : State) : Tab (List VernierTables) :=
  match s.stored calVernier with
  | some (.vernier v) => v
  | _ => []

/-- The converters of an input with tables from the store. -/
def vernierInput (ts : List VernierTables) : InputState :=
  { InputState.reset with
    convs := ((List.range 4).map fun k => (k, { Converter.reset with tables := ts.getD k VernierTables.zero })).filter
      fun p => decide (p.2 ≠ Converter.reset) }

/-- The mailboxes after a cold reset: the journals alone are kept (R349, R359). Entry 45, DEDUCED. -/
def keepJournals (l : Tab Mailbox) : Tab Mailbox :=
  l.foldr (fun p t => Tab.put Mailbox.reset t p.1 { Mailbox.reset with journal := p.2.journal }) []

/-- The encoders after a cold reset: the levels at the balls stand, which the next edge is judged by (R272). Entry 44,
DEDUCED. -/
def keepLevels (l : Tab Encoder) : Tab Encoder :=
  l.foldr (fun p t => Tab.put Encoder.reset t p.1 { Encoder.reset with a := p.2.a, b := p.2.b }) []

/-- The commit that governs after a reset now (R410, R413): a warning commit is complete 80 µs after the warning, until then
it is the last periodic one. Entry 50, DESIGN CHOICE. -/
def State.governing (s : State) : Option Commit :=
  if s.dev.pfail && !s.powerIdle then s.ret.periodic else s.ret.commit

/-- The cold reset (R397): every field at its reset value but what retention memory, the flash and the balls hold, and
the model's own record. Entry 45, DEDUCED. -/
def State.coldReset (s : State) (marker : Bool) : State :=
  let s := s.cutStore
  let r := State.reset
  let safety := s.storedSafety
  let work := [calOut, calIn, calLane, calTof].foldl (fun t o => Tab.put [CalSet.zero25] t o (s.storedSets o)) []
  let runs := s.cal.runs.map fun (k, (x : CalRunState)) => (k, { x with scheduled := [], asked := [] })
  let t := { r with
    sv := { r.sv with active := safety, staged := safety }
    pll := { r.pll with hops := s.storedHops }
    cal := { r.cal with stores := s.cal.stores, work := work, sensors := s.cal.sensors, runs := runs }
    rx := { r.rx with inputs := s.storedVernier.map fun (i, ts) => (i, vernierInput ts) }
    ret := { s.ret with commit := s.governing, resetMarker := s.ret.resetMarker || marker }
    fw := { s.fw with running := none, update := none }
    mbx := { r.mbx with boxes := keepJournals s.mbx.boxes, uartFrom := s.clock }
    motor := { r.motor with mrdy := s.motor.mrdy, mfltN := s.motor.mfltN }
    scan := { r.scan with encoders := keepLevels s.scan.encoders }
    regs := { r.regs with pcie := { r.regs.pcie with perst := s.regs.pcie.perst } }
    pending := s.pending
    sent := s.sent
    reply := s.reply
    clock := s.clock
    fresh := s.fresh }
  t.refreshCal

/-! ## LOST_RANGE at the next start (R410, R411) -/

/-- CAUSE of a commit's ranges (R410). -/
def Commit.cause (k : Commit) (marker : Bool) : Nat := if k.warning then 1 else if marker then 3 else 2

/-- The record that an entry of the last commit makes, none when nothing can be lost. -/
def CommitEntry.lost (e : CommitEntry) (cause : Nat) : Option (Nat × Rec) :=
  let last := e.issueLimit - 1
  if e.confirmed < last then some (e.stream, lostRangeRec (e.confirmed + 1) (last - e.confirmed) cause) else none

/-- The LOST_RANGE record of a stream is its result number 1 and waits for its path (R213, R411). -/
def State.issueLost (s : State) (p : Nat × Rec) : State :=
  (s.modStream p.1 fun x => { x with nextIssue := x.nextIssue + 1, lostRange := some p.2 }).commitResult p.1
    { number := (s.stream p.1).nextIssue, kind := .lostRange, recs := [p.2], seq := 0xFF, epoch := 0, facet := 0, step := 0,
      time := 0 }

/-- The ranges of the last commit join those that are not delivered yet; a stream that has one makes no other.
Entry 44, DEDUCED. -/
def State.deriveLost (s : State) : State :=
  let new : List (Nat × Rec) := match s.ret.commit with
    | none => []
    | some k => k.entries.filterMap fun e => e.lost (k.cause s.ret.resetMarker)
  let add := new.filter fun p => !(s.ret.lostRanges.any fun q => decide (q.1 = p.1))
  let all := s.ret.lostRanges ++ add
  let s := { s with ret := { s.ret with commit := none, resetMarker := false, lostRanges := all } }
  all.foldl State.issueLost s

/-! ## The firmware starts (R362, R389) -/

/-- A slot's image may run. -/
def ImageSlot.runs (x : ImageSlot) (minSec : Nat) : Bool := x.valid && decide (minSec ≤ x.secVersion)

/-- Image slot 0 is A, 1 is B. -/
def Firmware.slot (f : Firmware) (k : Nat) : ImageSlot := if k = 0 then f.slotA else f.slotB

/-- The valid images in the order in which the boot ROM takes them: the newer generation first (R362). -/
def Firmware.images (f : Firmware) : List Nat :=
  let newer := decide ((f.slotA.generation - f.slotB.generation).toNat < 2 ^ 31)
  (if newer then [0, 1] else [1, 0]).filter fun k => (f.slot k).runs f.minSec

/-- The images that the boot ROM tries to load: the first, and, where that one fails to load, the other (R362). -/
def Firmware.tried (f : Firmware) (fails : Bool) : List Nat := if fails then f.images else f.images.take 1

/-- The slot that the boot ROM runs (R362): the first image, or the other when that one fails to load; none where there is
none. Entry 49, DEDUCED. -/
def Firmware.choose (f : Firmware) (fails : Bool) : Option Nat := if fails then f.images[1]? else f.images[0]?

/-- The clock of the header read in Hz, and of every read after a header that fails its CRC-32 (R344). -/
def flashClock : Nat := 12500000

/-- How the boot ROM reads the image of slot `k` (R344): as the header names it, or, where that fails its CRC-32, in 1-1-1
mode. -/
def FlashHeader.read (h : FlashHeader) (k : Nat) : Sent :=
  let o := if k = 0 then h.offsetA else h.offsetB
  if h.crcDiff = 0 then .flash (if h.quadAddress then 0xEB else 0x6B) h.dummy h.clock o else .flash 0x03 0 flashClock o

/-- The boot ROM reads the header and the images that it tries (R344, R389). Entry 49, DEDUCED. -/
def State.readFlash (s : State) (fails : Bool) : State :=
  (s.fw.tried fails).foldl (fun s k => s.log (s.fw.header.read k)) (s.log (.flash 0x03 0 flashClock 0))

/-- No image runs: the device stays in Boot until a cold reset, with EMITTER outputs dark and STO removed (R363). Entry 49,
DESIGN CHOICE. -/
def State.stayInBoot (s : State) : State :=
  ({ s with dev := { s.dev with noImage := true } } : State).refreshSto.refreshDark

/-- The VERNIER object is missing: every input is due for a nonlinearity run (R320). -/
def State.scheduleMissing (s : State) : State :=
  if (s.calStore calVernier).valid then s
  else s.modCalRunState 0 fun r => r.ask (List.range nlInputs)

/-- What the first start after a cold reset does beside (R230, R320, R410): the LOST_RANGE records, the runs that are due,
and the key-locks. -/
def State.firstStart (s : State) : State :=
  let s := s.deriveLost.scheduleMissing.scheduleRuns
  { s with dev := { s.dev with derived := true }, sv := { s.sv with keysRestored := true } }

/-- The image of a slot starts (R389): Self-test begins, in Nadir the device stays there. -/
def State.startFirmware (s : State) (k : Nat) : State :=
  let s := { s with
    fw := { s.fw with running := some k }
    dev := { s.dev with fwRunning := true, run := if s.dev.run = DevRun.nadir then DevRun.nadir else DevRun.selfTest } }
  let s := s.scanStores
  let s := if s.dev.derived then s else s.firstStart
  (s.refreshPcie.beginAttempt.testsDone).refreshDark

end Sys2Proof.Machine
end

