-- ==== Sys2Proof/Machine/Startup.lean ====
section
/-! DEFINITION. Happenings of start-up and resets, and the commands of resets and self-tests (R373, R385, R387 to R400, R439). -/

namespace Sys2Proof.Machine

/-! ## Pins and the boot ROM -/

/-- RST_N_FALL (R387, R408): a cold reset with a reset marker; nothing more while RST_N is low. -/
def execRstNFall (s : State) : Out := if s.dev.rstLow then .next s else .next (s.coldReset true)

/-- SUPPLY_OUT_OF_RANGE (R388): a cold reset; the marker needs supplies in range (R408). -/
def execSupplyOutOfRange (s : State) : Out := if s.dev.rstLow then .next s else .next (s.coldReset false)

/-- RST_N_RISE (R387, R389): the boot ROM runs, the supervisor's self-test and PCIe training begin. -/
def execRstNRise (s : State) : Out := .next { s with dev := { s.dev with rstLow := false } }

/-- FIRMWARE_START (R344, R362, R363, R389). Whether the image with the newer generation fails to load is a free value (entry
16, DESIGN CHOICE). -/
def execFirmwareStart (s : State) : Out :=
  if s.dev.rstLow ∨ s.dev.fwRunning ∨ s.dev.needsCold ∨ s.dev.noImage then .next s
  else
    let fails := Config.loadFails s.fresh
    let t := s.draw.readFlash fails
    match s.fw.choose fails with
    | none => .next t.stayInBoot
    | some k => .next (t.startFirmware k)

/-- PCIE_PERST (R439): low is a host-link reset; high lets link training start. -/
def execPciePerst (level : Bool) (s : State) : Out :=
  let p := s.regs.pcie
  let s := { s with regs := { s.regs with pcie := { p with perst := level } } }
  if level then .next s else .next (s.hostLinkReset .perst)

/-- PCIE_LINK_UP (R393): L0 after training, with RST_N and PCIE_PERST_N high. -/
def execPcieLinkUp (s : State) : Out :=
  let p := s.regs.pcie
  if p.perst ∧ !s.dev.rstLow ∧ !p.linkUp then
    .next (({ s with regs := { s.regs with pcie := { p with linkUp := true, busMaster := false, linkReset := true } } } :
      State).refreshPcie)
  else .next s

/-! ## Tests -/

/-- A device test of the firmware is under way (R391): it belongs to the start or RETEST, has not ended, and its
precondition holds. -/
def State.testUnderWay (s : State) (t : SelfTest) : Bool :=
  s.dev.fwRunning && !s.dev.passed.contains t && (s.dev.retesting || !s.dev.results.contains (t, false)) &&
    (if s.dev.retesting then s.inTurn t
     else if t = .outputLoopback then true
     else s.startTests.contains t && (decide (s.dev.run = .selfTest) || decide (s.dev.run = .nadir))) &&
    (decide (t ≠ .outputLoopback) || s.pll.locked)

/-- The time base becomes ready: its source is HOLDOVER until the first PLL lock (R393; entry 4, DEDUCED). -/
def State.startTimebase (s : State) : State :=
  if s.pll.locked then s else { s with tb := { s.tb with source := .holdover, rate := s.rateNow } }

/-- What a device test that passes makes ready (R391, R393). -/
def State.testReadies (s : State) : SelfTest → State
  | .programMemory => { s with sq := { s.sq with mem := [], committed := [] } }
  | .retention =>
    (({ s with tx := { s.tx with deviceId := s.ret.deviceId } } : State).setReady readyRetention true)
  | .fabric => ((s.startTimebase.setReady readyFabric true).setReady readyTimebase true).refreshFs
  | .outputLoopback => s.refreshFs
  | _ => s

/-- A device test that the firmware runs; the supervisor's own has a row of its own. -/
def isDeviceTest (t : SelfTest) : Bool :=
  [SelfTest.processor, .programMemory, .retention, .fabric, .darkPath, .outputLoopback].contains t

/-- The compare of the control processor finds a mismatch in operation: a warm reset, which SELFTEST_STATUS names (R405).
Entry 44, DESIGN CHOICE. -/
def State.lockstepMismatch (s : State) : State :=
  let s := s.warmReset
  { s with dev := { s.dev with failing := some .processor } }

/-- DEVICE_TEST_COMPLETE (R390, R391); a failure of the processor while it is not under test is a lockstep mismatch (R405). -/
def execDeviceTestComplete (test : SelfTest) (pass : Bool) (s : State) : Out :=
  if isDeviceTest test && s.testUnderWay test then
    .next (if pass then ((s.noteTest test true).testReadies test).testsDone else s.testFailed test)
  else if test = .processor ∧ !pass ∧ s.dev.fwRunning ∧ !s.dev.retesting ∧ s.dev.passed.contains .processor then
    .next s.lockstepMismatch
  else .next s

/-- SV_SELFTEST_COMPLETE (R297, R391): in INIT after a cold reset, or within a RETEST. -/
def execSvSelftestComplete (pass : Bool) (s : State) : Out :=
  if s.sv.run = .init ∧ !s.dev.rstLow then
    if pass then .next (((s.noteTest .supervisor true).startSupervisor).testsDone) else .next (s.testFailed .supervisor)
  else if s.dev.retesting ∧ s.inTurn .supervisor ∧ !s.dev.passed.contains .supervisor then
    if pass then .next (s.noteTest .supervisor true).testsDone else .next (s.testFailed .supervisor)
  else .next s

/-- A function test fails: only that function is not ready, vector 35 is raised, and a RETEST has failed (R385, R390). -/
def State.functionFailed (s : State) (t : SelfTest) : State :=
  if s.dev.retesting then s.testFailed t else (s.noteTest t false).vector 35

/-- HGk is being tested (R320, R391, R400): its bit is clear or a RETEST runs, the output loop-back has passed, and no
nonlinearity run that a missing VERNIER object or ΔT calls for is open. Entry 44, DEDUCED. -/
def State.groupUnderTest (s : State) (k : Nat) : Bool :=
  s.loopbackPassed && s.pll.locked && !s.dev.bist && (!s.isReady (readyHg k) || s.dev.retesting) &&
    !((s.calRunState 0).scheduled.any fun i => decide (inSensor i = k))

/-- The function reset of a block ends. -/
def State.endFuncReset (s : State) (b k : Nat) : State :=
  { s with dev := { s.dev with resets := s.dev.resets.erase (b, k) } }

/-- The function reset of a block begins. -/
def State.beginFuncReset (s : State) (b k : Nat) : State :=
  { s with dev := { s.dev with resets := (b, k) :: s.dev.resets.erase (b, k) } }

/-- Converter `n` of hit group `k` is calibrated: one that does not pass is tried three times, which excludes it (R147). -/
def State.firstConverter (k : Nat) (s : State) (n : Nat) (m : Nat × Nat) : State :=
  (List.range (if calPasses m.1 m.2 then 1 else 3)).foldl (fun s _ => s.calDone (64 * k + n / 4) (n % 4) m.1 m.2) s

/-- The first full calibration of all channels of hit group `k` (R144, R159, R391): m1 and m2 of converter n of the group, in
order; one without readings has not passed. Entry 5, DESIGN CHOICE. -/
def State.firstCalibration (s : State) (k : Nat) (readings : List (Nat × Nat)) : State :=
  (List.range 256).foldl (fun s n => s.firstConverter k n (readings.getD n (0, 0))) s

/-- A function test ends (R390, R391), in a RETEST in its turn; the kernel of a RETEST lifts no quarantine (R207). Entry 8,
DEDUCED. -/
def State.functionTest (s : State) (t : SelfTest) (pass : Bool) (readings : List (Nat × Nat)) : State :=
  if !s.inTurn t then s
  else match t with
  | .engine e =>
    let r := (s.engine e).run
    if e < engineCount ∧ (r = .selftest ∨ (s.dev.retesting ∧ (r = .idle ∨ r = .quarantined))) then
      let s := if r = .quarantined then s else s.endTest e pass
      if pass then (s.noteTest t true).testsDone else s.functionFailed t
    else s
  | .pll =>
    if s.dev.retesting && !s.dev.retestSearch then s
    else if !pass then s.functionFailed t
    else if s.pll.locked then (s.noteTest t true).testsDone else s
  | .hitGroup k =>
    if k < 8 ∧ s.groupUnderTest k then
      let s := (s.endFuncReset 0 k).firstCalibration k readings
      if pass then (((s.setReady (readyHg k) true).refreshFs).noteTest t true).testsDone
      else ((s.setReady (readyHg k) false).refreshFs).functionFailed t
    else s
  | .port n =>
    if n < 3 ∧ (s.port n).blockLock ∧ (!(s.port n).testPassed ∨ s.dev.retesting) then
      let s := (s.endFuncReset 2 n).modPort n fun p => { p with testPassed := pass, resetting := false }
      let s := s.refreshPort n
      if pass then (s.noteTest t true).testsDone else s.functionFailed t
    else s
  | .bridge =>
    if (s.net.ports.any fun p => p.2.blockLock) ∧ (!s.net.bridgePassed ∨ s.dev.retesting) then
      let s := ({ s with net := { s.net with bridgePassed := pass } } : State).each (List.range 3) State.refreshPort
      if pass then (s.noteTest t true).testsDone else s.functionFailed t
    else s
  | _ => s

/-- FUNCTION_TEST_COMPLETE (R391). -/
def execFunctionTestComplete (test : SelfTest) (result : FunctionResult) (s : State) : Out :=
  if s.dev.fwRunning then .next (s.functionTest test result.pass result.readings) else .next s

/-- RETEST begins with the first test of the table (R396). -/
def State.beginRetest (s : State) : State :=
  { s with dev := { s.dev with
      retesting := true, retestSearch := false, testRun := .running, failing := none, passed := [] } }

/-- RETEST (R385, R396): it starts work on the hit groups, which a whole-memory BIST has made not ready (R392). -/
def execRetest : State → Out :=
  cmdRow .retest fun s =>
    .gives [(decide (s.dev.run ≠ .readyIdle ∧ s.dev.run ≠ .nadir), .refused), (s.dev.bist, .notReady)]
      (.done s.beginRetest .accepted [] [])

/-- A result as a number: 0 none, 1 passed, 2 failed. -/
def State.testResult (s : State) (t : SelfTest) : Fld :=
  match s.dev.results.find? fun p => decide (p.1 = t) with
  | none => fU8 0
  | some p => fU8 (if p.2 then 1 else 2)

/-- The result of a memory in the last whole-memory BIST, in the order of R392: 0 none, 1 passed, 2 failed, 3 untested, which a
channel with a held bank is unless its other bank failed. -/
def State.bistFields (s : State) : List Fld :=
  match s.dev.bistResult with
  | none => List.replicate 1121 (fU8 0)
  | some r =>
    ((List.range 512).map fun c =>
      fU8 (if r.channels.contains c then 2 else if s.dev.bistUntested.contains c then 3 else 1)) ++
      ((List.range 512).map fun c => fU8 (if r.pools.contains c then 2 else 1)) ++
      ((List.range engineCount).map fun e => fU8 (if r.engines.contains e then 2 else 1)) ++ [fU8 (if r.bufferOk then 1 else 2)]

/-- The number of a state of R385. -/
def TestRun.code : TestRun → Nat
  | .running => 0
  | .passed => 1
  | .failed => 2

/-- Every test of R391 in its order. -/
def allTests : List SelfTest :=
  [.processor, .programMemory, .retention, .fabric, .darkPath, .supervisor, .outputLoopback] ++
    (List.range engineCount).map .engine ++ [.pll] ++ (List.range 8).map .hitGroup ++ (List.range 3).map .port ++ [.bridge]

/-- SELFTEST_STATUS (R385, R392): a test goes by its row in R391, none by 0xFF. Entry 44, DEDUCED. -/
def execSelftestStatus (dst : Nat) : State → Out :=
  cmdRow (.selftestStatus dst) fun s =>
    .block [] s dst
      ([fU8 s.dev.testRun.code, fU8 ((s.dev.failing.map testRow).getD 0xFF)] ++ allTests.map s.testResult ++ s.bistFields)

/-! ## Warm reset and watchdog -/

/-- WARM_RESET (R373, R398). -/
def execWarmReset (force : Nat) : State → Out :=
  cmdRow (.warmReset force) fun s =>
    .plain [(!isBit force, .badArg), (s.ranging && decide (force = 0), .busy)] s.warmReset

/-- WATCHDOG_EXPIRY (R399): a warm reset; three within 1 s with no resumption between them put the device in Nadir. -/
def execWatchdogExpiry (s : State) : Out :=
  if s.dev.rstLow ∨ !(s.dev.fwRunning ∨ s.dev.warm) then .next s
  else
    let ws := s.clock :: s.dev.watchdogs.filter fun t => decide (s.clock ≤ t + 1000000000)
    let s := { s with
      dev := { s.dev with watchdogs := ws }
      regs := { s.regs with watchdogExpiries := s.regs.watchdogExpiries.inc } }
    .next (if 3 ≤ ws.length then s.warmReset.enterNadir else s.warmReset)

/-! ## Function reset (R400) -/

/-- The channels of a hit group. -/
def groupChannels (k : Nat) : List Nat := numbers (64 * k) 64

/-- A block is in use (R373). -/
def State.blockInUse (s : State) (b k : Nat) : Bool :=
  if b = 0 then
    (groupChannels k).any fun c =>
      s.watchedNow c || (s.chan c).gates.any fun g => decide (g.life = .opened)
  else if b = 1 then (s.seq k).running
  else s.eng.streams.any fun x => decide (x.2.cfg.transport = 1 ∧ x.2.udp.dstMac ≠ 0 ∧ s.egressPort x.2.udp = k)

/-- Stamps that a channel's gates hold. -/
def Channel.heldWords (x : Channel) : Nat := (x.gates.map fun g => g.words.length).sum

/-- What a function reset discards of a channel is counted in DROPPED_HITS (R13, R400): stamps under way, stamps that wait
for a raw stream and words in gate queues; the next raw record says so. Entry 44, DEDUCED. -/
def State.countDiscards (s : State) (c : Nat) : State :=
  let x := s.input c
  let n := x.path.length + x.queue.length + (s.chan c).heldWords
  let s := s.modChan c fun x => { x with droppedHits := x.droppedHits.add n }
  if n = 0 then s else s.lostEdge c

/-- A channel without queues and coefficients; a hold of its bank ends (R193, R400). -/
def State.resetChannel (s : State) (c : Nat) : State :=
  let gs := (s.chan c).gates
  let s := s.countDiscards c
  let s := s.modChan c fun x => { x with gates := [], needFull := true, failed := false }
  let s := gs.foldl (fun s g => s.settleShot g.shot) s
  let s := match (s.histChan c).held with
    | some b => s.setBank (2 * c + b) Bank.released
    | none => s
  let s := s.modHistChan c fun h => { h with holdPending := false, held := none }
  s.modInput c fun x =>
    { x with
      queue := []
      path := []
      rolling := none
      sweep := []
      convs := (x.convs.map fun (k, (v : Converter)) => (k, { Converter.reset with tables := v.tables })).filter fun p =>
        decide (p.2 ≠ Converter.reset) }

/-- A hit group is reset and reruns its test. Entry 44, DEDUCED. -/
def State.resetGroup (s : State) (k : Nat) : State :=
  let s := s.each (groupChannels k) State.resetChannel
  let s := s.beginFuncReset 0 k
  (s.setReady (readyHg k) false).refreshFs

/-- A sequencer is reset; its FS bit clears and sets again at once. -/
def State.resetSeq (s : State) (n : Nat) : State :=
  let s := s.modSeq n fun q =>
    { SeqState.reset with
      cfg := q.cfg
      g0 := q.g0
      trim := q.trim
      trimPending := q.trimPending
      pushErr := q.pushErr
      fUnderrun := q.fUnderrun
      fJumpOverrun := q.fJumpOverrun
      fCondOverrun := q.fCondOverrun
      skip := q.skip
      counters := q.counters }
  (((s.beginFuncReset 1 n).refreshFs).endFuncReset 1 n).refreshFs

/-- A port is reset and reruns its test: its PCS restarts, what it learned is forgotten, its PTP state restarts, and the frames
of its egress queues are discarded and counted (R400). -/
def State.resetPort (s : State) (n : Nat) : State :=
  let s := if (s.port n).run = .slave then s.loseMaster else s
  let s := { s.beginFuncReset 2 n with
    net := { s.net with macs := s.net.macs.filter fun m => decide (m.2.port ≠ n) } }
  let s := s.modPort n fun p =>
    { p with blockLock := false, testPassed := false, resetting := true, best := none, queue := [],
             discarded := p.discarded.add (p.queue.countP Queued.isForwarded),
             run := rolePort s.net.ptp.role p.cfg.ptpEn }
  (s.refreshPort n).selectBest

/-- FUNC_RESET (R373, R400). -/
def execFuncReset (block index : Nat) : State → Out :=
  cmdRow (.funcReset block index) fun s =>
    .plain [(decide (2 < block) || decide ((if block = 2 then 2 else 7) < index), .badArg),
            (decide (block = 0) && s.dev.bist, .notReady), (s.blockInUse block index, .busy)]
      (if block = 0 then s.resetGroup index else if block = 1 then s.resetSeq index else s.resetPort index)

/-! ## Whole-memory BIST (R392) -/

/-- A channel's memory passes or fails; its queues are empty afterwards. -/
def State.bistChannel (bad : List Nat) (s : State) (c : Nat) : State :=
  s.modChan c fun x =>
    { x with failed := bad.contains c, gates := [], droppedHits := x.droppedHits.add x.heldWords }

/-- Every memory passed the BIST, which makes it a successful run (R315, R392); one that fails completes too (R322). -/
def bistPasses (r : BistResult) : Bool := r.channels.isEmpty && r.pools.isEmpty && r.engines.isEmpty && r.bufferOk

/-- Every bank but a held one is stale after the BIST (R180, R392): it reads as one released. -/
def State.staleBanks (s : State) : State :=
  s.each (s.hist.banks.map (·.1)) fun s b => if (s.bank b).state = .held then s else s.setBank b Bank.released

/-- An engine's local memory failed: it is QUARANTINED, and a job that it had waits for another (R206, R392). -/
def State.bistEngine (s : State) (e : Nat) : State :=
  let s := { s with eng := { s.eng with queue := (s.engine e).job.toList ++ s.eng.queue } }
  s.modEngine e fun x => { x with run := .quarantined, lastFault := .selftest, job := none }

/-- The whole-memory BIST completes: HG and ENGINES bits set again, failed parts leave service. Entry 44, DEDUCED. -/
def State.bistDone (s : State) (r : BistResult) : State :=
  let held := (List.range 512).filter fun c => (s.histChan c).held.isSome
  let bad := r.channels ++ r.pools
  let changed := (s.rx.channels.map (·.1)) ++ bad.filter fun c => decide (c < 512) && !(s.rx.channels.any (·.1 = c))
  let s := (s.each changed (State.bistChannel bad)).staleBanks
  let s := s.each (r.engines.filter (· < engineCount)) State.bistEngine
  let ready := s.dev.ready ||| (s.dev.bistReady &&& BitVec.ofNat 27 (255 * 4))
  let s := { s with dev := { s.dev with bist := false, bistResult := some r, bistUntested := held } }
  let s := ((s.setReadyAll ready).refreshEngines).refreshFs
  let s := s.modCalRunState 3 fun x => if bistPasses r then x.ran 0 s.dieTemp s.now else x.ended 0 s.dieTemp s.now
  if r.bufferOk then s else s.enterNadir

/-- WHOLE_MEMORY_BIST (R392). -/
def execWholeMemoryBist (result : BistResult) (s : State) : Out :=
  if s.dev.bist && s.dev.fwRunning then .next (s.bistDone result) else .next s

end Sys2Proof.Machine
end

