-- ==== Sys2Proof/Machine/System.lean ====
section
/-! DEFINITION. System commands: identification, device ID, UART, mailbox status, firmware update and debug unlock (R67,
R345, R362 to R366, R372). -/

namespace Sys2Proof.Machine

/-! ## Identification (R67, R372) -/

/-- The number of a device state (R419), with the forms of Ranging that the supervisor's state gives.
Entry 52, DEDUCED. -/
def State.deviceCode (s : State) : Nat :=
  match s.dev.run with
  | .off => 0
  | .boot => 1
  | .selfTest => 2
  | .nadir => 3
  | .readyIdle => 4
  | .ranging => if s.sv.run = .dusk then 7 else if s.sv.run = .twilight then 6 else 5
  | .eclipse => 8

/-- VERSION of the running image, 0 without one (R418). -/
def State.fwVersion (s : State) : Nat := ((s.fw.running).map fun k => (s.fw.slot k).version).getD 0

/-- SYS_INFO (R372). -/
def execSysInfo : State → Out :=
  cmdRow .sysInfo fun s =>
    .returns [] s [fU8 s.deviceCode, fU8 Config.stepping, fU16 s.tx.deviceId, fU32 s.dev.ready.toNat, fU16 s.fwVersion,
      fU8 s.enginesReady]

/-- The device ID is written to retention memory; a failed verification is counted (R67, R319). Entry 53, DEDUCED. -/
def State.storeDeviceId (s : State) (id : Nat) (verified : Bool) : Answer :=
  if verified then .done { s with tx := { s.tx with deviceId := id }, ret := { s.ret with deviceId := id } } .ok [] []
  else .done { s with cal := { s.cal with storeFail := s.cal.storeFail.inc } } .integrity [] []

/-- DEVICE_ID_SET (R67). Entry 53, DEDUCED. -/
def execDeviceIdSet (id : Nat) (verified : Bool) : State → Out :=
  cmdRow (.deviceIdSet id verified) fun s =>
    .gives [(decide (511 < id), .badArg), (s.ranging, .locked), s.noStore] (s.storeDeviceId id verified)

/-! ## UART and mailboxes (R345, R366) -/

/-- UART_CONFIG (R345): the rate takes effect after the response, which leaves in this step. Entry 48, DEDUCED. -/
def execUartConfig (baud : Nat) : State → Out :=
  cmdRow (.uartConfig baud) fun s =>
    .plain [(!([115200, 921600, 3000000].contains baud), .badArg)] { s with mbx := { s.mbx with baud := baud } }

/-- A mailbox holds the first command of a dual submission, which is not answered yet (R349, R360). -/
def State.pairWait (s : State) (n : Nat) : Bool :=
  (s.mbx.held.any fun h => decide (h.1.mailbox = n)) ||
    s.mbx.executing.any fun e => e.2.any fun q => decide (q.mailbox = n)

/-- MBX_STATUS (R366). -/
def execMbxStatus (mailbox dst : Nat) : State → Out :=
  cmdRow (.mbxStatus mailbox dst) fun s =>
    let b := s.box mailbox
    .block [(decide (40 < mailbox), .badArg)] s dst
      [fU32 b.cmdPi.toNat, fU32 b.rspCi.toNat, fU32 b.rspPi.toNat, fBool (s.pairWait mailbox), fU32 b.commands, fU32 b.replays,
       fU32 b.dropped, fU32 b.integrityErrors, fU32 b.pairDenied]

/-! ## Firmware update (R362 to R364) -/

/-- A slot set to an image. -/
def Firmware.setSlot (f : Firmware) (k : Nat) (x : ImageSlot) : Firmware :=
  if k = 0 then { f with slotA := x } else { f with slotB := x }

/-- The slot that an update writes: the one that is not running, A when none runs. -/
def Firmware.target (f : Firmware) : Nat := if f.running = some 0 then 1 else 0

/-- FW_UPDATE_BEGIN (R364): the erase goes on in the background. -/
def execFwUpdateBegin (length : Nat) : State → Out :=
  cmdRow (.fwUpdateBegin length) fun s =>
    let k := s.fw.target
    let f := s.fw.setSlot k ImageSlot.empty
    .gives [(decide (Config.imageSlotSize < length), .badArg), (s.fw.update.isSome, .busy)]
      (.done { s with fw := { f with update := some { slot := k, length := length, written := 0, erased := false } } }
        .accepted [] [])

/-- FW_SLOT_ERASE_DONE (R364). -/
def execFwSlotEraseDone (s : State) : Out :=
  .next { s with fw := { s.fw with update := s.fw.update.map fun u => { u with erased := true } } }

/-- Data written to an open update's slot. -/
def Firmware.append (f : Firmware) (u : Update) (data : List Byte) : Firmware :=
  let x := f.slot u.slot
  { f.setSlot u.slot { x with data := x.data ++ data } with update := some { u with written := u.written + data.length } }

/-- FW_UPDATE_WRITE (R364): in ascending order with no gap; BUSY also while the slot is being erased.
Entry 49, DEDUCED. -/
def execFwUpdateWrite (offset : Nat) (data : List Byte) : State → Out :=
  cmdRow (.fwUpdateWrite offset data) fun s =>
    match s.fw.update with
    | none => .plain [(true, .busy)] s
    | some u =>
      .plain [(decide (offset ≠ u.written) || decide (u.length < u.written + data.length), .badArg), (!u.erased, .busy)]
        { s with fw := s.fw.append u data }

/-- The written image verifies (R362, R364): it is complete, its signature holds, and its SEC_VERSION is enough.
Entry 49, DEDUCED. -/
def Firmware.verifies (f : Firmware) (u : Update) : Bool :=
  let d := (f.slot u.slot).data
  u.erased && decide (u.written = u.length) && Config.signatureValid d && decide (f.minSec ≤ Config.imageSecVersion d)

/-- The written image becomes valid with the generation after the running one; the fused minimum rises where asked.
Entry 49, DEDUCED. -/
def Firmware.commit (f : Firmware) (u : Update) (raiseMin : Nat) : Firmware :=
  let d := (f.slot u.slot).data
  let image : ImageSlot :=
    { valid := true, version := (Config.imageVersion d).toNat, secVersion := Config.imageSecVersion d,
      generation := ((f.running.map fun k => (f.slot k).generation).getD 0) + 1, data := d }
  let min := if raiseMin = 1 then ((f.running.map fun k => max f.minSec (f.slot k).secVersion).getD f.minSec) else f.minSec
  { f.setSlot u.slot image with minSec := min, update := none }

/-- An image is committed: where none was valid, it needs a cold reset to run (R363). -/
def State.commitImage (s : State) (u : Update) (raiseMin : Nat) : State :=
  { s with
    fw := s.fw.commit u raiseMin
    dev := { s.dev with needsCold := s.dev.needsCold || (s.fw.running.isNone && (s.fw.choose false).isNone) } }

/-- The open update is written and verifies; without one the verification fails (R364). Entry 49, DEDUCED. -/
def Firmware.updateVerifies (f : Firmware) : Bool := f.update.any f.verifies

/-- FW_UPDATE_COMMIT (R361, R364). -/
def execFwUpdateCommit (raiseMin : Nat) : State → Out :=
  cmdRow (.fwUpdateCommit raiseMin) fun s =>
    .plain [(!s.fw.updateVerifies, .integrity), (!isBit raiseMin, .badArg)] (match s.fw.update with
      | none => s
      | some u => s.commitImage u raiseMin)

/-- What FW_STATUS says of a slot: an image below the fused minimum is not valid (R362). -/
def ImageSlot.fields (x : ImageSlot) (minSec : Nat) : List Fld :=
  [fBool (x.runs minSec), fU16 x.version, fU32 x.generation.toNat]

/-- FW_STATUS (R364): the running slot is 0xFF for none, the progress the bytes written of the open update.
Entry 49, DEDUCED. -/
def execFwStatus (dst : Nat) : State → Out :=
  cmdRow (.fwStatus dst) fun s =>
    .block [] s dst
      (s.fw.slotA.fields s.fw.minSec ++ s.fw.slotB.fields s.fw.minSec ++
        [fU8 (s.fw.running.getD 0xFF), fU32 ((s.fw.update.map (·.written)).getD 0)])

/-! ## Debug unlock (R365) -/

/-- DEBUG_UNLOCK (R365). -/
def execDebugUnlock (certificate : List Byte) : State → Out :=
  cmdRow (.debugUnlock certificate) fun s =>
    .plain [(decide (s.dev.run ≠ .readyIdle ∧ s.dev.run ≠ .nadir), .refused),
            (!Config.certificateValid certificate, .integrity)]
      ({ s with dev := { s.dev with jtagUnlocked := true } } : State).refreshPermit

end Sys2Proof.Machine
end

