-- ==== Sys2Proof/Machine/Supply.lean ====
section
/-! DEFINITION. The pace monitors and the core supply over PMBus (R21, R346, R347, R372, R425). -/

namespace Sys2Proof.Machine

/-! ## Pace (R21, R425) -/

/-- The lowest current margin (R425). -/
def State.lowestMargin (s : State) : Int := (List.range 4).foldl (fun m d => min m (s.pace d).margin) 32767

/-- The pace warning is due (R21). -/
def State.paceWarnDue (s : State) : Bool :=
  decide (s.lowestMargin < 100) && (decide (s.regs.pmbus.cfg.voutMax ≤ s.regs.pmbus.vReq) || s.regs.pmbus.fault)

/-- PACE_WARN brought up to date; its onset is a cause (R21, R421). Entry 51, DEDUCED. -/
def State.refreshPace (s : State) : State :=
  let w := s.paceWarnDue
  let old := s.regs.paceWarn
  let s := { s with regs := { s.regs with paceWarn := w } }
  if w && !old then s.cause 4 else s

/-- One domain at the end of a window: none where the configuration requires no rate. Entry 51, DEDUCED. -/
def Pace.measure (p : Pace) (m : Option Int) : Pace :=
  match m with
  | none => { p with margin := 32767 }
  | some v => { margin := clamp (-1000) 32766 v, low := min p.low (clamp (-1000) 32766 v) }

/-- PACE_WINDOW (R425): margins of the four domains in 0.1 %. -/
def execPaceWindow (margins : List (Option Int)) (s : State) : Out :=
  if s.dev.rstLow then .next s
  else
    let s := s.each (List.range 4) fun s d => s.modPace d fun p => p.measure (margins.getD d none)
    let p := s.regs.pmbus
    let since := if 250 < s.lowestMargin then some (p.highSince.getD s.clock) else none
    .next ({ s with regs := { s.regs with pmbus := { p with highSince := since } } } : State).refreshPace

/-! ## The regulator (R346, R347) -/

/-- The fields lie in their ranges. -/
def pmbusRanges (c : PmbusCfg) : Bool :=
  within 0x08 0x77 c.addr && within 600 850 c.voutMin && within 600 850 c.voutMax && within 1 25 c.step &&
    decide (c.voutMin ≤ c.voutMax)

/-- PMBUS_CONFIG (R346, R347): requests go on after a fault. -/
def execPmbusConfig (cfg : PmbusCfg) : State → Out :=
  cmdRow (.pmbusConfig cfg) fun s =>
    .plain [(!pmbusRanges cfg, .badArg)]
      ({ s with regs := { s.regs with pmbus := { s.regs.pmbus with cfg := cfg, tries := 0, fault := false } } } :
        State).refreshPace

/-- PMBUS_STATUS (R347, R372). -/
def execPmbusStatus : State → Out :=
  cmdRow .pmbusStatus fun s =>
    let p := s.regs.pmbus
    .returns [] s [fU16 p.vReq, fU16 p.vRead, fBool p.fault, fU32 p.writes, fU32 p.retries]

/-- 1 ms has passed since the last write to the regulator. -/
def State.pmbusFree (s : State) : Bool :=
  match s.regs.pmbus.lastReq with
  | none => true
  | some t => s.elapsed t 1 100

/-- A request is held between VOUT_MIN and VOUT_MAX (R346). -/
def pmbusLimit (c : PmbusCfg) (v : Nat) : Nat := max c.voutMin (min c.voutMax v)

/-- The voltage that is to be written now, with whether it is a retry (R347): a failed request again, one STEP more below
10 %, one STEP less after 100 ms above 25 %. Entry 51, DEDUCED. -/
def State.vddaRequest (s : State) : Option (Nat × Bool) :=
  let p := s.regs.pmbus
  if p.fault || decide (3 ≤ p.tries) || !s.pmbusFree then none
  else if 0 < p.tries then some (p.vReq, true)
  else if s.lowestMargin < 100 then
    if p.vReq < p.cfg.voutMax then some (pmbusLimit p.cfg (p.vReq + p.cfg.step), false) else none
  else match p.highSince with
    | none => none
    | some t =>
      if s.elapsed t 100 100 ∧ p.cfg.voutMin < p.vReq then some (pmbusLimit p.cfg (p.vReq - p.cfg.step), false) else none

/-- The reading after a write is good: at most 15 mV from the request. -/
def readGood (v : Nat) (r : Option Nat) : Bool :=
  match r with
  | none => false
  | some x => decide (x ≤ v + 15 ∧ v ≤ x + 15)

/-- The regulator after a write of `v` at true time `now` whose reading is `r`, none for a NACK (R347).
Entry 51, DEDUCED. -/
def Pmbus.request (p : Pmbus) (now v : Nat) (retry : Bool) (r : Option Nat) : Pmbus :=
  { p with
    vReq := v
    vRead := r.getD p.vRead
    tries := if readGood v r then 0 else p.tries + 1
    lastReq := some now
    highSince := p.highSince.map fun _ => now
    writes := p.writes.inc
    retries := if retry then p.retries.inc else p.retries }

/-- VDDA_ADJUST (R347): PMBus is idle until the Self-test of a cold start has ended (R401). -/
def execVddaAdjust (readMv : Option Nat) (s : State) : Out :=
  if !s.dev.fwRunning ∨ s.ballsOff then .next s
  else match s.vddaRequest with
    | none => .next s
    | some (v, retry) =>
      let p := s.regs.pmbus.request s.clock v retry readMv
      .next ((({ s with regs := { s.regs with pmbus := p } } : State).log (.pmbus s.regs.pmbus.cfg.addr 0x21 (some v))).log
        (.pmbus s.regs.pmbus.cfg.addr 0x8B none)).refreshPace

/-- PMBUS_FAULT (R347): the third failure. -/
def execPmbusFault (s : State) : Out :=
  let p := s.regs.pmbus
  if s.dev.fwRunning ∧ 3 ≤ p.tries ∧ !p.fault then
    .next (({ s with regs := { s.regs with pmbus := { p with fault := true } } } : State).cause 5).refreshPace
  else .next s

end Sys2Proof.Machine
end

