-- ==== Sys2Proof/Machine/Power.lean ====
section
/-! DEFINITION. Commits of the journal and the power warning (R406 to R413). -/

namespace Sys2Proof.Machine

/-- PERIODIC_JOURNAL_COMMIT (R408): not while a warning stands (R407). -/
def execPeriodicJournalCommit (s : State) : Out :=
  if s.dev.pfail ∨ s.dev.rstLow then .next s else .next (s.commitJournal false)

/-! ## The warning (R406, R407, R413) -/

/-- The rings that get a final confirmation read. Entry 50, DEDUCED. -/
def State.finalRings (s : State) : List Nat :=
  (List.range 64).filter fun n => !(s.stream n).ring.unconfirmed.isEmpty && !(s.stream n).ring.reconPending && s.dmaOk

/-- The final confirmation read of a ring, successful or not (R323, R332, R407). -/
def State.finalRead (s : State) (p : Nat × Bool) : State :=
  let x := s.stream p.1
  let k := x.ring.unconfirmed.length
  let s := match x.ring.unconfirmed.getLast? with
    | none => s
    | some b => s.log (.hostRead (x.slotAddr b.slot))
  let s := s.modRing p.1 fun r => { r with reading := [], uncovered := k }
  if p.2 then (s.modRing p.1 fun r => { r with uncovered := 0 }).confirmBatches p.1 k else s.readError

/-- DEVICE_ID_SET has been taken and has not ended: where its checks pass it writes retention memory too (R67, R407). -/
def State.settingId (s : State) : Bool :=
  s.mbx.executing.any fun e =>
    decide (e.1.frame.opcode = 0x0005) && decide (leValue (e.1.payload.take 2) ≤ 511) && !s.ranging &&
      s.isReady readyRetention && !s.stateForbids (.deviceIdSet 0 true)

/-- PFAIL_WARNING (R407, R413): the outcomes of the final reads, of each ring that gets one, in their order. A second fall
has no effect. Entry 50, DEDUCED. -/
def execPfailWarning (finalReads : List Bool) (s : State) : Out :=
  if s.dev.rstLow ∨ s.dev.pfail then .next s
  else
    let s := { s with
      dev := { s.dev with pfail := true, pfailAt := s.clock }
      regs := { s.regs with pfailWarnings := s.regs.pfailWarnings.inc }
      fw := { s.fw with update := none }
      ret := { s.ret with periodic := s.ret.commit } }
    let s := if s.storeInProgress.isSome then s.cutStore.dropTaken else if s.settingId then s.dropTaken else s
    let s := s.warnSupervisor
    let s := (s.finalRings.zip finalReads).foldl State.finalRead s
    .next ((s.turnAway).denyHeld.commitJournal true)

/-! ## Its end (R412) -/

/-- Banks whose step the warning kept from issue. -/
def State.keptBanks (s : State) : List (Nat × BankStep × Nat) :=
  s.hist.banks.filterMap fun b => match b.2.step with
    | none => none
    | some st => if b.2.state = .filling then some (b.1, st, b.2.desc.step) else none

/-- A step as a skipped one with reason SAFETY. -/
def keptRun (p : Nat × BankStep × Nat) : SkipRun :=
  { firstStep := p.2.2, count := 1, reasons := Reasons.safety, firstTime := p.2.1.time, granules := 0, epoch := p.2.1.epoch,
    facet := p.2.1.facet }

/-- The steps of sequencer `n` that the warning kept from issue, each once, by time. Entry 50, DEDUCED. -/
def State.keptSteps (s : State) (n : Nat) : List SkipRun :=
  sortBy (fun a b => decide (a.firstTime ≤ b.firstTime))
    ((s.keptBanks.filter fun p => decide (p.2.1.seq = n)).map keptRun).dedup

/-- Runs put together into one, the first naming the step. -/
def mergeRuns : List SkipRun → Option SkipRun
  | [] => none
  | r :: t => some
      { r with
        count := min (2 ^ 20 - 1) (r.count + (t.map (·.count)).sum)
        reasons := t.foldl (fun m x => m ||| x.reasons) r.reasons
        granules := r.granules + (t.map (·.granules)).sum }

/-- The steps kept from issue join the open run of sequencer `n`, before those kept from admission.
Entry 50, DEDUCED. -/
def State.joinKept (s : State) (n : Nat) : State :=
  let kept := s.keptSteps n
  s.modSeq n fun q =>
    { q with
      skip := mergeRuns (kept ++ q.skip.toList)
      counters := { q.counters with skippedSteps := q.counters.skippedSteps.add kept.length } }

/-- A bank kept from issue is released with its credit. -/
def State.dropBank (s : State) (p : Nat × BankStep × Nat) : State :=
  ((s.leaveBank p.1).unreserve p.2.1.stream p.2.1.credit).setBank p.1 Bank.released

/-- PFAIL_RELEASE (R412): PFAIL_N has been high for 10 ms. One SKIP record per sequencer, then a warm reset.
Entry 50, DEDUCED. -/
def execPfailRelease (s : State) : Out :=
  if s.dev.pfail ∧ s.elapsed s.dev.pfailAt 10 100 then
    let s' := (s.each (List.range 8) State.joinKept)
    let s' := s.keptBanks.foldl State.dropBank s'
    let s' := { s' with dev := { s'.dev with pfail := false } }
    .next (s'.each (List.range 8) State.closeSkip).warmReset
  else .next s

end Sys2Proof.Machine
end

