-- ==== Sys2Proof/Machine/Mailbox.lean ====
section
/-! DEFINITION. Mailboxes: doorbells, datagrams and packets, the taking of a command, tokens and dual submissions (R340,
R348 to R361, R371, R395, R459). -/

namespace Sys2Proof.Machine

/-! ## PCIe doorbells (R349, R350) -/

/-- Command frames are written into slots from command `k` on. Entry 46, DEDUCED. -/
def writeSlots (slots : Tab (Option Frame)) (k : Nat) : List Frame → Tab (Option Frame)
  | [] => slots
  | f :: t => writeSlots (Tab.put none slots (k % 8) (some f)) (k + 1) t

/-- CMD_PI (R349, R350): the host has written frames into the slots from the next command on; a value that moves CMD_PI
backwards or too far is ignored. Entry 46, DEDUCED. -/
def execCmdPi (mailbox value : Nat) (frames : List Frame) : State → Out := hostWrite fun s =>
  if 31 < mailbox then .next s
  else
    let b := s.box mailbox
    let v := BitVec.ofNat 32 value
    let b := { b with slots := writeSlots b.slots b.cmdPi.toNat (frames.take 8) }
    if countDiff b.cmdPi b.rspCi ≤ countDiff v b.rspCi ∧ countDiff v b.rspCi ≤ 8 then
      .next (s.setBox mailbox { b with cmdPi := v })
    else .next (s.setBox mailbox { b with err := true })

/-- RSP_CI (R350). -/
def execRspCi (mailbox value : Nat) : State → Out := hostWrite fun s =>
  if 31 < mailbox then .next s
  else
    let b := s.box mailbox
    let v := BitVec.ofNat 32 value
    if countDiff v b.rspCi ≤ countDiff b.rspPi b.rspCi then .next (s.setBox mailbox { b with rspCi := v })
    else .next (s.setBox mailbox { b with err := true })

/-- MB_ERR_CLEAR (R349): bit 31 of MB_STATUS, W1C. -/
def execMbErrClear (mailbox value : Nat) : State → Out := hostWrite fun s =>
  if 31 < mailbox then .next s
  else if value / 2 ^ 31 % 2 = 1 then .next (s.modBox mailbox fun b => { b with err := false }) else .next s

/-! ## Datagrams and packets (R340, R352, R353, R459) -/

/-- The DMA flag of a frame (R354). -/
def frameDma (f : Frame) : Bool := decide (f.flags % 2 = 1)

/-- A mailbox drops what it received (R366). -/
def State.dropIn (s : State) (n : Nat) : State := s.modBox n fun b => { b with dropped := b.dropped.inc }

/-- An address lies in the device's subnet (R339). Entry 48, DEDUCED. -/
def inSubnet (c : NetCfg) (ip : Nat) : Bool :=
  decide (ipOrder ip / 2 ^ (32 - c.netmask) = ipOrder c.ipAddr / 2 ^ (32 - c.netmask))

/-- The Ethernet mailbox that listens on a UDP port (R339, R348). -/
def embOf (c : NetCfg) (udpPort : Nat) : Option Nat :=
  if c.mbxUdpBase ≤ udpPort ∧ udpPort ≤ c.mbxUdpBase + 7 then some (udpPort - c.mbxUdpBase) else none

/-- A datagram to Ethernet mailbox `m` is taken in (R339, R340, R348, R395). Entry 48, DEDUCED. -/
def State.embListens (s : State) (m : Nat) (via : Via) (ip : Nat) : Bool :=
  let c := s.net.net
  s.dev.fwRunning && decide (c.ipAddr ≠ 0) && s.isReady (readyPort via.port) && s.ourTag via.tag && inSubnet c ip &&
    (decide (m ≠ 0) || decide (via.port = 0)) && (decide (m = 0) || decide (s.dev.run ≠ .nadir))

/-- A datagram reaches Ethernet mailbox `m` (R352). Entry 48, DEDUCED. -/
def State.embReceive (s : State) (m : Nat) (via : Via) (srcIp srcPort : Nat) (frame : Frame) (payload : List Byte) : State :=
  if !s.embListens m via srcIp then s
  else
    let n := 32 + m
    let t : Taken :=
      { mailbox := n, frame := frame, payload := payload,
        origin := some { port := via.port, mac := via.mac, ip := srcIp, udp := srcPort }, readOk := true, takenAt := 0 }
    if payload.length ≠ (if frameDma frame then frame.payloadLen else 0) ∨ 8 ≤ (s.box n).queue.length then s.dropIn n
    else s.modBox n fun b => { b with queue := b.queue ++ [t] }

/-- EMB_DATAGRAM (R339, R352): the mailbox is that of the UDP port. Entry 48, DEDUCED. -/
def execEmbDatagram (udpPort : Nat) (via : Via) (srcIp srcPort : Nat) (frame : Frame) (payload : List Byte) (s : State) :
    Out :=
  match embOf s.net.net udpPort with
  | none => .next s
  | some m => .next (if 2 < via.port then s else s.embReceive m via srcIp srcPort frame payload)

/-- The 64 bytes of a command frame (R354). -/
def frameBytes (f : Frame) : List Byte :=
  leBytes 2 f.opcode ++ leBytes 2 f.flags ++ leBytes 4 f.token ++ leBytes 4 f.payloadLen ++ leBytes 4 f.payloadCrc ++ f.payload

/-- The true time at which a command packet that is complete now began: 0x7E, the frame, the payload and the CRC, ten bits a byte
(R345, R353). Entry 48, DEDUCED. -/
def State.uartBegan (s : State) (payload : List Byte) : Nat :=
  s.clock - (69 + payload.length) * 10 * 1000000000 / s.mbx.baud

/-- UART_PACKET (R353): the UART is served from the moment the boot ROM runs (R345). A packet that began before its receiver
began to look is partial and discarded, one that began before the last command was answered is dropped.
Entry 48, DEDUCED. -/
def execUartPacket (frame : Frame) (payload : List Byte) (crc : Nat) (s : State) : Out :=
  let b := s.box 40
  if s.dev.rstLow ∨ s.uartBegan payload < s.mbx.uartFrom then .next s
  else if s.uartBegan payload < s.mbx.uartFree ∨ crc ≠ crc32 (frameBytes frame ++ payload) ∨
      payload.length ≠ (if frameDma frame then frame.payloadLen else 0) ∨ b.busy ∨ !b.queue.isEmpty then
    .next (s.dropIn 40)
  else
    let t : Taken :=
      { mailbox := 40, frame := frame, payload := payload, origin := none, readOk := true, takenAt := 0 }
    .next (s.setBox 40 { b with queue := [t] })

/-- UART_GAP_TIMEOUT (R353): the partial packet is discarded, and the receiver looks for a new one from now on.
Entry 48, DEDUCED. -/
def execUartGapTimeout (s : State) : Out := .next { s with mbx := { s.mbx with uartFrom := s.clock } }

/-! ## Which command is taken (R348, R358, R363, R395) -/

/-- A frame of zeros, as a slot reads that was never written. Entry 46, DEDUCED. -/
def frameZero : Frame := { opcode := 0, flags := 0, token := 0, payloadLen := 0, payloadCrc := 0, payload := zeroBytes 48 }

/-- A mailbox is served in the present state; in a warm reset PCIe and Ethernet wait for the resumption (R398). -/
def State.serves (s : State) (n : Nat) : Bool :=
  if n = 40 then true else s.dev.fwRunning && !s.dev.warm && (decide (n ≤ 32) || decide (s.dev.run ≠ .nadir))

/-- A mailbox has a command to be taken: its last one is answered and another waits (R358). -/
def State.hasCommand (s : State) (n : Nat) : Bool :=
  let b := s.box n
  s.serves n && !b.busy && (if n < 32 then decide (b.cmdPi ≠ b.rspPi) else !b.queue.isEmpty)

/-- The mailbox that the round-robin takes next: the first with a command after the last one served. -/
def State.nextMailbox (s : State) : Option Nat :=
  ((List.range 41).map fun k => (s.mbx.last + 1 + k) % 41).find? s.hasCommand

/-- The command that a mailbox submits next: on PCIe its slot is copied, and `dma` is what the DMA read gave. -/
def State.nextCommand (s : State) (n : Nat) (dma : DmaOutcome) : Taken × Option (List Byte) :=
  let b := s.box n
  let empty : Taken :=
    { mailbox := n, frame := frameZero, payload := [], origin := none, readOk := dma.readBack, takenAt := s.clock }
  if n < 32 then
    let f := (Tab.get none b.slots (b.rspPi.toNat % 8)).getD frameZero
    let p := if frameDma f then dma.payload else some (f.payload.take f.payloadLen)
    ({ empty with frame := f, payload := p.getD [] }, p)
  else
    let t := b.queue.headD empty
    let p := if frameDma t.frame then t.payload else t.frame.payload.take t.frame.payloadLen
    ({ t with mailbox := n, payload := p, takenAt := s.clock }, some p)

/-! ## Checks of a frame (R354, R356, R371) -/

/-- The largest payload of a frame (R354). -/
def payloadMax (n : Nat) (f : Frame) : Nat :=
  if !frameDma f then 48 else if n < 32 then 16777216 else if n < 40 then 8192 else 4096

/-- A reserved bit or byte of the frame is set, its length is too large, or its host address is not aligned.
Entry 46, DEDUCED. -/
def frameBad (n : Nat) (f : Frame) : Bool :=
  let zeros (l : List Byte) : Bool := l.all fun b => decide (b = 0)
  decide (4 ≤ f.flags) || decide (payloadMax n f < f.payloadLen) ||
    (frameDma f && (if n < 32 then decide (leValue (f.payload.take 8) % 8 ≠ 0) || !zeros (f.payload.drop 8)
      else !zeros f.payload))

/-- The payload could not be read whole, or its CRC differs (R354, R356); of one that is too large nothing is read. -/
def payloadBroken (n : Nat) (f : Frame) : Option (List Byte) → Bool
  | none => decide (f.payloadLen ≤ payloadMax n f)
  | some p => decide (f.payloadLen ≤ payloadMax n f) &&
      (decide (p.length ≠ f.payloadLen) || decide (f.payloadCrc ≠ if f.payloadLen = 0 then 0 else crc32 p))

/-- What ranks before a frame's BAD_ARG (R361): a bad certificate (R365), an update that does not verify (R364), or a KERNEL
that is not supported (R201). -/
def State.payloadStatus (s : State) (op : Nat) (p : List Byte) : List (Bool × Status) :=
  [(decide (op = 0x0024) && !Config.certificateValid p, .integrity),
   (decide (op = 0x0022) && !s.fw.updateVerifies, .integrity),
   (decide (op = 0x0602) && decide (1 < leValue ((p.drop 1).take 1)), .unsupported)]

/-- The status that a frame and its payload give before the command itself is looked at; while the boot ROM runs, every
opcode but those of R363 is NOT_READY. Entry 46, DEDUCED. -/
def State.frameStatus (s : State) (t : Taken) (p : Option (List Byte)) : Status :=
  let op := t.frame.opcode
  let listed := (payloadKinds op).isSome
  let rom := !s.dev.fwRunning && !(within 0x0020 0x0023 op)
  let bad := frameBad t.mailbox t.frame || (listed && !rom && !payloadOk op t.payload)
  verdict ([(payloadBroken t.mailbox t.frame p, .integrity), (bad, .badArg), (rom, .notReady),
    (!listed && !rom, .unsupported)] ++ if bad && !rom then s.payloadStatus op t.payload else [])

/-! ## Tokens and dual submissions (R357, R360) -/

/-- The journal entry of a token in a mailbox. -/
def Mailbox.journaled (b : Mailbox) (token : Nat) : Option JournalEntry :=
  b.journal.find? fun j => decide (j.token = token)

/-- A journaled token is resubmitted (TOKEN_REPLAY, R357): nothing is executed. Entry 46, DEDUCED. -/
def State.replay (s : State) (t : Taken) (j : JournalEntry) : State :=
  if j.opcode = t.frame.opcode ∧ j.payloadCrc = t.frame.payloadCrc then
    (s.modBox t.mailbox fun b => { b with replays := b.replays.inc }).deliver t { j.response with replayed := true }
  else
    (s.modBox t.mailbox fun b => { b with integrityErrors := b.integrityErrors.inc }).deliver t
      (responseOf t .integrity [] [])

/-- A command comes into execution, alone or with the partner of a dual submission. -/
def State.execute (s : State) (t : Taken) (p : Option Taken) : State :=
  { s with mbx := { s.mbx with executing := some (t, p) } }

/-- Two submissions are the same command (R360). -/
def sameCommand (a b : Frame) : Bool :=
  decide (a.opcode = b.opcode ∧ a.payloadLen = b.payloadLen ∧ a.payloadCrc = b.payloadCrc)

/-- A safety configuration command is taken (R360). Entry 47, DEDUCED. -/
def State.takeDual (s : State) (t : Taken) : State :=
  match s.mbx.held with
  | none => s.execute t none
  | some (h, since) =>
    if s.elapsed since 1000 100 then s.denyHeld.execute t none
    else
      let s := { s with mbx := { s.mbx with held := none } }
      if sameCommand h.frame t.frame then s.execute t (some h) else (s.denyPair h).denyPair t

/-- A command that is no replay is checked and comes into execution, or is answered (R356, R360, R361). -/
def State.takeNew (s : State) (t : Taken) (p : Option (List Byte)) : State :=
  match s.frameStatus t p with
  | .ok => if isDual t.frame.opcode then s.takeDual t else s.execute t none
  | st => s.answerTaken t none st [] []

/-- A mailbox's command is taken (R358). Entry 18, DESIGN CHOICE. Entry 46, DEDUCED. -/
def State.takeFrom (s : State) (n : Nat) (dma : DmaOutcome) : State :=
  let (t, p) := s.nextCommand n dma
  let s := { s with mbx := { s.mbx with last := n } }
  let s := s.modBox n fun b =>
    { b with busy := true, commands := b.commands.inc, queue := if n < 32 then b.queue else b.queue.tail }
  match (s.box n).journaled t.frame.token with
  | some j => s.replay t j
  | none => s.takeNew t p

/-- The DMA read of a payload failed over a link that works (R323, R356). -/
def State.noteRead (s : State) (n : Nat) (dma : DmaOutcome) : State :=
  let f := (s.nextCommand n dma).1.frame
  if s.dmaOk ∧ n < 32 ∧ frameDma f ∧ dma.payload.isNone ∧ f.payloadLen ≤ payloadMax n f then s.readError else s

/-- COMMAND_TAKE (R358): `dma` is what host memory answers. No command is taken while a power warning stands (R407). -/
def execCommandTake (dma : DmaOutcome) (s : State) : Out :=
  if s.mbx.executing.isSome ∨ s.dev.pfail ∨ s.dev.rstLow then .next s
  else match s.nextMailbox with
    | none => .next s
    | some n =>
      let dma := if s.dmaOk then dma else { dma with payload := none }
      .next ((s.noteRead n dma).takeFrom n dma)

/-- DUAL_SUBMISSION_TIMEOUT (R360): 1 s on the supervisor's timer. Entry 47, DEDUCED. -/
def execDualSubmissionTimeout (s : State) : Out :=
  match s.mbx.held with
  | none => .next s
  | some (_, since) => if s.elapsed since 1000 98 then .next s.denyHeld else .next s

end Sys2Proof.Machine
end

