-- ==== Sys2Proof/Machine/Registers.lean ====
section
/-! DEFINITION. Writes to direct registers of the device itself (R416, R421, R422, R425, R426). -/

namespace Sys2Proof.Machine

/-- The direct registers end here (R325). Entry 52, DEDUCED. -/
def directEnd : Nat := 0x4000

/-- The frame that 64 bytes hold (R354). -/
def frameOf (bs : List Byte) : Frame :=
  let field (k n : Nat) : Nat := leValue ((bs.drop k).take n)
  { opcode := field 0 2, flags := field 2 2, token := field 4 4, payloadLen := field 8 4, payloadCrc := field 12 4,
    payload := (bs.drop 16).take 48 }

/-- A byte written at offset `a` of BAR0: it counts in a command slot (R325, R349). -/
def State.writeSlotByte (s : State) (a : Nat) (b : Byte) : State :=
  let k := (a - 0x8000) / 1024
  let j := a % 1024 / 64
  if a < 0x8000 ∨ 31 < k ∨ 0x200 ≤ a % 1024 then s
  else s.modBox k fun x =>
    let f := (Tab.get none x.slots j).getD frameZero
    { x with slots := Tab.put none x.slots j (some (frameOf ((frameBytes f).set (a % 64) b))) }

/-- REGISTER_WRITE (R325, R349, R416): a write to a register of BAR0 without a row of its own. One that is not an aligned 32-bit
write to a direct register is counted; an aligned write of 32 bits, or of 64, sets the MSI-X table; up to 8 bytes set those of a
command slot; no other has an effect, since those registers are read-only or reserved. Entry 52, DEDUCED. -/
def execRegisterWrite (offset size value : Nat) : State → Out := hostWrite fun s =>
  let word (a : Nat) (v : Nat) (s : State) : State := s.writeMsix ((a - 0x7000) / 16) (a / 4 % 4) (BitVec.ofNat 32 v)
  if offset < directEnd ∧ (size ≠ 4 ∨ offset % 4 ≠ 0) then
    .next { s with regs := { s.regs with badAccess := s.regs.badAccess.inc } }
  else if 0x7000 ≤ offset ∧ offset < 0x7400 ∧ offset % size = 0 then
    if size = 4 then .next (word offset value s)
    else if size = 8 then .next (word (offset + 4) (value / 2 ^ 32) (word offset value s))
    else .next s
  else if 0x8000 ≤ offset ∧ size ≤ 8 then
    .next (s.each (List.range size) fun s i => s.writeSlotByte (offset + i) (BitVec.ofNat 8 (value / 256 ^ i)))
  else .next s

/-- SNAP_TRIGGER (R422): a trigger while PENDING is set is ignored. -/
def execSnapTrigger (value : Nat) : State → Out := hostWrite fun s =>
  if value % 2 = 1 then .next { s with tb := { s.tb with snap := { s.tb.snap with pending := true } } } else .next s

/-- PACE_LOW_CLEAR (R425). -/
def execPaceLowClear (value : Nat) : State → Out := hostWrite fun s =>
  .next (s.each ((List.range 4).filter fun d => value / 2 ^ d % 2 = 1) fun s d => s.modPace d fun p => { p with low := p.margin })

/-- COUNTERS_CLEAR (R426). -/
def execCountersClear (value : Nat) : State → Out := hostWrite fun s =>
  let r := s.regs
  let keep (bit : Nat) (c : Count) : Count := if value / 2 ^ bit % 2 = 1 then 0 else c
  .next { s with regs :=
    { r with
      progWriteReject := keep 0 r.progWriteReject
      badAccess := keep 1 r.badAccess
      watchdogExpiries := keep 2 r.watchdogExpiries
      pfailWarnings := keep 3 r.pfailWarnings } }

/-- The bits of INT_STATUS that a write of 1 clears (R421). -/
def clearableCauses : BitVec 32 := 0x1FC

/-- INT_STATUS_CLEAR (R421). -/
def execIntStatusClear (value : Nat) : State → Out := hostWrite fun s =>
  .next { s with regs := { s.regs with intStatus := s.regs.intStatus &&& ~~~(BitVec.ofNat 32 value &&& clearableCauses) } }

/-- The bits of INT_MASK (R421). -/
def maskBits : BitVec 32 := 0x1FE

/-- INT_MASK_WRITE (R421): each cleared mask bit whose cause stands raises its vector once. Entry 52, DEDUCED. -/
def execIntMaskWrite (value : Nat) : State → Out := hostWrite fun s =>
  let new := BitVec.ofNat 32 value &&& maskBits
  let freed := s.regs.intMask &&& ~~~new &&& s.intStatus
  let s := { s with regs := { s.regs with intMask := new } }
  .next (s.each ((List.range 9).filter fun b => freed.getLsbD b) fun s b => s.vector (causeVector b))

end Sys2Proof.Machine
end

