-- ==== Sys2Proof/Machine/Dispatch.lean ====
section
/-! DEFINITION. One arm per command. -/

namespace Sys2Proof.Machine

def exec (i : Instr) (s : State) : Host.Outcome State Fault Refusal :=
  match i with
  | .sysInfo => Sys2Proof.Machine.execSysInfo s
  | .warmReset force => Sys2Proof.Machine.execWarmReset force s
  | .funcReset block index => Sys2Proof.Machine.execFuncReset block index s
  | .deviceIdSet id verified => Sys2Proof.Machine.execDeviceIdSet id verified s
  | .pmbusConfig cfg => Sys2Proof.Machine.execPmbusConfig cfg s
  | .pmbusStatus => Sys2Proof.Machine.execPmbusStatus s
  | .uartConfig baud => Sys2Proof.Machine.execUartConfig baud s
  | .mbxStatus mailbox dst => Sys2Proof.Machine.execMbxStatus mailbox dst s
  | .fwUpdateBegin length => Sys2Proof.Machine.execFwUpdateBegin length s
  | .fwUpdateWrite offset data => Sys2Proof.Machine.execFwUpdateWrite offset data s
  | .fwUpdateCommit raiseMin => Sys2Proof.Machine.execFwUpdateCommit raiseMin s
  | .fwStatus dst => Sys2Proof.Machine.execFwStatus dst s
  | .debugUnlock certificate => Sys2Proof.Machine.execDebugUnlock certificate s
  | .timeStatus => Sys2Proof.Machine.execTimeStatus s
  | .timeSet time => Sys2Proof.Machine.execTimeSet time s
  | .timeSetSecHi secHi => Sys2Proof.Machine.execTimeSetSecHi secHi s
  | .alarmSet alarm cfg => Sys2Proof.Machine.execAlarmSet alarm cfg s
  | .alarmCancel alarm => Sys2Proof.Machine.execAlarmCancel alarm s
  | .trgConfig trg edges => Sys2Proof.Machine.execTrgConfig trg edges s
  | .syncConfig cfg => Sys2Proof.Machine.execSyncConfig cfg s
  | .syncResult => Sys2Proof.Machine.execSyncResult s
  | .ptpConfig cfg => Sys2Proof.Machine.execPtpConfig cfg s
  | .ptpPortConfig port cfg => Sys2Proof.Machine.execPtpPortConfig port cfg s
  | .ptpStatus dst => Sys2Proof.Machine.execPtpStatus dst s
  | .timeStepAccept => Sys2Proof.Machine.execTimeStepAccept s
  | .bridgeConfig cfg flush => Sys2Proof.Machine.execBridgeConfig cfg flush s
  | .bridgeStatus dst => Sys2Proof.Machine.execBridgeStatus dst s
  | .netConfig cfg => Sys2Proof.Machine.execNetConfig cfg s
  | .pllRefConfig cfg => Sys2Proof.Machine.execPllRefConfig cfg s
  | .pllConfig cfg => Sys2Proof.Machine.execPllConfig cfg s
  | .pllStatus dst => Sys2Proof.Machine.execPllStatus dst s
  | .pllRecal => Sys2Proof.Machine.execPllRecal s
  | .pllHopStore entry verified => Sys2Proof.Machine.execPllHopStore entry verified s
  | .pllHop entry => Sys2Proof.Machine.execPllHop entry s
  | .pllSyncArm arm => Sys2Proof.Machine.execPllSyncArm arm s
  | .pllCountersClear => Sys2Proof.Machine.execPllCountersClear s
  | .pllTestMode enable => Sys2Proof.Machine.execPllTestMode enable s
  | .ckoConfig cko cfg => Sys2Proof.Machine.execCkoConfig cko cfg s
  | .outConfig output cfg => Sys2Proof.Machine.execOutConfig output cfg s
  | .outFormat output fmt swing => Sys2Proof.Machine.execOutFormat output fmt swing s
  | .outSchedule output n w time offsets => Sys2Proof.Machine.execOutSchedule output n w time offsets s
  | .outStatus output dst => Sys2Proof.Machine.execOutStatus output dst s
  | .outCountersClear first count => Sys2Proof.Machine.execOutCountersClear first count s
  | .staConfig sta cfg => Sys2Proof.Machine.execStaConfig sta cfg s
  | .codeProfileSet profile cfg => Sys2Proof.Machine.execCodeProfileSet profile cfg s
  | .seqConfig seq cfg => Sys2Proof.Machine.execSeqConfig seq cfg s
  | .progWrite first count src data => Sys2Proof.Machine.execProgWrite first count src data s
  | .progCommit first count => Sys2Proof.Machine.execProgCommit first count s
  | .seqStart seq mode facet time => Sys2Proof.Machine.execSeqStart seq mode facet time s
  | .seqStop seq mode => Sys2Proof.Machine.execSeqStop seq mode s
  | .seqJump seq target => Sys2Proof.Machine.execSeqJump seq target s
  | .seqStatus seq dst => Sys2Proof.Machine.execSeqStatus seq dst s
  | .seqStreamPush seq count => Sys2Proof.Machine.execSeqStreamPush seq count s
  | .seqCountersClear seq => Sys2Proof.Machine.execSeqCountersClear seq s
  | .seqGridSet seq g0 trim => Sys2Proof.Machine.execSeqGridSet seq g0 trim s
  | .hitConfig first count cfg => Sys2Proof.Machine.execHitConfig first count cfg s
  | .staInputConfig first count cfg => Sys2Proof.Machine.execStaInputConfig first count cfg s
  | .inputStatus input dst => Sys2Proof.Machine.execInputStatus input dst s
  | .inputCountersClear first count => Sys2Proof.Machine.execInputCountersClear first count s
  | .gateProfileSet profile cfg => Sys2Proof.Machine.execGateProfileSet profile cfg s
  | .channelRowSet first count row => Sys2Proof.Machine.execChannelRowSet first count row s
  | .gateStatus channel dst => Sys2Proof.Machine.execGateStatus channel dst s
  | .rawExportSet stream inputs => Sys2Proof.Machine.execRawExportSet stream inputs s
  | .gateTapSet group tapChannel tapStream monChannel => Sys2Proof.Machine.execGateTapSet group tapChannel tapStream monChannel s
  | .gateCountersClear first count => Sys2Proof.Machine.execGateCountersClear first count s
  | .gateArm first count profile stream tOpen => Sys2Proof.Machine.execGateArm first count profile stream tOpen s
  | .matchProfileSet profile cfg => Sys2Proof.Machine.execMatchProfileSet profile cfg s
  | .histStatus channel dst => Sys2Proof.Machine.execHistStatus channel dst s
  | .histRead channel bank dst => Sys2Proof.Machine.execHistRead channel bank dst s
  | .histHold channel mode => Sys2Proof.Machine.execHistHold channel mode s
  | .histCountersClear first count => Sys2Proof.Machine.execHistCountersClear first count s
  | .streamConfig stream cfg => Sys2Proof.Machine.execStreamConfig stream cfg s
  | .kernelConfig stream cfg => Sys2Proof.Machine.execKernelConfig stream cfg s
  | .engineStatus first count dst => Sys2Proof.Machine.execEngineStatus first count dst s
  | .engineRetest engine => Sys2Proof.Machine.execEngineRetest engine s
  | .streamStatus stream dst => Sys2Proof.Machine.execStreamStatus stream dst s
  | .engineCountersClear => Sys2Proof.Machine.execEngineCountersClear s
  | .ringConfig stream cfg => Sys2Proof.Machine.execRingConfig stream cfg s
  | .ringStatus stream dst => Sys2Proof.Machine.execRingStatus stream dst s
  | .streamUdpSet stream cfg => Sys2Proof.Machine.execStreamUdpSet stream cfg s
  | .ringResume reads => Sys2Proof.Machine.execRingResume reads s
  | .evchConfig channel source => Sys2Proof.Machine.execEvchConfig channel source s
  | .evchSubscribe consumer slot channel enable => Sys2Proof.Machine.execEvchSubscribe consumer slot channel enable s
  | .evchLock channel => Sys2Proof.Machine.execEvchLock channel s
  | .evchStatus first count dst => Sys2Proof.Machine.execEvchStatus first count dst s
  | .evchCountersClear first count => Sys2Proof.Machine.execEvchCountersClear first count s
  | .encConfig encoder cfg verified => Sys2Proof.Machine.execEncConfig encoder cfg verified s
  | .motorConfig cfg => Sys2Proof.Machine.execMotorConfig cfg s
  | .motorRun action dir target => Sys2Proof.Machine.execMotorRun action dir target s
  | .motorStatus dst => Sys2Proof.Machine.execMotorStatus dst s
  | .motorCountersClear => Sys2Proof.Machine.execMotorCountersClear s
  | .angleConfig encoder cfg => Sys2Proof.Machine.execAngleConfig encoder cfg s
  | .meridianSet encoder facets meridians => Sys2Proof.Machine.execMeridianSet encoder facets meridians s
  | .angleMarkSet mark cfg => Sys2Proof.Machine.execAngleMarkSet mark cfg s
  | .angleStatus encoder dst => Sys2Proof.Machine.execAngleStatus encoder dst s
  | .evchKeylock channel action key verified => Sys2Proof.Machine.execEvchKeylock channel action key verified s
  | .svConfig cfg => Sys2Proof.Machine.execSvConfig cfg s
  | .svInputConfig input cfg => Sys2Proof.Machine.execSvInputConfig input cfg s
  | .svLimitSet set cfg => Sys2Proof.Machine.execSvLimitSet set cfg s
  | .svRowWeight first count weights => Sys2Proof.Machine.execSvRowWeight first count weights s
  | .svSlpWindow set window cfg => Sys2Proof.Machine.execSvSlpWindow set window cfg s
  | .svCommit verified => Sys2Proof.Machine.execSvCommit verified s
  | .svStatus dst => Sys2Proof.Machine.execSvStatus dst s
  | .svSafeStop => Sys2Proof.Machine.execSvSafeStop s
  | .svCountersClear => Sys2Proof.Machine.execSvCountersClear s
  | .calConfig cfg => Sys2Proof.Machine.execCalConfig cfg s
  | .calRun function force first count => Sys2Proof.Machine.execCalRun function force first count s
  | .calStatus dst => Sys2Proof.Machine.execCalStatus dst s
  | .calSetWrite object set temp len src data => Sys2Proof.Machine.execCalSetWrite object set temp len src data s
  | .calSetRead object set dst => Sys2Proof.Machine.execCalSetRead object set dst s
  | .calTarget mode set first count range steps => Sys2Proof.Machine.execCalTarget mode set first count range steps s
  | .calStaLearn set shots rows => Sys2Proof.Machine.execCalStaLearn set shots rows s
  | .calStore object verified => Sys2Proof.Machine.execCalStore object verified s
  | .retest => Sys2Proof.Machine.execRetest s
  | .selftestStatus dst => Sys2Proof.Machine.execSelftestStatus dst s
  | .testConfig output cfg => Sys2Proof.Machine.execTestConfig output cfg s
  | .testPulseRequest req => Sys2Proof.Machine.execTestPulseRequest req s
  | .testResultRead testId => Sys2Proof.Machine.execTestResultRead testId s
  | .registerWrite offset size value => Sys2Proof.Machine.execRegisterWrite offset size value s
  | .snapTrigger value => Sys2Proof.Machine.execSnapTrigger value s
  | .snapshotCapture => Sys2Proof.Machine.execSnapshotCapture s
  | .evchFire value => Sys2Proof.Machine.execEvchFire value s
  | .fireRejectedClear value => Sys2Proof.Machine.execFireRejectedClear value s
  | .paceLowClear value => Sys2Proof.Machine.execPaceLowClear value s
  | .countersClear value => Sys2Proof.Machine.execCountersClear value s
  | .intStatusClear value => Sys2Proof.Machine.execIntStatusClear value s
  | .intMaskWrite value => Sys2Proof.Machine.execIntMaskWrite value s
  | .hevValidClear n value => Sys2Proof.Machine.execHevValidClear n value s
  | .hevOverrunClear n value => Sys2Proof.Machine.execHevOverrunClear n value s
  | .seqPush seq value => Sys2Proof.Machine.execSeqPush seq value s
  | .streamPushErrClear seq value => Sys2Proof.Machine.execStreamPushErrClear seq value s
  | .ringCi stream value => Sys2Proof.Machine.execRingCi stream value s
  | .ciErrClear stream value => Sys2Proof.Machine.execCiErrClear stream value s
  | .cmdPi mailbox value frames => Sys2Proof.Machine.execCmdPi mailbox value frames s
  | .rspCi mailbox value => Sys2Proof.Machine.execRspCi mailbox value s
  | .mbErrClear mailbox value => Sys2Proof.Machine.execMbErrClear mailbox value s
  | .programMemoryWrite offset data => Sys2Proof.Machine.execProgramMemoryWrite offset data s
  | .embDatagram udpPort via srcIp srcPort frame payload => Sys2Proof.Machine.execEmbDatagram udpPort via srcIp srcPort frame payload s
  | .uartPacket frame payload crc => Sys2Proof.Machine.execUartPacket frame payload crc s
  | .uartGapTimeout => Sys2Proof.Machine.execUartGapTimeout s
  | .commandTake dma => Sys2Proof.Machine.execCommandTake dma s
  | .dualSubmissionTimeout => Sys2Proof.Machine.execDualSubmissionTimeout s
  | .slotIssue seq => Sys2Proof.Machine.execSlotIssue seq s
  | .edgeGeneratorTake output => Sys2Proof.Machine.execEdgeGeneratorTake output s
  | .burstFired output => Sys2Proof.Machine.execBurstFired output s
  | .burstComplete output => Sys2Proof.Machine.execBurstComplete output s
  | .formatTakesEffect output => Sys2Proof.Machine.execFormatTakesEffect output s
  | .testPulsePlace lane => Sys2Proof.Machine.execTestPulsePlace lane s
  | .testPulseResult lane stamp => Sys2Proof.Machine.execTestPulseResult lane stamp s
  | .testPulseDeadline lane => Sys2Proof.Machine.execTestPulseDeadline lane s
  | .alarmInstance alarm => Sys2Proof.Machine.execAlarmInstance alarm s
  | .deliveryWave => Sys2Proof.Machine.execDeliveryWave s
  | .secCarry => Sys2Proof.Machine.execSecCarry s
  | .hitEdge channel falling tBall phase n => Sys2Proof.Machine.execHitEdge channel falling tBall phase n s
  | .stampDelivery input => Sys2Proof.Machine.execStampDelivery input s
  | .stampTimeout input => Sys2Proof.Machine.execStampTimeout input s
  | .staEdge sta falling tBall phase n => Sys2Proof.Machine.execStaEdge sta falling tBall phase n s
  | .staWindowClose row => Sys2Proof.Machine.execStaWindowClose row s
  | .trgEdge trg falling tBall => Sys2Proof.Machine.execTrgEdge trg falling tBall s
  | .synciEdge tBall => Sys2Proof.Machine.execSynciEdge tBall s
  | .syncoPulse => Sys2Proof.Machine.execSyncoPulse s
  | .syncMissing => Sys2Proof.Machine.execSyncMissing s
  | .gateCalDecision channel gate => Sys2Proof.Machine.execGateCalDecision channel gate s
  | .converterCalDone input conv m1 m2 => Sys2Proof.Machine.execConverterCalDone input conv m1 m2 s
  | .rollingCalDue channel => Sys2Proof.Machine.execRollingCalDue channel s
  | .gateOpen channel gate => Sys2Proof.Machine.execGateOpen channel gate s
  | .gateDrain channel gate => Sys2Proof.Machine.execGateDrain channel gate s
  | .emissionReferenceFixed shot => Sys2Proof.Machine.execEmissionReferenceFixed shot s
  | .matchDecision channel gate => Sys2Proof.Machine.execMatchDecision channel gate s
  | .neighbourTest channel gate => Sys2Proof.Machine.execNeighbourTest channel gate s
  | .bankClose channel bank => Sys2Proof.Machine.execBankClose channel bank s
  | .issueLimitCommit stream => Sys2Proof.Machine.execIssueLimitCommit stream s
  | .engineJobStart engine => Sys2Proof.Machine.execEngineJobStart engine s
  | .engineJobDone engine => Sys2Proof.Machine.execEngineJobDone engine s
  | .engineFault engine cause => Sys2Proof.Machine.execEngineFault engine cause s
  | .jobTimeout engine => Sys2Proof.Machine.execJobTimeout engine s
  | .engineSelftestDone engine pass => Sys2Proof.Machine.execEngineSelftestDone engine pass s
  | .engineSelftestDue engine => Sys2Proof.Machine.execEngineSelftestDue engine s
  | .batchTimeout stream => Sys2Proof.Machine.execBatchTimeout stream s
  | .ringBatchWrite stream => Sys2Proof.Machine.execRingBatchWrite stream s
  | .ringInterrupt stream => Sys2Proof.Machine.execRingInterrupt stream s
  | .confirmationRead stream => Sys2Proof.Machine.execConfirmationRead stream s
  | .batchConfirmed stream ok => Sys2Proof.Machine.execBatchConfirmed stream ok s
  | .smiurnSend stream => Sys2Proof.Machine.execSmiurnSend stream s
  | .ringReconciliation reads => Sys2Proof.Machine.execRingReconciliation reads s
  | .hostLinkReset kind => Sys2Proof.Machine.execHostLinkReset kind s
  | .encoderEdge encoder isB level tBall heldNs => Sys2Proof.Machine.execEncoderEdge encoder isB level tBall heldNs s
  | .encoderIndexEdge encoder tBall => Sys2Proof.Machine.execEncoderIndexEdge encoder tBall s
  | .encoderPairFault receiver => Sys2Proof.Machine.execEncoderPairFault receiver s
  | .estimatorTimeout encoder => Sys2Proof.Machine.execEstimatorTimeout encoder s
  | .angleMarkCrossing mark => Sys2Proof.Machine.execAngleMarkCrossing mark s
  | .svSampleTick levels => Sys2Proof.Machine.execSvSampleTick levels s
  | .discrepancyFault input => Sys2Proof.Machine.execDiscrepancyFault input s
  | .safetyReset => Sys2Proof.Machine.execSafetyReset s
  | .speedWindow => Sys2Proof.Machine.execSpeedWindow s
  | .agreementFault => Sys2Proof.Machine.execAgreementFault s
  | .standstill => Sys2Proof.Machine.execStandstill s
  | .rampTimeExpiry => Sys2Proof.Machine.execRampTimeExpiry s
  | .twilightTimeout => Sys2Proof.Machine.execTwilightTimeout s
  | .budgetWindowEnd => Sys2Proof.Machine.execBudgetWindowEnd s
  | .sectorBudgetReached sector => Sys2Proof.Machine.execSectorBudgetReached sector s
  | .supervisorFault finding => Sys2Proof.Machine.execSupervisorFault finding s
  | .mfltNFault level => Sys2Proof.Machine.execMfltNFault level s
  | .mrdyChange level => Sys2Proof.Machine.execMrdyChange level s
  | .readyTimeout => Sys2Proof.Machine.execReadyTimeout s
  | .atSpeed => Sys2Proof.Machine.execAtSpeed s
  | .motorStopped => Sys2Proof.Machine.execMotorStopped s
  | .motorRefUpdate => Sys2Proof.Machine.execMotorRefUpdate s
  | .refMeasurementWindow hzA hzB => Sys2Proof.Machine.execRefMeasurementWindow hzA hzB s
  | .refEdgeGap ref => Sys2Proof.Machine.execRefEdgeGap ref s
  | .revertHoldExpiry => Sys2Proof.Machine.execRevertHoldExpiry s
  | .pllUnlock cause => Sys2Proof.Machine.execPllUnlock cause s
  | .pllLock residual => Sys2Proof.Machine.execPllLock residual s
  | .ptpFrameReceived port frame => Sys2Proof.Machine.execPtpFrameReceived port frame s
  | .announceTimeout port => Sys2Proof.Machine.execAnnounceTimeout port s
  | .ppsTimeout => Sys2Proof.Machine.execPpsTimeout s
  | .ptpMessageTransmit port message => Sys2Proof.Machine.execPtpMessageTransmit port message s
  | .bridgeFrameReceived port frame => Sys2Proof.Machine.execBridgeFrameReceived port frame s
  | .macEntryAgeing mac => Sys2Proof.Machine.execMacEntryAgeing mac s
  | .bridgeFault => Sys2Proof.Machine.execBridgeFault s
  | .phyLinkChange port up => Sys2Proof.Machine.execPhyLinkChange port up s
  | .paceWindow margins => Sys2Proof.Machine.execPaceWindow margins s
  | .vddaAdjust readMv => Sys2Proof.Machine.execVddaAdjust readMv s
  | .pmbusFault => Sys2Proof.Machine.execPmbusFault s
  | .temperatureUpdate readings => Sys2Proof.Machine.execTemperatureUpdate readings s
  | .nonlinearityRun input counts result => Sys2Proof.Machine.execNonlinearityRun input counts result s
  | .skewTracking sensor width deadline => Sys2Proof.Machine.execSkewTracking sensor width deadline s
  | .wholeMemoryBist result => Sys2Proof.Machine.execWholeMemoryBist result s
  | .watchdogExpiry => Sys2Proof.Machine.execWatchdogExpiry s
  | .periodicJournalCommit => Sys2Proof.Machine.execPeriodicJournalCommit s
  | .pfailWarning finalReads => Sys2Proof.Machine.execPfailWarning finalReads s
  | .pfailRelease => Sys2Proof.Machine.execPfailRelease s
  | .rstNFall => Sys2Proof.Machine.execRstNFall s
  | .supplyOutOfRange => Sys2Proof.Machine.execSupplyOutOfRange s
  | .rstNRise => Sys2Proof.Machine.execRstNRise s
  | .firmwareStart => Sys2Proof.Machine.execFirmwareStart s
  | .deviceTestComplete test pass => Sys2Proof.Machine.execDeviceTestComplete test pass s
  | .functionTestComplete test result => Sys2Proof.Machine.execFunctionTestComplete test result s
  | .svSelftestComplete pass => Sys2Proof.Machine.execSvSelftestComplete pass s
  | .pciePerst level => Sys2Proof.Machine.execPciePerst level s
  | .pcieLinkUp => Sys2Proof.Machine.execPcieLinkUp s
  | .msixUnmask vector => Sys2Proof.Machine.execMsixUnmask vector s
  | .noEngineInServiceTimeout => Sys2Proof.Machine.execNoEngineInServiceTimeout s
  | .countErrorNotCleared encoder => Sys2Proof.Machine.execCountErrorNotCleared encoder s
  | .encoderPairRestored encoder => Sys2Proof.Machine.execEncoderPairRestored encoder s
  | .fwSlotEraseDone => Sys2Proof.Machine.execFwSlotEraseDone s

end Sys2Proof.Machine
end

