-- ==== Sys2Proof/WellFormed.lean ====
section
/-! DEFINITION. Which commands are well formed: fields that fit their types, units that exist, and lists of the length that
the manual gives. -/

namespace Sys2Proof

open Machine

/-- A command frame: its fields fit, and its payload field has 48 bytes (R354). -/
def Frame.wf (f : Frame) : Bool :=
  decide (f.opcode < 2 ^ 16 ∧ f.flags < 2 ^ 16 ∧ f.token < 2 ^ 32 ∧ f.payloadLen < 2 ^ 32 ∧ f.payloadCrc < 2 ^ 32) &&
    decide (f.payload.length = 48)

/-- A value written to a 32-bit register (R416). -/
def word32 (v : Nat) : Bool := decide (v < 2 ^ 32)

/-- An 802.1Q tag: a VLAN of 12 bits and a priority of 3 (R339, R343). -/
def VlanTag.wf (t : VlanTag) : Bool := decide (t.vlan < 2 ^ 12 ∧ t.pcp ≤ 7)

/-- A frame at a port: MAC addresses of 48 bits and a tag (R266, R343). -/
def NetFrame.wf (f : NetFrame) : Bool :=
  decide (f.src < 2 ^ 48 ∧ f.dst < 2 ^ 48 ∧ f.outPhase < 16) && f.tag.all VlanTag.wf

/-- Data that come with a command have the length that it counts: 32 bytes for a program entry (R86), LEN items of a
calibration set (R383). -/
def Instr.dataOk : Instr → Bool
  | .progWrite _ count _ (some d) => decide (d.length = 32 * count)
  | .calSetWrite _ _ _ len _ (some d) => decide (2 * d.length = len) && d.all fun v => withinI (-32768) 32767 v
  | .seqPush _ v | .streamPushErrClear _ v | .ringCi _ v | .ciErrClear _ v | .mbErrClear _ v | .rspCi _ v
  | .hevValidClear _ v | .hevOverrunClear _ v | .snapTrigger v | .evchFire v | .fireRejectedClear v | .paceLowClear v
  | .countersClear v | .intStatusClear v | .intMaskWrite v => word32 v
  | .cmdPi _ v frames => word32 v && decide (frames.length ≤ 8) && frames.all Frame.wf
  | .embDatagram n v ip udp f _ =>
    decide (n < 2 ^ 16 ∧ v.mac < 2 ^ 48 ∧ ip < 2 ^ 32 ∧ udp < 2 ^ 16) && v.tag.all VlanTag.wf && f.wf
  | .ptpFrameReceived _ f => f.tag.all VlanTag.wf
  | .uartPacket f _ crc => word32 crc && f.wf
  | .svSampleTick l => decide (l.sinA.length = 4 ∧ l.sinB.length = 4)
  | .paceWindow ms => decide (ms.length = 4)
  | .temperatureUpdate rs => decide (rs.length = 16)
  | .bridgeFrameReceived _ f => f.wf
  | _ => true

/-- The unit that a happening names exists. Entry 1, DESIGN CHOICE. -/
def Instr.unitOk : Instr → Bool
  | .hevValidClear n _ | .hevOverrunClear n _ => decide (n ≤ 15)
  | .seqPush n _ | .streamPushErrClear n _ | .slotIssue n => decide (n ≤ 7)
  | .ringCi n _ | .ciErrClear n _ | .issueLimitCommit n | .batchTimeout n | .ringBatchWrite n | .ringInterrupt n
  | .confirmationRead n | .batchConfirmed n _ | .smiurnSend n | .staEdge n _ _ _ _ | .staWindowClose n
  | .msixUnmask n => decide (n ≤ 63)
  | .cmdPi n _ _ | .rspCi n _ | .mbErrClear n _ => decide (n ≤ 31)
  | .embDatagram _ v _ _ _ _ => decide (v.port ≤ 2)
  | .edgeGeneratorTake n | .burstFired n | .burstComplete n | .formatTakesEffect n => decide (n ≤ 135)
  | .testPulsePlace n | .testPulseResult n _ | .testPulseDeadline n | .trgEdge n _ _ => decide (n ≤ 7)
  | .alarmInstance n => decide (n ≤ 15)
  | .hitEdge n _ _ _ _ | .gateCalDecision n _ | .rollingCalDue n | .gateOpen n _ | .gateDrain n _ | .matchDecision n _
  | .neighbourTest n _ => decide (n ≤ 511)
  | .bankClose n b => decide (n ≤ 511 ∧ b ≤ 1)
  | .stampDelivery n | .stampTimeout n => decide (n ≤ 584)
  | .nonlinearityRun n _ _ => decide (n ≤ 575)
  | .skewTracking n _ _ => decide (n ≤ 15)
  | .programMemoryWrite n d => decide (n + d.length ≤ 2097152)
  | .converterCalDone n c _ _ => decide (n ≤ 511 ∧ c ≤ 3)
  | .engineJobStart n | .engineJobDone n | .engineFault n _ | .jobTimeout n | .engineSelftestDone n _
  | .engineSelftestDue n => decide (n ≤ 95)
  | .encoderEdge n _ _ _ _ | .encoderIndexEdge n _ | .encoderPairFault { encoder := n, .. } | .estimatorTimeout n
    | .countErrorNotCleared n
  | .encoderPairRestored n | .refEdgeGap n => decide (n ≤ 1)
  | .angleMarkCrossing n => decide (n ≤ 7)
  | .discrepancyFault n => decide (n ≤ 3)
  | .sectorBudgetReached n => decide (n ≤ 63)
  | .ptpFrameReceived n _ | .announceTimeout n | .ptpMessageTransmit n _ | .bridgeFrameReceived n _
  | .phyLinkChange n _ => decide (n ≤ 2)
  | .supervisorFault f => f.cause.lineOk
  | _ => true

/-- A command is well formed: its payload fields fit their types (R367), what comes with it has its form, and the unit that
it names exists. A value out of the range that a rule gives is no ill form: the command answers BAD_ARG. -/
def Instr.wf (c : Instr) : Bool := payloadFits c && c.dataOk && c.unitOk

end Sys2Proof
end

