-- ==== Sys2Proof/Safety.lean ====
section
/-! DEFINITION. The terms that statements use: when a mailbox command is free to run, what it means that it completes, what
of the state an answer does not touch, and the invariants. -/

namespace Sys2Proof.Machine

/-! ## Running and answering -/

/-- The command may run now: it is the one in execution, and the device is not idle after a power warning, or it comes with no
mailbox while none is in execution and no power warning stands (R358, R407). -/
def State.runs (s : State) (c : Instr) : Bool :=
  match s.mbx.executing with
  | none => !s.dev.pfail
  | some (t, p) => p.isNone && isCommand c t && !s.powerIdle

/-- A submission of the command is in execution, and the device is not idle after a power warning, or it comes with no mailbox
while none is in execution and no power warning stands (R360, R407). -/
def State.runsDual (s : State) (c : Instr) : Bool :=
  match s.mbx.executing with
  | none => !s.dev.pfail
  | some (t, _) => isCommand c t && !s.powerIdle

/-- The command may run and the state of the device forbids it nothing (R363, R395). -/
def State.admits (s : State) (c : Instr) : Bool := s.runs c && !s.stateForbids c

/-- As `admits`, for a command whose answer waits: no power warning stands (R407). -/
def State.admitsWait (s : State) (c : Instr) : Bool := s.admits c && !s.dev.pfail

/-- As `admits`, for a safety configuration command: either submission may be the one in execution. -/
def State.admitsDual (s : State) (c : Instr) : Bool := s.runsDual c && !s.stateForbids c

/-- The state without what an answer changes: mailboxes, what left the device or waits at its ports, the reply, MSI-X bits that
wait. -/
def State.core (s : State) : State :=
  { s with
    mbx := { s.mbx with boxes := [], executing := none, uartFree := 0 }
    net := { s.net with ports := (List.range 3).map fun k => (k, { s.port k with queue := [] }) }
    regs := { s.regs with pcie := { s.regs.pcie with msixPending := [] } }
    sent := []
    reply := none }

/-- In `t` the command that ran in `s` is answered with a status and return values: in the journal of its mailbox, whose
response it is (R359), or in `reply` when it came with none. -/
def answered (c : Instr) (s t : State) (st : Status) (ret : List Fld) : Prop :=
  match s.mbx.executing with
  | none => t.reply = some { token := 0, opcode := opcodeOf c, status := st, replayed := false, ret := pack ret, block := [] }
  | some (k, _) => (t.box k.mailbox).journal.head?.map (·.response) = some (responseOf k st ret [])

/-- Command `c` completes in `s`: it is answered, and but for the answer the next state is `s'`. -/
def completes (c : Instr) (s s' : State) (st : Status) (ret : List Fld) : Prop :=
  ∃ t, exec c s = .next t ∧ t.core = s'.core ∧ answered c s t st ret

/-- A safety configuration command completes in `s` (R360). A first submission is held, and nothing else happens, while a power
warning stands it is denied (entry 50, DEDUCED); with the second the next state is `s'` but for the answers, which both
submissions get alike. One with no mailbox is denied (entry 18, DESIGN CHOICE). -/
def completesDual (c : Instr) (s s' : State) (st : Status) (ret : List Fld) : Prop :=
  match s.mbx.executing with
  | none => completes c s s .safetyDenied []
  | some (k, none) =>
    (s.dev.pfail = false → exec c s = .next { s with mbx := { s.mbx with executing := none, held := some (k, k.takenAt) } }) ∧
      (s.dev.pfail = true → completes c s s .safetyDenied [])
  | some (k, some q) => ∃ t, exec c s = .next t ∧ t.core = s'.core ∧
      (∃ e ∈ (t.box k.mailbox).journal, e.response = responseOf k st ret []) ∧
      (∃ e ∈ (t.box q.mailbox).journal, e.response = responseOf q st ret [])

/-- Command `c` runs in `s` and its answer waits for `k`; but for that the next state is `s'`. -/
def waitsFor (c : Instr) (s s' : State) (k : WaitKey) : Prop :=
  ∃ t, exec c s = .next t ∧ ∃ w, t.mbx.waiting = s'.mbx.waiting ++ [(k, w)] ∧
    ({ t with mbx := { t.mbx with waiting := s'.mbx.waiting } } : State).core = s'.core

/-- A block of `len` bytes for `dst` can reach the sender (R356, R369): by DMA on PCIe, where the read behind it completes; with
DST 0 and within the size of one response on Ethernet and the UART; a command with no mailbox always. -/
def State.canShow (s : State) (dst len : Nat) : Bool :=
  match s.mbx.executing with
  | none => true
  | some (k, _) =>
    if k.mailbox < 32 then s.dmaOk && k.readOk
    else decide (dst = 0) && decide (len ≤ if k.mailbox < 40 then 8192 else 4096)

/-- Status command `c` completes in `s` with the block `blk`, which reaches its DST by DMA on PCIe and stands beside the
response elsewhere (R355, R369); but for the answer the next state is `s'`. -/
def shows (c : Instr) (s s' : State) (dst : Nat) (blk : List Byte) : Prop :=
  ∃ t, exec c s = .next t ∧ t.core = s'.core ∧
    match s.mbx.executing with
    | none => t.reply = some { token := 0, opcode := opcodeOf c, status := .ok, replayed := false, ret := [], block := blk }
    | some (k, _) =>
      (t.box k.mailbox).journal.head?.map (·.response) = some (responseOf k .ok [] (if k.mailbox < 32 then [] else blk)) ∧
        (k.mailbox < 32 → Sent.dma dst blk ∈ t.sent)

/-! ## Slots -/

/-- The next slot of sequencer `n`, in the time domain, is the first of a granule, is due and fires at `f`; nothing is frozen
in an under-run and no SEQ_START waits (R93, R97, R98, R106). -/
abbrev State.atBoundary (s : State) (n : Nat) (f : Tq) : Prop :=
  n ≤ 7 ∧ (s.seq n).running = true ∧ (s.seq n).cfg.domain = 1 ∧ (s.seq n).stepTo = none ∧ (s.seq n).j = 0 ∧
    (s.seq n).frozen = none ∧ f = (s.seq n).accum.position (s.seq n).k + (s.seq n).trim ∧ s.reached (f - 20480) = true ∧
    ∀ w ∈ s.mbx.waiting, w.1 ≠ .seqStart n

/-- A stop asked of sequencer `n` is due at the granule boundary at which it stands: mode 1 at any, mode 0 where a step ends, mode 2
where a segment ends (R104). -/
def State.stopIsDue (s : State) (n : Nat) : Bool :=
  (s.seq n).stops.any fun r => decide (r.mode = 1) ||
    (decide (r.mode = 0) && (s.seq n).begins (s.sq.mem.entry (s.seq n).nextEntry)) ||
    (decide (r.mode = 2) && (s.seq n).segEnded)

/-- At the boundary at which sequencer `n` stands a step begins with entry `e`, which is resident, as is the whole step, and the
step before was not skipped (R91, R93, R109). -/
abbrev State.stepBegins (s : State) (n : Nat) (e : ListEntry) : Prop :=
  (s.seq n).halting = false ∧ s.stopIsDue n = false ∧ e = s.sq.mem.entry (s.seq n).nextEntry ∧ (s.seq n).begins e = true ∧
    (s.stepAt (s.seq n).nextEntry).2 = 0 ∧ ((s.seq n).first = true ∨ (s.seq n).step.reasons = 0)

/-- The channels of a step that begins with entry `e` on sequencer `n` (R94). -/
def State.stepChannels (s : State) (n : Nat) (e : ListEntry) : List Nat := s.channelsOf (e.mask &&& (s.seq n).cfg.rows)

/-- A step of sequencer `n` that begins with entry `e` can be admitted (R14, R25, R109, R179): credit for its records, a free
bank on each of its channels, lock, the permit, no dark, no power warning, and its hit groups ready. -/
abbrev State.canAdmit (s : State) (n : Nat) (e : ListEntry) : Prop :=
  s.eng.slotsUsed + (s.stepChannels n e).length * (s.stream (s.seq n).cfg.resultStream).cfg.maxEchoes ≤ 16384 ∧
    (∀ c ∈ s.stepChannels n e, (s.bank (2 * c + (s.histChan c).nextBank)).state = .free) ∧
    s.firingStopped = false ∧ s.sv.permit = true ∧ s.sv.dark = false ∧ s.dev.pfail = false ∧
    s.groupsReady (s.stepChannels n e) = true

/-! ## Invariants -/

/-- Polestar's nanoseconds lie in one second (R4). -/
def State.timeInv (s : State) : Prop := s.tb.ns ≤ 999999999

/-- Program memory is in its canonical form (R86): addresses strictly rising, and no byte listed that reads 0. -/
def State.memInv (s : State) : Prop := s.sq.mem.wf = true

/-- What the device holds stays within its room: four entries at a schedule input (R51), 256 test records (R85), and 1,024
learned addresses, each once (R266). -/
def State.boundsInv (s : State) : Prop :=
  (∀ o, (s.out o).sched.length ≤ 4) ∧ s.tx.records.length ≤ 256 ∧ s.net.macs.length ≤ 1024 ∧ (s.net.macs.map (·.1)).Nodup

/-- What the supervisor promises in every state (R293, R297, R302, R365): the permit stands in NORMAL and TWILIGHT only and not
while JTAG is unlocked, without it emission is dark, torque is given in NORMAL, TWILIGHT and DUSK only, and the status pair
tells of a permit only while there is one. -/
def State.safetyInv (s : State) : Prop :=
  (s.sv.permit = true → (s.sv.run = .normal ∨ s.sv.run = .twilight) ∧ s.dev.jtagUnlocked = false) ∧
  (s.sv.permit = false → s.sv.dark = true) ∧
  (s.sv.sto = true → s.sv.run = .normal ∨ s.sv.run = .twilight ∨ s.sv.run = .dusk) ∧
  (s.sv.ssta = true ∨ s.sv.sstb = true → s.sv.permit = true)

end Sys2Proof.Machine
end

