-- ==== Sys2Proof/Certificates/Slice0/Obligations.lean ====
section
/-! DEFINITION. The statements for the provers. -/

open Sys2Proof Sys2Proof.Machine

/-! ## The block as a whole -/

/-- A step runs the command at the front of the queue on the state with the queue's rest. The queue is the model's choice
(entries 1 and 18): the manual orders the rows by what brings them about, and numbers no queue. -/
def Obligations.StepRunsFrontCommand : Prop :=
  ∀ (s : State) (c : Instr) (rest : List Instr), s.pending = c :: rest → step s = exec c (s.withQueue rest)

/-- On an empty queue a step is one TCK cycle (the model's choice, entry 2): Polestar counts one nanosecond, the loop of
the PLL goes on, and nothing else changes while no SEC[63:48], no frame of a port and no divider reset waits. While the
cold reset is held Polestar stands (R28, R388). SEC_CARRY (R27): at the last nanosecond before a carry of SEC[47:0] a
waiting SEC[63:48] takes effect with the carry, as an accepted step that the epoch counts: where it lies ahead of the
SEC[63:48] that the carry gives or equals it, a step of 0 (entry 22, DEDUCED), and, where it lies behind, when steps
backwards are allowed (R32); else it goes on waiting. At any other moment the row changes nothing (entry 2, DESIGN
CHOICE). Concludes that exec answers a next state for: `secCarry`. -/
def Obligations.TimePasses : Prop :=
  (∀ s : State, s.pending = [] → s.tb.ns ≤ 999999999 → s.tb.sec.toNat < 2 ^ 64 - 1 → s.tb.pendingSecHi = none →
    (∀ k, k ≤ 2 → (s.port k).queue = []) → s.pll.resetting = none → s.dev.rstLow = false →
    ∃ t, step s = .next t ∧ t.now = s.now + 1024 ∧ t.tb.ns ≤ 999999999 ∧ t.tb.epoch = s.tb.epoch ∧
      t = { s with tb := { s.tb with ns := t.tb.ns, sec := t.tb.sec }, pll := s.runLoop.pll, clock := s.clock + 1 }) ∧
  (∀ s : State, s.pending = [] → (∀ k, k ≤ 2 → (s.port k).queue = []) → s.pll.resetting = none → s.dev.rstLow = true →
    step s = .next { s with clock := s.clock + 1 }) ∧
  (∀ s : State, s.atSecCarry = true → s.tb.pendingSecHi = none →
    ∃ t, exec .secCarry s = .next t ∧ t.tb.ns = 0 ∧ t.tb.sec = s.tb.sec + 1 ∧ t.now % tqPerSec = 0) ∧
  (∀ s : State, s.atSecCarry = false → exec .secCarry s = .next s) ∧
  (∀ (s : State) (v : BitVec 16), s.atSecCarry = true → s.tb.pendingSecHi = some v →
    ((s.tb.sec + 1).toNat / 2 ^ 48 ≤ v.toNat ∨ s.count.stepAllowed (-1) = true) →
    ∃ t, exec .secCarry s = .next t ∧ t.tb.pendingSecHi = none ∧ t.tb.sec.toNat = v.toNat * 2 ^ 48 ∧ t.tb.ns = 0 ∧
      t.tb.epoch = s.tb.epoch + 1) ∧
  (∀ (s : State) (v : BitVec 16), s.atSecCarry = true → s.tb.pendingSecHi = some v →
    v.toNat < (s.tb.sec + 1).toNat / 2 ^ 48 → s.count.stepAllowed (-1) = false →
    ∃ t, exec .secCarry s = .next t ∧ t.tb.pendingSecHi = some v ∧ t.tb.sec = s.tb.sec + 1 ∧ t.tb.ns = 0 ∧
      t.tb.epoch = s.tb.epoch)

/-- Every row is answered with a next state, in every state: nothing ends a run, and a command that may not run gets its
status (R361). That a happening which cannot come about where it stands, as one that names a unit which the device does
not have, changes nothing is the model's choice (entry 1). -/
def Obligations.EveryCommandAnswers : Prop :=
  ∀ (c : Instr) (s : State),
    (∃ t, exec c s = .next t) ∧ (c.unitOk = false → exec c s = .next s)

/-- Every step keeps Polestar's nanoseconds within one second (R4). -/
def Obligations.EveryStepKeepsTime : Prop :=
  ∀ s s' : State, s.timeInv → step s = .next s' → s'.timeInv

/-- Every step keeps the canonical form of program memory (R86). -/
def Obligations.EveryStepKeepsProgramMemory : Prop :=
  ∀ s s' : State, s.memInv → step s = .next s' → s'.memInv

/-- Every step keeps what the device holds within its room: four entries at each schedule input (R51), 256 test records
(R85), and 1,024 learned addresses, each of them once (R266). -/
def Obligations.EveryStepKeepsBounds : Prop :=
  ∀ s s' : State, s.boundsInv → step s = .next s' → s'.boundsInv

/-- Every step keeps what the supervisor promises (R293, R297, R302, R365): no emission without a permit, no permit
outside NORMAL and TWILIGHT or with JTAG unlocked, no torque outside NORMAL, TWILIGHT and DUSK. -/
def Obligations.EveryStepKeepsSafety : Prop :=
  ∀ s s' : State, s.safetyInv → step s = .next s' → s'.safetyInv

/-- Right after a reset the invariants hold; the device is in Boot with nothing ready (R387, R393, R419), no counter has
counted (R426), no stream, ring or event channel is in use (R199, R218, R328, R341), no output is enabled and each has its
first format (R47), each channel has its row (R161), no mailbox has a doorbell (R349), and the values of R287, R288, R292,
R314 and R425 stand. That the time base counts free then is the model's reading (entry 4, DEDUCED). -/
def Obligations.ResetState : Prop :=
  State.reset.timeInv ∧ State.reset.memInv ∧ State.reset.boundsInv ∧ State.reset.safetyInv ∧ State.reset.dev.run = .boot ∧
    State.reset.dev.ready = 0 ∧ State.reset.intStatus = 0 ∧ State.reset.regs.intMask = 0 ∧
    State.reset.regs.progWriteReject = 0 ∧ State.reset.regs.badAccess = 0 ∧ State.reset.regs.watchdogExpiries = 0 ∧
    State.reset.regs.pfailWarnings = 0 ∧ State.reset.pending = [] ∧ State.reset.sv.run = .init ∧
    State.reset.sv.permit = false ∧ State.reset.sv.dark = true ∧
    State.reset.sv.active.sv =
      { startMode := 1, speedSrc := 0, secIndexOffset := 0, agreeTol := 5, standstillTime := 100,
        sdiTol := 64, stopSpeed := 64, decelMin := 256, rampMargin := 128, rampTime := 5000, twilightTime := 60,
        twilightFrac := 25, emisLimit := 4, resetDisc := 100 } ∧
    (∀ i, Tab.get SvInputCfg.reset State.reset.sv.active.inputs i =
      { function := 0, mode := 0, discTime := 20, restart := 1 }) ∧
    (∀ k, Tab.get LimitSet.reset State.reset.sv.active.limits k =
      { slsLow := 1280, slsHigh := 1792, sectors := 32, budgetWin := 1000, budget := 0 }) ∧
    (∀ r, Tab.get 1 State.reset.sv.active.weights r = 1) ∧
    (∀ w, (Tab.get SlpWindow.reset State.reset.sv.active.slp w).enable = 0) ∧
    State.reset.cal.cfg =
      { deltaT := 4, auto := 7, enginePeriod := 60, refOut := [0, 1, 2, 3, 4, 5, 6, 7],
        refCh := [0, 64, 128, 192, 256, 320, 384, 448] } ∧
    (∀ n, (State.reset.stream n).used = 0 ∧ (State.reset.stream n).reserved = 0 ∧ (State.reset.stream n).nextIssue = 1 ∧
      (State.reset.stream n).committed = [] ∧ (State.reset.stream n).raw = false ∧
      (State.reset.stream n).cfg = { maxEchoes := 1, transport := 0, batchMax := 256, batchTimeout := 100 } ∧
      (State.reset.stream n).udp.dstMac = 0 ∧ State.reset.streamRunning n = false) ∧
    (∀ n, (State.reset.stream n).ring.cfg.enable = 0 ∧ (State.reset.stream n).ring.pi = 0 ∧
      (State.reset.stream n).ring.ci = 0 ∧ (State.reset.stream n).ring.unconfirmed = []) ∧
    State.reset.anyRunning = false ∧ State.reset.tb.source = .free ∧
    (∀ o, o ≤ 135 → (State.reset.out o).cfg.enable = 0 ∧ (o ≤ 127 → (State.reset.out o).fmt = 0) ∧
      (State.reset.out o).swing = 2) ∧
    (∀ c, c ≤ 511 → (State.reset.chan c).row = c / 8) ∧
    (∀ c, (State.reset.evch c).source = 0xFFF) ∧
    (∀ m, (State.reset.box m).cmdPi = 0 ∧ (State.reset.box m).rspCi = 0 ∧ (State.reset.box m).rspPi = 0) ∧
    (∀ d, State.reset.pace d = { margin := 32767, low := 32767 })

/-- Fields read back as they were laid out, every value that its type admits (R367, R368). The payload of every command
whose fields fit their types passes the layout checks of its opcode; OUT_SCHEDULE with no pulse carries no width (R367,
R368, R377). -/
def Obligations.PayloadLayouts : Prop :=
  (∀ fs : List Fld, (∀ f ∈ fs, Val.fits f.1 f.2 = true) → readFrom 0 (fs.map (·.1)) (pack fs) = fs.map (·.2)) ∧
  (∀ (c : Instr) (op : Nat) (bs : List Byte), payloadOf c = some (op, bs) → payloadFits c = true →
    (∀ (o w : Nat) (time : FullTime) (l : List Nat), c = .outSchedule o 0 w time l → w = 0) → payloadOk op bs = true)

/-! ## Outputs and test pulses -/

/-- The commands that set an output (R45, R46), its format (R47), a start input (R61) or a code profile (R69): in range
and not held back by a rule, each sets what it carries and nothing else. Concludes that exec answers a next state for:
`codeProfileSet`, `outConfig`, `outFormat`, `staConfig`. -/
def Obligations.OutputSettings : Prop :=
  (∀ (s : State) (o : Nat) (c : OutCfg), s.admits (.outConfig o c) = true → s.outConfigBad o c = false →
    (s.dev.classLocked = true → c.cls = (s.out o).cfg.cls) → (c.enable = 1 → (s.out o).fmtBy = none) →
    completes (.outConfig o c) s
      (if c.enable = 0 then (s.holdInactive o).setOut o { (s.holdInactive o).out o with cfg := c }
       else s.setOut o { s.out o with cfg := c }) .ok []) ∧
  (∀ (s : State) (o f w : Nat), s.admits (.outFormat o f w) = true → o ≤ 135 → f ≤ 3 → w ≤ 7 → (128 ≤ o → f = 3) →
    (f = 3 → o < 128 → 2048 ≤ (s.out o).cfg.width) →
    (f = 3 → o < 128 → (s.out o).cfg.cls = 0 →
      ∀ q ∈ s.sq.seqs, q.2.running = true → q.2.cfg.rows.getLsbD (s.out o).cfg.row = true → s.lowAmp q.2 = false) →
    (s.out o).cfg.enable ≠ 1 →
    completes (.outFormat o f w) s
      (if f = (s.out o).fmt then s.setOut o { s.out o with fmt := f, swing := w }
       else (s.holdInactive o).setOut o
         { (s.holdInactive o).out o with fmt := f, swing := w, fmtBy := some (s.clock + 10000) }) .ok []) ∧
  (∀ (s : State) (k : Nat) (c : StaCfg), s.admits (.staConfig k c) = true → k ≤ 63 → (c.row ≤ 63 ∨ c.row = 0x7F) →
    c.latMin ≤ 1024000 → c.latMin + 512 ≤ c.latMax → c.latMax ≤ c.latMin + 8192 → c.widthTol ≤ 65535 → 1 ≤ c.missLimit →
    c.missLimit ≤ 255 →
    (c.row ≠ 0x7F → (∀ p ∈ s.tx.stas, p.1 ≠ k → p.2.row ≠ c.row) ∧ (s.emittersOf c.row).length = 1 ∧
      s.rowInUse c.row = false) →
    ((s.staCfg k).row = 0x7F ∨ s.rowInUse (s.staCfg k).row = false) →
    completes (.staConfig k c) s (s.setStaCfg k c) .ok []) ∧
  (∀ (s : State) (p : Nat) (c : CodeProfile), s.admits (.codeProfileSet p c) = true → p ≤ 15 → 1 ≤ c.n → c.n ≤ 4 →
    c.mode ≤ 1 → within 8 40 c.spacing1 = true → within 8 40 c.spacing2 = true → within 8 40 c.spacing3 = true →
    s.ranging = false → completes (.codeProfileSet p c) s (s.setCode p c) .ok [])

/-- OUT_SCHEDULE puts one entry into the schedule input and its answer waits for the take; OUT_COUNTERS_CLEAR clears what
R65 lists. Concludes that exec answers a next state for: `outCountersClear`, `outSchedule`. -/
def Obligations.OutputCommands : Prop :=
  (∀ (s : State) (o n w : Nat) (time : FullTime) (offs : List Nat), s.admitsWait (.outSchedule o n w time offs) = true →
    s.scheduleBad o n w time offs = false → s.dev.run ≠ .nadir → s.dev.warm = false → s.ballsOff = false →
    (s.stopsWithPll o && s.firingStopped) = false → (s.out o).sched.length < 4 →
    waitsFor (.outSchedule o n w time offs) s
      (s.setOut o { s.out o with sched := insertBy waitLe (s.commandEntry n w time offs) (s.out o).sched })
      (.schedule o (s.commandEntry n w time offs))) ∧
  (∀ (s : State) (first count : Nat), s.admits (.outCountersClear first count) = true → 1 ≤ count → first + count ≤ 136 →
    completes (.outCountersClear first count) s (s.each (numbers first count) State.clearOutput) .ok []) ∧
  (∀ (s : State) (o : Nat), (s.out o).cfg.cls ≠ 0 →
    s.clearOutput o = s.setOut o { s.out o with
      fOverrun := false, fLate := false, fLateExec := false, fConflict := false, overrun := 0, late := 0, lateExec := 0,
      conflict := 0, darkened := 0, refStop := 0, holdoverEdges := 0, bursts := 0 }) ∧
  (∀ (s : State) (o : Nat), (s.out o).cfg.cls = 0 →
    s.clearOutput o =
      (s.setRow (s.out o).cfg.row { s.row (s.out o).cfg.row with missing := 0, unexpected := 0, overwidth := 0 }).setOut o
        { s.out o with
          fOverrun := false, fLate := false, fLateExec := false, fConflict := false, overrun := 0, late := 0, lateExec := 0,
          conflict := 0, darkened := 0, refStop := 0, holdoverEdges := 0, bursts := 0 })

/-- R51, for every entry that reaches a schedule input, whatever its source: an input holds four entries, in the order of
R52. One that arrives when four that came before it wait is discarded, OVERRUN is set and the overrun counter is
incremented; of entries that came together the last in that order is. Entries do not reach an input while the device is in
Nadir or in a warm reset, nor that of an EMITTER or GATE output which stops with the PLL, nor before the first Ready-idle
(R59, R395, R398, R401). -/
def Obligations.ScheduleInputDepth : Prop :=
  ∀ (s : State) (o : Nat) (e : Entry), s.dev.run ≠ .nadir → s.dev.warm = false → s.ballsOff = false →
    (s.stopsWithPll o && s.firingStopped) = false →
    ((s.out o).sched.length < 4 →
      (s.arrive o e).1 = s.setOut o { s.out o with sched := insertBy waitLe e (s.out o).sched }) ∧
    ((s.out o).sched.length = 4 → (∀ x ∈ (s.out o).sched, x.came < e.came) →
      (s.arrive o e).1 = s.setOut o { s.out o with fOverrun := true, overrun := (s.out o).overrun.inc }) ∧
    ((s.out o).sched.length = 4 →
      ((s.arrive o e).1.out o) = { s.out o with
        sched := (insertBy waitLe e (s.out o).sched).take 4, fOverrun := true, overrun := (s.out o).overrun.inc })

/-- The edge generator takes the oldest entry when its next register is free. On time and with an empty active register,
the entry becomes the active burst with its edges at the trigger time plus DELAY, SKEW_BOARD and the offsets (R42, R53);
too late for an output that never acts late, it is not performed: LATE is set and counted and the late producer publishes
the first edge (R54). BURST_FIRED: the first rising edge of a burst has come. Formed, it is counted, in holdover as an
edge of holdover too, and the fired producer publishes with its time (R56, R59, R65); for an EMITTER output its match
windows open and it counts in its sector (R62, R294), both at the rise (entry 26, DEDUCED). One that the dark path keeps
from forming is neither counted nor published (R57). With ENABLE 0, while a new format is awaited and with the outputs off
no burst forms (R45, R47, R401): the model drops one that has not begun (entry 31, DEDUCED). BURST_COMPLETE: after its
last falling edge, or once a step has cut it (R33), a burst leaves the active register and the next one takes its place;
its pulses have left the ball, and its last falling edge is noted, from which G protects (R50, R53, R77; one that a step
has cut was noted then). One of an EMITTER output tells its shot whether light was formed or every pulse was kept dark
(R185), and counts in DARKENED where it met dark (R57). A new format takes effect: the output may be enabled again (R47).
Concludes that exec answers a next state for: `burstComplete`, `burstFired`, `edgeGeneratorTake`, `formatTakesEffect`. -/
def Obligations.EdgeGenerator : Prop :=
  (∀ (s : State) (o : Nat) (e : Entry) (rest : List Entry), o ≤ 135 → s.dev.warm = false → (s.out o).sched = e :: rest →
    (s.out o).next = none →
    (s.out o).active = none → (s.out o).cfg.enable = 1 → s.now + 8192 ≤ e.tTrig + edgeShift (s.out o).cfg →
    ∃ t b, exec (.edgeGeneratorTake o) s = .next t ∧ (t.out o).active = some b ∧ (t.out o).sched = rest ∧
      (t.out o).next = none ∧ b.w = (e.pulses (s.out o).cfg).2 ∧
      b.rises = (e.pulses (s.out o).cfg).1.map (fun off => e.tTrig + edgeShift (s.out o).cfg + (off : Int)) ∧
      (∀ j, j ≠ o → t.out j = s.out j) ∧ ({ t with tx := s.tx, mbx := s.mbx } : State).core = s.core) ∧
  (∀ (s : State) (o : Nat) (e : Entry) (rest : List Entry), o ≤ 135 → s.dev.warm = false → (s.out o).sched = e :: rest →
    (s.out o).next = none → (s.out o).cfg.enable = 1 → e.tTrig + edgeShift (s.out o).cfg < s.now + 8192 →
    ((s.out o).cfg.cls < 2 ∨ (s.out o).cfg.lateExec ≠ 1) →
    ∃ t, exec (.edgeGeneratorTake o) s = .next t ∧ (t.out o).fLate = true ∧ (t.out o).late = (s.out o).late.inc ∧
      (t.out o).sched = rest ∧ (t.out o).active = (s.out o).active ∧ (t.out o).next = none ∧
      t.fab = (s.publish (prodLate o) (e.tTrig + edgeShift (s.out o).cfg) e.gen).fab ∧
      ({ t with tx := s.tx, mbx := s.mbx, fab := s.fab } : State).core = s.core) ∧
  (∀ (s : State) (o : Nat) (b : Burst), o ≤ 135 → (s.out o).active = some b → b.fired = false →
    s.reached (b.rises.headD 0) = true →
    ((s.out o).fmtBy = none → (s.out o).cfg.enable = 1 → s.ballsOff = false → (s.darkenNow b).suppressed.contains 0 = false →
      ∃ t, exec (.burstFired o) s = .next t ∧
        t.out o = { s.out o with
          active := some { s.darkenNow b with fired := true, counted := if b.emitter then [0] else [] }
          bursts := (s.out o).bursts.inc
          holdoverEdges := if s.pll.locked then (s.out o).holdoverEdges else (s.out o).holdoverEdges.inc } ∧
        t.fab = (s.publish (prodFired o) (b.rises.headD 0) b.gen).fab ∧
        t.tx.windows = (if b.emitter then s.tx.windows ++ s.burstWindows (s.darkenNow b) else s.tx.windows) ∧
        t.sectorCount s.svSector =
          (if b.emitter then s.sectorCount s.svSector + Tab.get 1 s.sv.active.weights b.row else s.sectorCount s.svSector) ∧
        (∀ j, j ≠ o → t.out j = s.out j) ∧ ({ t with tx := s.tx, fab := s.fab, sv := s.sv } : State) = s) ∧
    ((s.out o).fmtBy = none → (s.out o).cfg.enable = 1 → s.ballsOff = false → (s.darkenNow b).suppressed.contains 0 = true →
      ∃ t, exec (.burstFired o) s = .next t ∧
        t.out o = { s.out o with active := some { s.darkenNow b with fired := true, counted := [] } } ∧
        ({ t with tx := s.tx } : State) = s) ∧
    (((s.out o).fmtBy ≠ none ∨ (s.out o).cfg.enable = 0 ∨ s.ballsOff = true) →
      exec (.burstFired o) s = .next (s.setOut o { s.out o with active := (s.out o).next, next := none }))) ∧
  (∀ (s : State) (o : Nat) (b : Burst), o ≤ 135 → (s.out o).active = some b → b.fired = true → b.emitter = false →
    b.darkHit = false → (b.cutAt.isSome || s.reached b.stop) = true →
    exec (.burstComplete o) s = .next
      ((s.logPulses o b (b.formed (b.cutAt.getD b.stop))).setOut o { s.out o with
        active := (s.out o).next
        next := none
        lastFall := if b.cutAt.isSome then (s.out o).lastFall else (b.lastFall b.stop).or (s.out o).lastFall })) ∧
  (∀ (s : State) (o : Nat) (b : Burst), o ≤ 135 → (s.out o).active = some b → b.fired = true → b.emitter = true →
    (b.cutAt.isSome || s.reached b.stop) = true →
    ∃ t, exec (.burstComplete o) s = .next t ∧
      t.out o = { s.out o with
        active := (s.out o).next
        next := none
        lastFall := if b.cutAt.isSome then (s.out o).lastFall
          else ((s.darkenNow b).lastFall b.stop).or (s.out o).lastFall
        darkened := if (s.darkenNow b).darkHit then (s.out o).darkened.inc else (s.out o).darkened } ∧
      (∀ k x, b.shot = some k → s.shot k = some x → t.shot k = some (
        if (s.darkenNow b).allDark then { x with darkAll := x.darkAll + 1 }
        else if (s.darkenNow b).formed (b.cutAt.getD b.stop) = [] then x
        else { x with formed := true })) ∧
      ({ t with tx := s.tx, sv := s.sv, sent := s.sent } : State) = s) ∧
  (∀ (s : State) (o : Nat), o ≤ 135 → exec (.formatTakesEffect o) s = .next (s.setOut o { s.out o with fmtBy := none }))

/-- TEST_CONFIG sets the test setting of an output; TEST_PULSE_REQUEST joins the queue of its lane and is ACCEPTED;
TEST_RESULT_READ returns the newest record of its TEST_ID (R76, R84, R85). A queued test pulse is placed at the first time
that is clear of the protected intervals of its output: from now or its EARLIEST on in GAP mode (R77, R78), from its test
slot plus TEST_OFFSET in SLOT mode, and from now on when it has been suppressed before (R79). One that would pass its
deadline so ends EXPIRED. An output whose TEST_ALLOW has become 0 takes none (R76). The protected intervals are those of
the bursts that the output holds, from G before the first to G after the last edge, and G after the last falling edge that
has left it. That an interval which only touches is clear, and that a pulse may rise less than 2,048 tq from now, are
entries 56 and 57. A test pulse whose stamp comes within 64 ns ends with status OK and the stamp minus the rising edge
minus LANE_DELAY as its measured value; without a stamp it ends NO_HIT (R83), also one that was cut short (entry 57,
DESIGN CHOICE). One still unplaced at its deadline ends EXPIRED (R78, R79). Concludes that exec answers a next state for:
`testConfig`, `testPulseDeadline`, `testPulsePlace`, `testPulseRequest`, `testPulseResult`, `testResultRead`. -/
def Obligations.TestPulses : Prop :=
  (∀ (s : State) (o : Nat) (c : TestCfg), s.admits (.testConfig o c) = true → o ≤ 127 → c.testAllow ≤ 1 → 2048 ≤ c.guard →
    c.guard ≤ 20480 → c.testOffset ≤ 1024000 → completes (.testConfig o c) s (s.setTestCfg o c) .ok []) ∧
  (∀ (s : State) (r : TestReq), s.admits (.testPulseRequest r) = true → r.testId ≤ 65535 → r.output ≤ 127 → r.lane ≤ 7 →
    r.channel ≤ 63 → 512 ≤ r.width → r.width ≤ 32768 → r.mode ≤ 1 → r.earliest.ok = true → 1024 ≤ r.deadline →
    r.deadline ≤ 1024000000 → s.testPending r.testId = false → (s.testCfg r.output).testAllow ≠ 0 →
    (s.lane r.lane).length < 16 → s.isReady readyPll = true → s.isReady (readyHg r.lane) = true →
    s.now < s.earliestOf r + r.deadline →
    completes (.testPulseRequest r) s (s.setLane r.lane (s.lane r.lane ++ [s.testJob r none])) .accepted []) ∧
  (∀ (s : State) (i : Nat) (r : TestRecord), s.admits (.testResultRead i) = true → s.testPending i = false →
    (s.tx.records.find? fun x => decide (x.testId = i)) = some r →
    completes (.testResultRead i) s s .ok (testRecordFields r)) ∧
  (∀ (s : State) (l : Nat) (j : TestJob) (rest : List TestJob) (w earliest : Tq), l ≤ 7 → s.pll.locked = true →
    s.lane l = j :: rest → j.placed = none → w = j.req.width →
    ((j.req.mode = 0 ∨ 0 < j.retries) ∧ earliest = max j.notBefore s.now ∨
      (j.req.mode ≠ 0 ∧ j.retries = 0 ∧ s.now ≤ earliest ∧ ∃ n slot, s.seqOfOutput j.req.output = some n ∧
        (s.seq n).testSlot = some slot ∧ earliest = slot + (s.testCfg j.req.output).testOffset)) →
    ((s.testCfg j.req.output).testAllow ≠ 0 → ∃ x, earliest ≤ x ∧
      (∀ i ∈ s.protectedOf j.req.output, i.2 ≤ x ∨ x + w ≤ i.1) ∧
      (∀ y, earliest ≤ y → y < x → ∃ i ∈ s.protectedOf j.req.output, y < i.2 ∧ i.1 < y + w) ∧
      (x + w ≤ j.deadline → exec (.testPulsePlace l) s = .next (s.setLane l
        ({ j with placed := some { rise := x, fall := x + w, cut := false, shortGuard := false,
                                   guard := (s.testCfg j.req.output).guard,
                                   inSlot := decide (j.req.mode = 1 ∧ j.retries = 0) } } :: rest))) ∧
      (j.deadline < x + w → j.unit = none → ∃ t r, exec (.testPulsePlace l) s = .next t ∧ t.tx.records.head? = some r ∧
        r.testId = j.req.testId ∧ r.status = 2 ∧ t.lane l = rest ∧ t.sq = s.sq ∧ t.tb = s.tb ∧ t.sv = s.sv)) ∧
    ((s.testCfg j.req.output).testAllow = 0 → exec (.testPulsePlace l) s = .next s)) ∧
  (∀ (s : State) (o : Nat),
    (∀ b, ((s.out o).active = some b ∨ (s.out o).next = some b) → b.cutAt = none →
      (b.rises.headD 0 - s.guardOf o, b.stop + s.guardOf o) ∈ s.protectedOf o) ∧
    (∀ e ∈ (s.out o).sched, ((burstOf (s.out o) e 0 0).rises.headD 0 - s.guardOf o,
      (burstOf (s.out o) e 0 0).stop + s.guardOf o) ∈ s.protectedOf o) ∧
    (∀ f, (s.out o).lastFall = some f → (f, f + (s.guardOf o : Int)) ∈ s.protectedOf o)) ∧
  (∀ (s : State) (l : Nat) (j : TestJob) (rest : List TestJob) (p : PlacedTest) (x : Tq), l ≤ 7 → s.lane l = j :: rest →
    j.placed = some p → j.unit = none → p.cut = false → s.reached p.fall = true → p.rise ≤ x → x ≤ p.rise + 65536 →
    ∃ t r, exec (.testPulseResult l (some x)) s = .next t ∧ t.tx.records.head? = some r ∧ r.testId = j.req.testId ∧
      r.status = 0 ∧ r.measured = x - p.rise - s.laneDelay l ∧ r.rise = p.rise ∧ t.sq = s.sq ∧ t.tb = s.tb ∧ t.sv = s.sv) ∧
  (∀ (s : State) (l : Nat) (j : TestJob) (rest : List TestJob) (p : PlacedTest), l ≤ 7 → s.lane l = j :: rest →
    j.placed = some p → j.unit = none → s.reached p.fall = true → s.reached (p.rise + 65536) = true →
    ∃ t r, exec (.testPulseResult l none) s = .next t ∧ t.tx.records.head? = some r ∧ r.testId = j.req.testId ∧
      r.status = 3 ∧ t.sq = s.sq ∧ t.tb = s.tb ∧ t.sv = s.sv) ∧
  (∀ (s : State) (l : Nat) (j : TestJob) (rest : List TestJob), l ≤ 7 → s.lane l = j :: rest → j.placed = none →
    j.unit = none → s.reached j.deadline = true →
    ∃ t r, exec (.testPulseDeadline l) s = .next t ∧ t.tx.records.head? = some r ∧ r.testId = j.req.testId ∧ r.status = 2 ∧
      t.core = ({ s.setLane l rest with tx := { (s.setLane l rest).tx with records := t.tx.records } } : State).core)

/-! ## Sequencers and program memory -/

/-- The commands that set up a sequencer: SEQ_CONFIG, SEQ_GRID_SET, SEQ_COUNTERS_CLEAR, SEQ_STREAM_PUSH and SEQ_JUMP (R89,
R101, R105, R110, R125). On a running sequencer a change of GRID_TRIM waits for a granule boundary (R127); one that comes
while another waits replaces it (entry 57, DESIGN CHOICE). Concludes that exec answers a next state for: `seqConfig`,
`seqCountersClear`, `seqGridSet`, `seqJump`, `seqStreamPush`. -/
def Obligations.SequencerSettings : Prop :=
  (∀ (s : State) (n : Nat) (c : SeqCfg), s.admits (.seqConfig n c) = true → s.seqConfigBad n c = false →
    (s.seq n).running = false → s.resetting 1 n = false →
    completes (.seqConfig n c) s ((s.setSeq n ((s.seq n).configure c)).refreshFs) .ok []) ∧
  (∀ (s : State) (n : Nat) (g : FullTime) (trim : Int), s.admits (.seqGridSet n g trim) = true → n ≤ 7 → g.ok = true →
    g.onTq = true → -65536 ≤ trim → trim ≤ 65535 → (s.seq n).trimTooFar trim = false → (s.seq n).running = false →
    completes (.seqGridSet n g trim) s (s.setSeq n { s.seq n with g0 := g, trim := trim }) .ok []) ∧
  (∀ (s : State) (n : Nat) (trim : Int), s.admits (.seqGridSet n (s.seq n).g0 trim) = true → n ≤ 7 →
    (s.seq n).g0.ok = true → (s.seq n).g0.onTq = true → -65536 ≤ trim → trim ≤ 65535 → (s.seq n).trimTooFar trim = false →
      (s.seq n).running = true →
    completes (.seqGridSet n (s.seq n).g0 trim) s (s.setSeq n { s.seq n with trimPending := some trim }) .ok []) ∧
  (∀ (s : State) (n : Nat), s.admits (.seqCountersClear n) = true → n ≤ 7 →
    completes (.seqCountersClear n) s
      (s.setSeq n { s.seq n with pushErr := false, fUnderrun := false, fJumpOverrun := false, fCondOverrun := false,
                                 counters := SeqCounters.zero }) .ok []) ∧
  (∀ (s : State) (n k : Nat), s.admits (.seqStreamPush n k) = true → n ≤ 7 → 0 < (s.seq n).cfg.streamLen →
    k ≤ (s.seq n).ringFree →
    completes (.seqStreamPush n k) s
      (s.setSeq n { s.seq n with wr := ((s.seq n).wr + k) % (s.seq n).cfg.streamLen }) .ok
      [fU16 (((s.seq n).wr + k) % (s.seq n).cfg.streamLen)]) ∧
  (∀ (s : State) (n : Nat), s.admits (.seqStreamPush n 0) = true → n ≤ 7 → (s.seq n).cfg.streamLen = 0 →
    completes (.seqStreamPush n 0) s s .ok [fU16 (s.seq n).wr]) ∧
  (∀ (s : State) (n k : Nat), s.admits (.seqJump n k) = true → n ≤ 7 →
    s.sq.mem.segStart (s.seq n).cfg.progBase (s.seq n).cfg.progLen k = true → (s.seq n).jump = none →
    (s.seq n).running = true → completes (.seqJump n k) s (s.setSeq n { s.seq n with jump := some k }) .ok [])

/-- PROG_WRITE stores its bytes at entry FIRST, and the ranges that it meets lose their commitment (R87); PROG_COMMIT of a
range without offending entries commits it and returns the CRC-32 of its bytes (R92). What a store into program memory
changes, by command or through BAR2: every byte outside the stored ones reads as before, each stored byte reads back, and
nothing else changes but the commitment of ranges (R86, R87). A write into a range that a running sequencer uses, or onto
entries that wait in a stream ring, is ignored and counted in PROG_WRITE_REJECT (R87, R88). Concludes that exec answers a
next state for: `progCommit`, `progWrite`, `programMemoryWrite`. -/
def Obligations.ProgramMemory : Prop :=
  (∀ (s : State) (first count src : Nat) (bs : List Byte), s.admits (.progWrite first count src (some bs)) = true →
    first + count ≤ 65536 → s.isProtected first count = false → s.meetsWaiting first count = false → s.dmaOk = true →
    bs.length = 32 * count →
    completes (.progWrite first count src (some bs)) s (s.writeProgram (32 * first) bs) .ok []) ∧
  (∀ (s : State) (first count : Nat), s.admits (.progCommit first count) = true → first + count ≤ 65536 → count ≠ 0 →
    s.offending first count = [] →
    completes (.progCommit first count) s (s.addCommitted first count) .ok
      [fU32 (crc32 (s.sq.mem.bytes (32 * first) (32 * count)))]) ∧
  (∀ (s : State) (a : Nat) (bs : List Byte), s.endpointUp = true → a + bs.length ≤ 2097152 →
    s.isProtected (a / 32) ((a + bs.length + 31) / 32 - a / 32) = false →
    s.meetsWaiting (a / 32) ((a + bs.length + 31) / 32 - a / 32) = false →
    ∃ t, exec (.programMemoryWrite a bs) s = .next t ∧
      (∀ k, k < a ∨ a + bs.length ≤ k → t.sq.mem.byte k = s.sq.mem.byte k) ∧
      (∀ i (h : i < bs.length), t.sq.mem.byte (a + i) = bs[i]) ∧
      t.sq.seqs = s.sq.seqs ∧ ({ t with sq := s.sq } : State) = s) ∧
  (∀ (s : State) (first count src : Nat) (bs : List Byte), s.admits (.progWrite first count src (some bs)) = true →
    first + count ≤ 65536 → s.isProtected first count = false → s.meetsWaiting first count = false → s.dmaOk = true →
    bs.length = 32 * count →
    ∃ t, exec (.progWrite first count src (some bs)) s = .next t ∧
      (∀ k, k < 32 * first ∨ 32 * first + bs.length ≤ k → t.sq.mem.byte k = s.sq.mem.byte k) ∧
      ({ t with sq := s.sq } : State).core = s.core) ∧
  (∀ (s : State) (a : Nat) (bs : List Byte), s.endpointUp = true → a + bs.length ≤ 2097152 →
    (s.isProtected (a / 32) ((a + bs.length + 31) / 32 - a / 32) ||
      s.meetsWaiting (a / 32) ((a + bs.length + 31) / 32 - a / 32)) = true →
    exec (.programMemoryWrite a bs) s =
      .next { s with regs := { s.regs with progWriteReject := s.regs.progWriteReject.inc } })

/-- SEQ_START that nothing holds back (R103): the sequencer runs from its START_ENTRY with no jump, condition or stop
pending, and the device is in Ranging (R22), where no CLASS changes (R23). In the time domain the answer names the first
slot's fire time and index at once; in the angle domain it waits for that time (R378). SEQ_START is denied without the
emission permit, and in Dusk or Eclipse; nothing but the answer changes (R293, R298). SEQ_STOP asks a running sequencer to
stop, and its answer waits; on a stopped one it is answered at once (R104). That it stands beside what is asked for
already is the model's reading (entries 28 and 57). Concludes that exec answers a next state for: `seqStart`, `seqStop`. -/
def Obligations.SequencerRuns : Prop :=
  (∀ (s : State) (n mode facet : Nat) (time : FullTime), s.admits (.seqStart n mode facet time) = true →
    s.startBad n mode facet time = false → s.sv.permit = true → s.sv.run ≠ .dusk → s.sv.run ≠ .eclipse →
    s.dev.run ≠ .eclipse → s.fsReady n = true → s.startUnfed (s.seq n) = false → (s.seq n).running = false →
    (s.stream (s.seq n).cfg.resultStream).lostWaits = false → s.pll.armed = false → s.resetting 1 n = false →
    (mode = 1 → s.now + startLead ≤ time.tq) →
    ∃ q, q.run = .running ∧ q.entry = (s.seq n).cfg.startEntry ∧ q.cfg = (s.seq n).cfg ∧ q.counters = (s.seq n).counters ∧
      q.jump = none ∧ q.stops = [] ∧ q.cond = false ∧ q.j = 0 ∧
      q.accum = (s.startAt (s.seq n) mode facet (tqUp time)).1 ∧ q.k = (s.startAt (s.seq n) mode facet (tqUp time)).2 ∧
      ((s.seq n).cfg.domain = 1 →
        completes (.seqStart n mode facet time) s
          { s.setSeq n q with dev := { s.dev with run := .ranging, classLocked := true } } .ok
          (startRet (q.accum.position q.k + (s.seq n).trim) q.k)) ∧
      ((s.seq n).cfg.domain ≠ 1 → s.dev.pfail = false →
        waitsFor (.seqStart n mode facet time) s
          { s.setSeq n q with dev := { s.dev with run := .ranging, classLocked := true } } (.seqStart n))) ∧
  (∀ (s : State) (n mode facet : Nat) (time : FullTime), s.runs (.seqStart n mode facet time) = true → s.dev.fwRunning = true →
    s.startBad n mode facet time = false →
    (s.sv.permit = false ∨ s.sv.run = .dusk ∨ s.sv.run = .eclipse ∨ s.dev.run = .eclipse) →
    completes (.seqStart n mode facet time) s s .safetyDenied []) ∧
  (∀ (s : State) (n mode : Nat), s.admitsWait (.seqStop n mode) = true → n ≤ 7 → mode ≤ 2 → (s.seq n).running = true →
    waitsFor (.seqStop n mode) s
      (s.setSeq n { s.seq n with stops := (s.seq n).stops ++ [{ mode := mode, reason := Reasons.stopped }] }) (.seqStop n)) ∧
  (∀ (s : State) (n mode : Nat), s.admits (.seqStop n mode) = true → n ≤ 7 → mode ≤ 2 → (s.seq n).running = false →
    completes (.seqStop n mode) s s .ok [])

/-- SLOT_ISSUE of a time-domain slot inside a granule, due 20,480 tq before its fire time: the sequencer goes on to the
next slot. A dark slot puts nothing into any schedule input and opens no gate (R98). A slot that is played makes one shot
per row that it fires, puts one entry into the schedule input of each enabled output of the row that has room (R43, R97),
and arms a gate in the lowest free queue of each channel of the step that watches the row (R163, R164). SLOT_ISSUE inside
a granule in the angle domain: the slot fires at the time at which the estimator predicts its position (R97, R118); while
the estimator is invalid none is issued (R122). A slot of the test mask, an odd one in Twilight and one less than 262,144
tq after the last fires nothing and is counted, in either domain (R98). SLOT_ISSUE at a granule boundary in the time
domain, no stop being due: inside a step the granule of the next entry plays with FREQ from its first slot on (R96), dark
where its step was not admitted or the PLL is not locked (R98, R25). At the end of a segment the decision is taken: a
pending jump first, then what CTRL says (R99, R100). SLOT_ISSUE at a boundary where a step begins: the step is admitted or
its granules play dark (R14, R93, R94, R109, R179). An admitted step reserves its credits and takes the next bank of each
of its channels, whose NEXT_BANK flips, and closes the open skip run (R212). One that is not changes no bank and fires
nothing, and keeps every reason for which it was not; with the next step the run of skipped steps goes on where the
indices follow each other. A step that waits for streamed granules freezes in an under-run (R106). What is tested in one
admission, and at which moment, is entry 28. At a granule boundary a sequencer that has met HALT, or of which a stop is
asked that is due there, stops before the slot (R99, R104). Concludes that exec answers a next state for: `slotIssue`. -/
def Obligations.SlotIssues : Prop :=
  (∀ (s : State) (n : Nat), n ≤ 7 → (s.seq n).running = true → (s.seq n).cfg.domain = 1 → (s.seq n).stepTo = none →
    (s.seq n).j ≠ 0 → s.reached ((s.seq n).accum.position (s.seq n).k + (s.seq n).trim - 20480) = true →
    (∀ w ∈ s.mbx.waiting, w.1 ≠ .seqStart n) → (s.seq n).granDark = true →
    ∃ t, exec (.slotIssue n) s = .next t ∧ (t.seq n).k = (s.seq n).k + 1 ∧
      (t.seq n).lastFire = some ((s.seq n).accum.position (s.seq n).k + (s.seq n).trim) ∧
      (t.seq n).counters.slots = (s.seq n).counters.slots.inc ∧ t.tx = s.tx ∧ t.rx = s.rx ∧ t.hist = s.hist) ∧
  (∀ (s : State) (n : Nat) (f : Tq), n ≤ 7 → (s.seq n).running = true → (s.seq n).cfg.domain = 1 → (s.seq n).stepTo = none →
    (s.seq n).j ≠ 0 → f = (s.seq n).accum.position (s.seq n).k + (s.seq n).trim → s.reached (f - 20480) = true →
    (∀ w ∈ s.mbx.waiting, w.1 ≠ .seqStart n) → (s.seq n).granDark = false →
    (∀ l, (s.seq n).lastFire = some l → l + 262144 ≤ f) → (s.sv.run = .twilight → (s.seq n).j % 2 = 0) →
    bitField (s.seq n).gran.testMask (s.seq n).j (s.seq n).j = 0 → (s.seq n).step.channels.Nodup →
    ∃ t, exec (.slotIssue n) s = .next t ∧ (t.seq n).k = (s.seq n).k + 1 ∧ (t.seq n).lastFire = some f ∧
      t.tx.nextShot = s.tx.nextShot + (s.firedRows n).length ∧ t.sv = s.sv ∧ t.tb = s.tb ∧
      (∀ i r, (s.firedRows n)[i]? = some r →
        (∃ x, t.shot (s.tx.nextShot + i) = some x ∧ x.seq = n ∧ x.row = r ∧ x.slot = (s.seq n).k ∧
          x.offsets = codeOffsets s.tx.deviceId r (s.seq n).k (s.code (s.seq n).gran.code) ∧
          x.w = (s.seq n).gran.amplitude ∧ x.ref = none) ∧
        (∀ o, o ≤ 135 → (s.out o).cfg.enable = 1 → (s.out o).cfg.cls ≤ 2 → (s.out o).cfg.row = r →
          (s.stopsWithPll o && s.firingStopped) = false → s.dev.run ≠ .nadir → s.dev.warm = false → s.ballsOff = false →
          (s.out o).sched.length < 4 →
          (t.out o).sched = insertBy waitLe
            { src := .slot n
              tTrig := f
              gen := 0
              burst := if (s.out o).cfg.cls = 0 then
                  .given (codeOffsets s.tx.deviceId r (s.seq n).k (s.code (s.seq n).gran.code)) (s.seq n).gran.amplitude
                else .own
              shot := if (s.out o).cfg.cls = 0 then some (s.tx.nextShot + i) else none
              came := s.clock } (s.out o).sched) ∧
        (∀ c q, c ∈ (s.seq n).step.channels → (s.chan c).row = r → (s.chan c).freeQueue = some q →
          ∃ g : Gate, (t.chan c).gates = (s.chan c).gates ++ [g] ∧ g.queue = some q ∧ g.shot = some (s.tx.nextShot + i) ∧
            g.slot = (s.seq n).k ∧ g.tOpen = (f + ((s.gateProf (s.seq n).step.profile).openOffset : Int)) / 4 * 4 ∧
            g.tClose = g.tOpen + ((s.gateProf (s.seq n).step.profile).length : Int) ∧ g.life = .armed ∧ g.bank = s.bankOf n c) ∧
        (∀ c, c ∈ (s.seq n).step.channels → (s.chan c).row = r → (s.chan c).freeQueue = none →
          (t.chan c).gates = (s.chan c).gates ∧ (t.chan c).refused = (s.chan c).refused.inc))) ∧
  (∀ (s : State) (n : Nat), n ≤ 7 → (s.seq n).running = true → (s.seq n).cfg.domain = 0 → (s.seq n).j ≠ 0 →
    s.estValid (s.seq n).cfg.encoder = false → exec (.slotIssue n) s = .next s) ∧
  (∀ (s : State) (n : Nat) (f : Tq), n ≤ 7 → (s.seq n).running = true → (s.seq n).cfg.domain = 0 → (s.seq n).j ≠ 0 →
    s.estValid (s.seq n).cfg.encoder = true → (s.seq n).stepTo = none →
    (s.estimator (s.seq n).cfg.encoder).resample ((s.seq n).accum.position (s.seq n).k) = some f →
    (s.reached (f - 20480) = false → exec (.slotIssue n) s = .next s) ∧
    (s.reached (f - 20480) = true → ∃ t, exec (.slotIssue n) s = .next t ∧ (t.seq n).k = (s.seq n).k + 1 ∧
      (t.seq n).lastFire = some f ∧ (t.seq n).counters.slots = (s.seq n).counters.slots.inc ∧
      ((s.seq n).granDark = true → t.tx = s.tx ∧ t.rx = s.rx))) ∧
  (∀ (s : State) (n : Nat) (f : Tq), n ≤ 7 → (s.seq n).running = true → (s.seq n).cfg.domain = 1 → (s.seq n).stepTo = none →
    (s.seq n).j ≠ 0 → f = (s.seq n).accum.position (s.seq n).k + (s.seq n).trim → s.reached (f - 20480) = true →
    ((s.seq n).frozen = none ∧ bitField (s.seq n).gran.testMask (s.seq n).j (s.seq n).j = 1 ∨
      s.sv.run = .twilight ∧ (s.seq n).j % 2 = 1 ∨ (∃ l, (s.seq n).lastFire = some l ∧ f < l + 262144)) →
    ∃ t, exec (.slotIssue n) s = .next t ∧ (t.seq n).k = (s.seq n).k + 1 ∧ t.tx = s.tx ∧ t.rx = s.rx ∧
      ((s.seq n).frozen = none → bitField (s.seq n).gran.testMask (s.seq n).j (s.seq n).j = 1 →
        (t.seq n).counters.testSlots = (s.seq n).counters.testSlots.inc ∧ (t.seq n).testSlot = some f) ∧
      (s.sv.run = .twilight → (s.seq n).j % 2 = 1 →
        (t.seq n).counters.twilightSlots = (s.seq n).counters.twilightSlots.inc) ∧
      ((∃ l, (s.seq n).lastFire = some l ∧ f < l + 262144) →
        (t.seq n).counters.overspeed = (s.seq n).counters.overspeed.inc)) ∧
  (∀ (s : State) (n : Nat) (f : Tq) (e : ListEntry), s.atBoundary n f → (s.seq n).halting = false → s.stopIsDue n = false →
    e = s.sq.mem.entry (s.seq n).nextEntry → (s.seq n).begins e = false → e.src = false →
    ∃ t, exec (.slotIssue n) s = .next t ∧ (t.seq n).k = (s.seq n).k + 1 ∧ (t.seq n).j = 1 ∧ (t.seq n).lastFire = some f ∧
      (t.seq n).entry = (s.seq n).nextEntry ∧ (t.seq n).gran = e ∧ (t.seq n).accum.freq = e.freq ∧
      (t.seq n).accum.x0 = (s.seq n).accum.position (s.seq n).k ∧ (t.seq n).step.index = (s.seq n).step.index ∧
      (t.seq n).step.granules = (s.seq n).step.granules + 1 ∧
      (t.seq n).granDark = (!(s.seq n).step.admitted || s.firingStopped || !s.groupsReady (s.seq n).step.channels) ∧
      (t.seq n).segEnded = e.segEnd) ∧
  (∀ (s : State) (n : Nat) (f : Tq) (e : ListEntry), s.atBoundary n f → (s.seq n).halting = false → s.stopIsDue n = false →
    e = s.sq.mem.entry (s.seq n).nextEntry → (s.seq n).begins e = false → e.src = false → e.segEnd = true →
    ∃ t, exec (.slotIssue n) s = .next t ∧
      (∀ k, (s.seq n).jump = some k →
        (t.seq n).after = some k ∧ (t.seq n).jump = none ∧ (t.seq n).loops = [] ∧ (t.seq n).halting = false) ∧
      ((s.seq n).jump = none → e.ctrl = 0 → (t.seq n).after = some ((s.seq n).nextEntry + 1)) ∧
      ((s.seq n).jump = none → e.ctrl = 1 → (t.seq n).after = some e.target) ∧
      ((s.seq n).jump = none → e.ctrl = 2 → e.arg = 0 ∨ Tab.get 0 (s.seq n).loops (s.seq n).nextEntry + 1 < e.arg →
        (t.seq n).after = some e.target ∧
          Tab.get 0 (t.seq n).loops (s.seq n).nextEntry = Tab.get 0 (s.seq n).loops (s.seq n).nextEntry + 1) ∧
      ((s.seq n).jump = none → e.ctrl = 2 → e.arg ≠ 0 → e.arg ≤ Tab.get 0 (s.seq n).loops (s.seq n).nextEntry + 1 →
        Tab.get 0 (t.seq n).loops (s.seq n).nextEntry = 0 ∧
          (t.seq n).after = (if (s.seq n).nextEntry + 1 < (s.seq n).cfg.progBase + (s.seq n).cfg.progLen
            then some ((s.seq n).nextEntry + 1) else none)) ∧
      ((s.seq n).jump = none → e.ctrl = 3 → (t.seq n).cond = false ∧
        (t.seq n).after = some (if (s.seq n).cond then e.target else (s.seq n).nextEntry + 1)) ∧
      ((s.seq n).jump = none → e.ctrl = 4 → bitField e.arg 29 28 = 1 → (t.seq n).after =
        some (if [decide ((s.seq n).step.index = bitField e.arg 19 0), decide ((s.seq n).step.index ≠ bitField e.arg 19 0),
            decide (bitField e.arg 19 0 ≤ (s.seq n).step.index), decide ((s.seq n).step.index < bitField e.arg 19 0)].getD
              (bitField e.arg 31 30) false
          then e.target else (s.seq n).nextEntry + 1)) ∧
      ((s.seq n).jump = none → e.ctrl = 5 → (t.seq n).after = none ∧ (t.seq n).halting = true)) ∧
  (∀ (s : State) (n : Nat) (f : Tq) (e : ListEntry), s.atBoundary n f → s.stepBegins n e → (s.stepChannels n e).Nodup →
    s.canAdmit n e →
    ∃ t, exec (.slotIssue n) s = .next t ∧ (t.seq n).step.admitted = true ∧ (t.seq n).step.reasons = 0 ∧
      (t.seq n).step.index = (if (s.seq n).first ∨ e.stepCtrl = 2 then 0 else ((s.seq n).step.index + 1) % 2 ^ 20) ∧
      (t.seq n).step.rows = e.mask &&& (s.seq n).cfg.rows ∧ (t.seq n).step.channels = s.stepChannels n e ∧
      (t.seq n).step.profile = e.gateProfile ∧ (t.seq n).step.first = f ∧ (t.seq n).step.granules = 1 ∧
      (t.seq n).granDark = false ∧ (t.seq n).gran = e ∧ (t.seq n).skip = none ∧
      ((s.seq n).skip = none → t.eng.slotsUsed = s.eng.slotsUsed +
        (s.stepChannels n e).length * (s.stream (s.seq n).cfg.resultStream).cfg.maxEchoes) ∧
      ((s.seq n).skip ≠ none →
        (t.stream (s.seq n).cfg.resultStream).nextIssue = (s.stream (s.seq n).cfg.resultStream).nextIssue + 1) ∧
      (∀ c ∈ s.stepChannels n e, (t.histChan c).nextBank = 1 - (s.histChan c).nextBank ∧
        (t.bank (2 * c + (s.histChan c).nextBank)).state = .filling ∧
        ((t.bank (2 * c + (s.histChan c).nextBank)).step.map fun x => (x.seq, x.stream, x.time, x.credit)) =
          some (n, (s.seq n).cfg.resultStream, f, (s.stream (s.seq n).cfg.resultStream).cfg.maxEchoes))) ∧
  (∀ (s : State) (n : Nat) (f : Tq) (e : ListEntry) (why : Reasons), s.atBoundary n f → s.stepBegins n e →
    why = (if s.eng.slotsUsed + (s.stepChannels n e).length * (s.stream (s.seq n).cfg.resultStream).cfg.maxEchoes ≤ 16384
        then 0 else Reasons.credit) |||
      (if (s.stepChannels n e).all fun c => decide ((s.bank (2 * c + (s.histChan c).nextBank)).state = .free)
        then 0 else Reasons.bank) |||
      (if s.firingStopped || !s.groupsReady (s.stepChannels n e) then Reasons.reference else 0) |||
      (if !s.sv.permit || s.sv.dark || s.dev.pfail then Reasons.safety else 0) → why ≠ 0 →
    ∃ t, exec (.slotIssue n) s = .next t ∧ (t.seq n).step.admitted = false ∧ (t.seq n).step.reasons = why ∧
      (t.seq n).step.index = (if (s.seq n).first ∨ e.stepCtrl = 2 then 0 else ((s.seq n).step.index + 1) % 2 ^ 20) ∧
      (t.seq n).granDark = true ∧ (t.seq n).counters.darkGranules = (s.seq n).counters.darkGranules.inc ∧
      (t.seq n).k = (s.seq n).k + 1 ∧ (∀ c, t.histChan c = s.histChan c) ∧ t.rx = s.rx ∧ t.tx = s.tx ∧ t.eng = s.eng) ∧
  (∀ (s : State) (n : Nat) (f : Tq) (e : ListEntry), s.atBoundary n f → (s.seq n).halting = false → s.stopIsDue n = false →
    e = s.sq.mem.entry (s.seq n).nextEntry → (s.seq n).begins e = true → (s.stepAt (s.seq n).nextEntry).2 = 0 →
    (s.seq n).first = false → (s.seq n).step.reasons ≠ 0 → s.sv.permit = false →
    ((s.seq n).skip = none → ∃ t, exec (.slotIssue n) s = .next t ∧ (t.seq n).skip = some
      { firstStep := (s.seq n).step.index, count := 1, reasons := (s.seq n).step.reasons, firstTime := (s.seq n).step.first,
        granules := (s.seq n).step.dark, epoch := (s.seq n).step.epoch, facet := (s.seq n).step.facet }) ∧
    (∀ o, (s.seq n).skip = some o → (o.firstStep + o.count) % 2 ^ 20 = (s.seq n).step.index % 2 ^ 20 → o.count + 2 < 2 ^ 20 →
      ∃ t, exec (.slotIssue n) s = .next t ∧ (t.seq n).skip = some { o with
        count := o.count + 1, reasons := o.reasons ||| (s.seq n).step.reasons,
        granules := o.granules + (s.seq n).step.dark }) ∧
    (∀ o, (s.seq n).skip = some o → (o.firstStep + o.count) % 2 ^ 20 ≠ (s.seq n).step.index % 2 ^ 20 → s.dev.pfail = false →
      ∃ t, exec (.slotIssue n) s = .next t ∧ ((t.seq n).skip.map (·.firstStep)) = some (s.seq n).step.index ∧
        (t.stream (s.seq n).cfg.resultStream).nextIssue = (s.stream (s.seq n).cfg.resultStream).nextIssue + 1)) ∧
  (∀ (s : State) (n : Nat) (f : Tq) (e : ListEntry), s.atBoundary n f → (s.seq n).halting = false → s.stopIsDue n = false →
    e = s.sq.mem.entry (s.seq n).nextEntry → (s.seq n).begins e = true →
    (s.seq n).waitingCount < (s.stepAt (s.seq n).nextEntry).2 → ((s.seq n).first = true ∨ (s.seq n).step.reasons = 0) →
    ∃ t, exec (.slotIssue n) s = .next t ∧ (t.seq n).run = .underrun ∧ (t.seq n).fUnderrun = true ∧
      (t.seq n).entry = (s.seq n).nextEntry ∧ (t.seq n).granDark = true ∧
      (t.seq n).counters.underrunGranules = (s.seq n).counters.underrunGranules.inc ∧
      (t.seq n).rd = (s.seq n).rd ∧ (t.seq n).accum.freq = (s.seq n).accum.freq ∧ (t.seq n).k = (s.seq n).k + 1 ∧
      t.rx = s.rx ∧ t.tx = s.tx) ∧
  (∀ (s : State) (n : Nat) (f : Tq), s.atBoundary n f → ((s.seq n).halting = true ∨ s.stopIsDue n = true) →
    ∃ t, exec (.slotIssue n) s = .next t ∧ (t.seq n).run = .stopped ∧ (t.seq n).k = (s.seq n).k ∧ (t.seq n).stops = [] ∧
      (t.seq n).jump = none ∧ (t.seq n).lastFire = (s.seq n).lastFire ∧ (s.dev.pfail = false → (t.seq n).skip = none))

/-! ## Receive, gates and matching -/

/-- The commands that set inputs, gates and raw export: in range and not held back by a running sequencer, an open gate or
a reset of their group, each sets what it carries for every unit of its range (R37, R137, R138, R139, R161, R162, R172,
R174). HIT_CONFIG also ends what a relock still wants calibrated of a channel that it makes no enabled raw channel (R146,
R158), which is the model's reading (entry 30). Concludes that exec answers a next state for: `channelRowSet`,
`gateProfileSet`, `gateTapSet`, `hitConfig`, `rawExportSet`, `staInputConfig`, `trgConfig`. -/
def Obligations.ReceiveSettings : Prop :=
  (∀ (s : State) (first count : Nat) (cfg : HitCfg), s.admits (.hitConfig first count cfg) = true → 1 ≤ count →
    first + count ≤ 512 → hitRanges cfg = true → (cfg.rawGate = 1 → (s.trg cfg.trgSel).edges = 3) →
    (∀ c ∈ numbers first count, s.hasOpenGate c = false ∧ s.watchedNow c = false) →
    s.groupResetting (numbers first count) = false →
    completes (.hitConfig first count cfg) s
      (s.each (numbers first count) fun s c => s.configureHit c cfg).refreshFs .ok []) ∧
  (∀ (s : State) (c : Nat) (cfg : HitCfg), s.configureHit c cfg =
    (s.setChan c { s.chan c with cfg := cfg }).setInput c
      { s.input c with sweep := if cfg.cls = 1 ∧ cfg.enable = 1 then (s.input c).sweep else [] }) ∧
  (∀ (s : State) (k edges : Nat), s.admits (.trgConfig k edges) = true → k ≤ 7 → edges ≤ 3 →
    (edges ≠ 3 → s.gatesRaw k = false) →
    completes (.trgConfig k edges) s (s.setTrg k { s.trg k with edges := edges }) .ok []) ∧
  (∀ (s : State) (first count : Nat) (cfg : StaInCfg), s.admits (.staInputConfig first count cfg) = true → 1 ≤ count →
    first + count ≤ 64 → staInRanges cfg = true →
    (∀ k ∈ numbers first count, s.rowInUse (s.staCfg k).row = true → staInDiffers (s.sta k).cfg cfg = false) →
    completes (.staInputConfig first count cfg) s (s.each (numbers first count) (State.configureSta · cfg ·)) .ok []) ∧
  (∀ (s : State) (p : Nat) (cfg : GateProfile), s.admits (.gateProfileSet p cfg) = true → p ≤ 15 → cfg.openOffset ≤ 65536000 →
    cfg.openOffset % 4 = 0 → 1024 ≤ cfg.length → cfg.length ≤ 65536000 → cfg.length % 4 = 0 → cfg.binK ≤ 5 →
    cfg.winStart ≤ 65536000 → s.ranging = false →
    completes (.gateProfileSet p cfg) s (s.setGateProf p cfg) .ok []) ∧
  (∀ (s : State) (first count row : Nat), s.admits (.channelRowSet first count row) = true → 1 ≤ count → first + count ≤ 512 →
    (row ≤ 63 ∨ row = 0x7F) → s.rowInUse row = false →
    (∀ c ∈ numbers first count, (∀ g ∈ (s.chan c).gates, g.inUse = false) ∧ s.rowInUse (s.chan c).row = false) →
    s.groupResetting (numbers first count) = false →
    completes (.channelRowSet first count row) s
      (s.each (numbers first count) fun s c => s.setChan c { s.chan c with row := row }).refreshFs .ok []) ∧
  (∀ (s : State) (n : Nat) (ins : List Nat), s.admits (.rawExportSet n ins) = true → n ≤ 63 → (∀ i ∈ ins, i ≤ 584) →
    s.isResultStream n = false → (∀ i ∈ s.rebound n ins, (s.input i).queue = []) →
    s.groupResetting ((ins ++ s.rebound n ins).filter (· < 512)) = false →
    completes (.rawExportSet n ins) s
      ((s.each (s.rebound n ins) fun s i =>
        s.setInput i { s.input i with stream := if ins.contains i then some n else none }).modStream n
          fun x => { x with raw := !ins.isEmpty }) .ok []) ∧
  (∀ (s : State) (g ch st mon : Nat), s.admits (.gateTapSet g ch st mon) = true → g ≤ 7 → (ch ≤ 63 ∨ ch = 0x7F) → st ≤ 63 →
    mon ≤ 63 → (s.stream st).raw = true → s.groupResetting [64 * g] = false →
    completes (.gateTapSet g ch st mon) s
      (s.setTap g { s.tap g with tapChannel := ch, tapStream := st, monChannel := mon }) .ok [])

/-- The commands that clear the counters of inputs and gates (R159, R176), and GATE_ARM, which arms a gate that reports to
a raw stream on every channel of its range (R171). Concludes that exec answers a next state for: `gateArm`,
`gateCountersClear`, `inputCountersClear`. -/
def Obligations.ReceiveCommands : Prop :=
  (∀ (s : State) (first count : Nat), s.admits (.inputCountersClear first count) = true → 1 ≤ count → first + count ≤ 585 →
    completes (.inputCountersClear first count) s (s.each (numbers first count) State.clearInput) .ok []) ∧
  (∀ (s : State) (i : Nat), i ≤ 511 → s.clearInput i = s.setInput i { s.input i with
    pairLost := 0, ungated := 0, calFull := 0, calReused := 0, calRolling := 0, convFault := 0, lbBlanked := 0,
    suspectStamps := 0, rawDropped := 0 }) ∧
  (∀ (s : State) (first count : Nat), s.admits (.gateCountersClear first count) = true → 1 ≤ count → first + count ≤ 512 →
    completes (.gateCountersClear first count) s (s.each (numbers first count) State.clearGates) .ok []) ∧
  (∀ (s : State) (c : Nat), s.clearGates c = (s.setChan c { s.chan c with
      opened := 0, refused := 0, droppedHits := 0, multiAssigned := 0, gatesCut := 0,
      poolHigh := (s.chan c).poolUsed }).setTap (c / 64) { s.tap (c / 64) with tapLost := 0 }) ∧
  (∀ (s : State) (first count p st : Nat) (time : FullTime), s.admits (.gateArm first count p st time) = true → 1 ≤ count →
    first + count ≤ 512 → p ≤ 15 → st ≤ 63 → time.ok = true → time.fns.toNat % 256 = 0 → (s.stream st).raw = true →
    (∀ c ∈ numbers first count, (s.chan c).watchesRow = true ∧ s.isReady (readyHg (c / 64)) = true ∧
      (s.chan c).freeQueue.isSome = true) →
    s.pll.locked = true → (s.dev.run = .readyIdle ∨ s.ranging = true) → s.now ≤ time.tq - 18432 →
    completes (.gateArm first count p st time) s (s.each (numbers first count) (State.armTap · p st time.tq ·)) .ok [])

/-- HIT_EDGE (R82, R141, R143): at a ranging channel with no gate open, or with all converters taken, an edge makes no
stamp and is counted; else a free converter takes it, is busy for 8 ns (R141 gives at most 8 ns; entry 30), and the stamp,
from which SKEW_BOARD and SKEW_CAL are taken (R309), enters the stamp path; an edge that a lane injects is blanked and
counted; no other channel changes. STAMP_DELIVERY and STAMP_TIMEOUT (R148, R167): the oldest stamp of a ranging channel
goes, within 32 ns of its edge, into every gate whose window holds it, while the pool has room for all of them; after 32
ns it is dropped from each of them. A stamp of no gate leaves the path and is counted UNGATED, delivered or timed out. A
raw stamp that its closed raw gate stops is counted UNGATED too (R153): on the scale that stands, and once no trigger edge
can come any more that would change it, which is the model's reading (entry 24). One of an input that is bound to no raw
stream is lost and counted (R172). Concludes that exec answers a next state for: `hitEdge`, `stampDelivery`,
`stampTimeout`. -/
def Obligations.HitsReachGates : Prop :=
  (∀ (s : State) (c phase n : Nat) (falling : Bool) (tBall : Tq), c ≤ 511 → (s.chan c).cfg.enable = 1 →
    (s.chan c).cfg.edge = falling.toNat → s.heard tBall = true → s.injected c tBall = false → (s.chan c).cfg.cls = 0 →
    (s.chan c).openGates tBall = [] →
    exec (.hitEdge c falling tBall phase n) s = .next (s.setInput c { s.input c with ungated := (s.input c).ungated.inc })) ∧
  (∀ (s : State) (c phase n : Nat) (falling : Bool) (tBall : Tq), c ≤ 511 → (s.chan c).cfg.enable = 1 →
    (s.chan c).cfg.edge = falling.toNat → s.heard tBall = true → s.injected c tBall = false → (s.chan c).cfg.cls = 0 →
    (s.chan c).openGates tBall ≠ [] → s.inService c = true → s.freeConv c 0 4 (s.input c).rr tBall = none →
    exec (.hitEdge c falling tBall phase n) s = .next
      (s.setInput c { s.input c with pairLost := (s.input c).pairLost.inc, droppedBefore := true })) ∧
  (∀ (s : State) (c phase n k : Nat) (falling : Bool) (tBall : Tq), c ≤ 511 → (s.chan c).cfg.enable = 1 →
    (s.chan c).cfg.edge = falling.toNat → s.heard tBall = true → s.injected c tBall = false → (s.chan c).cfg.cls = 0 →
    (s.chan c).openGates tBall ≠ [] → s.inService c = true → s.freeConv c 0 4 (s.input c).rr tBall = some k → 0 ≤ tBall →
    ∃ t p, exec (.hitEdge c falling tBall phase n) s = .next t ∧ (t.input c).path = (s.input c).path ++ [p] ∧
      (t.conv c k).busyUntil = tBall + 8192 ∧ (t.input c).rr = (k + 1) % 4 ∧
      p.t = (s.conv c k).stamp tBall phase n ((s.chan c).cfg.skewBoard + s.inSkew c) ∧ p.suspect = !s.pll.locked ∧
      p.tEdge = tBall ∧ p.conv = k ∧ p.cfg = (s.chan c).cfg ∧
      (∀ d, d ≠ c → t.input d = s.input d ∧ t.chan d = s.chan d) ∧ ({ t with rx := s.rx } : State) = s) ∧
  (∀ (s : State) (c phase n : Nat) (falling : Bool) (tBall : Tq), c ≤ 511 → (s.chan c).cfg.enable = 1 →
    (s.chan c).cfg.edge = falling.toNat → s.heard tBall = true → s.injected c tBall = true →
    exec (.hitEdge c falling tBall phase n) s = .next
      (s.setInput c { s.input c with lbBlanked := (s.input c).lbBlanked.inc, droppedBefore := true })) ∧
  (∀ (s : State) (c : Nat) (p : PathStamp) (rest : List PathStamp), c ≤ 511 → (s.input c).path = p :: rest →
    p.cfg.cls = 0 → s.now ≤ p.tEdge + 32768 → (s.chan c).targets p ≠ [] →
    (s.chan c).poolUsed + ((s.chan c).targets p).length ≤ 256 →
    ∃ t, exec (.stampDelivery c) s = .next t ∧
      (t.chan c).gates = (s.chan c).gates.map (fun (g : Gate) =>
        if g.openAt (p.inGate g.id) then
          { g with words := g.words ++ [g.word p], suspect := g.suspect || p.suspect } else g) ∧
      (t.chan c).droppedHits = (s.chan c).droppedHits ∧
      ({ t with rx := s.rx, hist := s.hist, eng := s.eng, ret := s.ret } : State) = s) ∧
  (∀ (s : State) (c : Nat) (p : PathStamp) (rest : List PathStamp), c ≤ 511 → (s.input c).path = p :: rest →
    p.cfg.cls = 0 → s.now ≤ p.tEdge + 32768 → (s.chan c).targets p ≠ [] →
    256 < (s.chan c).poolUsed + ((s.chan c).targets p).length → exec (.stampDelivery c) s = .next s) ∧
  (∀ (s : State) (c : Nat) (p : PathStamp) (rest : List PathStamp), c ≤ 511 → (s.input c).path = p :: rest →
    p.cfg.cls = 0 → s.reached (p.tEdge + 32768) = true → (s.chan c).targets p ≠ [] →
    ∃ t, exec (.stampTimeout c) s = .next t ∧
      (t.chan c).gates = (s.chan c).gates.map (fun (g : Gate) =>
        if g.openAt (p.inGate g.id) then { g with drops := g.drops + 1 } else g) ∧
      (t.chan c).droppedHits = (s.chan c).droppedHits.inc ∧ ({ t with rx := s.rx } : State) = s) ∧
  (∀ (s : State) (c : Nat) (p : PathStamp) (rest : List PathStamp), c ≤ 511 → (s.input c).path = p :: rest →
    p.cfg.cls = 0 → s.now ≤ p.tEdge + 32768 → (s.chan c).targets p = [] →
    ∃ t, exec (.stampDelivery c) s = .next t ∧
      t.input c = { s.input c with path := rest, ungated := (s.input c).ungated.inc, droppedBefore := true } ∧
      (t.chan c).gates = (s.chan c).gates ∧ (t.chan c).droppedHits = (s.chan c).droppedHits ∧
      ({ t with rx := s.rx } : State) = s) ∧
  (∀ (s : State) (c : Nat) (p : PathStamp) (rest : List PathStamp), c ≤ 511 → (s.input c).path = p :: rest →
    p.cfg.cls = 0 → s.reached (p.tEdge + 32768) = true → (s.chan c).targets p = [] →
    ∃ t, exec (.stampTimeout c) s = .next t ∧
      t.input c = { s.input c with path := rest, ungated := (s.input c).ungated.inc, droppedBefore := true } ∧
      (t.chan c).gates = (s.chan c).gates ∧ (t.chan c).droppedHits = (s.chan c).droppedHits ∧
      ({ t with rx := s.rx } : State) = s) ∧
  (∀ (s : State) (c : Nat) (p : PathStamp) (rest : List PathStamp), c ≤ 511 → (s.input c).path = p :: rest →
    p.cfg.cls ≠ 0 → p.cfg.rawGate = 1 → p.onScale < s.now → s.now ≤ p.tEdge + 32768 →
    (∀ l, (s.trg p.cfg.trgSel).lastAt p.onScale = some l → l.1 + 2052 ≤ s.now) →
    (s.trg p.cfg.trgSel).levelAt p.onScale ≠ some (decide (p.cfg.trgActive = 1)) →
    exec (.stampDelivery c) s = .next (s.setInput c
      { s.input c with path := rest, ungated := (s.input c).ungated.inc, droppedBefore := true })) ∧
  (∀ (s : State) (i : Nat) (p : PathStamp) (rest : List PathStamp), 512 ≤ i → i ≤ 584 → (s.input i).path = p :: rest →
    s.now ≤ p.tEdge + 32768 → (s.input i).stream = none →
    exec (.stampDelivery i) s = .next (s.setInput i
      { s.input i with path := rest, rawDropped := (s.input i).rawDropped.inc, droppedBefore := true }))

/-- TRG_EDGE (R37): once the time base is ready, an edge that TRG_CONFIG selects is stamped at 4 tq, publishes at
generation 0 and enters the stamp path, unless it comes within 2,048 tq of the last one: then it is counted as an overrun.
An edge that is not selected changes nothing. SYNCI_EDGE (R131): outside mode 1 a rising edge is stamped and counted as
received. Concludes that exec answers a next state for: `synciEdge`, `trgEdge`. -/
def Obligations.TriggerEdges : Prop :=
  (∀ (s : State) (n : Nat) (falling : Bool) (tBall : Tq), n ≤ 7 → s.isReady readyTimebase = true → s.heard tBall = true →
    (if falling then 2 ≤ (s.trg n).edges else (s.trg n).edges % 2 = 1) → (n ≠ 0 ∨ s.net.ptp.role ≠ 1 ∨ falling = true) →
    (∀ l, (s.trg n).lastEdge = some l → 2048 ≤ (tBall - l).natAbs) →
    ∃ t p, exec (.trgEdge n falling tBall) s = .next t ∧ (t.trg n).lastEdge = some tBall ∧
      (t.trg n).overrun = (s.trg n).overrun ∧ (t.input (576 + n)).path = (s.input (576 + n)).path ++ [p] ∧
      p.t = stampOf tBall ∧ p.falling = falling ∧ p.suspect = !s.pll.locked ∧
      t.fab = (s.publish (prodTrg n) (stampOf tBall) 0).fab ∧ t.tx = s.tx ∧ t.sq = s.sq ∧ t.sv = s.sv) ∧
  (∀ (s : State) (n : Nat) (falling : Bool) (tBall l : Int), n ≤ 7 → s.isReady readyTimebase = true → s.heard tBall = true →
    (if falling then 2 ≤ (s.trg n).edges else (s.trg n).edges % 2 = 1) → (s.trg n).lastEdge = some l →
    (tBall - l).natAbs < 2048 →
    ∃ t, exec (.trgEdge n falling tBall) s = .next t ∧ (t.trg n).overrun = (s.trg n).overrun.inc ∧
      (t.trg n).lastEdge = some l ∧ (t.input (576 + n)).path = (s.input (576 + n)).path ∧
      ({ t with tb := s.tb, rx := s.rx } : State) = s) ∧
  (∀ (s : State) (n : Nat) (falling : Bool) (tBall : Tq), n ≤ 7 →
    ¬ (if falling then 2 ≤ (s.trg n).edges else (s.trg n).edges % 2 = 1) →
    exec (.trgEdge n falling tBall) s = .next s) ∧
  (∀ (s : State) (tBall : Tq), s.tb.sync.cfg.mode ≠ 1 → s.tb.sync.pending = none → s.heard tBall = true →
    ∃ t p, exec (.synciEdge tBall) s = .next t ∧ t.tb.sync.received = s.tb.sync.received.inc ∧
      t.tb.sync.offsets.head? = some (stampOf tBall -
        syncGrid s.tb.sync.cfg (roundDiv (stampOf tBall - s.tb.sync.cfg.g0.tq) (syncPeriod s.tb.sync.cfg)) -
        s.tb.sync.cfg.cableDelay) ∧
      (t.input 584).path = (s.input 584).path ++ [p] ∧ p.t = stampOf tBall ∧
      ({ t with tb := s.tb, rx := s.rx, pll := s.pll } : State) = s)

/-- R144, as far as it gives values: a calibration whose readings give a period from 3.5 to 4.5 tq and an offset of at
most 64 tq loads them and counts the age from now; another counts a CONV_FAULT, leaves the coefficients in force, and the
third of them in succession excludes the converter (R147). 18 ns before it opens, a gate decides (R145): where a gate of
its channel was open then or a calibration runs, the coefficients are reused, CAL_REUSED counts and stands in the words of
the gate (R150); else all four converters are calibrated. A channel that rolls takes its converter with the oldest
calibration once that is 3 µs old (R146). Concludes that exec answers a next state for: `converterCalDone`,
`gateCalDecision`, `rollingCalDue`. -/
def Obligations.ConverterCalibration : Prop :=
  (∀ (s : State) (i k m1 m2 : Nat), i ≤ 511 → k ≤ 3 → (s.conv i k).calibrating = true → (s.input i).rolling = none →
    m1 < m2 → 7 * (m2 - m1) ≤ 2048 → 2048 ≤ 9 * (m2 - m1) →
    (1024 * ((m2 : Int) - m1) - 1024 * m1).natAbs ≤ 64 * (m2 - m1) →
    exec (.converterCalDone i k m1 m2) s = .next (s.modConv i k fun c =>
      { c with m1 := m1, m2 := m2, calAt := s.clock, fails := 0, excluded := false, calibrating := false })) ∧
  (∀ (s : State) (i k m1 m2 : Nat), i ≤ 511 → k ≤ 3 → (s.conv i k).calibrating = true → (s.input i).rolling = none →
    (m2 ≤ m1 ∨ 2048 < 7 * (m2 - m1) ∨ 9 * (m2 - m1) < 2048 ∨
      64 * (m2 - m1) < (1024 * ((m2 : Int) - m1) - 1024 * m1).natAbs) →
    exec (.converterCalDone i k m1 m2) s = .next
      ((s.setInput i { s.input i with convFault := (s.input i).convFault.inc }).modConv i k fun c =>
        { c with fails := c.fails + 1, excluded := c.excluded || decide (2 ≤ c.fails), calibrating := false })) ∧
  (∀ (s : State) (c : Nat) (g : Gate), c ≤ 511 → (s.chan c).gate g.id = some g → g.waiting = true → g.calDecided = false →
    s.reached (g.tOpen - 18432) = true → s.pll.locked = true → (s.chan c).needFull = false →
    ((s.chan c).heldOpenAt (g.tOpen - 18432) = true ∨ s.calibrating c = true) →
    ∃ t, exec (.gateCalDecision c g.id) s = .next t ∧ (t.input c).calReused = (s.input c).calReused.inc ∧
      (t.input c).convs = (s.input c).convs ∧
      (t.chan c).gates = (s.chan c).gates.map (fun (x : Gate) => if x.id = g.id then
        { x with calDecided := true, calReused := true, words := x.words.map Word.reused } else x) ∧
      ({ t with rx := s.rx } : State) = s) ∧
  (∀ (s : State) (c : Nat) (g : Gate), c ≤ 511 → (s.chan c).gate g.id = some g → g.waiting = true → g.calDecided = false →
    s.reached (g.tOpen - 18432) = true → s.pll.locked = true → (s.chan c).heldOpenAt (g.tOpen - 18432) = false →
    s.calibrating c = false →
    ∃ t, exec (.gateCalDecision c g.id) s = .next t ∧ (t.input c).calFull = (s.input c).calFull.inc ∧
      (t.input c).rolling = none ∧ (t.input c).sweep = [] ∧
      (∀ k, k ≤ 3 → (t.conv c k).calibrating = true) ∧ ({ t with rx := s.rx } : State) = s) ∧
  (∀ (s : State) (c : Nat), c ≤ 511 → s.rolls c = true → (s.input c).sweep = [] →
    3000 ≤ (s.clock : Int) - (s.conv c (s.oldestConv c)).calAt →
    exec (.rollingCalDue c) s = .next
      ((s.modConv c (s.oldestConv c) fun v => { v with calibrating := true }).modInput c fun x =>
        { x with rolling := some (s.oldestConv c, 0), calRolling := x.calRolling.inc }))

/-- STA_EDGE and STA_WINDOW_CLOSE (R62 to R64): a rising stamp in an open match window takes the window and stands in its
shot as the stamp of its pulse; one outside every window is unexpected, counts and publishes with its time, is a stop
fault with dark asserted, and with EMIS_LIMIT of them within 100 ms a demand (R295, R296). A falling stamp of a matched
pulse that is too long counts OVERWIDTH. A window that closes unmatched counts a missing emission, and MISS_LIMIT of them
in succession publish; a window whose pulse dark kept from forming counts none, which is the model's reading (entry 26).
Concludes that exec answers a next state for: `staEdge`, `staWindowClose`. -/
def Obligations.StartInputs : Prop :=
  (∀ (s : State) (k phase n v : Nat) (falling : Bool) (tBall τ : Tq) (w : MatchWin), k ≤ 63 → (s.sta k).cfg.enable = 1 →
    s.heard tBall = true → 0 ≤ tBall → falling = decide ((s.sta k).cfg.pol = 1) → (s.staCfg k).row ≤ 63 →
    s.freeConv (512 + k) (if falling then 2 else 0) 2 (if falling then (s.input (512 + k)).rrFall else (s.input (512 + k)).rr)
      tBall = some v →
    τ = (s.conv (512 + k) v).stamp tBall phase n ((s.sta k).cfg.skewBoard + s.staSkew k) →
    s.windowOf (s.staCfg k).row τ = some w →
    ∃ t, exec (.staEdge k falling tBall phase n) s = .next t ∧ t.tx.windows = s.tx.windows.erase w ∧
      (∀ j x, w.shot = some j → s.shot j = some x → t.shot j = some { x with stamps := x.stamps ++ [(w.k, τ)] }) ∧
      t.row (s.staCfg k).row = { s.row (s.staCfg k).row with missRun := 0 } ∧ t.sv = s.sv ∧ t.fab = s.fab) ∧
  (∀ (s : State) (k phase n v : Nat) (falling : Bool) (tBall τ : Tq), k ≤ 63 → (s.sta k).cfg.enable = 1 →
    s.heard tBall = true → 0 ≤ tBall → falling = decide ((s.sta k).cfg.pol = 1) → (s.staCfg k).row ≤ 63 →
    s.freeConv (512 + k) (if falling then 2 else 0) 2 (if falling then (s.input (512 + k)).rrFall else (s.input (512 + k)).rr)
      tBall = some v →
    τ = (s.conv (512 + k) v).stamp tBall phase n ((s.sta k).cfg.skewBoard + s.staSkew k) →
    s.windowOf (s.staCfg k).row τ = none →
    ∃ t, exec (.staEdge k falling tBall phase n) s = .next t ∧
      (t.row (s.staCfg k).row).unexpected = (s.row (s.staCfg k).row).unexpected.inc ∧
      (s.darkAt τ = true → t.sv.faults.contains .emission = true ∧ t.sv.emissionFault = true) ∧
      (s.sv.active.sv.emisLimit ≤
          ((s.clock :: Tab.get [] s.sv.emissions (s.staCfg k).row).filter fun x => decide (s.clock ≤ x + emissionSpan)).length →
        t.sv.faults.contains .emisLimit = true) ∧
      (s.darkAt τ = false →
        ((s.clock :: Tab.get [] s.sv.emissions (s.staCfg k).row).filter fun x => decide (s.clock ≤ x + emissionSpan)).length <
          s.sv.active.sv.emisLimit →
        t.fab = (s.publish (prodUnexpected (s.staCfg k).row) τ 0).fab)) ∧
  (∀ (s : State) (k phase n v r w : Nat) (falling : Bool) (tBall τ t0 : Tq), k ≤ 63 → (s.sta k).cfg.enable = 1 →
    s.heard tBall = true → 0 ≤ tBall → falling = decide ((s.sta k).cfg.pol = 0) → (s.sta k).cfg.pol ≤ 1 →
    (s.staCfg k).row ≤ 63 →
    s.freeConv (512 + k) (if falling then 2 else 0) 2 (if falling then (s.input (512 + k)).rrFall else (s.input (512 + k)).rr)
      tBall = some v →
    τ = (s.conv (512 + k) v).stamp tBall phase n ((s.sta k).cfg.skewBoard + s.staSkew k) →
    (s.sta k).lastRise = some (t0, some (r, w)) → (w : Int) + (s.staCfg k).widthTol < τ - t0 →
    ∃ t, exec (.staEdge k falling tBall phase n) s = .next t ∧ (t.row r).overwidth = (s.row r).overwidth.inc) ∧
  (∀ (s : State) (r : Nat) (w : MatchWin), r ≤ 63 →
    earliest (s.tx.windows.filter fun w => decide (w.row = r ∧ w.hi < s.now)) = some w → s.isDarkWindow w = false →
    ∃ t, exec (.staWindowClose r) s = .next t ∧ t.tx.windows = s.tx.windows.erase w ∧
      (t.row r).missing = (s.row r).missing.inc ∧
      (∀ k, s.staOfRow r = some k → 0 < (s.staCfg k).missLimit →
        ((s.staCfg k).missLimit ≤ (s.row r).missRun + 1 →
          (t.row r).missRun = 0 ∧ t.fab = (s.publish (prodMissing r) w.hi 0).fab) ∧
        ((s.row r).missRun + 1 < (s.staCfg k).missLimit → (t.row r).missRun = (s.row r).missRun + 1 ∧ t.fab = s.fab)) ∧
      t.sq = s.sq ∧ t.rx = s.rx ∧ t.sv = s.sv) ∧
  (∀ (s : State) (r : Nat) (w : MatchWin), r ≤ 63 →
    earliest (s.tx.windows.filter fun w => decide (w.row = r ∧ w.hi < s.now)) = some w → s.isDarkWindow w = true →
    exec (.staWindowClose r) s = .next { s with tx := { s.tx with windows := s.tx.windows.erase w } })

/-- GATE_OPEN and GATE_DRAIN (R163, R165): a gate opens at T_OPEN and counts; 32 ns after it has closed, skew counted, it
is drained, by the SKEW_BOARD that stands then, which is the model's choice (entry 57); a gate cut short, or armed by
command, leaves its channel then, and one cut short that loses stamps is counted (R170, R176). Concludes that exec answers
a next state for: `gateDrain`, `gateOpen`. -/
def Obligations.GateLife : Prop :=
  (∀ (s : State) (c : Nat) (g : Gate), c ≤ 511 → (s.chan c).gate g.id = some g → g.waiting = true →
    s.reached g.tOpen = true →
    ∃ t h, exec (.gateOpen c g.id) s = .next t ∧ (t.chan c).gate g.id = some h ∧ h.life = .opened ∧
      h.inService = s.inService c ∧ h.words = g.words ∧ (t.chan c).opened = (s.chan c).opened.inc ∧
      t.hist = s.hist ∧ t.sq = s.sq ∧ t.tx = s.tx) ∧
  (∀ (s : State) (c : Nat) (g : Gate), c ≤ 511 → (s.chan c).gate g.id = some g → g.waiting = true →
    s.reached g.tOpen = false → exec (.gateOpen c g.id) s = .next s) ∧
  (∀ (s : State) (c : Nat) (g : Gate), c ≤ 511 → (s.chan c).gate g.id = some g → g.life = .opened →
    s.reached (g.tClose + max 0 (s.chan c).cfg.skewBoard + 32768) = true → g.cut = false → g.shot.isSome = true →
    ∃ t h, exec (.gateDrain c g.id) s = .next t ∧ (t.chan c).gate g.id = some h ∧ h.life = .drained ∧
      t.sq = s.sq ∧ t.tx = s.tx ∧ t.eng = s.eng) ∧
  (∀ (s : State) (c : Nat) (g : Gate), c ≤ 511 → (s.chan c).gate g.id = some g → g.life = .opened →
    s.reached (g.tClose + max 0 (s.chan c).cfg.skewBoard + 32768) = true → (g.cut = true ∨ g.shot = none) →
    ∃ t, exec (.gateDrain c g.id) s = .next t ∧ (t.chan c).gate g.id = none ∧
      (t.chan c).gatesCut = (if (g.cut = true ∧ g.words ≠ []) then (s.chan c).gatesCut.inc else (s.chan c).gatesCut))

/-- EMISSION_REFERENCE_FIXED (R155, R156, R185): a row without start input takes the scheduled time of the shot's first
rising edge, one with a start input that of its lowest plausible candidate, less that pulse's offset and with the row's
shift, counted; without a candidate it falls back, counted. That the shot stands as long as its gates and no longer, and
that LAT_MAX counts 0 on a row without start input, is the model's reading (entry 30). MATCH_DECISION (R182 to R185): a
word whose best hypothesis has too few pulses is rejected and counted; a full match and a weak one are counted and their
words leave; with 64 matches waiting a match is lost, counted, and marks the bank; the words of a gate armed by command
leave undecided. What becomes of an accepted match once its shot's reference is fixed (R178, R181, R185, R187, R190): of a
darkened shot it is dropped and counted; else it has its time of flight and, where no neighbour test is made, is
accumulated: into its bin and its block's sum, or into OUT_OF_WINDOW. A stale block begins with the one bin, a full bin
stays with its block and counts, and a bin or a sum of bad parity stays bad. NEIGHBOUR_TEST (R186): each match of a gate
that waits is kept when at least NB_K - 1 neighbours have a match within NB_TOL bins of it in the same slot, else it is
dropped and counted. Concludes that exec answers a next state for: `emissionReferenceFixed`, `matchDecision`,
`neighbourTest`. -/
def Obligations.Matching : Prop :=
  (∀ (s : State) (k : Nat) (x : Shot), s.shot k = some x → x.ref = none → s.reached (s.fixTime x) = true →
    s.staOfRow x.row = none →
    ∃ t, exec (.emissionReferenceFixed k) s = .next t ∧
      (s.hasGates k = true →
        t.shot k = some { x with ref := some { time := x.rises.headD 0, sta := false }, darkened := s.isDarkened k x }) ∧
      (s.hasGates k = false → t.shot k = none) ∧
      t.sq = s.sq ∧ t.eng = s.eng ∧ t.sv = s.sv ∧ t.tb = s.tb) ∧
  (∀ (s : State) (k a j : Nat) (x : Shot) (τ : Tq), s.shot k = some x → x.ref = none → s.reached (s.fixTime x) = true →
    x.row ≤ 63 → s.staOfRow x.row = some a → s.isDarkened k x = false → s.hasGates k = true →
    bestCandidate (s.candidates x a) = some (j, τ) → (j ≠ 0 ∨ s.cal.learns = []) →
    ∃ t, exec (.emissionReferenceFixed k) s = .next t ∧
      t.shot k = some { x with
        ref := some { time := τ - (x.offsets.getD j 0 : Int) + s.staShift x.row, sta := true }, darkened := false } ∧
      (t.row x.row).staRef = (s.row x.row).staRef.inc ∧ (t.row x.row).staFallback = (s.row x.row).staFallback ∧
      (t.row x.row).staImplausible = (s.row x.row).staImplausible.add ((s.candidates x a).filter fun c => !c.2.2).length ∧
      t.sq = s.sq ∧ t.eng = s.eng ∧ t.sv = s.sv ∧ t.tb = s.tb) ∧
  (∀ (s : State) (k a : Nat) (x : Shot), s.shot k = some x → x.ref = none → s.reached (s.fixTime x) = true →
    x.row ≤ 63 → s.staOfRow x.row = some a → s.isDarkened k x = false → s.hasGates k = true →
    bestCandidate (s.candidates x a) = none →
    ∃ t, exec (.emissionReferenceFixed k) s = .next t ∧
      t.shot k = some { x with ref := some { time := x.rises.headD 0, sta := false }, darkened := false } ∧
      (t.row x.row).staFallback = (s.row x.row).staFallback.inc ∧ (t.row x.row).staRef = (s.row x.row).staRef ∧
      t.sq = s.sq ∧ t.eng = s.eng ∧ t.sv = s.sv ∧ t.tb = s.tb) ∧
  (∀ (s : State) (c : Nat) (g : Gate) (w : Word) (rest : List Word), c ≤ 511 → (s.chan c).gate g.id = some g → g.cut = false →
    g.shot.isSome = true → g.words = w :: rest → (s.chan c).wordDue g w (32 * 2 ^ g.binK) = true →
    (bestHypothesis g.offsets (32 * 2 ^ g.binK) w rest).length <
      minPulses g.matching g.offsets.length →
    exec (.matchDecision c g.id) s = .next
      ((s.modChan c fun x => x.modGate g.id fun y => ({ y with words := rest } : Gate).freed).modHistChan c
        fun y => { y with rejected := y.rejected.inc })) ∧
  (∀ (s : State) (c : Nat) (g : Gate) (w : Word) (rest : List Word), c ≤ 511 → (s.chan c).gate g.id = some g → g.cut = false →
    g.shot.isSome = true → g.words = w :: rest → (s.chan c).wordDue g w (32 * 2 ^ g.binK) = true →
    g.offsets.length ≠ 0 →
    (bestHypothesis g.offsets (32 * 2 ^ g.binK) w rest).length = g.offsets.length →
    ∃ t h, exec (.matchDecision c g.id) s = .next t ∧ (t.chan c).gate g.id = some h ∧
      h.words = g.words.filter (fun u =>
        !((bestHypothesis g.offsets (32 * 2 ^ g.binK) w rest).map (·.2.id)).contains u.id) ∧
      (t.histChan c).matchedFull = (s.histChan c).matchedFull.inc ∧
      (t.histChan c).matchedWeak = (s.histChan c).matchedWeak ∧ t.sq = s.sq ∧ t.eng = s.eng ∧ t.tx = s.tx) ∧
  (∀ (s : State) (c : Nat) (g : Gate) (w : Word) (rest : List Word), c ≤ 511 → (s.chan c).gate g.id = some g → g.cut = false →
    g.shot.isSome = true → g.words = w :: rest → (s.chan c).wordDue g w (32 * 2 ^ g.binK) = true →
    minPulses g.matching g.offsets.length ≤ (bestHypothesis g.offsets (32 * 2 ^ g.binK) w rest).length →
    (bestHypothesis g.offsets (32 * 2 ^ g.binK) w rest).length < g.offsets.length →
    ∃ t h, exec (.matchDecision c g.id) s = .next t ∧ (t.chan c).gate g.id = some h ∧
      h.words = g.words.filter (fun u =>
        !((bestHypothesis g.offsets (32 * 2 ^ g.binK) w rest).map (·.2.id)).contains u.id) ∧
      (t.histChan c).matchedWeak = (s.histChan c).matchedWeak.inc ∧
      (t.histChan c).matchedFull = (s.histChan c).matchedFull ∧ t.sq = s.sq ∧ t.eng = s.eng ∧ t.tx = s.tx) ∧
  (∀ (s : State) (c b : Nat) (g : Gate) (w : Word) (rest : List Word), c ≤ 511 → (s.chan c).gate g.id = some g → g.cut = false →
    g.shot.isSome = true → g.words = w :: rest → (s.chan c).wordDue g w (32 * 2 ^ g.binK) = true → g.bank = some b →
    minPulses g.matching g.offsets.length ≤ (bestHypothesis g.offsets (32 * 2 ^ g.binK) w rest).length →
    64 ≤ (g.found.filter fun m => decide (m.state = .pending)).length →
    ∃ t h, exec (.matchDecision c g.id) s = .next t ∧ (t.chan c).gate g.id = some h ∧ h.found = g.found ∧
      h.words = g.words.filter (fun u =>
        !((bestHypothesis g.offsets (32 * 2 ^ g.binK) w rest).map (·.2.id)).contains u.id) ∧
      (t.histChan c).matchLost = (s.histChan c).matchLost.inc ∧ (t.bank b).desc.lost = true ∧
      (t.bank b).blocks = (s.bank b).blocks ∧ t.sq = s.sq ∧ t.eng = s.eng ∧ t.tx = s.tx) ∧
  (∀ (s : State) (c : Nat) (g : Gate) (w : Word) (rest : List Word), c ≤ 511 → (s.chan c).gate g.id = some g → g.cut = false →
    g.shot = none → g.words = w :: rest →
    exec (.matchDecision c g.id) s = .next
      (s.modChan c fun x => x.modGate g.id fun y => ({ y with words := rest } : Gate).freed)) ∧
  (∀ (s : State) (c id i k : Nat) (g : Gate) (m : Match) (x : Shot) (r : Reference), (s.chan c).gate id = some g →
    g.found[i]? = some m → g.shot = some k → s.shot k = some x → x.ref = some r → m.state = .pending → m.tau = none →
    x.darkened = true →
    s.settleMatch c id i = (s.modHistChan c fun h => { h with darkMatches := h.darkMatches.inc }).modChan c fun y =>
      y.modGate id fun g => { g with found := g.found.set i { m with state := .dropped } }) ∧
  (∀ (s : State) (c id i k b : Nat) (τ : Int) (g : Gate) (m : Match) (x : Shot) (r : Reference), (s.chan c).gate id = some g →
    g.found[i]? = some m → g.shot = some k → s.shot k = some x → x.ref = some r → m.state = .pending → m.tau = none →
    x.darkened = false → g.matching.nbN = 1 → g.bank = some b → m.stamps ≠ [] →
    τ = ((m.stamps.map fun p => p.2 - (g.offsets.getD p.1 0 : Int)).sum / m.stamps.length) - r.time →
    (s.settleMatch c id i).hist = (s.accumulate c b τ m.full m.multi).1.hist ∧
    ∃ h, ((s.settleMatch c id i).chan c).gate id = some h ∧ h.found = g.found.set i
      { m with tau := some τ, state := if (binOf (s.bank b).desc τ).isSome then .kept else .dropped }) ∧
  (∀ (d : Descriptor) (τ : Int), (d.winStart : Int) ≤ τ → τ < d.winStart + 16384 * (32 * 2 ^ d.binK) → τ < 2 ^ 26 →
    binOf d τ = some ((τ - d.winStart) / (32 * 2 ^ d.binK)).toNat) ∧
  (∀ (d : Descriptor) (τ : Int), (τ < d.winStart ∨ d.winStart + 16384 * (32 * 2 ^ d.binK) ≤ τ ∨ 2 ^ 26 ≤ τ) →
    binOf d τ = none) ∧
  (∀ (s : State) (c b : Nat) (τ : Int) (full multi : Bool), binOf (s.bank b).desc τ = none →
    s.accumulate c b τ full multi = ((s.setBank b { s.bank b with desc := (s.bank b).desc.keep full }).setHistChan c
      { s.histChan c with outOfWindow := (s.histChan c).outOfWindow.inc }, false)) ∧
  (∀ (s : State) (c b i : Nat) (τ : Int) (full multi : Bool), binOf (s.bank b).desc τ = some i →
    ∃ t, s.accumulate c b τ full multi = (t, true) ∧
      (t.bank b).block (i / 64) = (((s.bank b).block (i / 64)).accumulate (i % 64)).1 ∧
      (∀ k, k ≠ i / 64 → (t.bank b).block k = (s.bank b).block k) ∧
      (t.bank b).desc = { (s.bank b).desc.keep full with
        sat := (s.bank b).desc.sat || decide ((((s.bank b).block (i / 64)).accumulate (i % 64)).2 = .saturated)
        multiGate := (s.bank b).desc.multiGate || multi } ∧
      (t.histChan c).satBins = (if (((s.bank b).block (i / 64)).accumulate (i % 64)).2 = .saturated
        then (s.histChan c).satBins.inc else (s.histChan c).satBins) ∧
      (t.histChan c).parityAcc = (if (((s.bank b).block (i / 64)).accumulate (i % 64)).2 = .badBin
        then (s.histChan c).parityAcc.inc else (s.histChan c).parityAcc) ∧
      (t.histChan c).outOfWindow = (s.histChan c).outOfWindow ∧ ({ t with hist := s.hist } : State) = s) ∧
  (∀ (x : Block) (i : Nat), x.stale = true →
    x.accumulate i = ({ stale := false, sum := 1, sumP := true, bins := Tab.put Bin.zero [] i (Bin.of 1) }, .plain)) ∧
  (∀ (x : Block) (i : Nat), x.stale = false → (x.bin i).good = true → (x.bin i).v ≠ 65535 →
    ∃ y, x.accumulate i = (y, .plain) ∧ y.bin i = Bin.of ((x.bin i).v.toNat + 1) ∧ (y.bin i).good = true ∧
      (∀ j, j ≠ i → y.bin j = x.bin j) ∧ y.stale = false ∧
      (x.sumGood = true → y.sum = x.sum + 1 ∧ y.sumGood = true) ∧
      (x.sumGood = false → y.sum = x.sum ∧ y.sumP = x.sumP)) ∧
  (∀ (x : Block) (i : Nat), x.stale = false → (x.bin i).good = true → (x.bin i).v = 65535 →
    x.accumulate i = (x, .saturated)) ∧
  (∀ (x : Block) (i : Nat), x.stale = false → (x.bin i).good = false →
    ∃ y, x.accumulate i = (y, .badBin) ∧ y.bins = x.bins ∧ y.stale = false ∧
      (x.sumGood = true → y.sum = x.sum + 1 ∧ y.sumGood = true) ∧ (x.sumGood = false → y = x)) ∧
  (∀ (s : State) (c : Nat) (g : Gate), c ≤ 511 → (s.chan c).gate g.id = some g → g.matching.nbN ≠ 1 →
    g.ready = true →
    (∀ d ∈ s.neighbours c g.matching.nbN, ∀ y, s.slotGateOf d g = some y → y.ready = true) →
    exec (.neighbourTest c g.id) s = .next (s.each (List.range g.found.length) fun s i => s.testMatch c g i)) ∧
  (∀ (s : State) (c i : Nat) (g : Gate) (m : Match) (tau : Int), g.found[i]? = some m → m.tau = some tau →
    m.state = .pending →
    ((s.neighbours c g.matching.nbN).filter fun d => match s.slotGateOf d g with
      | none => false
      | some y => y.sees tau (g.matching.nbTol * (32 * 2 ^ g.binK))).length <
        g.matching.nbK - 1 →
    s.testMatch c g i = (s.modHistChan c fun h => { h with nbRejected := h.nbRejected.inc }).modChan c fun y =>
      y.modGate g.id fun g => g.setMatch i { m with state := .dropped }) ∧
  (∀ (s : State) (c i : Nat) (g : Gate) (m : Match) (tau : Int), g.found[i]? = some m → m.tau = some tau →
    m.state = .pending →
    g.matching.nbK - 1 ≤ ((s.neighbours c g.matching.nbN).filter fun d =>
      match s.slotGateOf d g with
      | none => false
      | some y => y.sees tau (g.matching.nbTol * (32 * 2 ^ g.binK))).length →
    s.testMatch c g i = s.keepMatch c g i m)

/-! ## Histograms and engines -/

/-- The histogram commands (R182, R193, R195): MATCH_PROFILE_SET sets a profile, HIST_HOLD asks for a hold or ends one,
HIST_COUNTERS_CLEAR clears every counter of its channels. The engine commands (R199, R201, R207, R216): STREAM_CONFIG and
KERNEL_CONFIG set a stream that nothing uses, a LOST_RANGE record that waits for the path that TRANSPORT now gives is
released (R411); ENGINE_RETEST begins a self-test and waits for its end, ENGINE_COUNTERS_CLEAR clears the counters.
Concludes that exec answers a next state for: `engineCountersClear`, `engineRetest`, `histCountersClear`, `histHold`,
`kernelConfig`, `matchProfileSet`, `streamConfig`. -/
def Obligations.HistogramAndEngineCommands : Prop :=
  (∀ (s : State) (p : Nat) (cfg : MatchProfile), s.admits (.matchProfileSet p cfg) = true → p ≤ 15 →
    (cfg.minPulses = 0 ∨ (2 ≤ cfg.minPulses ∧ cfg.minPulses ≤ 4)) → cfg.nbN ∈ [1, 3, 5, 7] → 1 ≤ cfg.nbK →
    cfg.nbK ≤ cfg.nbN → cfg.nbTol ≤ 15 → s.ranging = false →
    completes (.matchProfileSet p cfg) s (s.setMatchProf p cfg) .ok []) ∧
  (∀ (s : State) (c : Nat), s.admits (.histHold c 1) = true → c ≤ 511 → (s.histChan c).holdPending = false →
    (s.histChan c).held = none →
    completes (.histHold c 1) s (s.setHistChan c { s.histChan c with holdPending := true }) .ok []) ∧
  (∀ (s : State) (c : Nat), s.admits (.histHold c 0) = true → c ≤ 511 → (s.histChan c).held = none →
    completes (.histHold c 0) s (s.setHistChan c { s.histChan c with holdPending := false, held := none }) .ok []) ∧
  (∀ (s : State) (c b : Nat), s.admits (.histHold c 0) = true → c ≤ 511 → (s.histChan c).held = some b →
    completes (.histHold c 0) s ((s.setBank (2 * c + b) Bank.reset).modHistChan c
      fun h => { h with holdPending := false, held := none }) .ok []) ∧
  (∀ (s : State) (first count : Nat), s.admits (.histCountersClear first count) = true → 1 ≤ count → first + count ≤ 512 →
    completes (.histCountersClear first count) s (s.each (numbers first count) fun s c => s.setHistChan c { s.histChan c with
      rejected := 0, matchedFull := 0, matchedWeak := 0, nbRejected := 0, outOfWindow := 0, matchLost := 0, darkMatches := 0,
      satBins := 0, parityAcc := 0, recomputedBins := 0, erasedBlocks := 0 }) .ok []) ∧
  (∀ (s : State) (n : Nat) (cfg : StreamCfg), s.admits (.streamConfig n cfg) = true → n ≤ 63 →
    ((s.stream n).raw = false → 1 ≤ cfg.maxEchoes ∧ cfg.maxEchoes ≤ 4) → cfg.transport ≤ 1 → 1 ≤ cfg.batchMax →
      cfg.batchMax ≤ 4096 → 1 ≤ cfg.batchTimeout →
    cfg.batchTimeout ≤ 10000 → ((s.stream n).raw = false → cfg.maxEchoes ≤ cfg.batchMax) →
    overMtu s.net.net.mtu (s.stream n).raw cfg = false → s.streamBusy n = false →
    completes (.streamConfig n cfg) s ((s.setStream n { s.stream n with
      cfg := { cfg with maxEchoes := if (s.stream n).raw then (s.stream n).cfg.maxEchoes else cfg.maxEchoes } }).releaseStream n)
      .ok []) ∧
  (∀ (s : State) (n : Nat) (cfg : KernelCfg), s.admits (.kernelConfig n cfg) = true → cfg.kernel ≤ 1 → n ≤ 63 →
    kernelRanges cfg = true → s.streamBusy n = false →
    completes (.kernelConfig n cfg) s (s.setStream n { s.stream n with kernel := cfg }) .ok []) ∧
  (∀ (s : State) (e : Nat), s.admitsWait (.engineRetest e) = true → e < 96 → s.dev.bist = false →
    ((s.engine e).run = .idle ∨ (s.engine e).run = .quarantined) →
    waitsFor (.engineRetest e) s (s.setEngine e { s.engine e with
      run := .selftest, since := s.clock, wasQuarantined := decide ((s.engine e).run = .quarantined) }).refreshEngines
      (.engineTest e)) ∧
  (∀ s : State, s.admits .engineCountersClear = true →
    completes .engineCountersClear s
      (({ s with eng := { s.eng with pool := Pool.zero } } : State).each (List.range 96) fun s e =>
        s.setEngine e { s.engine e with jobs := 0, elements := 0, faults := 0 }) .ok [])

/-- BANK_CLOSE (R188, R196, R209 to R211): a bank whose step is issued and whose gates are done closes; its job takes the
next number of its stream and joins the queue, or gives a NOT_MEASURED result at once: code 1 where the channel is out of
service, 4 where it is not calibrated, 2 where no gate could be used. Concludes that exec answers a next state for:
`bankClose`. -/
def Obligations.BanksClose : Prop :=
  (∀ (s : State) (c b : Nat) (st : BankStep), c ≤ 511 → b ≤ 1 → (s.bank (2 * c + b)).step = some st →
    s.bankDue (2 * c + b) = true → s.isReady readyEngines = true → s.dev.pfail = false →
    (s.stream st.stream).atLimit = false → s.inService c = true → s.calibrated c = true →
    (s.finalDesc (2 * c + b)).gatesUsed ≠ 0 →
    ∃ t j, exec (.bankClose c b) s = .next t ∧ t.eng.queue = s.eng.queue ++ [j] ∧
      j.number = (s.stream st.stream).nextIssue ∧ j.channel = c ∧ j.bank = b ∧ j.desc = s.finalDesc (2 * c + b) ∧
      j.faultedOn = [] ∧ (t.stream st.stream).nextIssue = (s.stream st.stream).nextIssue + 1 ∧
      (t.bank (2 * c + b)).state = .closed ∧ t.sq = s.sq ∧ t.sv = s.sv) ∧
  (∀ (s : State) (c b : Nat) (st : BankStep), c ≤ 511 → b ≤ 1 → (s.bank (2 * c + b)).step = some st →
    s.bankDue (2 * c + b) = true → s.isReady readyEngines = true → s.dev.pfail = false →
    (s.stream st.stream).atLimit = false → s.inService c = false →
    ∃ t r, exec (.bankClose c b) s = .next t ∧ t.eng.queue = s.eng.queue ∧
      (t.stream st.stream).nextIssue = (s.stream st.stream).nextIssue + 1 ∧
      r ∈ (t.stream st.stream).committed ++
        ((t.stream st.stream).openBatch.toList ++ (t.stream st.stream).closed).flatMap (·.results) ∧
      r.number = (s.stream st.stream).nextIssue ∧ r.kind = .notMeasured ∧
      r.recs = [specialRec 2 (s.finalDesc (2 * c + b)).step (c * 2 ^ 23 + 1) 0
        ((s.finalDesc (2 * c + b)).flags st.twilight false false) (s.finalDesc (2 * c + b)).ambient] ∧
      (t.bank (2 * c + b)).state = (if (s.histChan c).holdPending then .held else .free) ∧ t.sq = s.sq ∧ t.sv = s.sv) ∧
  (∀ (s : State) (c b : Nat) (st : BankStep), c ≤ 511 → b ≤ 1 → (s.bank (2 * c + b)).step = some st →
    s.bankDue (2 * c + b) = true → s.isReady readyEngines = true → s.dev.pfail = false →
    (s.stream st.stream).atLimit = false → s.inService c = true → s.calibrated c = false →
    ∃ t r, exec (.bankClose c b) s = .next t ∧ t.eng.queue = s.eng.queue ∧
      (t.stream st.stream).nextIssue = (s.stream st.stream).nextIssue + 1 ∧
      r ∈ (t.stream st.stream).committed ++
        ((t.stream st.stream).openBatch.toList ++ (t.stream st.stream).closed).flatMap (·.results) ∧
      r.number = (s.stream st.stream).nextIssue ∧ r.kind = .notMeasured ∧
      r.recs = [specialRec 2 (s.finalDesc (2 * c + b)).step (c * 2 ^ 23 + 4) 0
        ((s.finalDesc (2 * c + b)).flags st.twilight false false) (s.finalDesc (2 * c + b)).ambient] ∧
      (t.bank (2 * c + b)).state = (if (s.histChan c).holdPending then .held else .free) ∧ t.sq = s.sq ∧ t.sv = s.sv) ∧
  (∀ (s : State) (c b : Nat) (st : BankStep), c ≤ 511 → b ≤ 1 → (s.bank (2 * c + b)).step = some st →
    s.bankDue (2 * c + b) = true → s.isReady readyEngines = true → s.dev.pfail = false →
    (s.stream st.stream).atLimit = false → s.inService c = true → s.calibrated c = true →
    (s.finalDesc (2 * c + b)).gatesUsed = 0 →
    ∃ t r, exec (.bankClose c b) s = .next t ∧ t.eng.queue = s.eng.queue ∧
      (t.stream st.stream).nextIssue = (s.stream st.stream).nextIssue + 1 ∧
      r ∈ (t.stream st.stream).committed ++
        ((t.stream st.stream).openBatch.toList ++ (t.stream st.stream).closed).flatMap (·.results) ∧
      r.number = (s.stream st.stream).nextIssue ∧ r.kind = .notMeasured ∧
      r.recs = [specialRec 2 (s.finalDesc (2 * c + b)).step (c * 2 ^ 23 + 2) 0
        ((s.finalDesc (2 * c + b)).flags st.twilight false false) (s.finalDesc (2 * c + b)).ambient] ∧
      (t.bank (2 * c + b)).state = (if (s.histChan c).holdPending then .held else .free) ∧ t.sq = s.sq ∧ t.sv = s.sv)

/-- ENGINE_JOB_START, ENGINE_JOB_DONE and ISSUE_LIMIT_COMMIT (R198, R202, R208, R409): an idle engine takes the oldest job
that it has not faulted on; at the end of the run it is idle again, its job is counted and the bank of the job is
released, or held where a hold waits; a stream at its ISSUE_LIMIT goes on after a commit, 32,768 numbers ahead. The result
of a job (R202 to R204, R208 to R210): it commits under the number of its job with the records of the kernel's run. The
blocks searched are the unerased ones whose sum, with that of the greater neighbour, reaches BLOCK_MIN; the echoes are
those of runs of at least ECHO_MIN, within the record's range, the strongest MAX_ECHOES of them (one for PEAK) in
ascending time of flight; an echo has the time, width, intensity and quality that R203 and R204 compute of its run; each
record carries its echo, the last one LAST, and a run without echo gives one NO_RETURN record. Concludes that exec answers
a next state for: `engineJobDone`, `engineJobStart`, `issueLimitCommit`. -/
def Obligations.EngineJobs : Prop :=
  (∀ (s : State) (e : Nat) (j : Job) (rest : List Job), e < 96 → (s.engine e).run = .idle →
    takeJob e s.eng.queue = some (j, rest) →
    ∃ t, exec (.engineJobStart e) s = .next t ∧ t.eng.queue = rest ∧ (t.engine e).run = .busy ∧ (t.engine e).job = some j ∧
      (∀ d, d ≠ e → t.engine d = s.engine d) ∧ ({ t with eng := s.eng } : State) = s) ∧
  (∀ (s : State) (e : Nat) (j : Job), e < 96 → (s.engine e).job = some j → s.overran e j = false →
    (s.histChan j.channel).holdPending = false →
    ∃ t, exec (.engineJobDone e) s = .next t ∧ (t.engine e).run = .idle ∧ (t.engine e).job = none ∧
      (t.engine e).jobs = (s.engine e).jobs.inc ∧ t.bank (2 * j.channel + j.bank) = Bank.reset ∧
      t.eng.queue = s.eng.queue ∧ t.sq = s.sq ∧ t.tx = s.tx ∧ t.sv = s.sv) ∧
  (∀ (s : State) (e : Nat) (j : Job), e < 96 → (s.engine e).job = some j → s.overran e j = false →
    (s.histChan j.channel).holdPending = true →
    ∃ t, exec (.engineJobDone e) s = .next t ∧ (t.engine e).run = .idle ∧ (t.engine e).job = none ∧
      (t.bank (2 * j.channel + j.bank)).state = .held ∧ (t.histChan j.channel).held = some j.bank ∧
      (t.histChan j.channel).holdPending = false) ∧
  (∀ (s : State) (n : Nat), n ≤ 63 → (s.stream n).atLimit = true → s.dev.pfail = false →
    s.dev.derived = true →
    ∃ t, exec (.issueLimitCommit n) s = .next t ∧ (t.stream n).issueLimit = some ((s.stream n).nextIssue + 32768) ∧
      (t.stream n).nextIssue = (s.stream n).nextIssue ∧ t.ret.commit.isSome = true ∧
      ({ t with eng := s.eng, ret := s.ret } : State) = s) ∧
  (∀ (s : State) (e : Nat) (j : Job), e < 96 → (s.engine e).job = some j → s.overran e j = false →
    ∃ t r, exec (.engineJobDone e) s = .next t ∧
      r ∈ (t.stream j.stream).committed ++
        ((t.stream j.stream).openBatch.toList ++ (t.stream j.stream).closed).flatMap (·.results) ∧
      r.number = j.number ∧ r.kind = .point ∧ r.step = j.desc.step ∧ r.time = j.step.time ∧
      r.recs = (runKernel j (s.bank (2 * j.channel + j.bank))).recs) ∧
  (∀ (sums : List (Option Nat)) (m b : Nat), b ∈ candidateBlocks sums m ↔
    b ≤ 255 ∧ ∃ n, sums.getD b none = some n ∧ 1 ≤ n ∧
      m ≤ n + max (sumAt sums ((b : Int) - 1)) (sumAt sums ((b : Int) + 1))) ∧
  (∀ (j : Job) (x : Bank), (runKernel j x).elements ≤ 256 + 64 * j.kernel.fineMax ∧
    (runKernel j x).echoes.length ≤ (if j.kernel.kernel = 0 then 1 else j.maxEchoes) ∧
    ((runKernel j x).echoes.map (·.tof)).Pairwise (· ≤ ·) ∧
    (∀ e ∈ (runKernel j x).echoes, 0 ≤ e.tof ∧ e.tof < 2 ^ 26 - 1 ∧ (e.precip = true → j.kernel.precipDrop ≠ 1) ∧
      ∃ (r : Run) (n k : Nat), e = echoOf j n k r ∧ j.kernel.echoMin ≤ r.total ∧ ∀ p ∈ r, 1 ≤ p.2)) ∧
  (∀ (j : Job) (n k a b : Nat) (r : Run) (T : Nat), r.head?.map (·.1) = some a → r.getLast?.map (·.1) = some b → a ≤ b →
    T = (r.map (·.2)).sum →
    (echoOf j n k r).total = T ∧ (echoOf j n k r).width = min 65535 ((b - a + 1) * (32 * 2 ^ j.desc.binK)) ∧
    (0 < j.desc.gatesUsed → (echoOf j n k r).intensity =
      min 65535 ((2 * (T * 4096) + j.desc.gatesUsed) / (2 * j.desc.gatesUsed))) ∧
    (echoOf j n k r).sat = decide (j.kernel.satrecEn = 1 ∧ j.kernel.satFrac * j.desc.gatesUsed ≤ 16 * T) ∧
    ((echoOf j n k r).sat = false → (echoOf j n k r).tof = (j.desc.winStart : Int) +
      (((r.map fun p => p.2 * (p.1 * (32 * 2 ^ j.desc.binK) + 32 * 2 ^ j.desc.binK / 2)).sum / T : Nat) : Int) - j.tofOffset) ∧
    ((echoOf j n k r).sat = true → (echoOf j n k r).tof =
      (j.desc.winStart : Int) + (r.lead * (32 * 2 ^ j.desc.binK) : Nat) - j.tofOffset + j.walk) ∧
    (echoOf j n k r).precip = decide (j.kernel.precipEn = 1 ∧ (echoOf j n k r).tof < j.kernel.precipMaxTof ∧
      j.kernel.precipMinWidth ≤ b - a + 1 ∧ r.peak ≤ j.kernel.precipMaxPeak)) ∧
  (∀ (j : Job) (n k : Nat) (a b : Nat) (r : Run) (T : Nat), r.head?.map (·.1) = some a → r.getLast?.map (·.1) = some b → a ≤ b →
    T = (r.map (·.2)).sum → 0 < k →
    (T * (64 * k) ≤ n * (b - a + 1) → (echoOf j n k r).quality = 0) ∧
    (n * (b - a + 1) < T * (64 * k) → (echoOf j n k r).quality ≤ 63 ∧
      (echoOf j n k r).quality ^ 2 * ((64 * k) ^ 2 * T) ≤ 64 * (T * (64 * k) - n * (b - a + 1)) ^ 2 ∧
      ((echoOf j n k r).quality < 63 →
        64 * (T * (64 * k) - n * (b - a + 1)) ^ 2 < ((echoOf j n k r).quality + 1) ^ 2 * ((64 * k) ^ 2 * T)))) ∧
  (∀ (j : Job) (x : Bank) (i f : Nat) (e : Echo),
    f = j.desc.flags j.step.twilight (decide (0 < (runKernel j x).recomputedBins)) (decide (0 < (runKernel j x).erasedBlocks)) →
    (runKernel j x).echoes[i]? = some e →
    (runKernel j x).recs[i]? = some (recOf
      (j.desc.step % 2 ^ 20 * 2 ^ 12 + j.channel * 8 + i * 2 + if i + 1 = (runKernel j x).echoes.length then 1 else 0)
      (e.tof.toNat * 64 + e.quality) (e.width * 2 ^ 16 + e.intensity)
      ((f ||| (e.sat.toNat * 4) ||| (e.precip.toNat * 256)) * 2 ^ 16 + j.desc.ambient))) ∧
  (∀ (j : Job) (x : Bank) (f : Nat),
    f = j.desc.flags j.step.twilight (decide (0 < (runKernel j x).recomputedBins)) (decide (0 < (runKernel j x).erasedBlocks)) →
    (runKernel j x).echoes = [] →
    (runKernel j x).recs = [recOf (j.desc.step % 2 ^ 20 * 2 ^ 12 + j.channel * 8 + 1) (0x3FFFFFF * 64) 0
      (f * 2 ^ 16 + j.desc.ambient)])

/-- ENGINE_FAULT and JOB_TIMEOUT (R205, R206): the engine is SUSPECT, the fault is counted, the job goes to the front of
the queue for another engine at its first fault, and ends as NOT_MEASURED at its second. NO_ENGINE_IN_SERVICE_TIMEOUT
(R206): a job that no engine in service may take for JOB_TIMEOUT, counted from its queueing, ends as NOT_MEASURED. The
model's readings (entry 33): an ECC error makes an idle engine SUSPECT too, and a run that ends past JOB_TIMEOUT is the
timeout (R205). ENGINE_SELFTEST_DUE and ENGINE_SELFTEST_DONE (R206, R207): a due self-test begins on an idle engine while
no job waits; an engine that passes is idle, one that fails is quarantined; that a failed self-test counts a fault is the
model's reading (entry 33). Concludes that exec answers a next state for: `engineFault`, `engineSelftestDone`,
`engineSelftestDue`, `jobTimeout`, `noEngineInServiceTimeout`. -/
def Obligations.EngineFaults : Prop :=
  (∀ (s : State) (e : Nat) (cause : EngineFault) (j : Job), e < 96 → (s.engine e).job = some j → j.faultedOn = [] →
    ∃ t j' , exec (.engineFault e cause) s = .next t ∧ (t.engine e).run = .suspect ∧ (t.engine e).job = none ∧
      (t.engine e).faults = (s.engine e).faults.inc ∧ t.eng.queue.head? = some j' ∧ j'.number = j.number ∧
      j'.faultedOn = [e] ∧ t.sq = s.sq ∧ t.tx = s.tx ∧ t.hist = s.hist) ∧
  (∀ (s : State) (e : Nat) (cause : EngineFault) (j : Job), e < 96 → (s.engine e).job = some j → j.faultedOn ≠ [] →
    ∃ t, exec (.engineFault e cause) s = .next t ∧ (t.engine e).run = .suspect ∧ (t.engine e).job = none ∧
      t.eng.queue.length = s.eng.queue.length ∧ t.eng.pool.notMeasuredEngine = s.eng.pool.notMeasuredEngine.inc) ∧
  (∀ (s : State) (e : Nat) (j : Job), e < 96 → (s.engine e).job = some j → j.faultedOn = [] →
    (s.engine e).since + j.kernel.jobTimeout * 1000 < s.clock →
    ∃ t j', exec (.jobTimeout e) s = .next t ∧ (t.engine e).run = .suspect ∧ (t.engine e).lastFault = .timeout ∧
      (t.engine e).job = none ∧ t.eng.queue.head? = some j' ∧ j'.number = j.number ∧ j'.faultedOn = [e]) ∧
  (∀ (s : State) (j : Job) (rest : List Job), s.lateJob s.eng.queue = some (j, rest) →
    ∃ t, exec .noEngineInServiceTimeout s = .next t ∧ t.eng.queue = rest ∧
      t.eng.pool.notMeasuredEngine = s.eng.pool.notMeasuredEngine.inc ∧ t.sq = s.sq ∧ t.tx = s.tx) ∧
  (∀ (s : State) (e : Nat), e < 96 → (s.engine e).job = none → (s.engine e).run = .idle →
    ∃ t, exec (.engineFault e .ecc) s = .next t ∧ (t.engine e).run = .suspect ∧ (t.engine e).lastFault = .ecc ∧
      (t.engine e).faults = (s.engine e).faults.inc ∧ t.sq = s.sq ∧ t.tx = s.tx ∧ t.hist = s.hist) ∧
  (∀ (s : State) (e : Nat) (j : Job), e < 96 → (s.engine e).job = some j → s.overran e j = true →
    exec (.engineJobDone e) s = exec (.jobTimeout e) s) ∧
  (∀ (s : State) (e : Nat), e < 96 → s.dev.fwRunning = true → (s.engine e).run = .idle → s.eng.queue = [] →
    s.testDue e = true →
    exec (.engineSelftestDue e) s =
      .next (s.setEngine e { s.engine e with run := .selftest, since := s.clock, wasQuarantined := false }).refreshEngines) ∧
  (∀ (s : State) (e : Nat) (pass : Bool), e < 96 →
    ((s.engine e).run = .suspect ∨ (s.dev.fwRunning = true ∧ (s.engine e).run = .selftest)) →
    ∃ t, exec (.engineSelftestDone e pass) s = .next t ∧ (t.engine e).run = (if pass then .idle else .quarantined) ∧
      (t.engine e).faults = (if pass then (s.engine e).faults else (s.engine e).faults.inc) ∧
      (∀ d, d ≠ e → t.engine d = s.engine d) ∧ t.sq = s.sq ∧ t.tx = s.tx ∧ t.rx = s.rx ∧ t.hist = s.hist)

/-- BATCH_TIMEOUT, RING_BATCH_WRITE and SMIURN_SEND (R208, R214, R215, R330, R342): an open batch that has waited
BATCH_TIMEOUT closes; the oldest closed batch of a ring that has room goes to the slot of PI, PI advances and is written
back, but writing waits once 8 batches are without a confirmation read, which is the model's reading of R332 (entry 32);
on Smiurn it leaves as one datagram to the stream's destination, with the device's tag, by the port of EGRESS, and is
delivered, but no frame overtakes one of its own queue or of a queue before it (R343), and in a warm reset batches wait
(R398). The ring's confirmations and interrupts (R327, R330 to R332): PI that has advanced raises the ring's vector once
IRQ_HOLDOFF has passed; a confirmation read covers every batch written since the last, while fewer than 256 reads are
outstanding (R323); its success delivers them, its failure leaves them unconfirmed for the next read (the model's reading,
entry 32) and is noted by AER (entry 14). While a power warning stands neither happens, since the final reads were the
last (R407). MSIX_UNMASK sends the message that waits (R327). Concludes that exec answers a next state for:
`batchConfirmed`, `batchTimeout`, `confirmationRead`, `msixUnmask`, `ringBatchWrite`, `ringInterrupt`, `smiurnSend`. -/
def Obligations.Rings : Prop :=
  (∀ (s : State) (n : Nat) (b : Batch), n ≤ 63 → (s.stream n).openBatch = some b →
    b.openedAt + (s.stream n).cfg.batchTimeout * 1000 ≤ s.clock →
    exec (.batchTimeout n) s = .next (s.setStream n { s.stream n with
      openBatch := none, closed := (s.stream n).closed ++ [{ b with timedOut := true }],
      batches := (s.stream n).batches.inc })) ∧
  (∀ (s : State) (n : Nat) (b : Batch) (rest : List Batch), n ≤ 63 → (s.stream n).closed = b :: rest →
    s.ringOpen n = true → countDiff (s.stream n).ring.pi (s.stream n).ring.ci < (s.stream n).ring.cfg.ringLen →
    (s.stream n).ring.unconfirmed.length < 64 → s.readDue (s.stream n).ring = false →
    ∃ t w, exec (.ringBatchWrite n) s = .next t ∧ w.results = b.results ∧ w.slot = (s.stream n).ring.pi.toNat ∧
      (t.stream n).closed = rest ∧ (t.stream n).ring.pi = (s.stream n).ring.pi + 1 ∧
      (t.stream n).ring.ci = (s.stream n).ring.ci ∧ (t.stream n).ring.unconfirmed = (s.stream n).ring.unconfirmed ++ [w] ∧
      t.sent = .dma (s.stream n).ring.cfg.piAddr (writeback (t.stream n).ring b.following) ::
        .ringWrite n ((s.stream n).slotAddr w.slot) w.slot (s.batchBytes n w) :: s.sent ∧
      (∀ m, m ≠ n → t.stream m = s.stream m) ∧ ({ t with eng := s.eng, sent := s.sent } : State) = s) ∧
  (∀ (s : State) (n : Nat) (b : Batch) (rest : List Batch), n ≤ 63 → (s.stream n).closed = b :: rest →
    s.ringOpen n = true → (s.stream n).ring.cfg.ringLen ≤ countDiff (s.stream n).ring.pi (s.stream n).ring.ci →
    exec (.ringBatchWrite n) s = .next s) ∧
  (∀ (s : State) (n : Nat), n ≤ 63 → 8 ≤ (s.stream n).ring.uncovered → exec (.ringBatchWrite n) s = .next s) ∧
  (∀ (s : State) (n : Nat) (b : Batch) (rest : List Batch), n ≤ 63 → (s.stream n).closed = b :: rest →
    (s.stream n).cfg.transport = 1 → (s.stream n).udp.dstMac ≠ 0 → s.net.net.ipAddr ≠ 0 →
    s.isReady (readyPort (s.egressPort (s.stream n).udp)) = true → s.dev.pfail = false →
    s.ownLeaves (s.egressPort (s.stream n).udp) (tagQueue (s.ownTag (s.stream n).udp.pcp)) = true → s.dev.warm = false →
    ∃ t, exec (.smiurnSend n) s = .next t ∧
      t.sent = .own (s.egressPort (s.stream n).udp)
        { tag := s.ownTag (s.stream n).udp.pcp
          body := .smiurn n (s.datagram (s.stream n).udp.dstMac (s.stream n).udp.dstIp (s.stream n).udp.srcPort
            (s.stream n).udp.dstPort (s.batchBytes n b)) } :: s.sent ∧
      rest <+: (t.stream n).closed ∧ (t.stream n).delivered = (b.results.map (·.number)).foldl max (s.stream n).delivered ∧
      t.sq = s.sq ∧ t.tx = s.tx ∧ t.sv = s.sv) ∧
  (∀ (s : State) (n : Nat) (q : Queued), n ≤ 63 → q ∈ (s.port (s.egressPort (s.stream n).udp)).queue →
    q.number ≤ tagQueue (s.ownTag (s.stream n).udp.pcp) → exec (.smiurnSend n) s = .next s) ∧
  (∀ (s : State) (n : Nat), n ≤ 63 → (s.dev.warm = true ∨ s.dev.pfail = true) → exec (.smiurnSend n) s = .next s) ∧
  (∀ (s : State) (n : Nat), n ≤ 63 → (s.stream n).ring.piAdvanced = true →
    (∀ l, (s.stream n).ring.lastIrq = some l → l + (s.stream n).ring.cfg.irqHoldoff * 1000 ≤ s.clock) →
    exec (.ringInterrupt n) s = .next ((s.modStream n fun x =>
      { x with ring := { x.ring with piAdvanced := false, lastIrq := some s.clock } }).vector (s.stream n).ring.cfg.vector)) ∧
  (∀ (s : State) (n : Nat) (b : Batch), n ≤ 63 → (s.stream n).ring.unconfirmed.getLast? = some b →
    0 < (s.stream n).ring.uncovered → s.dmaOk = true → (s.stream n).ring.reconPending = false → s.dev.pfail = false →
    (s.eng.streams.map fun x => x.2.ring.reading.length).sum < 256 →
    exec (.confirmationRead n) s = .next ((s.log (.hostRead ((s.stream n).slotAddr b.slot))).modStream n fun x =>
      { x with ring := { x.ring with reading := x.ring.reading ++ [x.ring.uncovered], uncovered := 0 } })) ∧
  (∀ (s : State) (n k : Nat) (rest : List Nat), n ≤ 63 → (s.stream n).ring.reading = k :: rest → s.dev.pfail = false →
    ∃ t, exec (.batchConfirmed n true) s = .next t ∧ (t.stream n).ring.reading = rest ∧
      (t.stream n).ring.unconfirmed = (s.stream n).ring.unconfirmed.drop k ∧
      (t.stream n).delivered = (((s.stream n).ring.unconfirmed.take k).flatMap fun b => b.results.map (·.number)).foldl max
        (s.stream n).delivered ∧ t.sq = s.sq ∧ t.tx = s.tx ∧ t.sv = s.sv ∧ t.sent = s.sent) ∧
  (∀ (s : State) (n : Nat) (ok : Bool), s.dev.pfail = true →
    exec (.confirmationRead n) s = .next s ∧ exec (.batchConfirmed n ok) s = .next s) ∧
  (∀ (s : State) (n : Nat), 256 ≤ (s.eng.streams.map fun x => x.2.ring.reading.length).sum →
    exec (.confirmationRead n) s = .next s) ∧
  (∀ (s : State) (n k : Nat), n ≤ 63 → (s.stream n).ring.reading = [k] → s.dev.pfail = false →
    exec (.batchConfirmed n false) s = .next (s.modStream n fun x =>
      { x with ring := { x.ring with reading := [], uncovered := x.ring.uncovered + k } }).readError) ∧
  (∀ (s : State) (v : Nat), s.endpointUp = true → v ≤ 63 → Tab.get false s.regs.pcie.msixPending v = true →
    s.regs.pcie.busMaster = true → s.regs.pcie.config.msixEnable = true → s.regs.pcie.config.functionMask = false →
    s.regs.pcie.config.d3hot = false →
    ∃ t, exec (.msixUnmask v) s = .next t ∧ t.sent = .interrupt v :: s.sent ∧
      Tab.get true t.regs.pcie.msixMask v = false ∧ Tab.get false t.regs.pcie.msixPending v = false ∧
      ({ t with sent := s.sent, regs := s.regs } : State) = s) ∧
  (∀ (s : State) (v : Nat), s.endpointUp = true → v ≤ 63 → Tab.get false s.regs.pcie.msixPending v = false →
    ∃ t, exec (.msixUnmask v) s = .next t ∧ t.sent = s.sent ∧ Tab.get true t.regs.pcie.msixMask v = false ∧
      ({ t with regs := s.regs } : State) = s) ∧
  (∀ (s : State) (v : Nat), s.endpointUp = false → exec (.msixUnmask v) s = .next s)

/-- RING_CONFIG, STREAM_UDP_SET and RING_RESUME (R328, R334, R337, R341). A ring without unconfirmed batches takes its new
place with PI and CI at 0 when BASE or RING_LEN changes, and keeps them otherwise; a LOST_RANGE record that waited may go.
While a power warning stands (R413) and in a warm reset (R335, R398) RING_RESUME reconciles nothing. HOST_LINK_RESET and
RING_RECONCILIATION (R324, R333): a host-link reset of any kind clears Bus Master Enable and leaves every enabled ring to
be reconciled, its outstanding reads lost; when Bus Master Enable is 1 again the rings are reconciled, and no ring enabled
then waits once every header read has succeeded; a power warning holds that off (R413), and a warm reset until it resumes
(R335, R398). The configuration space is cleared but for the state of AER, which a conventional reset alone clears (entry
14). That the link stays up at FLR and where Bus Master Enable alone is cleared (entry 32), and that MSI-X is enabled with
Bus Master (entry 14), is the model's choice. Concludes that exec answers a next state for: `hostLinkReset`, `ringConfig`,
`ringReconciliation`, `ringResume`, `streamUdpSet`. -/
def Obligations.RingCommandsAndLinkResets : Prop :=
  (∀ (s : State) (n : Nat) (cfg : RingCfg), s.admits (.ringConfig n cfg) = true → n ≤ 63 → ringRanges cfg = true →
    (s.stream n).cfg.transport ≠ 1 → (s.stream n).overlapsPi cfg = false → s.streamRunning n = false →
    (cfg.replay = 0 → (s.stream n).ring.unconfirmed = [] ∧ (s.stream n).ring.reconPending = false) →
    completes (.ringConfig n cfg) s ((s.modStream n fun x => x.configureRing cfg).releaseStream n) .ok []) ∧
  (∀ (x : Stream) (cfg : RingCfg), x.ring.unconfirmed = [] → x.ring.reconPending = false →
    (cfg.base ≠ x.ring.cfg.base ∨ cfg.ringLen ≠ x.ring.cfg.ringLen) →
    x.configureRing cfg = { x with ring := { x.ring with cfg := cfg, pi := 0, ci := 0, piAdvanced := false } }) ∧
  (∀ (x : Stream) (cfg : RingCfg), x.ring.unconfirmed = [] → x.ring.reconPending = false →
    cfg.base = x.ring.cfg.base → cfg.ringLen = x.ring.cfg.ringLen →
    x.configureRing cfg = { x with ring := { x.ring with cfg := cfg } }) ∧
  (∀ (s : State) (n : Nat) (cfg : UdpCfg), s.admits (.streamUdpSet n cfg) = true → n ≤ 63 → cfg.dstMac < 2 ^ 48 →
    cfg.dstIp < 2 ^ 32 → 1 ≤ cfg.dstPort → cfg.dstPort ≤ 65535 → 1 ≤ cfg.srcPort → cfg.srcPort ≤ 65535 → cfg.egress ≤ 3 →
    cfg.pcp ≤ 7 → s.streamBusy n = false →
    completes (.streamUdpSet n cfg) s ((s.setStream n { s.stream n with udp := cfg }).releaseStream n) .ok []) ∧
  (∀ (s : State) (reads : List (Option Bool)), s.admits (.ringResume reads) = true → s.pendingRings = [] →
    completes (.ringResume reads) s s .ok []) ∧
  (∀ (s : State) (reads : List (Option Bool)), s.admits (.ringResume reads) = true → s.pendingRings ≠ [] → s.dmaOk = true →
    s.dev.pfail = false → s.dev.warm = false →
    completes (.ringResume reads) s (s.reconcile reads) .ok []) ∧
  (∀ (s : State) (reads : List (Option Bool)) (n : Nat) (rest : List Nat), s.admits (.ringResume reads) = true →
    s.pendingRings = n :: rest → s.dmaOk = false → s.dev.pfail = false → s.dev.warm = false →
    completes (.ringResume reads) s ((s.modStream n fun x =>
      { x with ring := { x.ring with reconcileFail := x.ring.reconcileFail.inc } }).cause 6) .ok []) ∧
  (∀ (s : State) (reads : List (Option Bool)), s.admits (.ringResume reads) = true →
    (s.dev.pfail = true ∨ s.dev.warm = true) →
    completes (.ringResume reads) s s .ok []) ∧
  (∀ (s : State) (kind : LinkReset), ∃ t, exec (.hostLinkReset kind) s = .next t ∧ t.regs.pcie.busMaster = false ∧
    t.regs.pcie.linkReset = true ∧
    t.regs.pcie.linkUp = (s.regs.pcie.linkUp && (decide (kind = .flr) || decide (kind = .busMasterClear))) ∧
    (∀ n, n ≤ 63 → (s.stream n).ring.cfg.enable = 1 →
      (t.stream n).ring.reconPending = true ∧ (t.stream n).ring.reading = []) ∧
    t.regs.pcie.config = (if kind = .busMasterClear then s.regs.pcie.config else if kind = .perst then PcieConfig.reset
      else { PcieConfig.reset with
        aerUncorrectable := s.regs.pcie.config.aerUncorrectable
        aerUncorrectableMask := s.regs.pcie.config.aerUncorrectableMask
        aerSeverity := s.regs.pcie.config.aerSeverity
        aerCorrectable := s.regs.pcie.config.aerCorrectable
        aerCorrectableMask := s.regs.pcie.config.aerCorrectableMask
        headerLog := s.regs.pcie.config.headerLog }) ∧
    (∀ n, (s.stream n).ring.cfg.enable ≠ 1 → t.stream n = s.stream n) ∧ t.sq = s.sq ∧ t.tx = s.tx ∧ t.rx = s.rx ∧ t.sv = s.sv) ∧
  (∀ (s : State) (reads : List (Option Bool)), s.regs.pcie.linkReset = true → s.regs.pcie.linkUp = true →
    s.dev.fwRunning = true → s.dev.pfail = false → s.dev.warm = false →
    exec (.ringReconciliation reads) s = .next (s.enableMaster.suspendRings.reconcile reads)) ∧
  (∀ (s : State) (reads : List (Option Bool)), s.regs.pcie.linkReset = true → s.regs.pcie.linkUp = true →
    s.dev.pfail = false → s.dev.warm = true →
    exec (.ringReconciliation reads) s = .next s.enableMaster) ∧
  (∀ (s : State) (reads : List (Option Bool)), s.dev.pfail = true → exec (.ringReconciliation reads) s = .next s) ∧
  (∀ s : State, s.enableMaster.regs.pcie.busMaster = true ∧ s.enableMaster.regs.pcie.linkReset = false ∧
    ∀ n, s.enableMaster.stream n = s.stream n) ∧
  (∀ (s : State) (n : Nat), n ≤ 63 → (s.stream n).ring.cfg.enable = 1 → n ∈ s.suspendRings.pendingRings) ∧
  (∀ (s : State) (reads : List (Option Bool)) (ks : List (Nat × Nat)), s.survey s.pendingRings reads = .inr ks →
    (s.reconcile reads).pendingRings = [])

/-! ## Fabric and doorbells -/

/-- The fabric's commands (R218, R219, R229, R233): wiring a channel or a task input that no lock holds, the sticky lock,
and the clearing of counters. EVCH_FIRE (R228, R423): with the fabric ready (R393) and the endpoint out of reset (R439), a
write that names an unlocked channel publishes on it at generation 0, for nobody with SOURCE 0xFFF; on a locked channel
nothing is published, the rejection is counted and FIRE_REJECTED is set, which a write with bit 31 clears. Concludes that
exec answers a next state for: `evchConfig`, `evchCountersClear`, `evchFire`, `evchLock`, `evchSubscribe`,
`fireRejectedClear`. -/
def Obligations.Fabric : Prop :=
  (∀ (s : State) (c src : Nat), s.admits (.evchConfig c src) = true → c ≤ 255 → (isProducer src = true ∨ src = 0xFFF) →
    (s.evch c).sticky = false → s.keyLocked c = false →
    completes (.evchConfig c src) s (s.setEvch c { s.evch c with source := src }) .ok []) ∧
  (∀ (s : State) (u slot c en : Nat), s.admits (.evchSubscribe u slot c en) = true → isConsumer u = true → slot ≤ 1 → c ≤ 255 →
    en ≤ 1 → ((s.subs u).setSlot slot { channel := c, enable := decide (en = 1) }).doubled = false →
    s.rewiresLocked ((s.subs u).slot slot) { channel := c, enable := decide (en = 1) } = false →
    completes (.evchSubscribe u slot c en) s
      (s.setSubs u ((s.subs u).setSlot slot { channel := c, enable := decide (en = 1) })) .ok []) ∧
  (∀ (s : State) (c : Nat), s.admits (.evchLock c) = true → c ≤ 255 →
    completes (.evchLock c) s (s.setEvch c { s.evch c with sticky := true }) .ok []) ∧
  (∀ (s : State) (first count : Nat), s.admits (.evchCountersClear first count) = true → 1 ≤ count → first + count ≤ 256 →
    completes (.evchCountersClear first count) s (s.each (numbers first count) fun s c => s.setEvch c { s.evch c with
      loop := false, published := 0, collide := 0, loopCount := 0, fireReject := 0 }) .ok []) ∧
  (∀ (s : State) (v : Nat), s.endpointUp = true → v / 2 ^ 31 % 2 = 0 → s.isReady readyFabric = true →
    s.chLocked (v % 256) = false →
    (s.evch (v % 256)).holding = none →
    exec (.evchFire v) s = .next (s.setEvch (v % 256) { s.evch (v % 256) with
      holding := some { time := s.now, gen := 0 }, published := (s.evch (v % 256)).published.inc,
      nobody := (s.evch (v % 256)).nobody || decide ((s.evch (v % 256)).source = 0xFFF) })) ∧
  (∀ (s : State) (v : Nat) (e : Event), s.endpointUp = true → v / 2 ^ 31 % 2 = 0 → s.isReady readyFabric = true →
    s.chLocked (v % 256) = false →
    (s.evch (v % 256)).holding = some e →
    exec (.evchFire v) s = .next (s.setEvch (v % 256) { s.evch (v % 256) with
      collide := (s.evch (v % 256)).collide.inc })) ∧
  (∀ (s : State) (v : Nat), s.endpointUp = true → v / 2 ^ 31 % 2 = 0 → s.isReady readyFabric = true →
    s.chLocked (v % 256) = true →
    ∃ t, exec (.evchFire v) s = .next t ∧ t.fab.fireRejected = true ∧
      (t.evch (v % 256)).fireReject = (s.evch (v % 256)).fireReject.inc ∧
      (t.evch (v % 256)).holding = (s.evch (v % 256)).holding ∧ ({ t with fab := s.fab } : State) = s) ∧
  (∀ (s : State) (v : Nat), (s.endpointUp = false ∨ (v / 2 ^ 31 % 2 = 0 ∧ s.isReady readyFabric = false)) →
    exec (.evchFire v) s = .next s) ∧
  (∀ (s : State) (v : Nat), s.endpointUp = true → v / 2 ^ 31 % 2 = 1 →
    exec (.fireRejectedClear v) s = .next { s with fab := { s.fab with fireRejected := false } } ∧
    exec (.evchFire v) s = .next { s with fab := { s.fab with fireRejected := false } })

/-- Publication (R224, R226, R227): a producer's event fills the holding place of every channel of that source; where one
is filled it is discarded there and counted as a collision; and at generation 8 it is published nowhere, and sets LOOP and
counts on each of those channels. DELIVERY_WAVE (R223, R226, R231): every holding place is empty afterwards. The events
that reach a task input are taken by their carried time, then by channel: each becomes an entry of a schedule input (R43),
the first a jump to JUMP_TARGET or a COND of a running sequencer that has none yet, the first the contents of a host event
input that is not valid; every other one is discarded and counted as an overrun (R101, R226). No wave runs before FABRIC
is ready (R393). Concludes that exec answers a next state for: `deliveryWave`. -/
def Obligations.DeliveryWaves : Prop :=
  (∀ (s : State) (p gen c : Nat) (τ : Tq), s.isReady readyFabric = true → p ≠ 0xFFF → (s.evch c).source = p → 8 ≤ gen →
    (s.publish p τ gen).evch c = { s.evch c with loop := true, loopCount := (s.evch c).loopCount.inc }) ∧
  (∀ (s : State) (p gen c : Nat) (τ : Tq), s.isReady readyFabric = true → p ≠ 0xFFF → (s.evch c).source = p → gen < 8 →
    (s.evch c).holding = none →
    (s.publish p τ gen).evch c = { s.evch c with
      holding := some { time := τ, gen := gen }, published := (s.evch c).published.inc }) ∧
  (∀ (s : State) (p gen c : Nat) (τ : Tq) (e : Event), s.isReady readyFabric = true → p ≠ 0xFFF → (s.evch c).source = p →
    gen < 8 → (s.evch c).holding = some e →
    (s.publish p τ gen).evch c = { s.evch c with collide := (s.evch c).collide.inc }) ∧
  (∀ (s : State) (p gen c : Nat) (τ : Tq), (s.evch c).source ≠ p → (s.publish p τ gen).evch c = s.evch c) ∧
  (∀ (s : State) (p gen : Nat) (τ : Tq), ({ s.publish p τ gen with fab := s.fab } : State) = s) ∧
  (∀ s : State, s.isReady readyFabric = true → ∃ t, exec .deliveryWave s = .next t ∧ (∀ c, (t.evch c).holding = none) ∧
    (∀ n x, n ≤ 15 → (0x8A0 + n, x) ∈ s.fab.subs → x.arrivals s.wave ≠ [] → (t.hev n).valid = true) ∧
    t.rx = s.rx ∧ t.eng = s.eng ∧ t.sv = s.sv ∧ t.tb = s.tb) ∧
  (∀ (x : Subs) (w : Wave), (x.arrivals w).Perm (w.filter fun p =>
      (x.sub0.enable && decide (x.sub0.channel = p.1)) || (x.sub1.enable && decide (x.sub1.channel = p.1))) ∧
    (x.arrivals w).Pairwise (fun p q => p.2.time < q.2.time ∨ (p.2.time = q.2.time ∧ p.1 ≤ q.1))) ∧
  (∀ (s : State) (n : Nat) (x : Subs) (p : Nat × Event) (rest : Wave), s.isReady readyFabric = true → n ≤ 15 →
    (s.fab.subs.map (·.1)).Nodup → (0x8A0 + n, x) ∈ s.fab.subs → x.arrivals s.wave = p :: rest → (s.hev n).valid = false →
    ∃ t, exec .deliveryWave s = .next t ∧ t.hev n = { s.hev n with
      valid := true, gen := p.2.gen, channel := p.1, time := p.2.time
      overrun := Count.inc^[rest.length] (s.hev n).overrun }) ∧
  (∀ (s : State) (n : Nat) (x : Subs), s.isReady readyFabric = true → n ≤ 15 →
    (s.fab.subs.map (·.1)).Nodup → (0x8A0 + n, x) ∈ s.fab.subs → (s.hev n).valid = true →
    ∃ t, exec .deliveryWave s = .next t ∧ t.hev n = { s.hev n with
      overrun := Count.inc^[(x.arrivals s.wave).length] (s.hev n).overrun }) ∧
  (∀ (s : State) (n : Nat) (x : Subs) (p : Nat × Event) (rest : Wave), s.isReady readyFabric = true → n ≤ 7 →
    (s.fab.subs.map (·.1)).Nodup → (0x890 + 2 * n, x) ∈ s.fab.subs → x.arrivals s.wave = p :: rest →
    (s.seq n).running = true → (s.seq n).jump = none →
    ∃ t, exec .deliveryWave s = .next t ∧ (t.seq n).jump = some (s.seq n).cfg.jumpTarget ∧
      (t.seq n).counters.jumpOverrun = Count.inc^[rest.length] (s.seq n).counters.jumpOverrun ∧
      (t.seq n).fJumpOverrun = ((s.seq n).fJumpOverrun || !rest.isEmpty)) ∧
  (∀ (s : State) (n : Nat) (x : Subs) (p : Nat × Event) (rest : Wave), s.isReady readyFabric = true → n ≤ 7 →
    (s.fab.subs.map (·.1)).Nodup → (0x891 + 2 * n, x) ∈ s.fab.subs → x.arrivals s.wave = p :: rest →
    (s.seq n).running = true → (s.seq n).cond = false →
    ∃ t, exec .deliveryWave s = .next t ∧ (t.seq n).cond = true ∧
      (t.seq n).counters.condOverrun = Count.inc^[rest.length] (s.seq n).counters.condOverrun ∧
      (t.seq n).fCondOverrun = ((s.seq n).fCondOverrun || !rest.isEmpty)) ∧
  (∀ (s : State) (n j : Nat) (x : Subs) (p : Nat × Event) (rest : Wave), s.isReady readyFabric = true → n ≤ 7 →
    (s.fab.subs.map (·.1)).Nodup → (0x890 + 2 * n, x) ∈ s.fab.subs → x.arrivals s.wave = p :: rest →
    (s.seq n).running = true → (s.seq n).jump = some j →
    ∃ t, exec .deliveryWave s = .next t ∧ (t.seq n).jump = some j ∧ (t.seq n).fJumpOverrun = true ∧
      (t.seq n).counters.jumpOverrun = Count.inc^[rest.length + 1] (s.seq n).counters.jumpOverrun) ∧
  (∀ (s : State) (n : Nat) (x : Subs) (p : Nat × Event) (rest : Wave), s.isReady readyFabric = true → n ≤ 7 →
    (s.fab.subs.map (·.1)).Nodup → (0x891 + 2 * n, x) ∈ s.fab.subs → x.arrivals s.wave = p :: rest →
    (s.seq n).running = true → (s.seq n).cond = true →
    ∃ t, exec .deliveryWave s = .next t ∧ (t.seq n).cond = true ∧ (t.seq n).fCondOverrun = true ∧
      (t.seq n).counters.condOverrun = Count.inc^[rest.length + 1] (s.seq n).counters.condOverrun) ∧
  (∀ (s : State) (n : Nat), s.isReady readyFabric = true → n ≤ 7 → (s.seq n).running = false →
    ∃ t, exec .deliveryWave s = .next t ∧ t.seq n = s.seq n) ∧
  (∀ (s : State) (o : Nat) (x : Subs), s.isReady readyFabric = true → o ≤ 135 → (s.fab.subs.map (·.1)).Nodup →
    (0x800 + o, x) ∈ s.fab.subs →
    ∃ t, exec .deliveryWave s = .next t ∧ t.out o = (s.arriveAll ((x.arrivals s.wave).map fun p =>
      (o, { src := .fabric p.1, tTrig := p.2.time, gen := p.2.gen + 1, burst := .own, shot := none, came := s.clock }))).out o) ∧
  (∀ s : State, s.isReady readyFabric = false → exec .deliveryWave s = .next s)

/-- The stream doorbell advances WR by COUNT when that much space is free, else it is ignored and sets STREAM_PUSH_ERR,
which a 1 in bit 31 clears (R105, R428). The host writes nothing into an endpoint in reset (R439). A write of RING_CI that
does not pass PI moves CI; one that does is ignored, sets CI_ERR and is a cause, until a 1 in bit 31 of RING_STAT clears
it (R331, R421, R428); an endpoint in reset takes neither write (R439). Host event inputs (R427): a 1 in bit 31 of HEV
clears VALID; a write of HEV_OVERRUN clears the bits that are 1 in it, and 0xFFFF_FFFF the count (R10). The mailbox
doorbells (R10, R349, R350, R439): the frames that the host wrote stand in the slots, also where the CMD_PI that came with
them is ignored (entry 46, DEDUCED); CMD_PI and RSP_CI take a value within their distances and set MB_ERR otherwise; a 1
in bit 31 of MB_STATUS clears it. None reaches an endpoint in reset. Concludes that exec answers a next state for:
`ciErrClear`, `cmdPi`, `hevOverrunClear`, `hevValidClear`, `mbErrClear`, `ringCi`, `rspCi`, `seqPush`,
`streamPushErrClear`. -/
def Obligations.Doorbells : Prop :=
  (∀ (s : State) (n v : Nat), s.endpointUp = true → n ≤ 7 → v % 65536 ≤ (s.seq n).ringFree → 0 < (s.seq n).cfg.streamLen →
    exec (.seqPush n v) s =
      .next (s.setSeq n { s.seq n with wr := ((s.seq n).wr + v % 65536) % (s.seq n).cfg.streamLen })) ∧
  (∀ (s : State) (n v : Nat), s.endpointUp = true → n ≤ 7 → (s.seq n).ringFree < v % 65536 →
    exec (.seqPush n v) s = .next (s.setSeq n { s.seq n with pushErr := true })) ∧
  (∀ (s : State) (n v : Nat), s.endpointUp = true → n ≤ 7 → v / 2 ^ 31 % 2 = 1 →
    exec (.streamPushErrClear n v) s = .next (s.setSeq n { s.seq n with pushErr := false })) ∧
  (∀ (s : State) (n v : Nat), s.endpointUp = true → n ≤ 7 → v / 2 ^ 31 % 2 = 0 → exec (.streamPushErrClear n v) s = .next s) ∧
  (∀ (s : State) (n v : Nat), s.endpointUp = true → n ≤ 63 →
    countDiff (BitVec.ofNat 32 v) (s.stream n).ring.ci ≤ countDiff (s.stream n).ring.pi (s.stream n).ring.ci →
    exec (.ringCi n v) s = .next (s.modStream n fun x => { x with ring := { x.ring with ci := BitVec.ofNat 32 v } })) ∧
  (∀ (s : State) (n v : Nat), s.endpointUp = true → n ≤ 63 →
    countDiff (s.stream n).ring.pi (s.stream n).ring.ci < countDiff (BitVec.ofNat 32 v) (s.stream n).ring.ci →
    exec (.ringCi n v) s = .next ((s.modStream n fun x => { x with ring := { x.ring with ciErr := true } }).cause 7)) ∧
  (∀ (s : State) (n v : Nat), s.endpointUp = true → n ≤ 63 → v / 2 ^ 31 % 2 = 1 →
    exec (.ciErrClear n v) s = .next (s.modStream n fun x => { x with ring := { x.ring with ciErr := false } })) ∧
  (∀ (s : State) (n v : Nat), n ≤ 63 → v / 2 ^ 31 % 2 = 0 → exec (.ciErrClear n v) s = .next s) ∧
  (∀ (s : State) (n v : Nat), s.endpointUp = false →
    exec (.ringCi n v) s = .next s ∧ exec (.ciErrClear n v) s = .next s) ∧
  (∀ (s : State) (n v : Nat), s.endpointUp = true → n ≤ 15 → v / 2 ^ 31 % 2 = 1 →
    exec (.hevValidClear n v) s = .next (s.setHev n { s.hev n with valid := false })) ∧
  (∀ (s : State) (n v : Nat), n ≤ 15 → v / 2 ^ 31 % 2 = 0 → exec (.hevValidClear n v) s = .next s) ∧
  (∀ (s : State) (n v : Nat), s.endpointUp = true → n ≤ 15 →
    exec (.hevOverrunClear n v) s = .next (s.setHev n { s.hev n with
      overrun := (BitVec.ofNat 32 (s.hev n).overrun &&& ~~~BitVec.ofNat 32 v).toNat })) ∧
  (∀ (s : State) (n v : Nat), s.endpointUp = true → n ≤ 15 → v % 2 ^ 32 = 0xFFFFFFFF →
    exec (.hevOverrunClear n v) s = .next (s.setHev n { s.hev n with overrun := 0 })) ∧
  (∀ (s : State) (n v : Nat), s.endpointUp = false →
    exec (.hevValidClear n v) s = .next s ∧ exec (.hevOverrunClear n v) s = .next s) ∧
  (∀ (s : State) (m v : Nat) (fs : List Frame), m ≤ 31 → s.endpointUp = true →
    countDiff (s.box m).cmdPi (s.box m).rspCi ≤ countDiff (BitVec.ofNat 32 v) (s.box m).rspCi →
    countDiff (BitVec.ofNat 32 v) (s.box m).rspCi ≤ 8 →
    exec (.cmdPi m v fs) s = .next (s.setBox m { s.box m with
      cmdPi := BitVec.ofNat 32 v
      slots := writeSlots (s.box m).slots (s.box m).cmdPi.toNat (fs.take 8) })) ∧
  (∀ (s : State) (m v : Nat) (fs : List Frame), m ≤ 31 → s.endpointUp = true →
    (countDiff (BitVec.ofNat 32 v) (s.box m).rspCi < countDiff (s.box m).cmdPi (s.box m).rspCi ∨
      8 < countDiff (BitVec.ofNat 32 v) (s.box m).rspCi) →
    exec (.cmdPi m v fs) s = .next (s.setBox m { s.box m with
      err := true, slots := writeSlots (s.box m).slots (s.box m).cmdPi.toNat (fs.take 8) })) ∧
  (∀ (s : State) (m v : Nat), m ≤ 31 → s.endpointUp = true →
    countDiff (BitVec.ofNat 32 v) (s.box m).rspCi ≤ countDiff (s.box m).rspPi (s.box m).rspCi →
    exec (.rspCi m v) s = .next (s.setBox m { s.box m with rspCi := BitVec.ofNat 32 v })) ∧
  (∀ (s : State) (m v : Nat), m ≤ 31 → s.endpointUp = true →
    countDiff (s.box m).rspPi (s.box m).rspCi < countDiff (BitVec.ofNat 32 v) (s.box m).rspCi →
    exec (.rspCi m v) s = .next (s.setBox m { s.box m with err := true })) ∧
  (∀ (s : State) (m v : Nat), m ≤ 31 → s.endpointUp = true → v / 2 ^ 31 % 2 = 1 →
    exec (.mbErrClear m v) s = .next (s.setBox m { s.box m with err := false })) ∧
  (∀ (s : State) (m v : Nat), v / 2 ^ 31 % 2 = 0 → exec (.mbErrClear m v) s = .next s) ∧
  (∀ (s : State) (m v : Nat) (fs : List Frame), s.endpointUp = false →
    exec (.cmdPi m v fs) s = .next s ∧ exec (.rspCi m v) s = .next s ∧ exec (.mbErrClear m v) s = .next s)

/-! ## Time, PLL and network -/

/-- An accepted step of Polestar, by any command or event that makes one (R32, R33): Polestar moves by the step, a whole
number of nanoseconds, and the time epoch by one. TIME_SET and TIME_STEP_ACCEPT make such a step, the latter by minus the
reported mean offset, within the span of SEC[47:0] (R32, R264, R265); TIME_SET_SEC_HI is pending until the carry, or the
step is made at once in Ready-idle, where R32 allows it (R27). The model's readings (entry 22): a step of 0 counts in the
epoch too, a value that R32 does not allow at once stays pending, and TIME_STEP_ACCEPT keeps SEC[63:48]. Concludes that
exec answers a next state for: `timeSet`, `timeSetSecHi`, `timeStepAccept`. -/
def Obligations.PolestarSteps : Prop :=
  (∀ (s : State) (d : Int), d % 1024 = 0 → 0 ≤ s.now + d → s.now + d < 2 ^ 64 * tqPerSec →
    (s.polestarStep d).now = s.now + d ∧ (s.polestarStep d).tb.epoch = s.tb.epoch + 1 ∧ (s.polestarStep d).clock = s.clock) ∧
  (∀ (s : State) (time : FullTime), s.admits (.timeSet time) = true → time.ok = true → time.fns = 0 → s.anySlave = false →
    s.isReady readyTimebase = true → (s.now ≤ time.tq ∨ (s.anyRunning = false ∧ s.gateOpen = false)) →
    completes (.timeSet time) s (s.polestarStep (time.tq - s.now)) .ok [fU16 (s.tb.epoch + 1).toNat]) ∧
  (∀ (s : State), s.admits .timeStepAccept = true → s.net.stepRefused = true → s.tb.source ≠ .holdover →
    s.stepAllowed s.acceptStep = true →
    completes .timeStepAccept s { s.draw.polestarStep s.acceptStep with
      net := { (s.draw.polestarStep s.acceptStep).net with stepRefused := false, offsets := [], bigRun := 0, smallRun := 0 } } .ok
        [fS64 s.acceptStep, fU16 (s.tb.epoch + 1).toNat]) ∧
  (∀ (s : State) (o : Int) (os : List Int), s.net.offsets = o :: os →
    0 ≤ s.now % (2 ^ 48 * tqPerSec) + roundAway (-(roundDiv (os.foldl (· + ·) (0 + o)) (os.length + 1))) 1024 * 1024 →
    s.now % (2 ^ 48 * tqPerSec) + roundAway (-(roundDiv (os.foldl (· + ·) (0 + o)) (os.length + 1))) 1024 * 1024 <
      2 ^ 48 * tqPerSec →
    s.acceptStep = roundAway (-(roundDiv (os.foldl (· + ·) (0 + o)) (os.length + 1))) 1024 * 1024) ∧
  (∀ s : State, (s.now + s.acceptStep) / (2 ^ 48 * tqPerSec) = s.now / (2 ^ 48 * tqPerSec)) ∧
  (∀ (s : State) (v : Nat), s.admits (.timeSetSecHi v) = true → v ≤ 65535 → s.dev.run ≠ .readyIdle →
    completes (.timeSetSecHi v) s { s with tb := { s.tb with pendingSecHi := some (BitVec.ofNat 16 v) } } .ok []) ∧
  (∀ (s : State) (v : Nat), s.admits (.timeSetSecHi v) = true → v ≤ 65535 → s.dev.run = .readyIdle →
    (s.tb.sec.toNat / 2 ^ 48 ≤ v ∨ (s.anyRunning = false ∧ s.gateOpen = false)) →
    completes (.timeSetSecHi v) s (({ s with tb := { s.tb with pendingSecHi := none } } : State).polestarStep
      (((v : Int) - (s.tb.sec.toNat / 2 ^ 48 : Nat)) * 2 ^ 48 * tqPerSec)) .ok []) ∧
  (∀ (s : State) (v : Nat), s.admits (.timeSetSecHi v) = true → v < s.tb.sec.toNat / 2 ^ 48 →
    (s.anyRunning = true ∨ s.gateOpen = true) →
    completes (.timeSetSecHi v) s { s with tb := { s.tb with pendingSecHi := some (BitVec.ofNat 16 v) } } .ok [])

/-- Alarms (R35, R36, R374): ALARM_SET arms an alarm, ALARM_CANCEL disarms it; at its instance an armed alarm publishes
with the time of the instance at generation 0 and goes on to the next, a one-shot alarm disarms. That ALARM_SET keeps the
SKIPPED count is the model's reading (entry 23). Snapshots (R34, R422): SNAP_TRIGGER with bit 0 makes a capture pending;
the capture takes Polestar, its source and the epoch of that TCK cycle and clears PENDING. The SYNC pins (R130, R131):
SYNC_CONFIG waits for its whole PERIOD; SYNCO drives a pulse of 100 ns at each grid time in mode 1 and 20,480 tq after a
SYNCI stamp in mode 2; a grid time without a pulse counts as missing; SYNC_RESULT gives mean, least and greatest offset of
the last AVG pulses: the mean rounded to the nearest is the model's reading (entry 25), and the three values are free
where there was no pulse (entry 16). Concludes that exec answers a next state for: `alarmCancel`, `alarmInstance`,
`alarmSet`, `snapTrigger`, `snapshotCapture`, `syncConfig`, `syncMissing`, `syncResult`, `syncoPulse`. -/
def Obligations.TimePins : Prop :=
  (∀ (s : State) (n : Nat) (cfg : AlarmCfg), s.admits (.alarmSet n cfg) = true → n ≤ 15 → cfg.time.ok = true →
    cfg.time.onTq = true → (cfg.period = 0 ∨ (1024000 ≤ cfg.period ∧ cfg.period ≤ 1099511627775)) → cfg.enable ≤ 1 →
    cfg.epochHold ≤ 1 → (cfg.enable = 1 → s.now ≤ cfg.time.tq) →
    completes (.alarmSet n cfg) s (s.setAlarm n { s.alarm n with cfg := cfg, armed := decide (cfg.enable = 1), next := 0 })
      .ok []) ∧
  (∀ (s : State) (n : Nat), s.admits (.alarmCancel n) = true → n ≤ 15 →
    completes (.alarmCancel n) s (s.setAlarm n { s.alarm n with armed := false }) .ok []) ∧
  (∀ (s : State) (n : Nat), n ≤ 15 → (s.alarm n).armed = true → s.isReady readyTimebase = true →
    s.reached ((s.alarm n).cfg.time.tq + ((s.alarm n).next : Int) * (s.alarm n).cfg.period) = true →
    exec (.alarmInstance n) s = .next ((s.setAlarm n { s.alarm n with
      next := (s.alarm n).next + 1, armed := decide ((s.alarm n).cfg.period ≠ 0) }).publish (0x110 + n)
        ((s.alarm n).cfg.time.tq + ((s.alarm n).next : Int) * (s.alarm n).cfg.period) 0)) ∧
  (∀ (s : State) (n : Nat), n ≤ 15 →
    s.reached ((s.alarm n).cfg.time.tq + ((s.alarm n).next : Int) * (s.alarm n).cfg.period) = false →
    exec (.alarmInstance n) s = .next s) ∧
  (∀ (s : State) (v : Nat), s.endpointUp = true → v % 2 = 1 →
    exec (.snapTrigger v) s = .next { s with tb := { s.tb with snap := { s.tb.snap with pending := true } } }) ∧
  (∀ (s : State) (v : Nat), v % 2 = 0 → exec (.snapTrigger v) s = .next s) ∧
  (∀ s : State, s.tb.snap.pending = true → s.tb.ns ≤ 999999999 →
    ∃ t, exec .snapshotCapture s = .next t ∧ t.tb.snap.pending = false ∧ t.tb.snap.sec = s.tb.sec ∧
      t.tb.snap.ns.toNat = s.tb.ns ∧ t.tb.snap.epoch = s.tb.epoch ∧ t.tb.snap.source = s.tb.source.code ∧
      ({ t with tb := { t.tb with snap := s.tb.snap } } : State) = s) ∧
  (∀ (s : State) (cfg : SyncCfg), s.admits (.syncConfig cfg) = true → s.tb.sync.pending = none → cfg.mode ≤ 2 →
    cfg.g0.ok = true → cfg.g0.onTq = true → 1 ≤ cfg.period → cfg.period ≤ 1000 → cfg.cableDelay ≤ 4294967295 → 1 ≤ cfg.avg →
    cfg.avg ≤ 256 →
    completes (.syncConfig cfg) s { s with tb := { s.tb with sync := { s.tb.sync with
      pending := some (cfg, syncGrid cfg (syncNext cfg s.now)) } } } .ok []) ∧
  (∀ (s : State) (o : Int) (os : List Int), s.admits .syncResult = true → s.tb.sync.pending = none →
    s.tb.sync.offsets.take s.tb.sync.cfg.avg = o :: os →
    completes .syncResult s s .ok [fS32 (roundDiv (os.foldl (· + ·) o) (os.length + 1)), fS32 (os.foldl min o),
      fS32 (os.foldl max o), fU32 s.tb.sync.received, fU32 s.tb.sync.missing]) ∧
  (∀ (s : State), s.admits .syncResult = true → s.tb.sync.pending = none →
    s.tb.sync.offsets.take s.tb.sync.cfg.avg = [] →
    ∃ a b c n, completes .syncResult s { s with fresh := n } .ok
      [fS32 a, fS32 b, fS32 c, fU32 s.tb.sync.received, fU32 s.tb.sync.missing]) ∧
  (∀ s : State, s.tb.sync.pending = none → s.tb.sync.cfg.mode = 1 →
    s.tb.sync.repeats.head?.any s.reached = false →
    s.reached (syncGrid s.tb.sync.cfg s.tb.sync.nextPulse) = true →
    ∃ t, exec .syncoPulse s = .next t ∧ t.sent = .synco (syncGrid s.tb.sync.cfg s.tb.sync.nextPulse)
        (syncGrid s.tb.sync.cfg s.tb.sync.nextPulse + 102400) :: s.sent ∧
      t.tb.sync.ball = some (syncGrid s.tb.sync.cfg s.tb.sync.nextPulse,
        syncGrid s.tb.sync.cfg s.tb.sync.nextPulse + 102400) ∧
      t.tb.sync.nextPulse = s.tb.sync.nextPulse + 1 ∧ ({ t with tb := s.tb, sent := s.sent } : State) = s) ∧
  (∀ (s : State) (r : Tq) (rs : List Tq), s.tb.sync.pending = none → s.tb.sync.repeats = r :: rs →
    s.reached r = true →
    ∃ t, exec .syncoPulse s = .next t ∧ t.sent = .synco r (r + 102400) :: s.sent ∧ t.tb.sync.repeats = rs ∧
      t.tb.sync.ball = some (r, r + 102400) ∧
      ({ t with tb := s.tb, sent := s.sent } : State) = s) ∧
  (∀ (s : State), s.tb.sync.pending = none → s.tb.sync.cfg.mode ≠ 1 →
    s.reached (syncGrid s.tb.sync.cfg s.tb.sync.nextCheck + 10240000) = true →
    ∃ t, exec .syncMissing s = .next t ∧ t.tb.sync.nextCheck = s.tb.sync.nextCheck + 1 ∧
      t.tb.sync.missing = (if s.tb.sync.stamps.any fun t =>
          decide ((t - syncGrid s.tb.sync.cfg s.tb.sync.nextCheck).natAbs ≤ 10240000)
        then s.tb.sync.missing else s.tb.sync.missing.inc) ∧ ({ t with tb := s.tb } : State) = s)

/-- The PLL's commands (R235, R236, R240, R241, R247, R248, R253): a change of plan that a valid reference can serve is
performed at once while no sequencer runs and its answer waits for the lock; a setting that changes no frequency acts at
once. PLL_SYNC_ARM, PLL_TEST_MODE, PLL_COUNTERS_CLEAR, CKO_CONFIG and PLL_HOP_STORE (R240, R246 to R248, R252, R253).
PLL_TEST_MODE while a reset is armed is REFUSED (entry 27, DESIGN CHOICE), and test mode stops firing uncounted (entry
27); an output enabled runs on the grid of the last alignment. FORCE with a stored setting, and which fields a legacy
output takes, are the model's readings (entry 34). Concludes that exec answers a next state for: `ckoConfig`, `pllConfig`,
`pllCountersClear`, `pllHop`, `pllHopStore`, `pllRecal`, `pllRefConfig`, `pllSyncArm`, `pllTestMode`. -/
def Obligations.PllCommands : Prop :=
  (∀ (s : State) (cfg : PllCfg), s.admits (.pllConfig cfg) = true → pllRanges cfg = true → cfg.dt = s.pll.cfg.dt →
    completes (.pllConfig cfg) s { s with pll := { s.pll with cfg := cfg } } .ok []) ∧
  (∀ (s : State) (cfg : PllCfg), s.admitsWait (.pllConfig cfg) = true → pllRanges cfg = true → cfg.dt ≠ s.pll.cfg.dt →
    s.dev.run ≠ .boot → s.dev.run ≠ .selfTest → s.pll.anyUsable = true → s.pll.relocking = false →
    s.pll.forced = none → s.ranging = false → s.anyRunning = false →
    waitsFor (.pllConfig cfg) s
      (({ s with pll := { s.pll with cfg := { cfg with dt := s.pll.cfg.dt } } } : State).performPll (.dt cfg.dt)) .pllLock) ∧
  (∀ (s : State) (cfg : PllRefCfg), s.admits (.pllRefConfig cfg) = true → refRanges cfg = true → s.refChanges cfg = false →
    completes (.pllRefConfig cfg) s (({ s with pll := { s.pll with refCfg := cfg } } : State).refreshRefs).checkRef .ok []) ∧
  (∀ (s : State) (cfg : PllRefCfg), s.admitsWait (.pllRefConfig cfg) = true → refRanges cfg = true → s.refChanges cfg = true →
    s.dev.run ≠ .boot → s.dev.run ≠ .selfTest →
    (s.refFields cfg).planRef (.ref s.pll.refInUse (refFreq cfg s.pll.refInUse) (refDiv cfg s.pll.refInUse)) = true →
    s.pll.relocking = false → s.pll.forced = none → s.ranging = false → s.anyRunning = false →
    waitsFor (.pllRefConfig cfg) s ((s.refFields cfg).refreshRefs.performPll
      (.ref s.pll.refInUse (refFreq cfg s.pll.refInUse) (refDiv cfg s.pll.refInUse))) .pllLock) ∧
  (∀ s : State, s.admitsWait .pllRecal = true → s.dev.run ≠ .boot → s.dev.run ≠ .selfTest → s.pll.anyUsable = true →
    s.pll.relocking = false → s.pll.forced = none → s.ranging = false → s.anyRunning = false →
    waitsFor .pllRecal s (s.performPll .recal) .pllLock) ∧
  (∀ s : State, s.admitsWait .pllRecal = true → s.pll.anyUsable = true → s.pll.relocking = false → s.pll.forced = none →
    s.ranging = true → s.pll.cfg.force ≠ 0 → s.anyRunning = true →
    ∃ u, waitsFor .pllRecal s u .pllForced ∧ u.pll = { s.pll with forced := some .recal } ∧
      (∀ n, (s.seq n).running = true → n ∈ s.runningSeqs →
        (u.seq n).stops = (s.seq n).stops ++ [{ mode := 1, reason := Reasons.forced }])) ∧
  (∀ (s : State) (e : Nat) (h : HopEntry), s.admitsWait (.pllHop e) = true → e ≤ 15 → s.hop e = some h → s.dev.run ≠ .boot →
    s.dev.run ≠ .selfTest → s.planRef (.hop e) = true → s.pll.relocking = false → s.pll.forced = none → s.ranging = false →
    s.anyRunning = false →
    waitsFor (.pllHop e) s (s.performPll (.hop e)) .pllLock) ∧
  (∀ (s : State) (r : PllRequest), (s.performPll r).pll.locked = false ∧
    (s.dev.fwRunning = true → (s.performPll r).pll.anyUsable = true → (s.performPll r).pll.reacquiring = true) ∧
    (s.performPll r).pll.forced = none ∧ (s.performPll r).pll.hopsDone = s.pll.hopsDone.inc) ∧
  (∀ (s : State), s.admits (.pllSyncArm 1) = true → s.tb.sync.pending = none → s.tb.sync.cfg.mode ≠ 1 →
    (s.pll.run = .startup ∨ s.pll.run = .test ∨ s.pll.run = .recovery) →
    completes (.pllSyncArm 1) s { s with pll := { s.pll with armed := true } } .ok []) ∧
  (∀ (s : State), s.admits (.pllSyncArm 0) = true → s.tb.sync.pending = none →
    completes (.pllSyncArm 0) s { s with pll := ({ s.pll with armed := false } : Pll).settle } .ok []) ∧
  (∀ s : State, s.admits (.pllTestMode 1) = true → (s.dev.run = .readyIdle ∨ s.dev.run = .nadir) → s.pll.armed = false →
    completes (.pllTestMode 1) s ((({ s with pll := { s.pll with run := .test } } : State).stopFiring false).refreshFs)
      .ok []) ∧
  (∀ s : State, s.admits (.pllTestMode 0) = true → (s.dev.run = .readyIdle ∨ s.dev.run = .nadir) → s.pll.run = .test →
    s.pll.armed = false →
    completes (.pllTestMode 0) s ({ s with pll := ({ s.pll with run := .recovery } : Pll).settle } : State).refreshFs .ok []) ∧
  (∀ (s : State) (e : Nat), s.admits (.pllTestMode e) = true → e ≤ 1 → s.pll.armed = true →
    completes (.pllTestMode e) s s .refused []) ∧
  (∀ s : State, s.admits .pllCountersClear = true →
    completes .pllCountersClear s { s with pll := { s.pll with
      unlocks := 0, refSwitches := 0, hopsDone := 0, hopSearched := 0, searches := 0 } } .ok []) ∧
  (∀ (s : State) (k : Nat) (cfg : CkoCfg), s.admits (.ckoConfig k cfg) = true → k ≤ 11 → ckoRanges cfg = true →
    tooFast s.pll.cfg.dt cfg = false → ((s.cko k).cfg.enable ≠ 1 ∨ ckoDiffers (s.cko k).cfg (takenFields cfg (s.cko k).cfg) = false) →
    completes (.ckoConfig k cfg) s (s.setCko k
      ((s.cko k).configure (takenFields cfg (s.cko k).cfg) s.pll.ckoOrigin s.pll.cfg.dt
        (s.pll.locked && s.pll.resetting.isNone) s.now)) .ok []) ∧
  (∀ (c : Cko) (cfg : CkoCfg) (o : Tq) (dt : Nat) (locked : Bool) (now : Tq), (c.configure cfg o dt locked now).cfg = cfg ∧
    (c.configure cfg o dt locked now).gated = !(decide (cfg.enable = 1) && locked) ∧
    (c.configure cfg o dt locked now).origin =
      if decide (cfg.enable = 1) && locked && c.gated then o else c.origin) ∧
  (∀ (s : State) (e : Nat), s.admits (.pllHopStore e true) = true → e ≤ 15 → s.pll.locked = true →
    s.isReady readyRetention = true →
    ∃ t, exec (.pllHopStore e true) s = .next t ∧ t.hop e = some s.pll.hopEntry ∧ (∀ k, k ≠ e → t.hop k = s.hop k) ∧
      answered (.pllHopStore e true) s t .ok [] ∧ t.sq = s.sq ∧ t.tx = s.tx ∧ t.sv = s.sv)

/-- References and lock (R38, R237, R242, R245, R246, R250): a measurement window makes each reference valid or not by
REF_TOL; a gap makes it invalid; after REVERT_HOLD the loop returns to REFA; a loss of lock is counted, gates every clock
output and publishes; the lock of an attempt under way makes the PLL ready. A switch of a locked loop moves Polestar by at
most 50 ps (1,024 tq are 1 ns), a free value (entry 34), which is slewed away. Concludes that exec answers a next state
for: `pllLock`, `pllUnlock`, `refEdgeGap`, `refMeasurementWindow`, `revertHoldExpiry`. -/
def Obligations.PllEvents : Prop :=
  (∀ (s : State) (a b : Nat), ∃ t, exec (.refMeasurementWindow a b) s = .next t ∧
    t.pll.refA.valid = decide (((a : Int) - s.pll.refCfg.refaFreq).natAbs * 1000000 ≤ s.pll.refCfg.refaFreq * s.pll.refCfg.refTol) ∧
    t.pll.refB.valid = decide (((b : Int) - s.pll.refCfg.refbFreq).natAbs * 1000000 ≤ s.pll.refCfg.refbFreq * s.pll.refCfg.refTol) ∧
    t.pll.locked = s.pll.locked ∧ ({ t with pll := s.pll, tb := s.tb, fresh := s.fresh } : State) = s) ∧
  (∀ s : State, ∃ t, exec (.refEdgeGap 0) s = .next t ∧ t.pll.refA.valid = false ∧
    ({ t with pll := s.pll, tb := s.tb, fresh := s.fresh } : State) = s) ∧
  (∀ s : State, ∃ t, exec (.refEdgeGap 1) s = .next t ∧ t.pll.refB.valid = false ∧
    ({ t with pll := s.pll, tb := s.tb, fresh := s.fresh } : State) = s) ∧
  (∀ s : State, s.pll.refCfg.refMode = 2 → s.pll.refInUse = 1 → s.pll.refA.valid = true →
    s.pll.refA.validSince + s.pll.refCfg.revertHold * 1000000000 ≤ s.clock → s.pll.locked = true →
    ∃ t, exec .revertHoldExpiry s = .next t ∧
      t.pll = { s.pll with refInUse := 0, refSwitches := s.pll.refSwitches.inc } ∧
      (∃ m : Int, m.natAbs * 1000 ≤ 50 * 1024 ∧ t.tb = (s.correctBy m).tb) ∧
      ({ t with pll := s.pll, tb := s.tb, fresh := s.fresh } : State) = s) ∧
  (∀ (s : State) (cause : UnlockCause), s.pll.locked = true → (cause = .noReference → s.pll.anyUsable = false) →
    ∃ t, exec (.pllUnlock cause) s = .next t ∧ t.pll.locked = false ∧ t.pll.unlocks = s.pll.unlocks.inc ∧
      t.isReady readyPll = false ∧ t.tb.source = .holdover ∧ (∀ k, k ≤ 11 → (t.cko k).gated = true) ∧
      (∀ c, s.isReady readyFabric = true → (s.evch c).source = 0x260 → (s.evch c).holding = none →
        (t.evch c).holding = some { time := s.now, gen := 0 }) ∧
      t.sv.run = s.sv.run ∧ t.sq.mem = s.sq.mem) ∧
  (∀ (s : State) (r : Int), s.pll.locked = false → s.pll.reacquiring = true → r.natAbs ≤ 4 →
    ∃ t, exec (.pllLock r) s = .next t ∧ t.pll.locked = true ∧ t.isReady readyPll = true ∧ t.pll.residual = r ∧
      (∀ c, s.isReady readyFabric = true → (s.evch c).source = 0x261 → (s.evch c).holding = none →
        (t.evch c).holding = some { time := s.now, gen := 0 }) ∧
      t.tb.source = (if s.net.control then .locked else .free))

/-- The network's commands (R255, R256, R267, R339): each sets its table; a new profile, domain or role starts PTP anew,
the other fields of PTP_CONFIG wait for the next servo update; the settings of a port take effect with the next message
that is stamped on it, when a port whose PTP_EN changes forgets what it has heard and takes the state of its role; FLUSH
empties the address table. What starting anew leaves (class 248 among it) is entries 10 and 35, the state that a port
takes with PTP_EN is entry 35. Concludes that exec answers a next state for: `bridgeConfig`, `netConfig`, `ptpConfig`,
`ptpPortConfig`. -/
def Obligations.NetworkCommands : Prop :=
  (∀ (s : State) (cfg : PtpCfg), s.admits (.ptpConfig cfg) = true → ptpRanges cfg = true → ptpMoves s.net.ptp cfg = false →
    completes (.ptpConfig cfg) s { s with net := { s.net with newPtp := some cfg } } .ok []) ∧
  (∀ (s : State) (o : Int) (cfg : PtpCfg), s.net.newPtp = some cfg →
    s.servo o = (({ s with net := { s.net with ptp := cfg, newPtp := none } } : State).selectBest).servo o) ∧
  (∀ (s : State) (cfg : PtpCfg), s.admits (.ptpConfig cfg) = true → ptpRanges cfg = true → ptpMoves s.net.ptp cfg = true →
    s.anyRunning = false →
    ∃ u, completes (.ptpConfig cfg) s u .ok [] ∧ u.net.newPtp = some cfg ∧
      u.net.ptp = { s.net.ptp with profile := cfg.profile, domain := cfg.domain, role := cfg.role } ∧ u.net.master = none ∧ u.net.control = false ∧
      u.net.offsets = [] ∧ u.net.clockClass = 248 ∧ (∀ n, n ≤ 2 → (u.port n).run = rolePort cfg.role (s.port n).cfg.ptpEn)) ∧
  (∀ (s : State) (n : Nat) (cfg : PtpPortCfg), s.admits (.ptpPortConfig n cfg) = true → n ≤ 2 → ptpPortRanges cfg = true →
    s.resetting 2 n = false →
    completes (.ptpPortConfig n cfg) s (s.setPort n { s.port n with newCfg := some cfg }) .ok []) ∧
  (∀ (s : State) (n : Nat), (s.port n).newCfg = none → s.stampOn n = s) ∧
  (∀ (s : State) (n : Nat) (cfg : PtpPortCfg), (s.port n).newCfg = some cfg → cfg.ptpEn = (s.port n).cfg.ptpEn →
    s.stampOn n = s.setPort n { s.port n with cfg := cfg, newCfg := none }) ∧
  (∀ (s : State) (n : Nat) (cfg : PtpPortCfg), n ≤ 2 → (s.port n).newCfg = some cfg → cfg.ptpEn ≠ (s.port n).cfg.ptpEn →
    ((s.stampOn n).port n).cfg = cfg ∧ ((s.stampOn n).port n).newCfg = none ∧ ((s.stampOn n).port n).best = none ∧
      (cfg.ptpEn = 0 → ((s.stampOn n).port n).run = .disabled)) ∧
  (∀ (s : State) (n : Nat) (cfg : PtpPortCfg), n ≤ 2 → (s.port n).newCfg = some cfg → cfg.ptpEn ≠ (s.port n).cfg.ptpEn →
    (∀ k, k ≤ 2 → k ≠ n → (s.port k).best = none) →
    ((s.stampOn n).port n).run = rolePort s.net.ptp.role cfg.ptpEn ∧
      ((s.port n).run = .slave → (s.stampOn n).net.master = none ∧ (s.stampOn n).net.control = false)) ∧
  (∀ (s : State) (cfg : BridgeCfg) (flush : Nat), s.admits (.bridgeConfig cfg flush) = true → 10 ≤ cfg.ageTime →
    cfg.ageTime ≤ 3600 → cfg.learn ≤ 7 → flush ≤ 1 →
    completes (.bridgeConfig cfg flush) s { s with net := { s.net with
      bridge := cfg, macs := if flush = 1 then [] else s.net.macs } } .ok []) ∧
  (∀ (s : State) (cfg : NetCfg), s.admits (.netConfig cfg) = true → netRanges cfg = true →
    (cfg.mtu ≠ s.net.net.mtu → s.mtuBreaks cfg.mtu = false) →
    (cfg.ipAddr ≠ s.net.net.ipAddr ∨ cfg.vlanId ≠ s.net.net.vlanId → s.smiurnOn = false) →
    completes (.netConfig cfg) s { s with net := { s.net with net := cfg } } .ok [])

/-- PTP frames (R254, R257 to R263): what a completed message of the device's domain and transport does on a port where
PTP runs. The first Announce selects its master and the port becomes its slave; one that is worse than the port's best,
from another sender, changes nothing; an exchange, or in P2P and gPTP a Sync, gives a slave's servo its offset; one at or
above STEP_THRESH is discarded and counted; in P2P and gPTP a link delay is taken and a request is answered, in E2E a
master answers a Delay_Req; a grandmaster's port that hears a better clock is passive. Formulas and ranking are entry 35.
PTP's timers (R256, R258, R259, R261, R263, R343): what a port has heard is forgotten when its Announce messages cease; a
slave port then listens and the servo loses control, and where another port has heard a clock that port becomes the slave;
without PPS for 2 s the grandmaster's class falls to 7; a due message leaves behind the frames that go before it, with the
tag of the device: a Sync with the time of its passage, in gPTP with the master's, once heard (entry 35, PRESUMED), a
slave's Delay_Req at any time (entry 35, DESIGN CHOICE). The bridge (R25, R266 to R268, R343): a frame over 9,018 bytes is
discarded and counted; a frame that is not the device's own joins its egress queue on the port its address was learned on,
else on every other port with block lock; a full queue discards it and counts; a port sends from its queues in strict
priority, one frame a TCK cycle (the model's choice, entry 35); an address ages out after AGE_TIME; with a bridge fault no
port is ready (R405); a Sync that is forwarded carries its residence time and the ASYM of its way in (R257, R258, entry
35); a change of block lock moves READY.PORT. Concludes that exec answers a next state for: `announceTimeout`,
`bridgeFault`, `bridgeFrameReceived`, `macEntryAgeing`, `phyLinkChange`, `ppsTimeout`, `ptpFrameReceived`,
`ptpMessageTransmit`. -/
def Obligations.NetworkEvents : Prop :=
  (∀ (s : State) (n : Nat) (udp : Bool) (a : AnnounceMsg), n ≤ 2 → s.ptpOn n = true →
    s.speaks ⟨s.net.ptp.domain, udp, none, .announce a⟩ = true → s.net.ptp.role = 0 → a.steps < 255 →
    (∀ k, k ≤ 2 → (s.port k).best = none) → s.net.master ≠ some a.master →
    ∃ t, exec (.ptpFrameReceived n ⟨s.net.ptp.domain, udp, none, .announce a⟩) s = .next t ∧ t.net.master = some a.master ∧
      (t.port n).run = .slave ∧ (t.port n).best = some a ∧ (t.port n).lastAnnounce = s.clock ∧
      (∀ k, k ≤ 2 → k ≠ n → (s.port k).cfg.ptpEn = 1 →
        (t.port k).run = (if s.net.ptp.profile = 2 then .master else .listening)) ∧
      t.net.masterChanges = s.net.masterChanges.inc ∧ t.net.offsets = [] ∧ ({ t with net := s.net } : State) = s) ∧
  (∀ (s : State) (n : Nat) (udp : Bool) (a b : AnnounceMsg), n ≤ 2 → (s.port n).best = some b → b.sender ≠ a.sender →
    lexLt (announceRank a n) (announceRank b n) = false →
    exec (.ptpFrameReceived n ⟨s.net.ptp.domain, udp, none, .announce a⟩) s = .next s) ∧
  (∀ (s : State) (n : Nat) (udp : Bool) (t1 t2 t3 t4 c1 c2 o d : Int), n ≤ 2 → s.ptpOn n = true → s.net.ptp.profile = 0 →
    (s.port n).newCfg = none → (s.port n).run = .slave → d = (s.port n).pathDelay t1 t2 t3 t4 (c1 + c2) →
    o = (s.port n).offset t1 t2 c1 d → s.net.newPtp = none → o.natAbs < s.net.ptp.stepThresh → s.net.stepRefused = false →
    s.tb.source ≠ .holdover →
    ∃ t, exec (.ptpFrameReceived n ⟨s.net.ptp.domain, udp, none, .exchange t1 t2 t3 t4 c1 c2⟩) s = .next t ∧
      (t.port n).meanDelay = d ∧ t.net.control = true ∧ t.tb.source = .locked ∧ t.net.offsets.head? = some o ∧
      t.net.bigRun = 0 ∧ t.now = s.now ∧ t.tb.epoch = s.tb.epoch) ∧
  (∀ (s : State) (n : Nat) (udp : Bool) (t1 t2 t3 t4 c1 c2 o d : Int), n ≤ 2 → s.ptpOn n = true → s.net.ptp.profile = 0 →
    (s.port n).newCfg = none → (s.port n).run = .slave → d = (s.port n).pathDelay t1 t2 t3 t4 (c1 + c2) →
    o = (s.port n).offset t1 t2 c1 d → s.net.newPtp = none → s.net.ptp.stepThresh ≤ o.natAbs →
    ∃ t, exec (.ptpFrameReceived n ⟨s.net.ptp.domain, udp, none, .exchange t1 t2 t3 t4 c1 c2⟩) s = .next t ∧
      t.net.outliers = s.net.outliers.inc ∧ t.net.bigRun = signRun s.net.bigRun o ∧ t.now = s.now ∧ t.tb.epoch = s.tb.epoch) ∧
  (∀ (s : State) (n : Nat) (t1 t2 c o : Int), n ≤ 2 → s.ptpOn n = true → s.net.ptp.profile ≠ 0 → (s.port n).newCfg = none →
    (s.port n).run = .slave → o = (s.port n).offset t1 t2 c (s.port n).meanDelay →
    exec (.ptpFrameReceived n ⟨s.net.ptp.domain, false, none, .sync t1 t2 c⟩) s = .next
      (if s.net.ptp.profile = 2 then ({ s with net := { s.net with heard := some o } } : State).servo o else s.servo o)) ∧
  (∀ (s : State) (n : Nat) (sent received c : Int), n ≤ 2 → s.ptpOn n = true → s.net.ptp.profile ≠ 0 →
    (s.port n).newCfg = none →
    exec (.ptpFrameReceived n ⟨s.net.ptp.domain, false, none, .pdelay sent received c⟩) s =
      .next (s.setPort n { s.port n with meanDelay := (s.port n).linkDelay sent received c }) ∧
    exec (.ptpFrameReceived n ⟨s.net.ptp.domain, false, none, .pdelayReq received c⟩) s = .next (s.setPort n { s.port n with
      queue := (s.port n).queue ++ [.own { tag := s.ownTag s.net.net.ptpPcp, body := .ptp (.pdelayResp (received / 64 * 64 - (s.port n).cfg.ingressLat) c) }] })) ∧
  (∀ (s : State) (n q : Nat) (udp : Bool) (received c : Int), n ≤ 2 → s.ptpOn n = true → s.net.ptp.profile = 0 →
    (s.port n).newCfg = none → (s.port n).run = .master →
    exec (.ptpFrameReceived n ⟨s.net.ptp.domain, udp, none, .delayReq received q c⟩) s = .next (s.setPort n { s.port n with
      queue := (s.port n).queue ++ [.own { tag := s.ownTag s.net.net.ptpPcp, body := .ptp (.delayResp s.net.ptp.domain q (received / 64 * 64 - (s.port n).cfg.ingressLat) c) }] })) ∧
  (∀ (s : State) (n : Nat) (udp : Bool) (a : AnnounceMsg), n ≤ 2 → s.ptpOn n = true →
    s.speaks ⟨s.net.ptp.domain, udp, none, .announce a⟩ = true → s.net.ptp.role = 1 → a.steps < 255 → (s.port n).best = none →
    ∃ t, exec (.ptpFrameReceived n ⟨s.net.ptp.domain, udp, none, .announce a⟩) s = .next t ∧
      (t.port n).run = (if lexLt (announceRank a n) (announceRank s.ownAnnounce n) then .passive else .master) ∧
      (t.port n).best = some a ∧ t.net.master = s.net.master ∧ ({ t with net := s.net } : State) = s) ∧
  (∀ (s : State) (n : Nat) (ok : Bool), n ≤ 2 → s.ptpOn n = true → s.net.ptp.profile = 2 →
    exec (.ptpFrameReceived n ⟨s.net.ptp.domain, false, none, .oneStep ok⟩) s =
      .next (s.setPort n { s.port n with oneStepUnsupported := !ok })) ∧
  (∀ (s : State) (n : Nat) (f : PtpFrame), n ≤ 2 → (s.ptpOn n = false ∨ s.speaks f = false) → (s.port n).newCfg = none →
    exec (.ptpFrameReceived n f) s = .next s) ∧
  (∀ (s : State) (n : Nat), n ≤ 2 → (s.port n).run = .slave → s.net.ptp.role = 0 → (s.port n).cfg.ptpEn = 1 →
    (∀ k, k ≤ 2 → k ≠ n → (s.port k).best = none) →
    (s.port n).lastAnnounce + (s.port n).cfg.announceTimeout * logInterval (s.port n).cfg.logAnnounce ≤ s.clock →
    ∃ t, exec (.announceTimeout n) s = .next t ∧ (t.port n).run = .listening ∧ t.net.master = none ∧ t.net.control = false ∧
      t.tb.source ≠ .locked ∧ t.tb.servoRate = s.rateNow ∧ t.now = s.now) ∧
  (∀ (s : State) (n k : Nat) (b : AnnounceMsg), n ≤ 2 → k ≤ 2 → k ≠ n → (s.port n).run = .slave → s.net.ptp.role = 0 →
    (s.port k).cfg.ptpEn = 1 → (s.port k).best = some b → (∀ j, j ≤ 2 → j ≠ n → j ≠ k → (s.port j).best = none) →
    (s.port n).lastAnnounce + (s.port n).cfg.announceTimeout * logInterval (s.port n).cfg.logAnnounce ≤ s.clock →
    ∃ t, exec (.announceTimeout n) s = .next t ∧ (t.port k).run = .slave ∧ t.net.master = some b.master ∧
      t.net.control = false) ∧
  (∀ (s : State) (n : Nat) (b : AnnounceMsg), n ≤ 2 → (s.port n).run ≠ .slave → (s.port n).best = some b →
    (s.port n).lastAnnounce + (s.port n).cfg.announceTimeout * logInterval (s.port n).cfg.logAnnounce ≤ s.clock →
    ∃ t, exec (.announceTimeout n) s = .next t ∧ (t.port n).best = none ∧ ({ t with net := s.net } : State) = s) ∧
  (∀ s : State, s.net.ptp.role = 1 → s.net.clockClass ≠ 7 → s.net.lastPps + 2000000000 ≤ s.clock →
    ∃ t, exec .ppsTimeout s = .next t ∧ t.net.clockClass = 7 ∧ t.net.control = false ∧ t.now = s.now) ∧
  (∀ (s : State) (n : Nat), n ≤ 2 → s.ptpOn n = true → (s.port n).run = .master →
    (s.port n).lastSent.2.1 + logInterval (s.port n).cfg.logAnnounce ≤ s.clock →
    s.ownLeaves n (tagQueue (s.ownTag s.net.net.ptpPcp)) = true →
    ∃ t, exec (.ptpMessageTransmit n .announce) s = .next t ∧
      t.sent = .own n { tag := s.ownTag s.net.net.ptpPcp, body := .ptp (.announce s.net.ptp.domain s.announces) } :: s.sent ∧
      (t.port n).lastSent.2.1 = s.clock ∧ ({ t with net := s.net, sent := s.sent } : State) = s) ∧
  (∀ (s : State) (n : Nat), n ≤ 2 → s.ptpOn n = true → (s.port n).run = .master → (s.port n).newCfg = none →
    (s.net.ptp.profile = 2 → (s.port n).oneStepUnsupported = false ∧ (s.net.master = none ∨ s.net.heard ≠ none)) →
    (s.port n).lastSent.1 + logInterval (s.port n).cfg.logSync ≤ s.clock → s.ownLeaves n 0 = true →
    ∃ t, exec (.ptpMessageTransmit n .sync) s = .next t ∧
      t.sent = .own n { tag := s.ownTag s.net.net.ptpPcp, body := .ptp (.sync s.net.ptp.domain
        (s.now / 64 * 64 + (s.port n).cfg.egressLat - s.net.heard.getD 0)) } :: s.sent ∧
      (t.port n).lastSent.1 = s.clock ∧ ({ t with net := s.net, sent := s.sent } : State) = s) ∧
  (∀ (s : State) (n : Nat), n ≤ 2 → s.ptpOn n = true → (s.port n).run = .slave → s.net.ptp.profile = 0 →
    (s.port n).newCfg = none → s.ownLeaves n 0 = true →
    ∃ t, exec (.ptpMessageTransmit n .delayReq) s = .next t ∧
      t.sent = .own n { tag := s.ownTag s.net.net.ptpPcp, body := .ptp (.delayReq s.net.ptp.domain
        (s.now / 64 * 64 + (s.port n).cfg.egressLat)) } :: s.sent ∧ ({ t with net := s.net, sent := s.sent } : State) = s) ∧
  (∀ (s : State) (n : Nat), n ≤ 2 → s.ptpOn n = true → s.net.ptp.profile ≠ 0 → (s.port n).newCfg = none →
    (s.port n).lastSent.2.2 + logInterval (s.port n).cfg.logPdelay ≤ s.clock → s.ownLeaves n 0 = true →
    ∃ t, exec (.ptpMessageTransmit n .pdelayReq) s = .next t ∧
      t.sent = .own n { tag := s.ownTag s.net.net.ptpPcp, body := .ptp (.pdelayReq (-(s.port n).cfg.asym)) } :: s.sent ∧
      (t.port n).lastSent.2.2 = s.clock ∧ ({ t with net := s.net, sent := s.sent } : State) = s) ∧
  (∀ (s : State) (n : Nat) (m : PtpMessage), s.isReady readyTimebase = false → exec (.ptpMessageTransmit n m) s = .next s) ∧
  (∀ (s : State) (n : Nat) (f : NetFrame), n ≤ 2 → s.net.bridgePassed = true → s.net.bridgeFault = false →
    (s.port n).blockLock = true → 9018 < f.length →
    exec (.bridgeFrameReceived n f) s = .next (s.setPort n { s.port n with discarded := (s.port n).discarded.inc })) ∧
  (∀ (s : State) (n : Nat) (f : NetFrame), n ≤ 2 → s.net.bridgePassed = true → s.net.bridgeFault = false →
    (s.port n).blockLock = true → f.length ≤ 9018 → f.kind ≠ .arpForUs → (∀ k, k ≤ 2 → (s.port k).newCfg = none) →
    (f.kind = .delayReq → s.net.ptp.profile ≠ 1 ∨ (s.port n).cfg.ptpEn ≠ 1) → s.consumes n f = false →
    (∀ k, k ≤ 2 → (s.port k).hasRoom f = true) →
    ∃ t, exec (.bridgeFrameReceived n f) s = .next t ∧
      (∀ k, k ≤ 2 → (t.port k).queue = (s.port k).queue ++
        if k ∈ (s.learn n f.src).egress n f.dst then [.forwarded f n] else []) ∧
      (t.port n).forwarded = (if (s.learn n f.src).egress n f.dst = [] then (s.port n).forwarded
        else (s.port n).forwarded.inc) ∧
      ({ t with net := s.net } : State) = s) ∧
  (∀ (s : State) (n k : Nat) (f : NetFrame), k ≤ 2 → (s.port k).hasRoom f = false →
    s.enqueue n f k = s.setPort k { s.port k with discarded := (s.port k).discarded.inc }) ∧
  (∀ (p : Port) (x : Queued), p.nextOut = some x →
    x ∈ p.queue ∧ ∀ y ∈ p.queue, x.number ≤ y.number) ∧
  (∀ (s : State) (k : Nat) (x : Queued), s.pending = [] → k ≤ 2 → s.bridgeWorks = true → (s.port k).blockLock = true →
    (∀ j, j ≤ 2 → (s.port j).newCfg = none) → (s.port k).nextOut = some x →
    s.tb.pendingSecHi = none →
    ∃ t, step s = .next t ∧ s.passes k x ∈ t.sent ∧
      (t.port k).queue = (s.port k).queue.erase x ∧ t.tx = s.tx ∧ t.sq = s.sq ∧ t.sv = s.sv) ∧
  (∀ (s : State) (n : Nat) (f : NetFrame), n ≤ 2 → s.net.bridgePassed = true → s.net.bridgeFault = false →
    (s.port n).blockLock = true → f.length ≤ 9018 → f.kind ≠ .arpForUs → f.kind ≠ .delayReq → (s.port n).newCfg = none →
    s.consumes n f = true →
    exec (.bridgeFrameReceived n f) s = .next (s.learn n f.src)) ∧
  (∀ (s : State) (mac : Nat) (e : MacEntry), (mac, e) ∈ s.net.macs →
    e.seen + s.net.bridge.ageTime * 1000000000 ≤ s.clock →
    ∃ t, exec (.macEntryAgeing mac) s = .next t ∧ (mac, e) ∉ t.net.macs ∧ (∀ p ∈ s.net.macs, p.1 ≠ mac → p ∈ t.net.macs) ∧
      ({ t with net := s.net } : State) = s) ∧
  (∀ s : State, ∃ t, exec .bridgeFault s = .next t ∧ t.net = { s.net with bridgeFault := true } ∧
    (∀ n, n ≤ 2 → t.isReady (readyPort n) = false) ∧ t.tx = s.tx ∧ t.rx = s.rx ∧ t.sq = s.sq ∧ t.sv = s.sv) ∧
  (∀ (s : State) (n k : Nat) (f : NetFrame), f.kind = .sync → (s.port n).cfg.ptpEn ≠ 0 → (s.port k).cfg.ptpEn ≠ 0 →
    s.net.ptp.profile = 0 →
    s.passes k (.forwarded f n) = .frame k { f with correction := f.correction +
      ((s.now + 64 * f.outPhase) / 64 * 64 + (s.port k).cfg.egressLat - (f.tIn / 64 * 64 - (s.port n).cfg.ingressLat)) +
      (s.port n).cfg.asym }) ∧
  (∀ (s : State) (n : Nat) (up : Bool), n ≤ 2 →
    ∃ t, exec (.phyLinkChange n up) s = .next t ∧ (t.port n).blockLock = up ∧
      t.isReady (readyPort n) = (up && (s.port n).testPassed && s.net.bridgePassed && !s.net.bridgeFault && !(s.port n).resetting) ∧
      t.tx = s.tx ∧ t.rx = s.rx ∧ t.sv = s.sv)

/-! ## Encoders, motor and supervisor -/

/-- ANGLE_CONFIG, MERIDIAN_SET and ANGLE_MARK_SET set what they carry; ANGLE_CONFIG leaves the estimator invalid, without
edges, until the next index edge (R114, R116, R117). That the per-facet marks look for their next position with the new
meridians, and that the present angle of an invalid estimator is that of its newest edge, is the model's reading (entry
58). ENCODER_EDGE (R272, R274): an edge of a channel that was held for less than the filter time is counted FILTERED and
nothing else; one that is held counts one, forward or backward by the order of A and B, for the encoder and the
supervisor. With ENABLE 0 (R271), or in a start in which the balls are not acted on (R401), nothing is counted; that the
levels of A and B are kept is the model's choice (entry 44). ENCODER_INDEX_EDGE (R112, R123): the first index edge starts
the count at 0; a later one corrects the count to the nearest whole revolution, and beyond INDEX_TOL it is a count error.
ESTIMATOR_TIMEOUT (R115): with no usable edge for EDGE_TIMEOUT the estimator is invalid and the episode is counted.
ANGLE_MARK_CROSSING (R117): at the crossing time of its next position an enabled mark publishes with that time and goes on
to the position after it; that a position with no edge 148 ns before it takes the time of the newest edge is the model's
choice (entry 58). While the estimator is invalid, positions that have been passed count as MISSED and are not published.
Concludes that exec answers a next state for: `angleConfig`, `angleMarkCrossing`, `angleMarkSet`, `encoderEdge`,
`encoderIndexEdge`, `estimatorTimeout`, `meridianSet`. -/
def Obligations.EncodersAndEstimators : Prop :=
  (∀ (s : State) (e : Nat) (cfg : AngleCfg), s.admits (.angleConfig e cfg) = true → e ≤ 1 → cfg.edgeUse ≤ 1 →
    cfg.window ∈ [4, 8, 16, 32, 64] → 1 ≤ cfg.minSpeed → cfg.minSpeed ≤ 1048575 → 1024 ≤ cfg.edgeTimeout →
    cfg.edgeTimeout ≤ 1024000000 → s.estUsed e = false → (s.estimator e).valid = false →
    completes (.angleConfig e cfg) s ((s.setEstimator e
      { s.estimator e with edges := [], indexSeen := false, countError := false }).modEstimator e
        fun x => { x with cfg := cfg }) .ok []) ∧
  (∀ (s : State) (e : Nat) (cfg : AngleCfg), s.admits (.angleConfig e cfg) = true → e ≤ 1 → cfg.edgeUse ≤ 1 →
    cfg.window ∈ [4, 8, 16, 32, 64] → 1 ≤ cfg.minSpeed → cfg.minSpeed ≤ 1048575 → 1024 ≤ cfg.edgeTimeout →
    cfg.edgeTimeout ≤ 1024000000 → s.estUsed e = false → (s.estimator e).valid = true →
    completes (.angleConfig e cfg) s (((s.estLost e).modEstimator e
      fun x => { x with edges := [], indexSeen := false, countError := false }).modEstimator e
        fun x => { x with cfg := cfg }) .ok []) ∧
  (∀ (s : State) (e n : Nat) (ms : List Nat), s.admits (.meridianSet e n ms) = true → e ≤ 1 → 1 ≤ n → n ≤ 16 →
    ms.length = n → (∀ m ∈ ms, m ≤ 4294967295) → strictlyRising ms = true → s.estUsed e = false →
    completes (.meridianSet e n ms) s
      ((s.setEstimator e { s.estimator e with facets := n, meridians := ms }).remarkFacets e) .ok []) ∧
  (∀ (s : State) (m : Nat) (cfg : MarkCfg), s.admits (.angleMarkSet m cfg) = true → m ≤ 7 → cfg.encoder ≤ 1 → cfg.mode ≤ 1 →
    cfg.enable ≤ 1 → cfg.angle ≤ 4294967295 →
    completes (.angleMarkSet m cfg) s (s.setMark m { s.mark m with
      cfg := cfg
      next :=
        if cfg.enable = 1 then markNext (markBases cfg (s.estimator cfg.encoder)) (s.angleNow cfg.encoder) else none }) .ok []) ∧
  (∀ (s : State) (e : Nat), s.angleNow e =
    if s.estValid e = true then (s.estimator e).angleAt s.now else ((s.estimator e).edges.head?.map (·.u)).getD 0) ∧
  (∀ (s : State) (e held : Nat) (isB level : Bool) (tBall : Tq), e ≤ 1 → (s.encCfg e).enable ≠ 0 →
    (if isB then (s.encoder e).b else (s.encoder e).a) ≠ level → s.heard tBall = true → held < filterNs (s.encCfg e).filter →
    exec (.encoderEdge e isB level tBall held) s =
      .next (s.setEncoder e { s.encoder e with filtered := (s.encoder e).filtered.inc })) ∧
  (∀ (s : State) (e held : Nat) (isB level : Bool) (tBall : Tq), e ≤ 1 → (s.encCfg e).enable ≠ 0 →
    (if isB then (s.encoder e).b else (s.encoder e).a) ≠ level → s.heard tBall = true → filterNs (s.encCfg e).filter ≤ held →
    ∃ t, exec (.encoderEdge e isB level tBall held) s = .next t ∧
      (t.encoder e).count = (s.encoder e).count + (if edgeForward (s.encoder e) isB level (s.encCfg e).invertDir then 1 else -1) ∧
      (t.svEnc e).window = (s.svEnc e).window +
        (if edgeForward (s.encoder e) isB level (s.encCfg e).invertDir then 1 else -1) ∧
      (t.encoder e).a = (if isB then (s.encoder e).a else level) ∧ (t.encoder e).b = (if isB then level else (s.encoder e).b) ∧
      t.hist = s.hist ∧ t.eng = s.eng ∧ t.pll = s.pll ∧ t.tb = s.tb) ∧
  (∀ (s : State) (e held : Nat) (isB level : Bool) (tBall : Tq), e ≤ 1 →
    ((s.encCfg e).enable = 0 ∨ s.ballsActed = false) →
    s.reached tBall = true →
    exec (.encoderEdge e isB level tBall held) s = .next (s.setEncoder e { s.encoder e with
      a := if isB then (s.encoder e).a else level
      b := if isB then level else (s.encoder e).b })) ∧
  (∀ (s : State) (e : Nat) (tBall : Tq), e ≤ 1 → (s.encCfg e).enable = 1 →
    ((s.encCfg e).indexState = 4 ∨ (s.encCfg e).indexState = (s.encoder e).abState) → s.heard tBall = true →
    (s.estimator e).indexSeen = false →
    ∃ t, exec (.encoderIndexEdge e tBall) s = .next t ∧ (t.encoder e).count = 0 ∧ (t.estimator e).indexSeen = true ∧
      t.hist = s.hist ∧ t.eng = s.eng ∧ t.pll = s.pll ∧ t.tb = s.tb) ∧
  (∀ (s : State) (e : Nat) (tBall : Tq), e ≤ 1 → (s.encCfg e).enable = 1 →
    ((s.encCfg e).indexState = 4 ∨ (s.encCfg e).indexState = (s.encoder e).abState) → s.heard tBall = true →
    (s.estimator e).indexSeen = true →
    ((s.encoder e).count - roundDiv (s.encoder e).count ((s.encCfg e).cpr : Int) * ((s.encCfg e).cpr : Int)).natAbs ≤
      (s.encCfg e).indexTol →
    ∃ t, exec (.encoderIndexEdge e tBall) s = .next t ∧
      (t.encoder e).count = roundDiv (s.encoder e).count ((s.encCfg e).cpr : Int) * ((s.encCfg e).cpr : Int) ∧
      (t.encoder e).countErrors = (s.encoder e).countErrors) ∧
  (∀ (s : State) (e : Nat) (tBall : Tq), e ≤ 1 → (s.encCfg e).enable = 1 →
    ((s.encCfg e).indexState = 4 ∨ (s.encCfg e).indexState = (s.encoder e).abState) → s.heard tBall = true →
    (s.estimator e).indexSeen = true →
    (s.encCfg e).indexTol <
      ((s.encoder e).count - roundDiv (s.encoder e).count ((s.encCfg e).cpr : Int) * ((s.encCfg e).cpr : Int)).natAbs →
    ∃ t, exec (.encoderIndexEdge e tBall) s = .next t ∧ (t.encoder e).countErrors = (s.encoder e).countErrors.inc) ∧
  (∀ (s : State) (e : Nat), e ≤ 1 → (s.estimator e).valid = true → s.estValid e = false →
    ∃ t, exec (.estimatorTimeout e) s = .next t ∧ (t.estimator e).valid = false ∧
      (t.estimator e).invalidEpisodes = (s.estimator e).invalidEpisodes.inc ∧ t.sv = s.sv ∧ t.tx = s.tx ∧ t.tb = s.tb) ∧
  (∀ (s : State) (m : Nat) (p t' : Int), m ≤ 7 → (s.mark m).cfg.enable ≠ 0 → s.estValid (s.mark m).cfg.encoder = true →
    (s.mark m).next = some p → (s.estimator (s.mark m).cfg.encoder).resample p = some t' → s.reached t' = true →
    exec (.angleMarkCrossing m) s = .next
      ((s.setMark m { s.mark m with next := markNext (markBases (s.mark m).cfg (s.estimator (s.mark m).cfg.encoder)) p }).publish
        (prodMark m) t' 0)) ∧
  (∀ (s : State) (m : Nat) (p t' : Int), m ≤ 7 → (s.mark m).cfg.enable ≠ 0 → s.estValid (s.mark m).cfg.encoder = true →
    (s.mark m).next = some p → (s.estimator (s.mark m).cfg.encoder).resample p = none →
    (s.estimator (s.mark m).cfg.encoder).timeAt 0 p = some t' → s.reached t' = true →
    exec (.angleMarkCrossing m) s = .next
      ((s.setMark m { s.mark m with next := markNext (markBases (s.mark m).cfg (s.estimator (s.mark m).cfg.encoder)) p }).publish
        (prodMark m) t' 0)) ∧
  (∀ (s : State) (m : Nat) (p : Int) (e : AngleEdge) (rest : List AngleEdge), m ≤ 7 → (s.mark m).cfg.enable = 1 →
    s.estValid (s.mark m).cfg.encoder = false → (s.mark m).next = some p →
    (s.estimator (s.mark m).cfg.encoder).edges = e :: rest → p ≤ e.u →
    ∃ t, exec (.angleMarkCrossing m) s = .next t ∧
      t.mark m = { s.mark m with
        next := markNext (markBases (s.mark m).cfg (s.estimator (s.mark m).cfg.encoder)) e.u
        missed := (s.mark m).missed.add (markCount (markBases (s.mark m).cfg (s.estimator (s.mark m).cfg.encoder)) p e.u) } ∧
      t.fab = s.fab ∧ t.sq = s.sq ∧ t.tb = s.tb)

/-- The motor's commands (R276, R278, R279, R283): MOTOR_RUN is admitted while the supervisor does not withhold torque and
the speed source is enabled; START asks for torque and begins at the new target, SET_SPEED changes the target, STOP begins
the stop, and takes FAULT with MFLT_N high to STOPPED. An action of which the table of R279 says nothing in the state that
stands is answered OK and moves nothing, and SET_SPEED acts in STARTING too (entry 36). That a change of PWM_FREQ acts at
the end of a period, and that until the firmware has resumed the motor after a warm reset MOTOR_RUN is NOT_READY (R282),
are entry 36 (DESIGN CHOICE). MOTOR_RUN is denied while the supervisor withholds torque: outside NORMAL and TWILIGHT, and
in Nadir (R279, R298, R303); STOP too (entry 36). Concludes that exec answers a next state for: `motorConfig`,
`motorCountersClear`, `motorRun`. -/
def Obligations.MotorCommands : Prop :=
  (∀ (s : State) (cfg : MotorCfg), s.admits (.motorConfig cfg) = true → motorCfgOk cfg = true →
    (s.motor.run = .stopped ∨ s.motor.run = .fault) →
    completes (.motorConfig cfg) s { s with motor := s.motor.configure s.clock cfg } .ok []) ∧
  (∀ (m : Motor) (t : Nat) (c : MotorCfg), (m.configure t c).cfg = c ∧ (m.configure t c).d = m.d ∧
    (c.pwmFreq = m.cfg.pwmFreq → m.configure t c = { m with cfg := c })) ∧
  (∀ (s : State) (dir target : Nat), s.admits (.motorRun 1 dir target) = true → dir ≤ 1 → target ≤ 1048575 →
    target ≤ s.motor.cfg.speedFull → (s.sv.run = .normal ∨ s.sv.run = .twilight) → s.dev.run ≠ .nadir → s.dev.warm = false →
    (s.encCfg s.motor.cfg.encoder).enable ≠ 0 → s.motor.run = .stopped → s.dev.noImage = false →
    completes (.motorRun 1 dir target) s { s with
      motor := { s.motor with
        run := .starting, atSpeed := false, target := target, inTolSince := none, startedAt := s.clock,
        mrdySeen := s.motor.mrdy, mdir := dir }
      sv := { s.sv with torqueAsked := true, sto := true } } .ok []) ∧
  (∀ (s : State) (dir target : Nat), s.admits (.motorRun 1 dir target) = true → dir ≤ 1 → dir = s.motor.mdir →
    target ≤ 1048575 → target ≤ s.motor.cfg.speedFull → (s.sv.run = .normal ∨ s.sv.run = .twilight) → s.dev.run ≠ .nadir →
      s.dev.warm = false → (s.encCfg s.motor.cfg.encoder).enable ≠ 0 → s.motor.run = .fault →
    completes (.motorRun 1 dir target) s s .ok []) ∧
  (∀ (s : State) (dir target : Nat), s.admits (.motorRun 2 dir target) = true → dir ≤ 1 →
    target ≤ 1048575 → target ≤ s.motor.cfg.speedFull → (s.sv.run = .normal ∨ s.sv.run = .twilight) → s.dev.run ≠ .nadir →
      s.dev.warm = false → (s.encCfg s.motor.cfg.encoder).enable ≠ 0 →
    (s.motor.run = .stopped ∨ dir = s.motor.mdir ∧ (s.motor.run = .stopping ∨ s.motor.run = .fault)) →
    completes (.motorRun 2 dir target) s { s with motor := { s.motor with mdir := dir } } .ok []) ∧
  (∀ (s : State) (dir target : Nat), s.admits (.motorRun 0 dir target) = true → dir ≤ 1 →
    target ≤ 1048575 → target ≤ s.motor.cfg.speedFull → (s.sv.run = .normal ∨ s.sv.run = .twilight) → s.dev.run ≠ .nadir →
      s.dev.warm = false → (s.encCfg s.motor.cfg.encoder).enable ≠ 0 →
    (s.motor.run = .stopped ∨ dir = s.motor.mdir ∧ (s.motor.run = .stopping ∨ s.motor.run = .fault ∧ s.motor.mfltN = false)) →
    completes (.motorRun 0 dir target) s { s with motor := { s.motor with mdir := dir } } .ok []) ∧
  (∀ (s : State) (dir target : Nat), s.admits (.motorRun 0 dir target) = true → dir ≤ 1 → dir = s.motor.mdir →
    target ≤ 1048575 → target ≤ s.motor.cfg.speedFull → (s.sv.run = .normal ∨ s.sv.run = .twilight) → s.dev.run ≠ .nadir →
      s.dev.warm = false → (s.encCfg s.motor.cfg.encoder).enable ≠ 0 → s.motor.run = .fault → s.motor.mfltN = true →
    ∃ u, completes (.motorRun 0 dir target) s u .ok [] ∧ u.motor.run = .stopped ∧ u.motor.d = 0 ∧ u.sv.sto = false ∧
      u.tx = s.tx ∧ u.sq = s.sq) ∧
  (∀ (s : State) (action dir target : Nat), s.admits (.motorRun action dir target) = true → action ≤ 2 → dir ≤ 1 →
    target ≤ 1048575 → target ≤ s.motor.cfg.speedFull → (s.sv.run = .normal ∨ s.sv.run = .twilight) → s.dev.run ≠ .nadir →
      s.dev.warm = false → (s.encCfg s.motor.cfg.encoder).enable ≠ 0 → s.motor.run ≠ .stopped → dir ≠ s.motor.mdir →
    completes (.motorRun action dir target) s s .busy []) ∧
  (∀ (s : State) (dir target : Nat), s.admits (.motorRun 2 dir target) = true → dir = s.motor.mdir → dir ≤ 1 →
    target ≤ 1048575 → target ≤ s.motor.cfg.speedFull → (s.sv.run = .normal ∨ s.sv.run = .twilight) → s.dev.run ≠ .nadir →
      s.dev.warm = false →
    (s.encCfg s.motor.cfg.encoder).enable ≠ 0 → (s.motor.run = .starting ∨ s.motor.run = .running) →
    completes (.motorRun 2 dir target) s { s with
      motor := { s.motor with target := target, atSpeed := false, inTolSince := none } } .ok []) ∧
  (∀ (s : State) (dir target : Nat), s.admits (.motorRun 0 dir target) = true → dir = s.motor.mdir → dir ≤ 1 →
    target ≤ 1048575 → target ≤ s.motor.cfg.speedFull → (s.sv.run = .normal ∨ s.sv.run = .twilight) → s.dev.run ≠ .nadir →
      s.dev.warm = false →
    (s.encCfg s.motor.cfg.encoder).enable ≠ 0 → (s.motor.run = .starting ∨ s.motor.run = .running) →
    completes (.motorRun 0 dir target) s { s with
      motor := { s.motor with run := .stopping, atSpeed := false, target := 0, inTolSince := none } } .ok []) ∧
  (∀ (s : State) (action dir target : Nat), s.admits (.motorRun action dir target) = true → action ≤ 2 → dir ≤ 1 →
    target ≤ 1048575 → target ≤ s.motor.cfg.speedFull → (s.sv.run = .normal ∨ s.sv.run = .twilight) → s.dev.run ≠ .nadir →
    s.dev.warm = true →
    completes (.motorRun action dir target) s s .notReady []) ∧
  (∀ (s : State), s.admits .motorCountersClear = true →
    completes .motorCountersClear s
      (({ s with motor := { s.motor with faults := 0, readyTimeouts := 0 } } : State).each [0, 1] fun s e =>
        s.setEncoder e { s.encoder e with edges := 0, filtered := 0, countErrors := 0 }) .ok []) ∧
  (∀ (s : State) (action dir target : Nat), s.runs (.motorRun action dir target) = true → s.dev.fwRunning = true →
    action ≤ 2 → dir ≤ 1 → target ≤ 1048575 → target ≤ s.motor.cfg.speedFull →
    ((s.sv.run ≠ .normal ∧ s.sv.run ≠ .twilight) ∨ s.dev.run = .nadir) →
    completes (.motorRun action dir target) s s .safetyDenied [])

/-- The motor's events (R277, R279, R280): a driver fault, a fall of MRDY and a READY_TIMEOUT enter FAULT with D at 0; a
speed kept within SPEED_TOL for SETTLE_TIME is AT_SPEED; a stop ends in STOPPED with torque removed; outside Nadir the
reference ramps each 1 ms. The firmware serves the motor while it runs and no warm reset holds MSPD (R282). That no update
of the reference comes sooner than 1 ms after the last, and that a warm reset serves nothing, are entry 36. Concludes that
exec answers a next state for: `atSpeed`, `mfltNFault`, `motorRefUpdate`, `motorStopped`, `mrdyChange`, `readyTimeout`. -/
def Obligations.MotorEvents : Prop :=
  (∀ s : State, s.motorServed = true → s.ballsActed = true → s.motor.run ≠ .fault →
    ∃ t, exec (.mfltNFault false) s = .next t ∧ t.motor.run = .fault ∧ t.motor.d = 0 ∧ t.motor.mfltN = false ∧
      t.motor.faults = s.motor.faults.inc ∧ t.sv.faults.contains .motorFault = true) ∧
  (∀ s : State, exec (.mfltNFault true) s = .next { s with motor := { s.motor with mfltN := true } }) ∧
  (∀ s : State, exec (.mrdyChange true) s = .next { s with motor := { s.motor with mrdy := true, mrdySeen := true } }) ∧
  (∀ s : State, s.motorServed = true → s.motor.mrdy = true → s.motor.run ≠ .stopped → s.motor.run ≠ .fault →
    ∃ t, exec (.mrdyChange false) s = .next t ∧ t.motor.run = .fault ∧ t.motor.d = 0 ∧ t.motor.mrdy = false) ∧
  (∀ s : State, s.motor.mrdy = false → exec (.mrdyChange false) s = .next s) ∧
  (∀ s : State, s.motorServed = true → s.motor.run = .starting → s.motor.mrdySeen = false →
    s.motor.startedAt + s.motor.cfg.readyTimeout * 1000000 ≤ s.clock →
    ∃ t, exec .readyTimeout s = .next t ∧ t.motor.run = .fault ∧ t.motor.readyTimeouts = s.motor.readyTimeouts.inc) ∧
  (∀ (s : State) (since : Nat), s.motor.inTolSince = some since → s.motorServed = true →
    (s.motor.run = .starting ∨ s.motor.run = .running) → s.inTolerance = true →
    since + s.motor.cfg.settleTime * 1000000 ≤ s.clock →
    exec .atSpeed s = .next { s with motor := { s.motor with run := .running, atSpeed := true } }) ∧
  (∀ s : State, s.motorServed = true → s.motor.run = .stopping →
    (s.svEnc s.motor.cfg.encoder).lastEdge + 100000000 ≤ s.clock →
    ∃ t, exec .motorStopped s = .next t ∧ t.motor.run = .stopped ∧ t.motor.d = 0 ∧ t.sv.sto = false) ∧
  (∀ s : State, s.motorServed = true → s.dev.run ≠ .nadir → s.motor.cfg.control = 0 → s.motor.run = .running →
    s.motor.refAt + 1000000 ≤ s.clock →
    s.motor.reference < 1000 * s.motor.target →
    ∃ t, exec .motorRefUpdate s = .next t ∧
      t.motor.reference = min (1000 * s.motor.target) (s.motor.reference + s.motor.cfg.rampUp) ∧
      t.motor.d = dutyOf s.motor.cfg t.motor.reference ∧ t.motor.run = .running ∧
      t.motor.dBefore = s.motor.dIn s.clock ∧ t.motor.dAt = s.motor.boundary s.clock ∧ t.motor.refAt = s.clock ∧
      ({ t with motor := s.motor, fresh := s.fresh } : State) = s) ∧
  (∀ s : State, s.clock < s.motor.refAt + 1000000 → exec .motorRefUpdate s = .next s)

/-- The staging commands (R286 to R288, R292, R319, R360): a first submission that passes the checks is held; with the
second the change goes to the staging area and nothing else moves. While a power warning stands a first submission is
denied (entry 50, DEDUCED), and one that comes with no mailbox is SAFETY_DENIED and changes nothing (entry 18, DESIGN
CHOICE). The commands that change the active safety configuration (R230, R271, R286): SV_COMMIT makes the staging area
active and ENC_CONFIG changes an encoder, both entering LOCKOUT; EVCH_KEYLOCK sets a key-lock, and releases one by its
key. Each answers with the CRC of the configuration in force. A change of an encoder restarts its estimator and the
supervisor's own count. Concludes that exec answers a next state for: `encConfig`, `evchKeylock`, `svCommit`, `svConfig`,
`svInputConfig`, `svLimitSet`, `svRowWeight`, `svSlpWindow`. -/
def Obligations.SafetyConfiguration : Prop :=
  (∀ (s : State) (c : SvCfg), s.admitsDual (.svConfig c) = true → svCfgOk c = true → s.safetyLocked = false →
    completesDual (.svConfig c) s { s with sv := { s.sv with staged := { s.sv.staged with sv := c } } } .ok []) ∧
  (∀ (s : State) (i : Nat) (c : SvInputCfg), s.admitsDual (.svInputConfig i c) = true → i ≤ 3 → svInputCfgOk c = true →
    s.safetyLocked = false →
    completesDual (.svInputConfig i c) s { s with sv := { s.sv with staged := { s.sv.staged with
      inputs := Tab.put SvInputCfg.reset s.sv.staged.inputs i c } } } .ok []) ∧
  (∀ (s : State) (k : Nat) (c : LimitSet), s.admitsDual (.svLimitSet k c) = true → k ≤ 1 → limitSetOk c = true →
    s.safetyLocked = false →
    completesDual (.svLimitSet k c) s { s with sv := { s.sv with staged := { s.sv.staged with
      limits := Tab.put LimitSet.reset s.sv.staged.limits k c } } } .ok []) ∧
  (∀ (s : State) (first count : Nat) (ws : List Nat), s.admitsDual (.svRowWeight first count ws) = true → 1 ≤ count →
    first + count ≤ 64 → ws.length = count → (∀ w ∈ ws, w ≤ 255) → s.safetyLocked = false →
    completesDual (.svRowWeight first count ws) s { s with sv := { s.sv with staged := { s.sv.staged with
      weights := ((numbers first count).zip ws).foldl (fun t p => Tab.put 1 t p.1 p.2) s.sv.staged.weights } } } .ok []) ∧
  (∀ (s : State) (k w : Nat) (c : SlpWindow), s.admitsDual (.svSlpWindow k w c) = true → k ≤ 1 → w ≤ 15 →
    slpWindowOk c = true → s.safetyLocked = false →
    completesDual (.svSlpWindow k w c) s { s with sv := { s.sv with staged := { s.sv.staged with
      slp := Tab.put SlpWindow.reset s.sv.staged.slp (16 * k + w) c } } } .ok []) ∧
  (∀ s : State, s.admitsDual (.svCommit true) = true → safetyCfgOk s.sv.staged = true → s.safetyLocked = false →
    s.isReady readyRetention = true →
    ∃ u, completesDual (.svCommit true) s u .ok [u.safetyCrc] ∧ u.sv.active = s.sv.staged ∧ u.sv.run = .lockout ∧
      u.sv.awaitsCommit = false) ∧
  (∀ (s : State) (e : Nat) (c : EncCfg), s.admitsDual (.encConfig e c true) = true → e ≤ 1 → encCfgOk c = true →
    s.ranging = false → s.isReady readyRetention = true → s.isReady readySafety = true → s.sv.run ≠ .nadir →
    ∃ u, completesDual (.encConfig e c true) s u .ok [u.safetyCrc] ∧ u.encCfg e = c ∧ u.sv.run = .lockout ∧
      (u.estimator e).valid = false ∧ (u.estimator e).indexSeen = false ∧ (u.svEnc e).indexSeen = false) ∧
  (∀ (s : State) (c key : Nat), s.admitsDual (.evchKeylock c 1 key true) = true → c ≤ 255 → key ≤ 65535 →
    s.sv.active.keylocks.find? (fun p => decide (p.1 = c)) = none → s.isReady readyRetention = true →
    s.isReady readySafety = true →
    ∃ u, completesDual (.evchKeylock c 1 key true) s u .ok [u.safetyCrc] ∧
      u.sv.active.keylocks = Tab.insert s.sv.active.keylocks c key ∧ u.sv.run = s.sv.run ∧ u.fab = s.fab) ∧
  (∀ (s : State) (c key : Nat), s.admitsDual (.evchKeylock c 0 key true) = true → c ≤ 255 → key ≤ 65535 →
    (s.dev.run = .readyIdle ∨ s.dev.run = .eclipse) →
    s.sv.active.keylocks.find? (fun p => decide (p.1 = c)) = some (c, key) → s.isReady readyRetention = true →
    s.isReady readySafety = true →
    ∃ u, completesDual (.evchKeylock c 0 key true) s u .ok [u.safetyCrc] ∧ u.keyLocked c = false ∧ u.sv.run = s.sv.run) ∧
  (∀ (s : State) (c key : Nat) (v : Bool), s.admitsDual (.evchKeylock c 0 key v) = true → c ≤ 255 → key ≤ 65535 →
    (s.dev.run = .readyIdle ∨ s.dev.run = .eclipse) →
    s.sv.active.keylocks.find? (fun p => decide (p.1 = c)) = none → s.isReady readySafety = true →
    completesDual (.evchKeylock c 0 key v) s s .ok [s.safetyCrc])

/-- SV_SAFE_STOP (R295, R297) and every other demand of a safe stop: DUSK from NORMAL and TWILIGHT in Ranging, with the
stop counted and the motor stopping; LOCKOUT outside Ranging; no effect elsewhere. SV_COUNTERS_CLEAR (R304).
SV_SAMPLE_TICK, DISCREPANCY_FAULT and SAFETY_RESET (R285, R288, R289, R297, R300): a sample is taken when 10 µs have
passed, the clock within 2 %, and none before (what a clock within 2 % lets pass, entry 37); after its own test the
supervisor samples every safe input, but in a cold start not until its Self-test ends (R401); in INIT it samples SRSTA and
SRSTB alone and rejects a reset at once (R402; these and the details of a safety reset, entry 38); a disagreement that has
lasted DISC_TIME latches a fault; a safety reset in LOCKOUT with nothing demanding, no cause persisting, the SAFETY object
there (R320) and no power warning standing (R412) leads to NORMAL with the faults cleared, else it is rejected. Concludes
that exec answers a next state for: `discrepancyFault`, `safetyReset`, `svCountersClear`, `svSafeStop`, `svSampleTick`. -/
def Obligations.SafeStopsAndInputs : Prop :=
  (∀ s : State, s.admits .svSafeStop = true → completes .svSafeStop s s.safeStop .ok []) ∧
  (∀ s : State, s.ranging = true → (s.sv.run = .normal ∨ s.sv.run = .twilight) →
    s.safeStop.sv.run = .dusk ∧ s.safeStop.sv.permit = false ∧ s.safeStop.sv.dark = true ∧
    s.safeStop.sv.counters.safeStops = s.sv.counters.safeStops.inc ∧ s.safeStop.motor.run ≠ .running ∧
    s.safeStop.motor.run ≠ .starting ∧ s.safeStop.dev.run = .ranging) ∧
  (∀ s : State, s.ranging = false → (s.sv.run = .normal ∨ s.sv.run = .twilight) →
    s.safeStop.sv.run = .lockout ∧ s.safeStop.sv.permit = false ∧ s.safeStop.sv.dark = true ∧ s.safeStop.sv.sto = false) ∧
  (∀ s : State, s.sv.run ≠ .normal → s.sv.run ≠ .twilight → s.safeStop = s) ∧
  (∀ s : State, s.admits .svCountersClear = true →
    completes .svCountersClear s (({ s with sv := { s.sv with counters := SvCounters.zero } } : State).each [0, 1, 2, 3]
      fun s i => s.setSafeInput i { s.safeInput i with discFaults := 0 }) .ok []) ∧
  (∀ (s : State) (l : SafeLevels) (t : Nat), s.sv.sampleAt = some t → s.clock < t + samplePeriod →
    exec (.svSampleTick l) s = .next s) ∧
  (∀ (s : State) (l : SafeLevels), s.sv.run ≠ .init → s.ballsActed = false → s.since s.sv.sampleAt samplePeriod = true →
    exec (.svSampleTick l) s = .next { s with sv := { s.sv with samples := s.sv.samples + 1, sampleAt := some s.clock } }) ∧
  (∀ (s : State) (l : SafeLevels), s.sv.run ≠ .init → s.ballsActed = true → s.since s.sv.sampleAt samplePeriod = true →
    ∃ t, exec (.svSampleTick l) s = .next t ∧ t.sv.samples = s.sv.samples + 1 ∧ t.sv.sampleAt = some s.clock ∧
      (∀ i, i ≤ 3 → t.safeInput i =
        (s.safeInput i).sample (s.svInputCfg i) (l.sinA.getD i false) (l.sinB.getD i false)) ∧ t.hist = s.hist ∧
          t.eng = s.eng) ∧
  (∀ (s : State) (l : SafeLevels), s.sv.run = .init → s.dev.rstLow = false → s.since s.sv.sampleAt samplePeriod = true →
    (s.sampleReset l.srstA l.srstB).sv.resetReady = false →
    exec (.svSampleTick l) s = .next { s with sv := { (s.sampleReset l.srstA l.srstB).sv with
      samples := s.sv.samples + 1, sampleAt := some s.clock } }) ∧
  (∀ (s : State) (l : SafeLevels), s.sv.run = .init → s.dev.rstLow = false → s.since s.sv.sampleAt samplePeriod = true →
    (s.sampleReset l.srstA l.srstB).sv.resetReady = true →
    ∃ t, exec (.svSampleTick l) s = .next t ∧ t.sv.run = .init ∧ t.sv.resetReady = false ∧ t.sv.samples = s.sv.samples + 1 ∧
      t.sv.counters.resetsRejected = (s.sampleReset l.srstA l.srstB).sv.counters.resetsRejected.inc ∧
      t.sv.faults = s.sv.faults ∧ ({ t with sv := s.sv } : State) = s) ∧
  (∀ s : State, s.sv.resetReady = true → s.sv.run = .init →
    ∃ t, exec .safetyReset s = .next t ∧ t.sv.run = .init ∧ t.sv.resetReady = false ∧
      t.sv.counters.resetsRejected = s.sv.counters.resetsRejected.inc ∧ t.sv.faults = s.sv.faults) ∧
  (∀ (s : State) (i : Nat), i ≤ 3 → (s.svInputCfg i).discTime * 100 ≤ (s.safeInput i).disagree →
    (s.safeInput i).faultLatched = false →
    ∃ t, exec (.discrepancyFault i) s = .next t ∧ (t.safeInput i).faultLatched = true ∧ (t.safeInput i).demanding = true ∧
      (t.safeInput i).discFaults = (s.safeInput i).discFaults.inc) ∧
  (∀ s : State, s.sv.resetReady = true → s.sv.run = .lockout → s.clearInputs.anyDemanding = false →
    s.clearInputs.anyPersists = false → s.sv.awaitsCommit = false → s.dev.pfail = false →
    ∃ t, exec .safetyReset s = .next t ∧ t.sv.run = .normal ∧ t.sv.faults = [] ∧ t.sv.resetReady = false ∧
      t.sv.counters.resetsAccepted = s.sv.counters.resetsAccepted.inc) ∧
  (∀ s : State, s.sv.resetReady = true → s.sv.run = .lockout →
    (s.clearInputs.anyDemanding = true ∨ s.clearInputs.anyPersists = true ∨ s.sv.awaitsCommit = true ∨ s.dev.pfail = true) →
    ∃ t, exec .safetyReset s = .next t ∧ t.sv.run = .lockout ∧
      t.sv.counters.resetsRejected = s.sv.counters.resetsRejected.inc ∧ t.sv.faults = s.sv.faults)

/-- The supervisor's speed windows and timers (R285, R290, R291, R297 to R299): each window, 1 ms after the last, gives
every encoder its count; encoders that disagree in 10 windows latch a fault; a standstill or RAMP_TIME in DUSK ends in
ECLIPSE, with every sequencer asked to stop (the device follows unless a warm reset is under way, R303; the stop request
and ECLIPSE at once are entry 39); TWILIGHT_TIME in TWILIGHT demands a safe stop. That a window or a timer may end when 98
hundredths of its time have passed is entry 37 (DEDUCED). The emission budget (R294): at the end of its window the counts
of every sector start again; a sector whose count has reached the budget, every pulse emitted so far counted (entry 26,
DEDUCED), while the angle lies in it, is dark. The window is not ended before 98 hundredths of BUDGET_WIN have passed
(R285; entry 37). Concludes that exec answers a next state for: `agreementFault`, `budgetWindowEnd`, `rampTimeExpiry`,
`sectorBudgetReached`, `speedWindow`, `standstill`, `twilightTimeout`. -/
def Obligations.SupervisorTimers : Prop :=
  (∀ (s : State) (t : Nat), s.sv.windowAt = some t → s.clock < t + windowPeriod → exec .speedWindow s = .next s) ∧
  (∀ s : State, s.sv.run ≠ .init → s.since s.sv.windowAt windowPeriod = true →
    ∃ t, exec .speedWindow s = .next t ∧ t.sv.windowAt = some s.clock ∧
      (∀ e, e ≤ 1 → (t.svEnc e).lastWindow = (s.svEnc e).window ∧ (t.svEnc e).window = 0 ∧
        (t.svEnc e).count = (s.svEnc e).count) ∧ t.hist = s.hist ∧ t.eng = s.eng) ∧
  (∀ s : State, 10 ≤ s.sv.agreeRun →
    ∃ t, exec .agreementFault s = .next t ∧ t.sv.faults.contains .agreement = true) ∧
  (∀ s : State, s.sv.run = .dusk → s.standing = true →
    ∃ t, exec .standstill s = .next t ∧ t.sv.run = .eclipse ∧
      t.dev.run = (if s.dev.warm then s.dev.run else .eclipse) ∧ t.sv.sto = false ∧
      (∀ n, n ∈ s.runningSeqs → (t.seq n).stops = (s.seq n).stops ++ [{ mode := 1, reason := Reasons.safety }])) ∧
  (∀ (s : State) (since : Nat) (v : Int), s.sv.run = .dusk → s.sv.dusk = some (since, v) →
    since + s.sv.active.sv.rampTime * 1000000 ≤ s.clock →
    ∃ t, exec .rampTimeExpiry s = .next t ∧ t.sv.run = .eclipse ∧
      t.dev.run = (if s.dev.warm then s.dev.run else .eclipse) ∧ t.sv.sto = false) ∧
  (∀ s : State, s.sv.run = .twilight → s.sv.twilightFrom + s.sv.active.sv.twilightTime * 1000000000 ≤ s.clock →
    exec .twilightTimeout s = .next s.safeStop) ∧
  (∀ s : State, s.sv.run ≠ .init → s.sv.budgetStart + s.sv.budgetWin * 1000000 ≤ s.clock →
    ∃ t, exec .budgetWindowEnd s = .next t ∧ (∀ k, t.sectorCount k = 0) ∧
      t.sv.budgetStart = s.clock ∧ t.sv.budgetWin = s.limitSet.budgetWin ∧
      t.sv.run = s.sv.run ∧ t.sv.permit = s.sv.permit) ∧
  (∀ s : State, s.clock * 100 < s.sv.budgetStart * 100 + s.sv.budgetWin * 1000000 * 98 →
    exec .budgetWindowEnd s = .next s) ∧
  (∀ (s : State) (k : Nat), s.countEmitted.sectorCount k < s.countEmitted.budget →
    exec (.sectorBudgetReached k) s = .next s) ∧
  (∀ s : State, s.svSector ≤ 63 → s.countEmitted.budget ≤ s.countEmitted.sectorCount s.svSector →
    ∃ t, exec (.sectorBudgetReached s.svSector) s = .next t ∧ t.sv.dark = true ∧ t.sv.run = s.sv.run ∧
      t.sv.permit = s.sv.permit)

/-- Faults of the supervisor and of the encoders (R270, R273, R291, R296, R303): in Ranging a first single fault in NORMAL
leads to TWILIGHT, one in TWILIGHT to DUSK, a stop fault to ECLIPSE, torque removed at once, from DUSK in a warm reset too
(entry 39); each is held as standing until its cause has gone (entry 38), and a change of SSTA or SSTB as it reads is a
cause (R421). Before the Self-test of a cold start has ended no pair is looked at (R401). An open pair at the stamping
path is a count error, at the supervisor's own receiver a failure of the encoder until it has been sound for 10 ms; a
count error not cleared within 10 ms fails it. Concludes that exec answers a next state for: `countErrorNotCleared`,
`encoderPairFault`, `encoderPairRestored`, `supervisorFault`. -/
def Obligations.SupervisorFaults : Prop :=
  (∀ (s : State) (n : Nat) (c : SvFaultCause), n ≤ 1 → (c = .stoReadback n ∨ c = .darkReadback n ∨ c = .sstReadback n) →
    s.ranging = true → s.sv.run = .normal → s.sv.faults.contains (faultOf c) = false →
    ∃ t, exec (.supervisorFault ⟨c, true⟩) s = .next t ∧ t.sv.run = .twilight ∧ t.sv.faults = s.sv.faults ++ [faultOf c] ∧
      t.sv.standing.contains (faultOf c) = true ∧
      t.sv.counters.twilightEntries = s.sv.counters.twilightEntries.inc ∧ t.dev.run = .ranging) ∧
  (∀ (s : State) (n : Nat) (c : SvFaultCause), n ≤ 1 → (c = .stoReadback n ∨ c = .darkReadback n ∨ c = .sstReadback n) →
    s.ranging = true → s.sv.run = .twilight → s.sv.faults.contains (faultOf c) = false →
    ∃ t, exec (.supervisorFault ⟨c, true⟩) s = .next t ∧ t.sv.run = .dusk ∧
      t.sv.counters.safeStops = s.sv.counters.safeStops.inc) ∧
  (∀ (s : State) (c : SvFaultCause), (c = .coreMismatch ∨ c = .oscillator ∨ c = .supplyMonitor) →
    ((s.ranging = true ∧ (s.sv.run = .normal ∨ s.sv.run = .twilight)) ∨ s.sv.run = .dusk) →
    ∃ t, exec (.supervisorFault ⟨c, true⟩) s = .next t ∧ t.sv.run = .eclipse ∧
      t.dev.run = (if s.dev.warm then s.dev.run else .eclipse) ∧ t.sv.sto = false ∧ t.sv.dark = true ∧
      t.sv.counters.stopFaults = s.sv.counters.stopFaults.inc) ∧
  (∀ (s : State) (n : Nat) (c : SvFaultCause), n ≤ 1 → c = .sstReadback n →
    ∃ t, exec (.supervisorFault ⟨c, false⟩) s = .next t ∧
      t.sv = { s.sv with standing := s.sv.standing.filter (· ≠ faultOf c) } ∧
      ((t.sv.sstaReads ≠ s.sv.sstaReads ∨ t.sv.sstbReads ≠ s.sv.sstbReads) → t.regs.intStatus.getLsbD 3 = true) ∧
      (t.sv.sstaReads = s.sv.sstaReads → t.sv.sstbReads = s.sv.sstbReads → t.regs = s.regs)) ∧
  (∀ (s : State) (c : SvFaultCause), c.lineOk = true → (∀ n, n ≤ 1 → c ≠ .sstReadback n) →
    exec (.supervisorFault ⟨c, false⟩) s =
      .next { s with sv := { s.sv with standing := s.sv.standing.filter (· ≠ faultOf c) } }) ∧
  (∀ (s : State) (e : Nat) (b : Bool), s.ballsActed = false → exec (.encoderPairFault ⟨e, b⟩) s = .next s) ∧
  (∀ (s : State) (e : Nat), e ≤ 1 → (s.encCfg e).enable ≠ 0 → s.ballsActed = true →
    ∃ t, exec (.encoderPairFault ⟨e, true⟩) s = .next t ∧ (t.svEnc e).pairOpen = true ∧ t.encFailed e = true ∧
      t.scan = s.scan) ∧
  (∀ (s : State) (e : Nat), e ≤ 1 → (s.encCfg e).enable ≠ 0 → s.ballsActed = true →
    ∃ t, exec (.encoderPairFault ⟨e, false⟩) s = .next t ∧ (t.svEnc e).countError = true ∧
      (t.svEnc e).pairOpen = (s.svEnc e).pairOpen ∧
      (t.encoder e).countErrors = (s.encoder e).countErrors.inc ∧ (t.estimator e).valid = false) ∧
  (∀ (s : State) (e : Nat), e ≤ 1 → (s.svEnc e).pairOpen = true → (s.svEnc e).pairAt + 10000000 ≤ s.clock →
    ∃ t, exec (.encoderPairRestored e) s = .next t ∧ (t.svEnc e).pairOpen = false ∧ t.sv.faults = s.sv.faults) ∧
  (∀ (s : State) (e : Nat), e ≤ 1 → (s.svEnc e).countError = true → (s.svEnc e).countFailed = false →
    (s.svEnc e).countErrorAt + 10000000 ≤ s.clock →
    ∃ t, exec (.countErrorNotCleared e) s = .next t ∧ (t.svEnc e).countFailed = true ∧ t.encFailed e = true)

/-! ## Calibration -/

/-- The commands of calibration that set, schedule and store: each does what its rule says and nothing else (R314 to R316,
R319, R321, R384, R392). A cleared AUTO bit stops the automatic runs that are scheduled (R314). CAL_SET_WRITE takes the
values of one set, whose TEMP keeps the sets in rising order (R312); a store that verifies writes the slot that is not in
force. The wait while a bank holds a step is entry 44, that SET may be the next one and the check of the VERNIER object
are entry 42, the slot is entry 43. Concludes that exec answers a next state for: `calConfig`, `calRun`, `calSetRead`,
`calSetWrite`, `calStaLearn`, `calStore`, `calTarget`. -/
def Obligations.CalibrationCommands : Prop :=
  (∀ (s : State) (c : CalCfg), s.admits (.calConfig c) = true → calCfgOk c = true →
    (s.ranging = true → c.refOut = s.cal.cfg.refOut ∧ c.refCh = s.cal.cfg.refCh) →
    c.auto % 4 = 3 → s.cal.track = none →
    completes (.calConfig c) s { s with cal := { s.cal with cfg := c } } .ok []) ∧
  (∀ (s : State) (c : CalCfg), s.admits (.calConfig c) = true → calCfgOk c = true →
    (s.ranging = true → c.refOut = s.cal.cfg.refOut ∧ c.refCh = s.cal.cfg.refCh) →
    ∃ u, completes (.calConfig c) s u .ok [] ∧ u.cal.cfg = c ∧
      (c.auto % 2 = 0 → (s.calStore calVernier).valid = true → (u.calRunState 0).scheduled =
        (s.calRunState 0).scheduled.filter fun i => (s.calRunState 0).asked.contains i) ∧
      (c.auto / 2 % 2 = 0 → (u.calRunState 1).scheduled =
        (s.calRunState 1).scheduled.filter fun k => (s.calRunState 1).asked.contains k) ∧
      (∀ k, (u.calRunState k).asked = (s.calRunState k).asked) ∧
      (∀ r, s.cal.track = some r → r.sensor ∈ (u.calRunState 1).scheduled → u.cal.track = some r) ∧
      (∀ r, s.cal.track = some r → r.sensor ∉ (u.calRunState 1).scheduled → u.cal.track = none) ∧
      u = { s with cal := { s.cal with cfg := c, runs := u.cal.runs, track := u.cal.track }, tx := { s.tx with lanes := u.tx.lanes } }) ∧
  (∀ (s : State) (function force first count : Nat), s.admits (.calRun function force first count) = true → function ≤ 2 →
    force ≤ 1 → (function = 0 → 1 ≤ count ∧ first + count ≤ 576) → (function = 2 → 1 ≤ count ∧ first + count ≤ 96) →
    (function = 1 → first = 0 ∧ count = 0) → s.pll.locked = true → s.runUnready function first count = false →
    completes (.calRun function force first count) s
      (s.setCalRunState function
        ((s.calRunState function).command (if function = 1 then List.range 16 else numbers first count))) .accepted []) ∧
  (∀ (s : State) (force : Nat), s.admits (.calRun 3 force 0 0) = true → force ≤ 1 → s.dev.bist = false →
    s.dev.run = .readyIdle → s.anyRunning = false → s.pll.locked = true → s.banksIdle = true →
    ∃ s' : State, completes (.calRun 3 force 0 0) s s' .accepted [] ∧ s'.dev.bist = true ∧ s'.dev.bistReady = s.dev.ready ∧
      s'.isReady readyEngines = false ∧ (∀ k < 8, s'.isReady (readyHg k) = false) ∧
      (s'.tx, s'.sq, s'.rx, s'.hist, s'.eng, s'.sv, s'.tb) = (s.tx, s.sq, s.rx, s.hist, s.eng, s.sv, s.tb)) ∧
  (∀ (s : State) (force : Nat), s.admits (.calRun 3 force 0 0) = true → force ≤ 1 → s.dev.bist = false →
    s.ranging = false → s.anyRunning = false → s.pll.locked = true → s.banksIdle = false →
    completes (.calRun 3 force 0 0) s (s.setCalRunState 3 ((s.calRunState 3).command [0])) .accepted []) ∧
  (∀ s : State, s.admits (.calRun 4 1 0 0) = true → s.ranging = true → s.dev.run ≠ .boot → s.dev.run ≠ .selfTest →
    s.pll.anyUsable = true → s.pll.relocking = false → s.pll.forced = none → s.pll.locked = true → s.anyRunning = true →
    completes (.calRun 4 1 0 0) s
      { s.stopSequencers Reasons.forced with pll := { s.pll with forced := some .recal } } .accepted []) ∧
  (∀ (s : State) (force : Nat), s.admits (.calRun 4 force 0 0) = true → force ≤ 1 → s.dev.run = .readyIdle →
    s.pll.anyUsable = true → s.pll.relocking = false → s.pll.forced = none → s.pll.locked = true → s.anyRunning = false →
    completes (.calRun 4 force 0 0) s (s.performPll .recal) .accepted []) ∧
  (∀ (s : State) (force : Nat), s.admits (.calRun 4 force 0 0) = true → force ≤ 1 → s.dev.run = .eclipse →
    s.pll.anyUsable = true → s.pll.relocking = false → s.pll.forced = none → s.pll.locked = true →
    completes (.calRun 4 force 0 0) s (s.setCalRunState 4 ((s.calRunState 4).command [0])) .accepted []) ∧
  (∀ (s : State) (force : Nat), s.admits (.calRun 4 force 0 0) = true → force ≤ 1 →
    (s.dev.run = .boot ∨ s.dev.run = .selfTest ∨ s.pll.anyUsable = false) →
    (s.ranging = false ∨ force = 1) →
    completes (.calRun 4 force 0 0) s s .notReady []) ∧
  (∀ (s : State) (o k : Nat) (temp : Int) (len src : Nat) (vs : List Int),
    s.admits (.calSetWrite o k temp len src (some vs)) = true → (o = 1 ∨ o = 2 ∨ o = 3 ∨ o = 5) → k ≤ 7 →
    k ≤ (s.calWork o).length → len = 2 * calItems o → vs.length = calItems o → (∀ v ∈ vs, -32768 ≤ v ∧ v ≤ 32767) →
    s.dmaOk = true → tempsRise (putSet (s.calWork o) k { temp := temp, vals := valsOf vs }) = true →
    completes (.calSetWrite o k temp len src (some vs)) s
      (s.setCalWork o (putSet (s.calWork o) k { temp := temp, vals := valsOf vs })) .ok []) ∧
  (∀ (s : State) (k : Nat) (temp : Int) (len src : Nat) (data : Option (List Int)),
    s.admits (.calSetWrite 4 k temp len src data) = true →
    completes (.calSetWrite 4 k temp len src data) s s (if len = 576 * 4 * 41 * 2 then .locked else .badArg) []) ∧
  (∀ (s : State) (o k : Nat) (temp : Int) (len src : Nat) (data : Option (List Int)),
    s.admits (.calSetWrite o k temp len src data) = true → (o = 1 ∨ o = 2 ∨ o = 3 ∨ o = 5) → len ≠ 2 * calItems o →
    completes (.calSetWrite o k temp len src data) s s .badArg []) ∧
  (∀ (s : State) (o k dst : Nat) (x : CalSet), s.admits (.calSetRead o k dst) = true → (o = 1 ∨ o = 2 ∨ o = 3 ∨ o = 5) →
    (s.calWork o)[k]? = some x →
    s.canShow dst (blockOf ((List.range (calItems o)).map fun i => fS16 (x.item i))).length = true →
    shows (.calSetRead o k dst) s s dst (blockOf ((List.range (calItems o)).map fun i => fS16 (x.item i)))) ∧
  (∀ (s : State) (mode k first count range steps : Nat), s.admitsWait (.calTarget mode k first count range steps) = true →
    mode ≤ 1 → k ≤ 7 → k < (s.calWork 5).length → 1 ≤ count → first + count ≤ 512 → 1 ≤ steps →
    (∀ c ∈ numbers first count, s.watchedNow c = true) →
    waitsFor (.calTarget mode k first count range steps) s
      { s with cal := { s.cal with targets := s.cal.targets ++ [
        { id := freshId (s.cal.targets.map (·.id)), mode := mode, set := k, first := first, count := count, range := range,
          steps := steps, since := s.now, sums := [] }] } }
      (.calTarget (freshId (s.cal.targets.map (·.id))))) ∧
  (∀ (s : State) (k shots : Nat) (rows : BitVec 64), s.admitsWait (.calStaLearn k shots rows) = true → k ≤ 7 →
    k < (s.calWork 5).length → 1 ≤ shots → rows ≠ 0 → (∀ r ∈ rowsOf rows, s.staOfRow r ≠ none) →
    waitsFor (.calStaLearn k shots rows) s
      { s with cal := { s.cal with learns := s.cal.learns ++ [
        { id := freshId (s.cal.learns.map (·.id)), set := k, shots := shots, rows := rows, sums := [] }] } } (.staLearn (freshId (s.cal.learns.map (·.id))))) ∧
  (∀ (l : List Nat), freshId l ∉ l) ∧
  (∀ (s : State) (o : Nat), s.admits (.calStore o true) = true → (o = 1 ∨ o = 2 ∨ o = 3 ∨ o = 5) →
    s.isReady readyRetention = true →
    completes (.calStore o true) s (s.setCalStore o ((s.calStore o).write (.sets (s.calWork o)) true)) .ok [])

/-- A store that verifies becomes the slot in force, with the next generation; one that does not leaves the slot in force
as it was, and the journal with a STORE_BEGIN without STORE_DONE, which the next start reports as STORE_INTERRUPTED (R318,
R319). That a failed verification leaves it so is the model's reading (entry 43). A calibration value lies on its first
set up to that set's TEMP, on its last from its TEMP on, and on the sets themselves; between two sets it is linear, to the
nearest tq, halves upward; an object without sets gives 0 (R312, R320). -/
def Obligations.CalibrationValues : Prop :=
  (∀ (x : CalStore) (p : CalPayload),
    (x.write p true).inForce = some { objectId := x.id, version := 1, generation := x.generation + 1, length := p.size x.id,
                                      payload := p, crcDiff := 0 } ∧
      (x.write p true).begun = none ∧
      (x.write p false).inForce = x.inForce ∧ (x.write p false).begun = some (x.generation + 1) ∧
      (x.write p false).scan.interrupted = some (x.generation + 1)) ∧
  (∀ (i : Nat) (t : Int), interpolate i t [] = 0) ∧
  (∀ (i : Nat) (t : Int) (a : CalSet) (l : List CalSet), t ≤ a.temp → interpolate i t (a :: l) = a.item i) ∧
  (∀ (i : Nat) (t : Int) (l : List CalSet) (a : CalSet), tempsRise (l ++ [a]) = true → a.temp ≤ t →
    interpolate i t (l ++ [a]) = a.item i) ∧
  (∀ (i : Nat) (l r : List CalSet) (a : CalSet), tempsRise (l ++ a :: r) = true →
    interpolate i a.temp (l ++ a :: r) = a.item i) ∧
  (∀ (i : Nat) (t : Int) (l r : List CalSet) (a b : CalSet), tempsRise (l ++ a :: b :: r) = true → a.temp ≤ t → t < b.temp →
    interpolate i t (l ++ a :: b :: r) =
      roundDiv (a.item i * (b.temp - a.temp) + (b.item i - a.item i) * (t - a.temp)) (b.temp - a.temp)) ∧
  (∀ n d : Int, 0 < d → 2 * d * roundDiv n d ≤ 2 * n + d ∧ 2 * n < 2 * d * roundDiv n d + d)

/-- TEMPERATURE_UPDATE gives the sensors their readings and every per-set value its interpolation, and nothing else while
the firmware does not run; with it, a reading of 135 °C makes a safe stop and a SAFETY_CHANGED (R312, R446), and an
idle-only function that has run is scheduled once the die has moved by more than ΔT since its last successful run (R315).
That the hottest sensor counts, when the stop is armed again and that idle-only functions alone wait for Ready-idle are
entry 42 (DEDUCED). A scheduled nonlinearity run that passes notes the time and the temperature and gives its input new
tables, in force at once or from the next gate that opens (that it passes, and the tables, follow from the histograms of
its four converters, entries 16 and 42); one that fails is counted, notes its time and temperature, by which no drift is
measured, and leaves the tables; where it injected during gates those are marked and edges are blanked (R82, R308, R315,
R316). A skew run on a sensor asks its lanes for test pulses and ends when they are served: a measurement within 64 tq of
its nominal value corrects, one beyond is counted and corrects nothing (R315, R317). The whole-memory BIST ends: channels
that failed leave service, engines that failed are QUARANTINED, no bank but a held one keeps its content, the device goes
on; a failed result buffer is Nadir (R392). Its completion, failed or not, is the run that CAL_STATUS tells of (R322).
Concludes that exec answers a next state for: `nonlinearityRun`, `skewTracking`, `temperatureUpdate`, `wholeMemoryBist`. -/
def Obligations.CalibrationRuns : Prop :=
  (∀ (s : State) (rs : List Int), rs.length = 16 → s.dev.rstLow = false → s.dev.fwRunning = false →
    ∃ t, exec (.temperatureUpdate rs) s = .next t ∧ (∀ k < 16, t.sensor k = rs.getD k 0) ∧
      (∀ o ∈ [calOut, calIn, calLane, calTof], t.calForce o = t.calValues o) ∧
      t = { s with cal := { s.cal with sensors := t.cal.sensors, inForce := t.cal.inForce } }) ∧
  (∀ (s : State) (rs : List Int), rs.length = 16 → s.dev.rstLow = false → s.dev.fwRunning = true →
    (∀ r ∈ rs, r < 1040) →
    (s.dev.run = .readyIdle → ∀ k ∈ [(3 : Nat), 4], (s.calRunState k).scheduled = [] ∧ (s.calRunState k).done = false) →
    ∃ t, exec (.temperatureUpdate rs) s = .next t ∧ (∀ k < 16, t.sensor k = rs.getD k 0) ∧
      (∀ o ∈ [calOut, calIn, calLane, calTof], t.calForce o = t.calValues o) ∧ t.cal.hot = false ∧
      t = { s with cal := { s.cal with sensors := t.cal.sensors, inForce := t.cal.inForce, runs := t.cal.runs, hot := false } }) ∧
  (∀ (s : State) (rs : List Int), rs.length = 16 → s.dev.rstLow = false → s.dev.fwRunning = true → s.cal.hot = false →
    (∃ r ∈ rs, 1080 ≤ r) →
    (s.dev.run = .readyIdle → ∀ k ∈ [(3 : Nat), 4], (s.calRunState k).scheduled = [] ∧ (s.calRunState k).done = false) →
    ∃ u : State, exec (.temperatureUpdate rs) s = .next (u.safeStop.cause 3) ∧ (∀ k < 16, u.sensor k = rs.getD k 0) ∧
      u.cal.hot = true ∧
      u = { s with cal := { s.cal with sensors := u.cal.sensors, inForce := u.cal.inForce, runs := u.cal.runs, hot := true } }) ∧
  (∀ (s : State) (k : Nat), k ≤ 4 → (s.calRunState k).done = true →
    8 * s.cal.cfg.deltaT < (s.dieTemp - (s.calRunState k).reading 0).natAbs →
    0 ∈ ((s.scheduleIdle k).calRunState k).scheduled) ∧
  (∀ (s : State) (i : Nat) (hs : List (List Nat)) (ts : List VernierTables), i < 576 → s.dev.fwRunning = true →
    i ∈ (s.calRunState 0).scheduled → runPasses hs = true → ts = hs.map tablesOf →
    ∃ t, exec (.nonlinearityRun i hs ⟨none⟩) s = .next t ∧ i ∉ (t.calRunState 0).scheduled ∧
      (t.calRunState 0).lastTime = s.now ∧ (t.calRunState 0).lastReading = s.sensor (inSensor i) ∧
      (t.calRunState 0).reading i = s.sensor (inSensor i) ∧
      (s.opensGates i = true → (t.input i).newTables = some ts ∧ (t.input i).convs = (s.input i).convs) ∧
      (s.opensGates i = false → (t.input i).newTables = none ∧ ∀ k < 4, ∀ v, ts[k]? = some v →
        (Tab.get Converter.reset (t.input i).convs k).tables = v) ∧
      (∀ j, j ≠ i → t.input j = s.input j) ∧
      t = { s with cal := { s.cal with runs := t.cal.runs }, rx := { s.rx with inputs := t.rx.inputs } }) ∧
  (∀ (s : State) (i : Nat) (hs : List (List Nat)), i < 576 → s.dev.fwRunning = true →
    i ∈ (s.calRunState 0).scheduled → runPasses hs = false →
    exec (.nonlinearityRun i hs ⟨none⟩) s = .next
      (({ s with cal := { s.cal with nlFail := s.cal.nlFail.inc } } : State).setCalRunState 0
        { (s.calRunState 0).drop i with lastReading := s.sensor (inSensor i), lastTime := s.now })) ∧
  (∀ (s : State) (i : Nat) (hs : List (List Nat)) (a b : Tq), i < 512 → s.dev.fwRunning = true →
    i ∈ (s.calRunState 0).scheduled →
    exec (.nonlinearityRun i hs ⟨some (a, b)⟩) s =
      exec (.nonlinearityRun i hs ⟨none⟩) (s.keepBlanked { channel := i, lo := a, hi := b, interleaved := true })) ∧
  (∀ (s : State) (k w d : Nat), k ≤ 15 → (512 ≤ w ∧ w ≤ 32768) → (1024 ≤ d ∧ d ≤ 1024000000) → s.dev.fwRunning = true →
    s.tracks = true → k ∈ (s.calRunState 1).scheduled → s.cal.track = none →
    ∃ t r, exec (.skewTracking k w d) s = .next t ∧ t.cal.track = some r ∧ r.sensor = k ∧ r.outM = [] ∧ r.inM = [] ∧
      t = { s with cal := { s.cal with track := some r }, tx := { s.tx with lanes := t.tx.lanes } }) ∧
  (∀ (s : State) (k w d o : Nat) (m : Int), k ≤ 15 → (512 ≤ w ∧ w ≤ 32768) → (1024 ≤ d ∧ d ≤ 1024000000) → o ≤ 127 →
    s.dev.fwRunning = true → s.tracks = true → k ∈ (s.calRunState 1).scheduled →
    s.cal.track = some { sensor := k, todo := [], outM := [(o, m)], inM := [] } →
    (∀ l < 8, s.laneTracks l = false) →
    exec (.skewTracking k w d) s = .next
      (({ s with cal := { s.cal with
          track := none
          outCorr := if (m - Tab.get 0 (s.calForce calOut) (136 + o)).natAbs ≤ 64
            then Tab.put 0 s.cal.outCorr o (m - Tab.get 0 (s.calForce calOut) (136 + o)) else s.cal.outCorr
          driftLimit := if (m - Tab.get 0 (s.calForce calOut) (136 + o)).natAbs ≤ 64
            then s.cal.driftLimit else s.cal.driftLimit.inc } } : State).setCalRunState 1
        ((s.calRunState 1).ran k (s.sensor k) s.now))) ∧
  (∀ (s : State) (k w d c : Nat) (m x : Int), k ≤ 15 → (512 ≤ w ∧ w ≤ 32768) → (1024 ≤ d ∧ d ≤ 1024000000) → c ≤ 511 →
    s.dev.fwRunning = true → s.tracks = true → k ∈ (s.calRunState 1).scheduled →
    s.cal.track = some { sensor := k, todo := [], outM := [], inM := [(c, m)] } →
    (∀ l < 8, s.laneTracks l = false) →
    x = m - Tab.get 0 (s.calForce calIn) (576 + c) - Tab.get 0 s.cal.outCorr (s.cal.cfg.refOut.getD (c / 64) 0) →
    exec (.skewTracking k w d) s = .next
      (({ s with cal := { s.cal with
          track := none
          inCorr := if x.natAbs ≤ 64 then Tab.put 0 s.cal.inCorr c x else s.cal.inCorr
          driftLimit := if x.natAbs ≤ 64 then s.cal.driftLimit else s.cal.driftLimit.inc } } : State).setCalRunState 1
        ((s.calRunState 1).ran k (s.sensor k) s.now))) ∧
  (∀ (s : State) (r : BistResult), s.dev.bist = true → s.dev.fwRunning = true → r.bufferOk = true →
    ∃ t, exec (.wholeMemoryBist r) s = .next t ∧ t.dev.bist = false ∧ t.dev.bistResult = some r ∧ t.dev.run = s.dev.run ∧
      (∀ c ∈ r.channels ++ r.pools, c < 512 → (t.chan c).failed = true) ∧
      (∀ e ∈ r.engines, e < 96 → (t.engine e).run = .quarantined) ∧ (t.calRunState 3).lastTime = s.now ∧
      (t.calRunState 3).lastReading = s.dieTemp ∧
      (∀ b, (s.bank b).state ≠ .held → t.bank b = Bank.reset) ∧ t.tx = s.tx ∧ t.sq = s.sq ∧ t.tb = s.tb ∧ t.sv = s.sv) ∧
  (∀ (s : State) (r : BistResult), s.dev.bist = true → s.dev.fwRunning = true → r.bufferOk = false →
    ∃ t, exec (.wholeMemoryBist r) s = .next t ∧ t.dev.run = .nadir ∧ t.sv.run = .nadir)

/-! ## Start-up, resets and the system -/

/-- RST_N, PCIE_PERST_N and the link (R324, R344, R346, R362, R363, R387, R389, R393, R439): a falling RST_N or a supply
out of range is a cold reset; a rising RST_N lets the boot ROM read the flash header and run the image that it chooses
(the other one where that fails to load, a free value, entry 16), unless one was committed over an empty flash and needs a
cold reset. Where there is none the device stays in Boot, dark and without torque (R363), until a cold reset (entry 49,
DESIGN CHOICE). PCIE_PERST_N low clears the configuration space, the MSI-X table and what was pending, the masks among it
(entry 14); PCIE_LINK_UP gives READY.PCIE. What a level of RST_N does beside a cold reset by the supply is entry 45. A
cold reset keeps what retention memory, the flash and the balls hold (R397, R408; the levels of the encoder balls, entry
44, DEDUCED), and leaves the rest as after power-up; what has left the device and the commands that wait are the model's
own record (entries 1 and 18). A warm reset (R398, R404): the firmware stops, every running sequencer is asked to stop at
its next granule boundary with reason FORCED, the registers and schedule inputs of EMITTER and GATE outputs and the places
of the event channels empty; open gates, banks, engines, committed results and what was delivered stay, and so do Polestar
and the supervisor's configuration. Work that a command asked for is given up. WARM_RESET is answered OK, and the third
watchdog expiry within 1 s leads to Nadir (R399). What counts as such work, and from when the second counts, are entry 44
(DEDUCED). Concludes that exec answers a next state for: `firmwareStart`, `pcieLinkUp`, `pciePerst`, `rstNFall`,
`rstNRise`, `supplyOutOfRange`, `warmReset`, `watchdogExpiry`. -/
def Obligations.Resets : Prop :=
  (∀ s : State, s.dev.rstLow = false → exec .rstNFall s = .next (s.coldReset true)) ∧
  (∀ s : State, s.dev.rstLow = false → exec .supplyOutOfRange s = .next (s.coldReset false)) ∧
  (∀ s : State, exec .rstNRise s = .next { s with dev := { s.dev with rstLow := false } }) ∧
  (∀ (s : State) (k : Nat), s.dev.rstLow = false → s.dev.fwRunning = false → s.dev.needsCold = false → s.dev.run = .boot →
    s.dev.noImage = false → s.dev.retesting = false → s.dev.passed = [] → s.fw.choose (Config.loadFails s.fresh) = some k →
    ∃ t, exec .firmwareStart s = .next t ∧ t.fw.running = some k ∧ t.dev.fwRunning = true ∧ t.dev.run = .selfTest ∧
      t.dev.derived = true ∧ Sent.flash 0x03 0 12500000 0 ∈ t.sent ∧
      (∀ j ∈ s.fw.tried (Config.loadFails s.fresh), s.fw.header.read j ∈ t.sent) ∧
      t.isReady readyPcie = (s.regs.pcie.linkUp && !s.dev.warm) ∧ t.sq = s.sq ∧ t.sv.run = s.sv.run ∧
      t.sv.active = s.sv.active ∧ t.motor = s.motor ∧
      (s.dev.derived = true → t.eng = s.eng ∧ t.ret = s.ret) ∧
      (s.dev.derived = true → s.pll.locked = true → t.tb = s.tb ∧ t.pll = s.pll) ∧
      (s.dev.derived = false → t.sv.keysRestored = true ∧ t.ret.commit = none)) ∧
  (∀ (s : State), s.dev.rstLow = false → s.dev.fwRunning = false → s.dev.needsCold = false → s.dev.noImage = false →
    s.fw.choose (Config.loadFails s.fresh) = none →
    ∃ t, exec .firmwareStart s = .next t ∧ t.fw = s.fw ∧ t.dev.fwRunning = false ∧ t.dev.run = s.dev.run ∧
      t.dev.noImage = true ∧ t.sv.dark = true ∧ t.sv.sto = false ∧ Sent.flash 0x03 0 12500000 0 ∈ t.sent ∧
      (∀ j ∈ s.fw.tried (Config.loadFails s.fresh), s.fw.header.read j ∈ t.sent) ∧ t.sq = s.sq) ∧
  (∀ f : Firmware, (∀ fails, ((f.slot 0).runs f.minSec = false → (f.slot 1).runs f.minSec = false → f.choose fails = none)) ∧
    ((f.slot 0).runs f.minSec = true → (f.slot 1).runs f.minSec = false → f.choose false = some 0 ∧ f.choose true = none) ∧
    ((f.slot 0).runs f.minSec = false → (f.slot 1).runs f.minSec = true → f.choose false = some 1 ∧ f.choose true = none) ∧
    ((f.slot 0).runs f.minSec = true → (f.slot 1).runs f.minSec = true →
      (f.slotA.generation - f.slotB.generation).toNat < 2 ^ 31 → f.choose false = some 0 ∧ f.choose true = some 1)) ∧
  (∀ s : State, (s.dev.rstLow = true ∨ s.dev.fwRunning = true ∨ s.dev.needsCold = true ∨ s.dev.noImage = true) →
    exec .firmwareStart s = .next s) ∧
  (∀ s : State, exec (.pciePerst true) s =
    .next { s with regs := { s.regs with pcie := { s.regs.pcie with perst := true } } }) ∧
  (∀ s : State, ∃ t, exec (.pciePerst false) s = .next t ∧ t.regs.pcie.perst = false ∧ t.regs.pcie.linkUp = false ∧
    t.regs.pcie.busMaster = false ∧ t.regs.pcie.linkReset = true ∧ t.regs.pcie.config = PcieConfig.reset ∧
    t.regs.pcie.msixTable = [] ∧ t.regs.pcie.msixMask = [] ∧ t.regs.pcie.msixPending = [] ∧ t.isReady readyPcie = false ∧
    t.tx = s.tx ∧ t.sq = s.sq ∧ t.sv = s.sv) ∧
  (∀ s : State, s.regs.pcie.perst = true → s.dev.rstLow = false → s.regs.pcie.linkUp = false →
    ∃ t, exec .pcieLinkUp s = .next t ∧ t.regs.pcie.linkUp = true ∧ t.regs.pcie.busMaster = false ∧
      t.regs.pcie.linkReset = true ∧ t.isReady readyPcie = (s.dev.fwRunning && !s.dev.warm) ∧ t.tx = s.tx ∧ t.sq = s.sq ∧
        t.eng = s.eng) ∧
  (∀ (s : State) (marker : Bool),
    (s.coldReset marker).dev = State.reset.dev ∧ (s.coldReset marker).tb = State.reset.tb ∧
    (s.coldReset marker).tx = State.reset.tx ∧ (s.coldReset marker).sq = State.reset.sq ∧
    (∀ e, (s.coldReset marker).encoder e = { Encoder.reset with a := (s.encoder e).a, b := (s.encoder e).b }) ∧
    (s.coldReset marker).scan = { State.reset.scan with encoders := (s.coldReset marker).scan.encoders } ∧ (s.coldReset marker).hist = State.reset.hist ∧
    (s.coldReset marker).eng = State.reset.eng ∧ (s.coldReset marker).fab = State.reset.fab ∧
    (s.coldReset marker).net = State.reset.net ∧
    (s.coldReset marker).cal.stores = s.cutStore.cal.stores ∧ (s.coldReset marker).sv.active = s.cutStore.storedSafety ∧
    (s.coldReset marker).sv.keysRestored = false ∧
    (s.coldReset marker).sv.run = .init ∧ (s.coldReset marker).pll.hops = s.cutStore.storedHops ∧
    (s.coldReset marker).ret = { s.ret with commit := s.governing, resetMarker := s.ret.resetMarker || marker } ∧
    (s.coldReset marker).fw = { s.fw with running := none, update := none } ∧
    (∀ m, ((s.coldReset marker).box m).journal = (s.box m).journal ∧ ((s.coldReset marker).box m).queue = []) ∧
    (s.coldReset marker).mbx.executing = none ∧ (s.coldReset marker).mbx.waiting = [] ∧ (s.coldReset marker).mbx.held = none ∧
    (∀ k, ((s.coldReset marker).calRunState k).scheduled = []) ∧
    (s.coldReset marker).pending = s.pending ∧ (s.coldReset marker).sent = s.sent) ∧
  (∀ (s : State) (force : Nat), s.admits (.warmReset force) = true → force ≤ 1 → (s.ranging = true → force = 1) →
    ∃ u, completes (.warmReset force) s u .ok [] ∧ u.dev.warm = true ∧ u.dev.fwRunning = false ∧ u.dev.run = .boot ∧
      u.fw.update = none ∧ u.fw.running = none ∧ u.mbx.waiting = [] ∧ u.sv.active = s.sv.active ∧ u.tb.sec = s.tb.sec ∧
      u.tb.ns = s.tb.ns ∧ u.mbx.baud = 115200 ∧
      (∀ n, n ≤ 7 → (s.seq n).running = true →
        (u.seq n).stops = (s.seq n).stops ++ [{ mode := 1, reason := Reasons.forced }] ∧ (u.seq n).step = (s.seq n).step) ∧
      (∀ n, n ≤ 7 → (s.seq n).running = false → u.seq n = s.seq n) ∧
      (∀ o, o ≤ 135 → (s.out o).cfg.cls ≤ 1 → (u.out o).active = none ∧ (u.out o).next = none ∧ (u.out o).sched = []) ∧
      (∀ c, (u.evch c).holding = none) ∧
      (∀ n, n ≤ 63 → (u.stream n).committed = (s.stream n).committed ∧ (u.stream n).closed = (s.stream n).closed ∧
        (u.stream n).delivered = (s.stream n).delivered ∧ (u.stream n).ring.unconfirmed = (s.stream n).ring.unconfirmed) ∧
      u.rx.channels = s.rx.channels ∧ u.hist.banks = s.hist.banks ∧
      u.cal.targets = [] ∧ u.cal.learns = [] ∧ (∀ k, k ≤ 4 → (u.calRunState k).asked = []) ∧
      u.isReady readyPcie = false ∧ (∀ n, n ≤ 7 → u.isReady (readyFs n) = false)) ∧
  (∀ s : State, s.dev.rstLow = false → s.dev.fwRunning = true → s.dev.watchdogs = [] →
    ∃ t, exec .watchdogExpiry s = .next t ∧ t.dev.run = .boot ∧ t.dev.warm = true ∧
      t.regs.watchdogExpiries = s.regs.watchdogExpiries.inc) ∧
  (∀ (s : State) (a b : Nat), s.dev.rstLow = false → s.dev.fwRunning = true → s.dev.watchdogs = [a, b] →
    s.clock ≤ a + 1000000000 → s.clock ≤ b + 1000000000 →
    ∃ t, exec .watchdogExpiry s = .next t ∧ t.dev.run = .nadir ∧ t.sv.run = .nadir)

/-- Tests of a start, function tests, RETEST and function resets (R385, R390, R391, R396, R400, R405): a result is noted;
a failed device test is Nadir, a lockstep mismatch of the processor in operation a warm reset; the supervisor leaves INIT
by START_MODE, or for LOCKOUT where its object is missing, SV_COMMIT is awaited or a power warning stands (R297, R320,
R407); RETEST begins with every result of the run open and goes in the table's order; a hit group's bit of READY follows
its test, which makes the first full calibration of its channels (R144) and excludes what fails three times (R147); what
its function reset discards is counted (R13), while the whole-memory BIST runs it and RETEST are NOT_READY (R392); the
resets of a sequencer and of a port clear what R400 lists. The tries of a first calibration, the mismatch as a row of its
own, several resets at once and what a discard counts are entry 44 (in parts a DESIGN CHOICE); that VOUT_MODE is read as
the Self-test ends is entry 51 (DEDUCED). Concludes that exec answers a next state for: `deviceTestComplete`, `funcReset`,
`functionTestComplete`, `retest`, `svSelftestComplete`. -/
def Obligations.SelfTests : Prop :=
  (∀ (s : State) (t : SelfTest), isDeviceTest t = true → s.testUnderWay t = true →
    ∃ u, exec (.deviceTestComplete t false) s = .next u ∧ u.dev.run = .nadir ∧ u.dev.testRun = .failed ∧
      u.dev.failing = some t ∧ (t, false) ∈ u.dev.results ∧
      (s.regs.pmbus.modeRead = false → Sent.pmbus s.regs.pmbus.cfg.addr 0x20 none ∈ u.sent ∧ u.regs.pmbus.modeRead = true)) ∧
  (∀ (s : State) (t : SelfTest), isDeviceTest t = true → s.testUnderWay t = true → s.dev.retesting = false →
    s.dev.run = .nadir →
    ∃ u, exec (.deviceTestComplete t true) s = .next u ∧ u.dev.run = .nadir ∧ (t, true) ∈ u.dev.results ∧
      t ∈ u.dev.passed ∧ u.sv = s.sv) ∧
  (∀ s : State, s.sv.run = .init → s.dev.rstLow = false → SelfTest.processor ∉ s.dev.passed →
    ∃ u, exec (.svSelftestComplete true) s = .next u ∧ (SelfTest.supervisor, true) ∈ u.dev.results ∧
      u.isReady readySafety = true ∧ u.sv.run ≠ .init ∧
      (s.sv.active.sv.startMode = 0 → s.sv.awaitsCommit = false → (s.calStore calSafety).valid = true → s.dev.pfail = false →
        s.sv.lockAtStart = false → s.motor.mfltN = true → (∀ e, s.encFailed e = false) → u.sv.run = .normal) ∧
      ((s.sv.active.sv.startMode ≠ 0 ∨ s.sv.awaitsCommit = true ∨ (s.calStore calSafety).valid = false ∨ s.dev.pfail = true ∨
          s.sv.lockAtStart = true) →
        u.sv.run ≠ .normal ∧ u.sv.permit = false) ∧
      ((s.calStore calSafety).valid = false → u.sv.awaitsCommit = true)) ∧
  (∀ s : State, s.sv.run = .init → s.dev.rstLow = false →
    ∃ u, exec (.svSelftestComplete false) s = .next u ∧ u.dev.run = .nadir ∧ u.sv.run = .nadir) ∧
  (∀ (s : State) (k : Nat) (pass : Bool) (rs : List (Nat × Nat)), k ≤ 7 → s.dev.fwRunning = true →
    s.groupUnderTest k = true → s.dev.retesting = false → s.dev.run = .readyIdle →
    ∃ u, exec (.functionTestComplete (.hitGroup k) ⟨pass, rs⟩) s = .next u ∧ u.isReady (readyHg k) = pass ∧
      (SelfTest.hitGroup k, pass) ∈ u.dev.results ∧ u.dev.run = .readyIdle ∧
      (∀ a b, calPasses a b = true → rs = List.replicate 256 (a, b) →
        ∀ c ∈ groupChannels k, ∀ n < 4, (u.conv c n).m1 = a ∧ (u.conv c n).m2 = b ∧ (u.conv c n).excluded = false) ∧
      (rs = [] → ∀ c ∈ groupChannels k, ∀ n < 4, (u.conv c n).excluded = true)) ∧
  (∀ s : State, s.dev.fwRunning = true → s.dev.retesting = false → SelfTest.processor ∈ s.dev.passed →
    ∃ u, exec (.deviceTestComplete .processor false) s = .next u ∧ u.dev.warm = true ∧ u.dev.run = .boot ∧
      u.dev.failing = some .processor ∧ u.sv.active = s.sv.active) ∧
  (∀ (s : State) (t : SelfTest) (pass : Bool) (rs : List (Nat × Nat)), s.dev.retesting = true → s.inTurn t = false →
    exec (.deviceTestComplete t pass) s = .next s ∧ exec (.functionTestComplete t ⟨pass, rs⟩) s = .next s) ∧
  (∀ s : State, s.admits .retest = true → (s.dev.run = .readyIdle ∨ s.dev.run = .nadir) → s.dev.bist = true →
    completes .retest s s .notReady []) ∧
  (∀ s : State, s.admits .retest = true → (s.dev.run = .readyIdle ∨ s.dev.run = .nadir) → s.dev.bist = false →
    ∃ u, completes .retest s u .accepted [] ∧ u.dev.retesting = true ∧ u.dev.testRun = .running ∧ u.dev.failing = none ∧
      u.dev.passed = [] ∧ u.retestRow = 0 ∧ u.dev.run = s.dev.run ∧ u.eng = s.eng ∧ u.pll = s.pll ∧ u.tx = s.tx ∧
        u.sq = s.sq ∧ u.sv = s.sv) ∧
  (∀ (s : State) (k : Nat), s.admits (.funcReset 0 k) = true → k ≤ 7 → s.blockInUse 0 k = false → s.dev.bist = false →
    ∃ u, completes (.funcReset 0 k) s u .ok [] ∧ u.resetting 0 k = true ∧
      (∀ b j, (b, j) ≠ (0, k) → u.resetting b j = s.resetting b j) ∧ u.isReady (readyHg k) = false ∧
      (∀ c ∈ groupChannels k, (u.chan c).gates = [] ∧ (u.input c).queue = [] ∧ (u.input c).path = []) ∧
      (∀ c ∈ groupChannels k, (s.chan c).droppedHits.add ((s.input c).path.length + (s.input c).queue.length) ≤
        (u.chan c).droppedHits) ∧
      (∀ c, (u.chan c).cfg = (s.chan c).cfg ∧ (u.chan c).row = (s.chan c).row) ∧ u.sq = s.sq ∧ u.sv = s.sv ∧ u.tb = s.tb) ∧
  (∀ (s : State) (k : Nat), s.admits (.funcReset 0 k) = true → k ≤ 7 → s.dev.bist = true →
    completes (.funcReset 0 k) s s .notReady []) ∧
  (∀ (s : State) (k : Nat), s.admits (.funcReset 1 k) = true → k ≤ 7 → s.blockInUse 1 k = false →
    ∃ u, completes (.funcReset 1 k) s u .ok [] ∧ (u.seq k).entry = 0 ∧ (u.seq k).loops = [] ∧ (u.seq k).cond = false ∧
      (u.seq k).jump = none ∧ (u.seq k).rd = 0 ∧ (u.seq k).wr = 0 ∧ (u.seq k).cfg = (s.seq k).cfg ∧
      (u.seq k).counters = (s.seq k).counters ∧ (∀ n, n ≤ 7 → n ≠ k → u.seq n = s.seq n) ∧ u.tx = s.tx ∧ u.sv = s.sv ∧
      u.tb = s.tb ∧ u.sq.mem = s.sq.mem) ∧
  (∀ (s : State) (k : Nat), s.admits (.funcReset 2 k) = true → k ≤ 2 → s.blockInUse 2 k = false →
    ∃ u, completes (.funcReset 2 k) s u .ok [] ∧ u.resetting 2 k = true ∧ u.isReady (readyPort k) = false ∧
      (u.port k).blockLock = false ∧ (u.port k).queue = [] ∧
      (u.port k).discarded = (s.port k).discarded.add ((s.port k).queue.countP Queued.isForwarded) ∧
      (∀ m ∈ u.net.macs, m.2.port ≠ k) ∧ (∀ m ∈ s.net.macs, m.2.port ≠ k → m ∈ u.net.macs) ∧
      (u.port k).cfg = (s.port k).cfg ∧ u.tx = s.tx ∧ u.sq = s.sq ∧ u.sv = s.sv)

/-- The power warning (R406, R407, R408, R412, R413): it commits the journal with the issue limits at the next numbers,
closes what waits and leaves a store in progress interrupted; 10 ms later its end is a warm reset. Every commit of the
journal covers the streams that are in use; before the first start has taken up the last one, none is made (entry 50).
Once the device is idle nothing runs (R407), and a warning that comes in INIT leaves it for LOCKOUT (R412; entry 50,
DEDUCED). Which store is in progress, and that a DEVICE_ID_SET under way is given up, are entries 43 and 53. The pace
monitors and the regulator (R21, R347, R425): each window gives every domain its margin and the lowest so far; a margin
below 10 % asks for one STEP more, a reading within 15 mV ends a request, and the third failure in succession is a fault;
before the first Ready-idle PMBus is idle (R401). The spacing of requests and what ends a fault are entry 51 (DEDUCED).
Concludes that exec answers a next state for: `paceWindow`, `periodicJournalCommit`, `pfailRelease`, `pfailWarning`,
`pmbusFault`, `vddaAdjust`. -/
def Obligations.PowerAndSupply : Prop :=
  (∀ s : State, s.dev.pfail = false → s.dev.rstLow = false →
    exec .periodicJournalCommit s = .next (s.commitJournal false)) ∧
  (∀ (s : State) (w : Bool), s.dev.derived = false → s.commitJournal w = s) ∧
  (∀ s : State, s.dev.derived = true → ∀ n, n ∈ s.commitStreams →
    ∃ c, (s.commitJournal false).ret.commit = some c ∧ c.warning = false ∧
      ({ stream := n, nextIssue := (s.stream n).nextIssue, confirmed := (s.stream n).delivered,
         issueLimit := (s.stream n).nextIssue + 32768 } : CommitEntry) ∈ c.entries) ∧
  (∀ s : State, s.dev.rstLow = false → s.dev.pfail = false →
    ∃ t, exec (.pfailWarning []) s = .next t ∧ t.dev.pfail = true ∧ t.fw.update = none ∧
      t.regs.pfailWarnings = s.regs.pfailWarnings.inc ∧ t.mbx.waiting = [] ∧ t.mbx.held = none ∧ t.tb = s.tb ∧
      (s.dev.derived = true → ∃ c, t.ret.commit = some c ∧ c.warning = true ∧ ∀ e ∈ c.entries, e.issueLimit = e.nextIssue) ∧
      (∀ k, s.storeInProgress = some k → t.calStore k = (s.calStore k).cut ∧ t.mbx.executing = none) ∧
      (s.settingId = true → t.mbx.executing = none ∧ t.ret.deviceId = s.ret.deviceId) ∧
      (s.sv.run = .init → t.sv.run = .init ∧ t.sv.lockAtStart = true) ∧ (s.sv.run = .normal → s.ranging = false → t.sv.run = .lockout) ∧
      (s.sv.run = .normal → s.ranging = true → t.sv.run = .eclipse)) ∧
  (∀ (s : State) (r : List Bool), (s.dev.rstLow = true ∨ s.dev.pfail = true) → exec (.pfailWarning r) s = .next s) ∧
  (∀ s : State, s.dev.pfail = true → s.elapsed s.dev.pfailAt 10 100 = true →
    ∃ t, exec .pfailRelease s = .next t ∧ t.dev.pfail = false ∧ t.dev.warm = true ∧ t.dev.run = .boot) ∧
  (∀ s : State, s.dev.pfail = false → exec .pfailRelease s = .next s) ∧
  (∀ (s : State) (id baud : Nat), s.dev.pfail = true → s.dev.pfailAt + 80000 ≤ s.clock →
    exec .sysInfo s = .next s ∧ exec (.deviceIdSet id true) s = .next s ∧ exec (.uartConfig baud) s = .next s) ∧
  (∀ (s : State) (m : Int) (d : Nat), s.dev.rstLow = false → d ≤ 3 → -1000 ≤ m → m ≤ 32766 →
    ∃ t, exec (.paceWindow [some m, some m, some m, some m]) s = .next t ∧
      t.pace d = { margin := m, low := min (s.pace d).low m } ∧ t.regs.pmbus.cfg = s.regs.pmbus.cfg ∧ t.tx = s.tx ∧
      t.sq = s.sq ∧ t.sv = s.sv ∧ t.regs.paceWarn = t.paceWarnDue) ∧
  (∀ (s : State) (x : Option Nat), s.ballsOff = true → exec (.vddaAdjust x) s = .next s) ∧
  (∀ (s : State) (x : Nat), s.dev.fwRunning = true → s.ballsOff = false → s.regs.pmbus.fault = false → s.regs.pmbus.tries = 0 →
    s.pmbusFree = true → s.lowestMargin < 100 → s.regs.pmbus.vReq + s.regs.pmbus.cfg.step ≤ s.regs.pmbus.cfg.voutMax →
    s.regs.pmbus.cfg.voutMin ≤ s.regs.pmbus.vReq + s.regs.pmbus.cfg.step →
    1 ≤ s.regs.pmbus.cfg.step → x ≤ s.regs.pmbus.vReq + s.regs.pmbus.cfg.step + 15 →
    s.regs.pmbus.vReq + s.regs.pmbus.cfg.step ≤ x + 15 →
    ∃ t, exec (.vddaAdjust (some x)) s = .next t ∧ t.regs.pmbus.vReq = s.regs.pmbus.vReq + s.regs.pmbus.cfg.step ∧
      t.regs.pmbus.vRead = x ∧ t.regs.pmbus.tries = 0 ∧ t.regs.pmbus.writes = s.regs.pmbus.writes.inc ∧
      Sent.pmbus s.regs.pmbus.cfg.addr 0x21 (some (s.regs.pmbus.vReq + s.regs.pmbus.cfg.step)) ∈ t.sent ∧
      Sent.pmbus s.regs.pmbus.cfg.addr 0x8B none ∈ t.sent ∧ t.tx = s.tx ∧ t.sq = s.sq ∧ t.sv = s.sv) ∧
  (∀ s : State, s.dev.fwRunning = true → s.ballsOff = false → s.regs.pmbus.fault = false → 1 ≤ s.regs.pmbus.tries → s.regs.pmbus.tries ≤ 2 →
    s.pmbusFree = true →
    ∃ t, exec (.vddaAdjust none) s = .next t ∧ t.regs.pmbus.vReq = s.regs.pmbus.vReq ∧
      t.regs.pmbus.tries = s.regs.pmbus.tries + 1 ∧ t.regs.pmbus.retries = s.regs.pmbus.retries.inc) ∧
  (∀ s : State, s.dev.fwRunning = true → 3 ≤ s.regs.pmbus.tries → s.regs.pmbus.fault = false →
    ∃ t, exec .pmbusFault s = .next t ∧ t.regs.pmbus.fault = true ∧ t.intStatus.getLsbD 5 = true ∧ t.tx = s.tx ∧
      t.sq = s.sq ∧ t.sv = s.sv)

/-- The commands of the system group (R67, R345, R346, R347, R372): each completes with what it returns and changes what
it names alone. What PMBUS_CONFIG clears is entry 51 (DEDUCED). Firmware update (R363, R364): BEGIN opens an update of the
slot that is not running, and is ACCEPTED; once it is erased, WRITE takes data in ascending order without gaps; COMMIT of
a whole image whose signature and version hold makes the slot valid with the next generation, where none was valid it runs
after a cold reset only; another commit is INTEGRITY, and the update stays open. That it stays open, and that RAISE_MIN
never lowers the minimum, are entry 49 (DEDUCED). Concludes that exec answers a next state for: `deviceIdSet`,
`fwSlotEraseDone`, `fwUpdateBegin`, `fwUpdateCommit`, `fwUpdateWrite`, `pmbusConfig`, `pmbusStatus`, `sysInfo`,
`uartConfig`. -/
def Obligations.SystemCommands : Prop :=
  (∀ s : State, s.admits .sysInfo = true →
    completes .sysInfo s s .ok [fU8 s.deviceCode, fU8 Config.stepping, fU16 s.tx.deviceId, fU32 s.dev.ready.toNat,
      fU16 s.fwVersion, fU8 s.enginesReady]) ∧
  (∀ (s : State) (id : Nat), s.admits (.deviceIdSet id true) = true → id ≤ 511 → s.ranging = false →
    s.isReady readyRetention = true →
    completes (.deviceIdSet id true) s
      { s with tx := { s.tx with deviceId := id }, ret := { s.ret with deviceId := id } } .ok []) ∧
  (∀ (s : State) (c : PmbusCfg), s.admits (.pmbusConfig c) = true → pmbusRanges c = true →
    ∃ u, completes (.pmbusConfig c) s u .ok [] ∧
      u.regs.pmbus = { s.regs.pmbus with cfg := c, tries := 0, fault := false } ∧
      u.regs.paceWarn = u.paceWarnDue ∧ u.tx = s.tx ∧ u.sq = s.sq ∧ u.sv = s.sv ∧ u.tb = s.tb) ∧
  (∀ s : State, s.admits .pmbusStatus = true →
    completes .pmbusStatus s s .ok [fU16 s.regs.pmbus.vReq, fU16 s.regs.pmbus.vRead, fBool s.regs.pmbus.fault,
      fU32 s.regs.pmbus.writes, fU32 s.regs.pmbus.retries]) ∧
  (∀ (s : State) (baud : Nat), s.admits (.uartConfig baud) = true → baud ∈ [115200, 921600, 3000000] →
    completes (.uartConfig baud) s { s with mbx := { s.mbx with baud := baud } } .ok []) ∧
  (∀ (s : State) (length : Nat), s.admits (.fwUpdateBegin length) = true → length ≤ Config.imageSlotSize →
    s.fw.update = none →
    completes (.fwUpdateBegin length) s { s with
      fw := { s.fw.setSlot s.fw.target ImageSlot.empty with
        update := some { slot := s.fw.target, length := length, written := 0, erased := false } } } .accepted []) ∧
  (∀ (s : State) (u : Update), s.fw.update = some u →
    exec .fwSlotEraseDone s = .next { s with fw := { s.fw with update := some { u with erased := true } } }) ∧
  (∀ (s : State) (u : Update) (data : List Byte), s.admits (.fwUpdateWrite u.written data) = true → s.fw.update = some u →
    u.erased = true → u.written + data.length ≤ u.length →
    ∃ v, completes (.fwUpdateWrite u.written data) s { s with fw := v } .ok [] ∧
      (v.slot u.slot).data = (s.fw.slot u.slot).data ++ data ∧
      v.update = some { u with written := u.written + data.length } ∧ v.running = s.fw.running ∧ v.minSec = s.fw.minSec) ∧
  (∀ (s : State) (u : Update) (raise : Nat), s.admits (.fwUpdateCommit raise) = true → raise ≤ 1 → s.fw.update = some u →
    u.slot ≤ 1 →
    ∃ v : State, completes (.fwUpdateCommit raise) s v (if s.fw.verifies u then .ok else .integrity) [] ∧
      (s.fw.verifies u = true → v.fw.update = none ∧ v.fw.running = s.fw.running ∧
        s.fw.minSec ≤ v.fw.minSec ∧ (raise = 0 → v.fw.minSec = s.fw.minSec) ∧
        (∀ k, s.fw.running = some k → raise = 1 → v.fw.minSec = max s.fw.minSec (s.fw.slot k).secVersion) ∧
        v.fw.slot (1 - u.slot) = s.fw.slot (1 - u.slot) ∧
        (v.fw.slot u.slot).valid = true ∧ (v.fw.slot u.slot).data = (s.fw.slot u.slot).data ∧
        (∀ k, s.fw.running = some k → (v.fw.slot u.slot).generation = (s.fw.slot k).generation + 1) ∧
        v.dev.needsCold = (s.dev.needsCold || (s.fw.running.isNone && (s.fw.choose false).isNone)) ∧
        v = { s with fw := v.fw, dev := { s.dev with needsCold := v.dev.needsCold } }) ∧
      (s.fw.verifies u = false → v = s)) ∧
  (∀ (s : State) (raise : Nat), s.admits (.fwUpdateCommit raise) = true →
    (∀ u, s.fw.update = some u → s.fw.verifies u = false) → completes (.fwUpdateCommit raise) s s .integrity [])

/-- R365: DEBUG_UNLOCK with a good certificate unlocks JTAG in Ready-idle and Nadir; elsewhere it is REFUSED, and a bad
certificate is INTEGRITY, the only change being the answer. While JTAG is unlocked the permit is withdrawn; a cold reset
locks it. Concludes that exec answers a next state for: `debugUnlock`. -/
def Obligations.DebugUnlock : Prop :=
  (∀ (s : State) (cert : List Byte), s.admits (.debugUnlock cert) = true → (s.dev.run = .readyIdle ∨ s.dev.run = .nadir) →
    ∃ u : State, completes (.debugUnlock cert) s u (if Config.certificateValid cert then .ok else .integrity) [] ∧
      (Config.certificateValid cert = true →
        u.dev.jtagUnlocked = true ∧ u.sv.permit = false ∧ u.sv.dark = true ∧ u.tb = s.tb ∧ u.sq = s.sq) ∧
      (Config.certificateValid cert = false → u = s)) ∧
  (∀ (s : State) (cert : List Byte), s.admits (.debugUnlock cert) = true → s.dev.run ≠ .readyIdle → s.dev.run ≠ .nadir →
    completes (.debugUnlock cert) s s (if Config.certificateValid cert then .refused else .integrity) []) ∧
  (∀ s : State, s.dev.jtagUnlocked = true → s.permitDue = false) ∧
  (∀ (s : State) (marker : Bool), (s.coldReset marker).dev.jtagUnlocked = false)

/-- Datagrams and UART packets (R339, R340, R345, R352, R353): a datagram to port MBX_UDP_BASE + n that the device listens
to joins the queue of mailbox n, a whole packet that of the UART; one too long, incomplete or broken is counted as
dropped, as is a packet that began before the last command was answered; what no mailbox listens to, and a packet that had
begun before the receiver looked, changes nothing; after a gap the receiver looks anew. When a packet began is entry 48.
COMMAND_TAKE (R356 to R360): the round-robin takes the next command of the mailbox whose turn it is and counts it; one
whose token is journaled with the same opcode and CRC is answered from the journal with nothing executed; another that
passes the checks of its frame comes into execution, and one that does not is answered with what they give. The second
submission of a safety configuration command comes into execution with the first when it is the same command; one that
differs is denied with the first, and 1 s after the taking of the first, without a second, the first alone: the timeout
comes from 0.98 s on, by the accuracy of the clock that counts it (entries 37 and 47). What is journaled, and when a
command is taken, are entry 46; which error bit a failed read sets is a free value (entries 14 and 16). Concludes that
exec answers a next state for: `commandTake`, `dualSubmissionTimeout`, `embDatagram`, `uartGapTimeout`, `uartPacket`. -/
def Obligations.MailboxTraffic : Prop :=
  (∀ (s : State) (m port ip udp : Nat) (via : Via) (f : Frame) (bs : List Byte), embOf s.net.net port = some m →
    via.port ≤ 2 → s.embListens m via ip = true →
    bs.length = (if frameDma f then f.payloadLen else 0) → (s.box (32 + m)).queue.length < 8 →
    exec (.embDatagram port via ip udp f bs) s = .next (s.setBox (32 + m) { s.box (32 + m) with
      queue := (s.box (32 + m)).queue ++
        [{ mailbox := 32 + m, frame := f, payload := bs,
           origin := some { port := via.port, mac := via.mac, ip := ip, udp := udp }, readOk := true, takenAt := 0 }] })) ∧
  (∀ (s : State) (m port ip udp : Nat) (via : Via) (f : Frame) (bs : List Byte), embOf s.net.net port = some m →
    via.port ≤ 2 → s.embListens m via ip = true →
    (bs.length ≠ (if frameDma f then f.payloadLen else 0) ∨ 8 ≤ (s.box (32 + m)).queue.length) →
    exec (.embDatagram port via ip udp f bs) s =
      .next (s.setBox (32 + m) { s.box (32 + m) with dropped := (s.box (32 + m)).dropped.inc })) ∧
  (∀ (s : State) (m port ip udp : Nat) (via : Via) (f : Frame) (bs : List Byte), embOf s.net.net port = some m →
    s.embListens m via ip = false → exec (.embDatagram port via ip udp f bs) s = .next s) ∧
  (∀ (s : State) (port ip udp : Nat) (via : Via) (f : Frame) (bs : List Byte),
    (port < s.net.net.mbxUdpBase ∨ s.net.net.mbxUdpBase + 7 < port) → exec (.embDatagram port via ip udp f bs) s = .next s) ∧
  (∀ (s : State) (m : Nat), m ≤ 7 → embOf s.net.net (s.net.net.mbxUdpBase + m) = some m) ∧
  (∀ (s : State) (f : Frame) (bs : List Byte), s.dev.rstLow = false → s.mbx.uartFrom ≤ s.uartBegan bs →
    s.mbx.uartFree ≤ s.uartBegan bs →
    bs.length = (if frameDma f then f.payloadLen else 0) → (s.box 40).busy = false → (s.box 40).queue = [] →
    exec (.uartPacket f bs (crc32 (frameBytes f ++ bs))) s = .next (s.setBox 40 { s.box 40 with
      queue := [{ mailbox := 40, frame := f, payload := bs, origin := none, readOk := true, takenAt := 0 }] })) ∧
  (∀ (s : State) (f : Frame) (bs : List Byte) (crc : Nat), s.dev.rstLow = false → s.mbx.uartFrom ≤ s.uartBegan bs →
    (crc ≠ crc32 (frameBytes f ++ bs) ∨ (s.box 40).busy = true ∨ s.uartBegan bs < s.mbx.uartFree) →
    exec (.uartPacket f bs crc) s = .next (s.setBox 40 { s.box 40 with dropped := (s.box 40).dropped.inc })) ∧
  (∀ (s : State) (f : Frame) (bs : List Byte) (crc : Nat), s.uartBegan bs < s.mbx.uartFrom →
    exec (.uartPacket f bs crc) s = .next s) ∧
  (∀ s : State, exec .uartGapTimeout s = .next { s with mbx := { s.mbx with uartFrom := s.clock } }) ∧
  (∀ s : State, s.mbx.executing = none → s.dev.pfail = false → s.dev.rstLow = false → s.nextMailbox = none →
    ∀ dma, exec (.commandTake dma) s = .next s) ∧
  (∀ (s : State) (dma : DmaOutcome), (s.mbx.executing ≠ none ∨ s.dev.pfail = true ∨ s.dev.rstLow = true) →
    exec (.commandTake dma) s = .next s) ∧
  (∀ (s : State) (dma : DmaOutcome) (n : Nat), s.mbx.executing = none → s.dev.pfail = false → s.dev.rstLow = false →
    s.nextMailbox = some n → s.dmaOk = true → dma.payload ≠ none →
    (s.box n).journaled (s.nextCommand n dma).1.frame.token = none →
    s.frameStatus (s.nextCommand n dma).1 (s.nextCommand n dma).2 = .ok →
    (isDual (s.nextCommand n dma).1.frame.opcode = false ∨ s.mbx.held = none) →
    ∃ t, exec (.commandTake dma) s = .next t ∧ t.mbx.executing = some ((s.nextCommand n dma).1, none) ∧ t.mbx.last = n ∧
      (t.box n).busy = true ∧ (t.box n).commands = (s.box n).commands.inc ∧
      (s.nextCommand n dma).1.takenAt = s.clock ∧ t.core = ({ s with mbx := t.mbx } : State).core) ∧
  (∀ (s : State) (dma : DmaOutcome) (n : Nat) (st : Status), s.mbx.executing = none → s.dev.pfail = false →
    s.dev.rstLow = false → s.nextMailbox = some n → s.dmaOk = true → dma.payload ≠ none →
    (s.box n).journaled (s.nextCommand n dma).1.frame.token = none →
    s.frameStatus (s.nextCommand n dma).1 (s.nextCommand n dma).2 = st → st ≠ .ok →
    ∃ t, exec (.commandTake dma) s = .next t ∧ t.mbx.executing = none ∧ t.mbx.last = n ∧
      (t.box n).commands = (s.box n).commands.inc ∧
      ((t.box n).journal.head?.map fun e => e.response.status) = some st ∧ t.core = ({ s with mbx := t.mbx } : State).core) ∧
  (∀ (s : State) (dma : DmaOutcome) (n : Nat) (j : JournalEntry), s.mbx.executing = none → s.dev.pfail = false →
    s.dev.rstLow = false → s.nextMailbox = some n → s.dmaOk = true → dma.payload ≠ none →
    (s.box n).journaled (s.nextCommand n dma).1.frame.token = some j → j.opcode = (s.nextCommand n dma).1.frame.opcode →
    j.payloadCrc = (s.nextCommand n dma).1.frame.payloadCrc →
    ∃ t, exec (.commandTake dma) s = .next t ∧ t.mbx.executing = none ∧ (t.box n).replays = (s.box n).replays.inc ∧
      (t.box n).journal = (s.box n).journal ∧ t.core = ({ s with mbx := t.mbx } : State).core) ∧
  (∀ (s : State) (dma : DmaOutcome) (n : Nat) (h : Taken) (since : Nat), s.mbx.executing = none →
    s.dev.pfail = false → s.dev.rstLow = false → s.nextMailbox = some n → s.dmaOk = true → dma.payload ≠ none →
    (s.box n).journaled (s.nextCommand n dma).1.frame.token = none →
    s.frameStatus (s.nextCommand n dma).1 (s.nextCommand n dma).2 = .ok →
    isDual (s.nextCommand n dma).1.frame.opcode = true → s.mbx.held = some (h, since) → s.elapsed since 1000 100 = false →
    ∃ t, exec (.commandTake dma) s = .next t ∧ t.mbx.held = none ∧
      (sameCommand h.frame (s.nextCommand n dma).1.frame = true →
        t.mbx.executing = some ((s.nextCommand n dma).1, some h)) ∧
      (sameCommand h.frame (s.nextCommand n dma).1.frame = false → t.mbx.executing = none ∧
        ((t.box n).journal.head?.map fun e => e.response.status) = some .safetyDenied)) ∧
  (∀ (s : State) (n : Nat) (back : Bool), s.mbx.executing = none → s.dev.pfail = false → s.dev.rstLow = false →
    s.nextMailbox = some n → n < 32 → s.dmaOk = true → frameDma (s.nextCommand n ⟨none, back⟩).1.frame = true →
    (s.nextCommand n ⟨none, back⟩).1.frame.payloadLen ≤ 16777216 →
    (s.box n).journaled (s.nextCommand n ⟨none, back⟩).1.frame.token = none →
    ∃ t, exec (.commandTake ⟨none, back⟩) s = .next t ∧ t.mbx.executing = none ∧
      t.regs.pcie.config.aerUncorrectable = s.regs.pcie.config.aerUncorrectable ||| Config.readError s.fresh ∧
      ((t.box n).journal.head?.map fun e => e.response.status) = some .integrity) ∧
  (∀ (s : State) (q : Taken) (since : Nat), s.mbx.held = some (q, since) → s.elapsed since 1000 98 = true →
    exec .dualSubmissionTimeout s = .next s.denyHeld) ∧
  (∀ (s : State) (q : Taken) (since : Nat), s.mbx.held = some (q, since) →
    s.denyHeld.mbx.held = none ∧ s.denyHeld.core = ({ s with mbx := { s.denyHeld.mbx with held := none } } : State).core ∧
      ((s.denyHeld.box q.mailbox).journal.head?.map fun e => e.response.status) = some .safetyDenied)

/-- Writes to BAR0 (R325, R327, R349, R421, R422, R425, R439): a word of the MSI-X table takes its value, the vector
control masks and unmasks its vector, whose message is sent where the endpoint may send it; a byte of a command slot takes
its value; PACE_LOW_CLEAR sets LOW of each domain whose bit is 1 to its margin, INT_STATUS_CLEAR clears the causes 2 to 8
whose bits are 1, INT_MASK takes its eight bits, and SNAP_TRIGGER with bit 0 asks for a capture; none changes anything
else but what leaves the device, and none reaches an endpoint in reset. Which widths write the MSI-X table and the command
slots are entries 52 and 46, when a message may be sent is entry 14. Concludes that exec answers a next state for:
`intMaskWrite`, `intStatusClear`, `paceLowClear`, `registerWrite`, `snapTrigger`. -/
def Obligations.RegisterWrites : Prop :=
  (∀ (s : State) (k v : Nat), k ≤ 63 → s.endpointUp = true →
    ∃ t u w, exec (.registerWrite (0x7000 + 16 * k) 4 v) s = .next t ∧
      exec (.registerWrite (0x7000 + 16 * k + 4) 4 v) s = .next u ∧
      exec (.registerWrite (0x7000 + 16 * k + 8) 4 v) s = .next w ∧
      (Tab.get MsixEntry.zero t.regs.pcie.msixTable k).addr.toNat % 2 ^ 32 = v % 2 ^ 32 ∧
      (Tab.get MsixEntry.zero u.regs.pcie.msixTable k).addr.toNat / 2 ^ 32 = v % 2 ^ 32 ∧
      (Tab.get MsixEntry.zero w.regs.pcie.msixTable k).data.toNat = v % 2 ^ 32 ∧
      (∀ j, j ≠ k → Tab.get MsixEntry.zero t.regs.pcie.msixTable j = Tab.get MsixEntry.zero s.regs.pcie.msixTable j) ∧
      (∀ x ∈ [t, u, w], x = { s with regs := { s.regs with pcie := { s.regs.pcie with
        msixTable := x.regs.pcie.msixTable } } })) ∧
  (∀ (s : State) (k v : Nat), k ≤ 63 → s.endpointUp = true →
    ∃ t, exec (.registerWrite (0x7000 + 16 * k + 12) 4 v) s = .next t ∧
      Tab.get true t.regs.pcie.msixMask k = decide (v % 2 = 1) ∧
      (v % 2 = 0 → Tab.get true s.regs.pcie.msixMask k = true → Tab.get false s.regs.pcie.msixPending k = true →
        s.regs.pcie.busMaster = true → s.regs.pcie.config.msixEnable = true → s.regs.pcie.config.functionMask = false →
        s.regs.pcie.config.d3hot = false →
        Tab.get false t.regs.pcie.msixPending k = false ∧ Sent.interrupt k ∈ t.sent) ∧
      (s.regs.pcie.busMaster = false → t.regs.pcie.msixPending = s.regs.pcie.msixPending ∧ t.sent = s.sent) ∧
      (∀ j, j ≠ k → Tab.get true t.regs.pcie.msixMask j = Tab.get true s.regs.pcie.msixMask j) ∧ t.tx = s.tx ∧ t.sq = s.sq) ∧
  (∀ (s : State) (m j i v : Nat), m ≤ 31 → j ≤ 7 → i ≤ 63 → s.endpointUp = true →
    ∃ t, exec (.registerWrite (0x8000 + 1024 * m + 64 * j + i) 1 v) s = .next t ∧
      (t.box m).slots = Tab.put none (s.box m).slots j (some (frameOf
        ((frameBytes ((Tab.get none (s.box m).slots j).getD frameZero)).set i (BitVec.ofNat 8 v)))) ∧
      (∀ n, n ≠ m → t.box n = s.box n) ∧ t.core = s.core) ∧
  (∀ (s : State) (v : Nat), s.endpointUp = true → ∃ t, exec (.paceLowClear v) s = .next t ∧
    (∀ d, d ≤ 3 → t.pace d = if v.testBit d then { s.pace d with low := (s.pace d).margin } else s.pace d) ∧
    ({ t with regs := s.regs } : State) = s) ∧
  (∀ (s : State) (v : Nat), s.endpointUp = true → ∃ t, exec (.intStatusClear v) s = .next t ∧
    (∀ b, b < 32 → t.regs.intStatus.getLsbD b =
      (s.regs.intStatus.getLsbD b && !(v.testBit b && decide (2 ≤ b ∧ b ≤ 8)))) ∧
    t = { s with regs := { s.regs with intStatus := t.regs.intStatus } }) ∧
  (∀ (s : State) (v : Nat), s.endpointUp = true → ∃ t, exec (.intMaskWrite v) s = .next t ∧
    t.regs.intMask = BitVec.ofNat 32 v &&& 0x1FE ∧ t.regs.intStatus = s.regs.intStatus ∧
    t.core = ({ s with regs := { s.regs with intMask := t.regs.intMask } } : State).core) ∧
  (∀ (s : State) (v : Nat), s.endpointUp = true → v % 2 = 1 → exec (.snapTrigger v) s =
    .next { s with tb := { s.tb with snap := { s.tb.snap with pending := true } } }) ∧
  (∀ (s : State) (v : Nat), v % 2 = 0 → exec (.snapTrigger v) s = .next s) ∧
  (∀ (s : State) (offset size v : Nat), s.endpointUp = false →
    exec (.registerWrite offset size v) s = .next s ∧ exec (.paceLowClear v) s = .next s ∧
      exec (.intStatusClear v) s = .next s ∧ exec (.intMaskWrite v) s = .next s ∧ exec (.snapTrigger v) s = .next s)

/-- R426: a write to COUNTERS_CLEAR clears the counters whose bits are set; no other write to a register changes one, but
that a write to a direct register that is not an aligned one of 32 bits counts a BAD_ACCESS (R416; entry 52, DEDUCED);
they count up to 2^32 - 1, and a warm reset keeps them. Concludes that exec answers a next state for: `countersClear`,
`registerWrite`. -/
def Obligations.DeviceCounters : Prop :=
  (∀ (s : State) (v : Nat), s.endpointUp = true → exec (.countersClear v) s = .next { s with regs := { s.regs with
      progWriteReject := if v.testBit 0 then 0 else s.regs.progWriteReject
      badAccess := if v.testBit 1 then 0 else s.regs.badAccess
      watchdogExpiries := if v.testBit 2 then 0 else s.regs.watchdogExpiries
      pfailWarnings := if v.testBit 3 then 0 else s.regs.pfailWarnings } }) ∧
  (∀ (s : State) (offset size v : Nat), s.endpointUp = false →
    exec (.countersClear v) s = .next s ∧ exec (.registerWrite offset size v) s = .next s) ∧
  (∀ (s : State) (offset size v : Nat), s.endpointUp = true → ∃ t, exec (.registerWrite offset size v) s = .next t ∧
    (offset < 0x4000 → t = { s with regs := { s.regs with
      badAccess := if size = 4 ∧ offset % 4 = 0 then s.regs.badAccess else s.regs.badAccess.inc } }) ∧
    (0x4000 ≤ offset → t.regs.badAccess = s.regs.badAccess) ∧ t.regs.progWriteReject = s.regs.progWriteReject ∧
    t.regs.watchdogExpiries = s.regs.watchdogExpiries ∧ t.regs.pfailWarnings = s.regs.pfailWarnings) ∧
  (∀ c : Count, c < 2 ^ 32 - 1 → c.inc = c + 1) ∧ Count.inc (2 ^ 32 - 1) = 2 ^ 32 - 1 ∧
  (∀ s : State, s.warmReset.regs.progWriteReject = s.regs.progWriteReject ∧
    s.warmReset.regs.badAccess = s.regs.badAccess ∧
    s.warmReset.regs.watchdogExpiries = s.regs.watchdogExpiries ∧
    s.warmReset.regs.pfailWarnings = s.regs.pfailWarnings)

/-- The status of outputs, sequencers, inputs, gates, histograms and estimators, each in the order that its rule lists
(R65, R110, R119, R159, R176, R193, R195, R370): the block reaches its DST, and nothing else changes, but that
ANGLE_STATUS clears RESID_MAX (R119). The layouts of blocks and of flag words are entry 54 (DEDUCED), the zeros of
ANGLE_STATUS before any edge entry 57. The status of engines, streams, rings, event channels, motor and supervisor (R207,
R216, R229, R233, R277, R283, R304, R336, R338): the block reaches its DST, and nothing else changes, but that SV_STATUS
first counts the pulses of running bursts that have risen (R294; entry 40). The codes of engine faults are entry 33
(DEDUCED). The status of calibration, PLL, PTP, bridge, self-tests, mailboxes and images, TIME_STATUS (R38, R247, R253,
R264, R268, R269, R322, R364, R366, R385). What the counts of MBX_STATUS take in is entry 54. PLL_STATUS and PTP_STATUS
draw two free values, for an offset or rate that was never measured (entry 16). Concludes that exec answers a next state
for: `angleStatus`, `bridgeStatus`, `calStatus`, `engineStatus`, `evchStatus`, `fwStatus`, `gateStatus`, `histRead`,
`histStatus`, `inputStatus`, `mbxStatus`, `motorStatus`, `outStatus`, `pllStatus`, `ptpStatus`, `ringStatus`,
`selftestStatus`, `seqStatus`, `streamStatus`, `svStatus`, `timeStatus`. -/
def Obligations.StatusCommands : Prop :=
  (∀ (s : State) (o dst : Nat) (fs : List Fld), s.admits (.outStatus o dst) = true → o ≤ 135 →
    fs = [fFlags [(s.out o).fOverrun, (s.out o).fLate, (s.out o).fLateExec, (s.out o).fConflict], fU32 (s.out o).overrun,
        fU32 (s.out o).late, fU32 (s.out o).lateExec, fU32 (s.out o).conflict, fU32 (s.out o).darkened, fU32 (s.out o).refStop,
        fU32 (s.out o).holdoverEdges, fU32 (s.out o).bursts] ++
      (if (s.out o).cfg.cls = 0 then [fU32 (s.row (s.out o).cfg.row).missing, fU32 (s.row (s.out o).cfg.row).unexpected,
        fU32 (s.row (s.out o).cfg.row).overwidth] else []) ++
      [fU8 (s.out o).cfg.enable, fU8 (s.out o).cfg.cls, fU8 (s.out o).fmt] →
    s.canShow dst (blockOf fs).length = true → shows (.outStatus o dst) s s dst (blockOf fs)) ∧
  (∀ (s : State) (n dst : Nat) (fs : List Fld), s.admits (.seqStatus n dst) = true → n ≤ 7 →
    fs = [fU8 (s.seq n).run.code, fU16 (s.seq n).entry, fU64 ((s.seq n).k - 1).toNat, fU32 (s.seq n).step.index,
        fU16 (s.seq n).rd, fU16 (s.seq n).wr,
        fFlags [(s.seq n).fUnderrun, (s.seq n).pushErr, (s.seq n).fJumpOverrun, (s.seq n).fCondOverrun]] ++
      (s.seq n).counters.fields →
    s.canShow dst (blockOf fs).length = true → shows (.seqStatus n dst) s s dst (blockOf fs)) ∧
  (∀ (s : State) (i dst : Nat), s.admits (.inputStatus i dst) = true → i ≤ 584 →
    s.canShow dst (blockOf (s.inputFields i)).length = true →
    shows (.inputStatus i dst) s s dst (blockOf (s.inputFields i))) ∧
  (∀ (s : State) (c dst : Nat) (fs : List Fld), s.admits (.gateStatus c dst) = true → c ≤ 511 →
    fs = [fU8 (s.chan c).row, fU8 (s.chan c).queues.length, fU16 (s.chan c).poolUsed, fU16 (s.chan c).poolHigh,
      fU32 (s.chan c).opened, fU32 (s.chan c).refused, fU32 (s.chan c).droppedHits, fU32 (s.chan c).multiAssigned,
      fU32 (s.chan c).gatesCut, fU32 (s.tap (c / 64)).tapLost] →
    s.canShow dst (blockOf fs).length = true → shows (.gateStatus c dst) s s dst (blockOf fs)) ∧
  (∀ (s : State) (c dst : Nat) (fs : List Fld), s.admits (.histStatus c dst) = true → c ≤ 511 →
    fs = [fU8 (s.histChan c).nextBank, fU8 (s.bank (2 * c)).state.code, fU8 (s.bank (2 * c + 1)).state.code,
      fU32 (s.histChan c).rejected, fU32 (s.histChan c).matchedFull, fU32 (s.histChan c).matchedWeak,
      fU32 (s.histChan c).nbRejected, fU32 (s.histChan c).outOfWindow, fU32 (s.histChan c).matchLost,
      fU32 (s.histChan c).darkMatches, fU32 (s.histChan c).satBins, fU32 (s.histChan c).parityAcc,
      fU32 (s.histChan c).recomputedBins, fU32 (s.histChan c).erasedBlocks] →
    s.canShow dst (blockOf fs).length = true → shows (.histStatus c dst) s s dst (blockOf fs)) ∧
  (∀ (s : State) (c b dst : Nat), s.admits (.histRead c b dst) = true → c ≤ 511 → b ≤ 1 →
    (s.dev.run = .readyIdle ∨ (s.bank (2 * c + b)).state = .held) →
    s.canShow dst (s.histBytes c b).length = true → shows (.histRead c b dst) s s dst (s.histBytes c b)) ∧
  (∀ (s : State) (e dst : Nat) (fs : List Fld), s.admits (.angleStatus e dst) = true → e ≤ 1 →
    fs = [fBool (s.estValid e), fU32 (s.estimator e).speed, fU8 ((s.estimator e).facetOf ((s.estimator e).angleAt s.now)),
        fS64 (((s.estimator e).edges.head?.map (·.u)).getD 0),
        fT (FullTime.ofTq (((s.estimator e).edges.head?.map (·.t)).getD 0)), fU32 (min countMax (s.estimator e).residMax),
        fU32 (s.estimator e).countCorrections, fU32 (s.estimator e).invalidEpisodes] ++
      (List.range 8).map (fun k => fU32 (s.mark k).missed) →
    s.canShow dst (blockOf fs).length = true →
    shows (.angleStatus e dst) s (s.setEstimator e { s.estimator e with residMax := 0 }) dst (blockOf fs)) ∧
  (∀ (s : State) (first count dst : Nat) (fs : List Fld), s.admits (.engineStatus first count dst) = true → 1 ≤ count →
    first + count ≤ 96 →
    fs = (numbers first count).flatMap (fun e => (s.engine e).fields) ++
      [fU8 s.enginesReady, fU16 s.eng.queue.length, fU16 s.jobsInFlight, fU32 s.eng.pool.recomputes,
       fU32 s.eng.pool.notMeasuredEngine, fU32 s.eng.pool.truncatedSearch, fU32 s.eng.pool.outOfRange,
       fU32 s.eng.pool.noReturn] →
    s.canShow dst (blockOf fs).length = true → shows (.engineStatus first count dst) s s dst (blockOf fs)) ∧
  (∀ (s : State) (n dst : Nat) (fs : List Fld), s.admits (.streamStatus n dst) = true → n ≤ 63 →
    fs = [fU64 (s.stream n).nextIssue, fU64 (s.stream n).nextRelease, fU16 (s.stream n).committed.length,
      fU16 (s.stream n).reserved, fU16 (s.stream n).used, fU32 (s.stream n).results, fU32 (s.stream n).records,
      fU32 (s.stream n).skipRecords, fU32 (s.stream n).notMeasured, fU32 (s.stream n).batches] →
    s.canShow dst (blockOf fs).length = true → shows (.streamStatus n dst) s s dst (blockOf fs)) ∧
  (∀ (s : State) (n dst : Nat) (fs : List Fld), s.admits (.ringStatus n dst) = true → n ≤ 63 →
    fs = [fU8 (s.stream n).ring.cfg.enable, fU32 (s.stream n).ring.pi.toNat, fU32 (s.stream n).ring.ci.toNat,
      fU8 (s.stream n).ring.unconfirmed.length, fBool (s.stream n).ring.reconPending, fBool (s.stream n).ring.ciErr,
      fU32 (s.stream n).ring.written, fU32 (s.stream n).ring.rewritten, fU32 (s.stream n).ring.reconciliations,
      fU32 (s.stream n).ring.reconcileFail] →
    s.canShow dst (blockOf fs).length = true → shows (.ringStatus n dst) s s dst (blockOf fs)) ∧
  (∀ (s : State) (first count dst : Nat), s.admits (.evchStatus first count dst) = true → 1 ≤ count → first + count ≤ 256 →
    s.canShow dst (blockOf ((numbers first count).flatMap s.evchFields)).length = true →
    shows (.evchStatus first count dst) s s dst (blockOf ((numbers first count).flatMap s.evchFields))) ∧
  (∀ (s : State) (dst : Nat) (fs : List Fld), s.admits (.motorStatus dst) = true →
    fs = [fU8 s.motor.run.code, fBool s.motor.atSpeed, fU16 s.motor.d, fU32 (s.motor.reference / 1000), fU32 s.motor.target,
        fU8 s.motor.mdir, fBool s.motor.mrdy, fBool s.motor.mfltN, fBool s.sv.sto] ++
      ([0, 1].flatMap fun e => [fU16 ((s.encoder e).count % ((s.encCfg e).cpr : Int)).toNat, fBool (!(s.encoder e).forward),
        fU32 (s.estimator e).speed, fU32 (s.encoder e).edges, fU32 (s.encoder e).filtered,
        fU32 (s.encoder e).countErrors]) ++
      [fU32 s.motor.faults, fU32 s.motor.readyTimeouts] →
    s.canShow dst (blockOf fs).length = true → shows (.motorStatus dst) s s dst (blockOf fs)) ∧
  (∀ (s : State) (dst : Nat) (fs : List Fld), s.admits (.svStatus dst) = true →
    fs = [fU8 s.sv.run.code, s.faultFlags .single, s.faultFlags .demand, s.faultFlags .stop, fBool s.sv.emissionFault,
        fBool s.sv.permit, s.withdrawing, fBool s.sv.setB] ++
      (List.range 4).flatMap (fun i => [fBool (s.safeInput i).a, fBool (s.safeInput i).b, fBool (s.safeInput i).faultLatched]) ++
      [0, 1].flatMap (fun e => [fS32 (s.svEnc e).lastWindow, fBool (s.encFailed e)]) ++
      (List.range s.limitSet.sectors).map (fun k => fU32 (min countMax (s.countEmitted.sectorCount k))) ++
      [fU16 s.twilightLeft, s.safetyCrc] ++ (List.range 4).map (fun i => fU32 (s.safeInput i).discFaults) ++
      [fU32 s.sv.counters.twilightEntries, fU32 s.sv.counters.safeStops, fU32 s.sv.counters.stopFaults,
       fU32 s.sv.counters.rampViolations] ++
      (List.range s.limitSet.sectors).map (fun k => fU32 (Tab.get 0 s.sv.counters.budgetDark k)) ++
      [fU32 s.sv.counters.slsLowDark, fU32 s.sv.counters.resetsAccepted, fU32 s.sv.counters.resetsRejected] →
    s.canShow dst (blockOf fs).length = true → shows (.svStatus dst) s s.countEmitted dst (blockOf fs)) ∧
  (∀ (s : State) (dst : Nat) (fs : List Fld), s.admits (.calStatus dst) = true →
    fs = (numbers 1 7).flatMap s.calObjectFields ++
      (List.range 5).flatMap (fun k => [fS16 (s.calRunState k).lastReading, fT (FullTime.ofTq (s.calRunState k).lastTime)]) ++
      ((List.range 16).map fun k => fS16 (s.sensor k)) ++
      [fU32 s.cal.nlFail, fU32 s.cal.driftLimit, fU32 s.cal.storeFail] →
    s.canShow dst (blockOf fs).length = true → shows (.calStatus dst) s s dst (blockOf fs)) ∧
  (∀ (s : State) (dst : Nat) (fs : List Fld), s.admits (.pllStatus dst) = true →
    fs = [fU8 s.pll.run.code, fU8 s.pll.refInUse, fBool s.pll.refA.valid,
      fS32 (s.pll.refA.ppm s.pll.refCfg.refaFreq (Config.unmeasured s.fresh)), fBool s.pll.refB.valid,
      fS32 (s.pll.refB.ppm s.pll.refCfg.refbFreq (Config.unmeasured (s.fresh + 1))), fU8 s.pll.cfg.dt, fU8 s.pll.band.toNat,
      fU64 s.nEffNow, fT (FullTime.ofTq (s.pll.syncOrigin.getD 0)), fBool s.pll.syncOrigin.isSome, fS8 s.pll.residual,
      fU32 s.pll.unlocks, fU32 s.pll.refSwitches, fU32 s.pll.hopsDone, fU32 s.pll.hopSearched, fU32 s.pll.searches] →
    s.canShow dst (blockOf fs).length = true →
    shows (.pllStatus dst) s { s with fresh := s.fresh + 2 } dst (blockOf fs)) ∧
  (∀ (s : State) (dst : Nat) (m : Int) (fs : List Fld), s.admits (.ptpStatus dst) = true →
    (∀ k : Nat, s.net.master = some k → m = (k : Int)) → (s.net.master = none → m = Config.unmeasured s.fresh) →
    fs = (List.range 3).flatMap s.ptpPortFields ++
      [(Kind.u64, Val.num m), fS64 (meanOffset s.net.offsets (Config.unmeasured (s.fresh + 1))), fS32 s.rateNow, fBool s.net.stepRefused,
       fU8 s.tb.source.code, fU32 s.net.outliers, fU32 s.net.refusedSteps, fU32 s.net.masterChanges,
       fU32 s.net.delayReqDropped] →
    s.canShow dst (blockOf fs).length = true →
    shows (.ptpStatus dst) s { s with fresh := s.fresh + 2 } dst (blockOf fs)) ∧
  (∀ (s : State) (dst : Nat) (fs : List Fld), s.admits (.bridgeStatus dst) = true →
    fs = [fU16 s.net.macs.length, fBool !s.bypassLow, fBool s.net.bridgeFault] ++
      (List.range 3).flatMap (fun n => [fU32 (s.port n).forwarded, fU32 (s.port n).discarded, fU32 (s.port n).learnFull]) →
    s.canShow dst (blockOf fs).length = true → shows (.bridgeStatus dst) s s dst (blockOf fs)) ∧
  (∀ (s : State) (dst : Nat) (fs : List Fld), s.admits (.selftestStatus dst) = true →
    fs = [fU8 s.dev.testRun.code, fU8 ((s.dev.failing.map testRow).getD 0xFF)] ++ allTests.map s.testResult ++ s.bistFields →
    s.canShow dst (blockOf fs).length = true → shows (.selftestStatus dst) s s dst (blockOf fs)) ∧
  (∀ (s : State) (m dst : Nat) (fs : List Fld), s.admits (.mbxStatus m dst) = true → m ≤ 40 →
    fs = [fU32 (s.box m).cmdPi.toNat, fU32 (s.box m).rspCi.toNat, fU32 (s.box m).rspPi.toNat, fBool (s.pairWait m),
      fU32 (s.box m).commands, fU32 (s.box m).replays, fU32 (s.box m).dropped, fU32 (s.box m).integrityErrors,
      fU32 (s.box m).pairDenied] →
    s.canShow dst (blockOf fs).length = true → shows (.mbxStatus m dst) s s dst (blockOf fs)) ∧
  (∀ (s : State) (dst : Nat) (fs : List Fld), s.admits (.fwStatus dst) = true →
    fs = s.fw.slotA.fields s.fw.minSec ++ s.fw.slotB.fields s.fw.minSec ++
      [fU8 (s.fw.running.getD 0xFF), fU32 ((s.fw.update.map (·.written)).getD 0)] →
    s.canShow dst (blockOf fs).length = true → shows (.fwStatus dst) s s dst (blockOf fs)) ∧
  (∀ s : State, s.admits .timeStatus = true →
    completes .timeStatus s s .ok [fU8 s.tb.source.code, fBool s.net.stepRefused, fU16 s.tb.epoch.toNat, fS32 s.rateNow,
      fU32 (s.tb.alarms.foldl (fun n a => Count.add n a.2.skipped) 0)])
end

