-- ==== Sys2Proof/Laws/Tab.lean ====
section
/-! SUPPORT. Laws of counts and tables: what a read gives after a write, and that writes keep the canonical form. -/

namespace Sys2Proof

variable {α : Type}

theorem Count.inc_le (c : Count) (h : c ≤ countMax) : c.inc ≤ countMax := by
  unfold Count.inc; split
  · next h' => exact h'
  · exact h

/-- A saturated count stays (R65). -/
@[simp] theorem Count.inc_max : Count.inc countMax = countMax := by decide

@[simp] theorem Tab.get_nil (d : α) (k : Nat) : Tab.get d [] k = d := rfl

/-- Listing a number gives it its value. -/
@[simp] theorem Tab.get_insert_self (d : α) (t : Tab α) (k : Nat) (v : α) : Tab.get d (Tab.insert t k v) k = v := by
  induction t with
  | nil => simp [Tab.insert, Tab.get]
  | cons p t ih =>
    obtain ⟨j, a⟩ := p
    unfold Tab.insert
    split
    · simp [Tab.get]
    · split
      · simp [Tab.get]
      · next h1 h2 => simp [Tab.get, Ne.symm h2, ih]

/-- Listing a number leaves the others alone. -/
theorem Tab.get_insert_ne (d : α) (t : Tab α) (k j : Nat) (v : α) (h : j ≠ k) :
    Tab.get d (Tab.insert t k v) j = Tab.get d t j := by
  induction t with
  | nil => simp [Tab.insert, Tab.get, h.symm]
  | cons p t ih =>
    obtain ⟨i, a⟩ := p
    unfold Tab.insert
    split
    · simp [Tab.get, h.symm]
    · split
      · next h1 h2 => simp [Tab.get, h.symm, ← h2]
      · simp only [Tab.get, ih]

/-- Taking a number off the list leaves the others alone. -/
theorem Tab.get_erase_ne (d : α) (t : Tab α) (k j : Nat) (h : j ≠ k) :
    Tab.get d (Tab.erase t k) j = Tab.get d t j := by
  induction t with
  | nil => rfl
  | cons p t ih =>
    obtain ⟨i, a⟩ := p
    unfold Tab.erase
    split
    · next h1 => simp [Tab.get, h1, h.symm, ih]
    · simp only [Tab.get, ih]

/-- A number taken off the list reads as unlisted. -/
@[simp] theorem Tab.get_erase_self (d : α) (t : Tab α) (k : Nat) : Tab.get d (Tab.erase t k) k = d := by
  induction t with
  | nil => rfl
  | cons p t ih =>
    obtain ⟨i, a⟩ := p
    unfold Tab.erase
    split
    · exact ih
    · next h => simp only [Tab.get, h, if_false]; exact ih

/-- A write leaves every other number alone, whatever the unlisted ones read as. -/
theorem Tab.get_put_ne [DecidableEq α] (d e : α) (t : Tab α) (k j : Nat) (v : α) (h : j ≠ k) :
    Tab.get e (Tab.put d t k v) j = Tab.get e t j := by
  unfold Tab.put; split
  · exact Tab.get_erase_ne e t k j h
  · exact Tab.get_insert_ne e t k j v h

/-- A read after a write. -/
@[simp] theorem Tab.get_put_self [DecidableEq α] (d : α) (t : Tab α) (k : Nat) (v : α) : Tab.get d (Tab.put d t k v) k = v := by
  unfold Tab.put; split
  · next h => rw [Tab.get_erase_self, h]
  · exact Tab.get_insert_self ..

/-- Every number of the table is above `k`. -/
def Tab.above (k : Nat) (t : Tab α) : Prop := ∀ p ∈ t, k < p.1

theorem Tab.sorted_cons (j : Nat) (a : α) (t : Tab α) :
    Tab.sorted ((j, a) :: t) = true ↔ Tab.above j t ∧ Tab.sorted t = true := by
  induction t generalizing j a with
  | nil => simp [Tab.sorted, Tab.above]
  | cons p t ih =>
    obtain ⟨k, b⟩ := p
    simp only [Tab.sorted, Bool.and_eq_true, decide_eq_true_eq]
    constructor
    · rintro ⟨h, hs⟩
      refine ⟨?_, hs⟩
      intro q hq
      rcases List.mem_cons.1 hq with rfl | hq
      · exact h
      · exact Nat.lt_trans h (((ih k b).1 hs).1 q hq)
    · rintro ⟨ha, hs⟩
      exact ⟨ha (k, b) (List.mem_cons_self ..), hs⟩

theorem Tab.get_of_above (d : α) (t : Tab α) (k : Nat) (h : Tab.above k t) : Tab.get d t k = d := by
  induction t with
  | nil => rfl
  | cons p t ih =>
    obtain ⟨j, a⟩ := p
    have hj : k < j := h (j, a) (List.mem_cons_self ..)
    have : j ≠ k := by omega
    simp only [Tab.get, this, if_false]
    exact ih fun q hq => h q (List.mem_cons_of_mem _ hq)

theorem Tab.mem_erase (t : Tab α) (k : Nat) (p : Nat × α) (h : p ∈ Tab.erase t k) : p ∈ t := by
  induction t with
  | nil => cases h
  | cons q t ih =>
    obtain ⟨j, a⟩ := q
    unfold Tab.erase at h
    split at h
    · exact List.mem_cons_of_mem _ (ih h)
    · rcases List.mem_cons.1 h with rfl | h
      · exact List.mem_cons_self ..
      · exact List.mem_cons_of_mem _ (ih h)

theorem Tab.mem_insert (t : Tab α) (k : Nat) (v : α) (p : Nat × α) (h : p ∈ Tab.insert t k v) : p = (k, v) ∨ p ∈ t := by
  induction t with
  | nil => exact .inl (by simpa [Tab.insert] using h)
  | cons q t ih =>
    obtain ⟨j, a⟩ := q
    unfold Tab.insert at h
    split at h
    · rcases List.mem_cons.1 h with rfl | h
      · exact .inl rfl
      · exact .inr h
    · split at h
      · rcases List.mem_cons.1 h with rfl | h
        · exact .inl rfl
        · exact .inr (List.mem_cons_of_mem _ h)
      · rcases List.mem_cons.1 h with rfl | h
        · exact .inr (List.mem_cons_self ..)
        · rcases ih h with rfl | h
          · exact .inl rfl
          · exact .inr (List.mem_cons_of_mem _ h)

theorem Tab.sorted_erase (t : Tab α) (k : Nat) (h : Tab.sorted t = true) : Tab.sorted (Tab.erase t k) = true := by
  induction t with
  | nil => rfl
  | cons p t ih =>
    obtain ⟨j, a⟩ := p
    have ⟨ha, hs⟩ := (Tab.sorted_cons j a t).1 h
    unfold Tab.erase
    split
    · exact ih hs
    · exact (Tab.sorted_cons ..).2 ⟨fun q hq => ha q (Tab.mem_erase t k q hq), ih hs⟩

theorem Tab.sorted_insert (t : Tab α) (k : Nat) (v : α) (h : Tab.sorted t = true) :
    Tab.sorted (Tab.insert t k v) = true := by
  induction t with
  | nil => rfl
  | cons p t ih =>
    obtain ⟨j, a⟩ := p
    have ⟨ha, hs⟩ := (Tab.sorted_cons j a t).1 h
    unfold Tab.insert
    split
    · next hk =>
      refine (Tab.sorted_cons ..).2 ⟨fun q hq => ?_, h⟩
      rcases List.mem_cons.1 hq with rfl | hq
      · exact hk
      · exact Nat.lt_trans hk (ha q hq)
    · split
      · next _ hk => subst hk; exact (Tab.sorted_cons ..).2 ⟨ha, hs⟩
      · next h1 h2 =>
        refine (Tab.sorted_cons ..).2 ⟨fun q hq => ?_, ih hs⟩
        rcases Tab.mem_insert t k v q hq with rfl | hq
        · show j < k; omega
        · exact ha q hq

/-- A write keeps the canonical form. -/
theorem Tab.wf_put [DecidableEq α] (d : α) (t : Tab α) (k : Nat) (v : α) (h : Tab.wf d t = true) :
    Tab.wf d (Tab.put d t k v) = true := by
  simp only [Tab.wf, Bool.and_eq_true, List.all_eq_true, decide_eq_true_eq] at h ⊢
  unfold Tab.put
  split
  · exact ⟨Tab.sorted_erase t k h.1, fun p hp => h.2 p (Tab.mem_erase t k p hp)⟩
  · next hv =>
    refine ⟨Tab.sorted_insert t k v h.1, fun p hp => ?_⟩
    rcases Tab.mem_insert t k v p hp with rfl | hp
    · exact hv
    · exact h.2 p hp

end Sys2Proof
end

