-- ==== Sys2Proof/Laws/State.lean ====
section
/-! SUPPORT. One lemma per field per update of State: each unit's update is read back, and leaves every other field and
every other unit of its group alone. -/

namespace Sys2Proof.Machine

variable (s : State)

/-! ## alarm -/

theorem State.modAlarm_eq (k : Nat) (f : Alarm → Alarm) : s.modAlarm k f = s.setAlarm k (f (s.alarm k)) := rfl

@[simp] theorem State.alarm_setAlarm_self (k : Nat) (v : Alarm) : (s.setAlarm k v).alarm k = v := Tab.get_put_self ..

theorem State.alarm_setAlarm_ne (k j : Nat) (v : Alarm) (h : j ≠ k) : (s.setAlarm k v).alarm j = s.alarm j := Tab.get_put_ne _ _ _ _ _ _ h

@[simp] theorem State.tx_setAlarm (k : Nat) (v : Alarm) : (s.setAlarm k v).tx = s.tx := rfl
@[simp] theorem State.sq_setAlarm (k : Nat) (v : Alarm) : (s.setAlarm k v).sq = s.sq := rfl
@[simp] theorem State.scan_setAlarm (k : Nat) (v : Alarm) : (s.setAlarm k v).scan = s.scan := rfl
@[simp] theorem State.rx_setAlarm (k : Nat) (v : Alarm) : (s.setAlarm k v).rx = s.rx := rfl
@[simp] theorem State.hist_setAlarm (k : Nat) (v : Alarm) : (s.setAlarm k v).hist = s.hist := rfl
@[simp] theorem State.eng_setAlarm (k : Nat) (v : Alarm) : (s.setAlarm k v).eng = s.eng := rfl
@[simp] theorem State.fab_setAlarm (k : Nat) (v : Alarm) : (s.setAlarm k v).fab = s.fab := rfl
@[simp] theorem State.pll_setAlarm (k : Nat) (v : Alarm) : (s.setAlarm k v).pll = s.pll := rfl
@[simp] theorem State.net_setAlarm (k : Nat) (v : Alarm) : (s.setAlarm k v).net = s.net := rfl
@[simp] theorem State.motor_setAlarm (k : Nat) (v : Alarm) : (s.setAlarm k v).motor = s.motor := rfl
@[simp] theorem State.sv_setAlarm (k : Nat) (v : Alarm) : (s.setAlarm k v).sv = s.sv := rfl
@[simp] theorem State.cal_setAlarm (k : Nat) (v : Alarm) : (s.setAlarm k v).cal = s.cal := rfl
@[simp] theorem State.regs_setAlarm (k : Nat) (v : Alarm) : (s.setAlarm k v).regs = s.regs := rfl
@[simp] theorem State.mbx_setAlarm (k : Nat) (v : Alarm) : (s.setAlarm k v).mbx = s.mbx := rfl
@[simp] theorem State.ret_setAlarm (k : Nat) (v : Alarm) : (s.setAlarm k v).ret = s.ret := rfl
@[simp] theorem State.fw_setAlarm (k : Nat) (v : Alarm) : (s.setAlarm k v).fw = s.fw := rfl
@[simp] theorem State.dev_setAlarm (k : Nat) (v : Alarm) : (s.setAlarm k v).dev = s.dev := rfl
@[simp] theorem State.pending_setAlarm (k : Nat) (v : Alarm) : (s.setAlarm k v).pending = s.pending := rfl
@[simp] theorem State.sent_setAlarm (k : Nat) (v : Alarm) : (s.setAlarm k v).sent = s.sent := rfl
@[simp] theorem State.reply_setAlarm (k : Nat) (v : Alarm) : (s.setAlarm k v).reply = s.reply := rfl
@[simp] theorem State.clock_setAlarm (k : Nat) (v : Alarm) : (s.setAlarm k v).clock = s.clock := rfl
@[simp] theorem State.fresh_setAlarm (k : Nat) (v : Alarm) : (s.setAlarm k v).fresh = s.fresh := rfl
@[simp] theorem State.trg_setAlarm (k : Nat) (v : Alarm) (j : Nat) : (s.setAlarm k v).trg j = s.trg j := rfl

/-! ## trg -/

theorem State.modTrg_eq (k : Nat) (f : Trg → Trg) : s.modTrg k f = s.setTrg k (f (s.trg k)) := rfl

@[simp] theorem State.trg_setTrg_self (k : Nat) (v : Trg) : (s.setTrg k v).trg k = v := Tab.get_put_self ..

theorem State.trg_setTrg_ne (k j : Nat) (v : Trg) (h : j ≠ k) : (s.setTrg k v).trg j = s.trg j := Tab.get_put_ne _ _ _ _ _ _ h

@[simp] theorem State.tx_setTrg (k : Nat) (v : Trg) : (s.setTrg k v).tx = s.tx := rfl
@[simp] theorem State.sq_setTrg (k : Nat) (v : Trg) : (s.setTrg k v).sq = s.sq := rfl
@[simp] theorem State.scan_setTrg (k : Nat) (v : Trg) : (s.setTrg k v).scan = s.scan := rfl
@[simp] theorem State.rx_setTrg (k : Nat) (v : Trg) : (s.setTrg k v).rx = s.rx := rfl
@[simp] theorem State.hist_setTrg (k : Nat) (v : Trg) : (s.setTrg k v).hist = s.hist := rfl
@[simp] theorem State.eng_setTrg (k : Nat) (v : Trg) : (s.setTrg k v).eng = s.eng := rfl
@[simp] theorem State.fab_setTrg (k : Nat) (v : Trg) : (s.setTrg k v).fab = s.fab := rfl
@[simp] theorem State.pll_setTrg (k : Nat) (v : Trg) : (s.setTrg k v).pll = s.pll := rfl
@[simp] theorem State.net_setTrg (k : Nat) (v : Trg) : (s.setTrg k v).net = s.net := rfl
@[simp] theorem State.motor_setTrg (k : Nat) (v : Trg) : (s.setTrg k v).motor = s.motor := rfl
@[simp] theorem State.sv_setTrg (k : Nat) (v : Trg) : (s.setTrg k v).sv = s.sv := rfl
@[simp] theorem State.cal_setTrg (k : Nat) (v : Trg) : (s.setTrg k v).cal = s.cal := rfl
@[simp] theorem State.regs_setTrg (k : Nat) (v : Trg) : (s.setTrg k v).regs = s.regs := rfl
@[simp] theorem State.mbx_setTrg (k : Nat) (v : Trg) : (s.setTrg k v).mbx = s.mbx := rfl
@[simp] theorem State.ret_setTrg (k : Nat) (v : Trg) : (s.setTrg k v).ret = s.ret := rfl
@[simp] theorem State.fw_setTrg (k : Nat) (v : Trg) : (s.setTrg k v).fw = s.fw := rfl
@[simp] theorem State.dev_setTrg (k : Nat) (v : Trg) : (s.setTrg k v).dev = s.dev := rfl
@[simp] theorem State.pending_setTrg (k : Nat) (v : Trg) : (s.setTrg k v).pending = s.pending := rfl
@[simp] theorem State.sent_setTrg (k : Nat) (v : Trg) : (s.setTrg k v).sent = s.sent := rfl
@[simp] theorem State.reply_setTrg (k : Nat) (v : Trg) : (s.setTrg k v).reply = s.reply := rfl
@[simp] theorem State.clock_setTrg (k : Nat) (v : Trg) : (s.setTrg k v).clock = s.clock := rfl
@[simp] theorem State.fresh_setTrg (k : Nat) (v : Trg) : (s.setTrg k v).fresh = s.fresh := rfl
@[simp] theorem State.alarm_setTrg (k : Nat) (v : Trg) (j : Nat) : (s.setTrg k v).alarm j = s.alarm j := rfl

/-! ## out -/

theorem State.modOut_eq (k : Nat) (f : OutState → OutState) : s.modOut k f = s.setOut k (f (s.out k)) := rfl

@[simp] theorem State.out_setOut_self (k : Nat) (v : OutState) : (s.setOut k v).out k = v := Tab.get_put_self ..

theorem State.out_setOut_ne (k j : Nat) (v : OutState) (h : j ≠ k) : (s.setOut k v).out j = s.out j := Tab.get_put_ne _ _ _ _ _ _ h

@[simp] theorem State.tb_setOut (k : Nat) (v : OutState) : (s.setOut k v).tb = s.tb := rfl
@[simp] theorem State.sq_setOut (k : Nat) (v : OutState) : (s.setOut k v).sq = s.sq := rfl
@[simp] theorem State.scan_setOut (k : Nat) (v : OutState) : (s.setOut k v).scan = s.scan := rfl
@[simp] theorem State.rx_setOut (k : Nat) (v : OutState) : (s.setOut k v).rx = s.rx := rfl
@[simp] theorem State.hist_setOut (k : Nat) (v : OutState) : (s.setOut k v).hist = s.hist := rfl
@[simp] theorem State.eng_setOut (k : Nat) (v : OutState) : (s.setOut k v).eng = s.eng := rfl
@[simp] theorem State.fab_setOut (k : Nat) (v : OutState) : (s.setOut k v).fab = s.fab := rfl
@[simp] theorem State.pll_setOut (k : Nat) (v : OutState) : (s.setOut k v).pll = s.pll := rfl
@[simp] theorem State.net_setOut (k : Nat) (v : OutState) : (s.setOut k v).net = s.net := rfl
@[simp] theorem State.motor_setOut (k : Nat) (v : OutState) : (s.setOut k v).motor = s.motor := rfl
@[simp] theorem State.sv_setOut (k : Nat) (v : OutState) : (s.setOut k v).sv = s.sv := rfl
@[simp] theorem State.cal_setOut (k : Nat) (v : OutState) : (s.setOut k v).cal = s.cal := rfl
@[simp] theorem State.regs_setOut (k : Nat) (v : OutState) : (s.setOut k v).regs = s.regs := rfl
@[simp] theorem State.mbx_setOut (k : Nat) (v : OutState) : (s.setOut k v).mbx = s.mbx := rfl
@[simp] theorem State.ret_setOut (k : Nat) (v : OutState) : (s.setOut k v).ret = s.ret := rfl
@[simp] theorem State.fw_setOut (k : Nat) (v : OutState) : (s.setOut k v).fw = s.fw := rfl
@[simp] theorem State.dev_setOut (k : Nat) (v : OutState) : (s.setOut k v).dev = s.dev := rfl
@[simp] theorem State.pending_setOut (k : Nat) (v : OutState) : (s.setOut k v).pending = s.pending := rfl
@[simp] theorem State.sent_setOut (k : Nat) (v : OutState) : (s.setOut k v).sent = s.sent := rfl
@[simp] theorem State.reply_setOut (k : Nat) (v : OutState) : (s.setOut k v).reply = s.reply := rfl
@[simp] theorem State.clock_setOut (k : Nat) (v : OutState) : (s.setOut k v).clock = s.clock := rfl
@[simp] theorem State.fresh_setOut (k : Nat) (v : OutState) : (s.setOut k v).fresh = s.fresh := rfl
@[simp] theorem State.row_setOut (k : Nat) (v : OutState) (j : Nat) : (s.setOut k v).row j = s.row j := rfl
@[simp] theorem State.staCfg_setOut (k : Nat) (v : OutState) (j : Nat) : (s.setOut k v).staCfg j = s.staCfg j := rfl
@[simp] theorem State.shot_setOut (k : Nat) (v : OutState) (j : Nat) : (s.setOut k v).shot j = s.shot j := rfl
@[simp] theorem State.testCfg_setOut (k : Nat) (v : OutState) (j : Nat) : (s.setOut k v).testCfg j = s.testCfg j := rfl
@[simp] theorem State.lane_setOut (k : Nat) (v : OutState) (j : Nat) : (s.setOut k v).lane j = s.lane j := rfl
@[simp] theorem State.code_setOut (k : Nat) (v : OutState) (j : Nat) : (s.setOut k v).code j = s.code j := rfl

/-! ## row -/

theorem State.modRow_eq (k : Nat) (f : RowState → RowState) : s.modRow k f = s.setRow k (f (s.row k)) := rfl

@[simp] theorem State.row_setRow_self (k : Nat) (v : RowState) : (s.setRow k v).row k = v := Tab.get_put_self ..

theorem State.row_setRow_ne (k j : Nat) (v : RowState) (h : j ≠ k) : (s.setRow k v).row j = s.row j := Tab.get_put_ne _ _ _ _ _ _ h

@[simp] theorem State.tb_setRow (k : Nat) (v : RowState) : (s.setRow k v).tb = s.tb := rfl
@[simp] theorem State.sq_setRow (k : Nat) (v : RowState) : (s.setRow k v).sq = s.sq := rfl
@[simp] theorem State.scan_setRow (k : Nat) (v : RowState) : (s.setRow k v).scan = s.scan := rfl
@[simp] theorem State.rx_setRow (k : Nat) (v : RowState) : (s.setRow k v).rx = s.rx := rfl
@[simp] theorem State.hist_setRow (k : Nat) (v : RowState) : (s.setRow k v).hist = s.hist := rfl
@[simp] theorem State.eng_setRow (k : Nat) (v : RowState) : (s.setRow k v).eng = s.eng := rfl
@[simp] theorem State.fab_setRow (k : Nat) (v : RowState) : (s.setRow k v).fab = s.fab := rfl
@[simp] theorem State.pll_setRow (k : Nat) (v : RowState) : (s.setRow k v).pll = s.pll := rfl
@[simp] theorem State.net_setRow (k : Nat) (v : RowState) : (s.setRow k v).net = s.net := rfl
@[simp] theorem State.motor_setRow (k : Nat) (v : RowState) : (s.setRow k v).motor = s.motor := rfl
@[simp] theorem State.sv_setRow (k : Nat) (v : RowState) : (s.setRow k v).sv = s.sv := rfl
@[simp] theorem State.cal_setRow (k : Nat) (v : RowState) : (s.setRow k v).cal = s.cal := rfl
@[simp] theorem State.regs_setRow (k : Nat) (v : RowState) : (s.setRow k v).regs = s.regs := rfl
@[simp] theorem State.mbx_setRow (k : Nat) (v : RowState) : (s.setRow k v).mbx = s.mbx := rfl
@[simp] theorem State.ret_setRow (k : Nat) (v : RowState) : (s.setRow k v).ret = s.ret := rfl
@[simp] theorem State.fw_setRow (k : Nat) (v : RowState) : (s.setRow k v).fw = s.fw := rfl
@[simp] theorem State.dev_setRow (k : Nat) (v : RowState) : (s.setRow k v).dev = s.dev := rfl
@[simp] theorem State.pending_setRow (k : Nat) (v : RowState) : (s.setRow k v).pending = s.pending := rfl
@[simp] theorem State.sent_setRow (k : Nat) (v : RowState) : (s.setRow k v).sent = s.sent := rfl
@[simp] theorem State.reply_setRow (k : Nat) (v : RowState) : (s.setRow k v).reply = s.reply := rfl
@[simp] theorem State.clock_setRow (k : Nat) (v : RowState) : (s.setRow k v).clock = s.clock := rfl
@[simp] theorem State.fresh_setRow (k : Nat) (v : RowState) : (s.setRow k v).fresh = s.fresh := rfl
@[simp] theorem State.out_setRow (k : Nat) (v : RowState) (j : Nat) : (s.setRow k v).out j = s.out j := rfl
@[simp] theorem State.staCfg_setRow (k : Nat) (v : RowState) (j : Nat) : (s.setRow k v).staCfg j = s.staCfg j := rfl
@[simp] theorem State.shot_setRow (k : Nat) (v : RowState) (j : Nat) : (s.setRow k v).shot j = s.shot j := rfl
@[simp] theorem State.testCfg_setRow (k : Nat) (v : RowState) (j : Nat) : (s.setRow k v).testCfg j = s.testCfg j := rfl
@[simp] theorem State.lane_setRow (k : Nat) (v : RowState) (j : Nat) : (s.setRow k v).lane j = s.lane j := rfl
@[simp] theorem State.code_setRow (k : Nat) (v : RowState) (j : Nat) : (s.setRow k v).code j = s.code j := rfl

/-! ## staCfg -/

theorem State.modStaCfg_eq (k : Nat) (f : StaCfg → StaCfg) : s.modStaCfg k f = s.setStaCfg k (f (s.staCfg k)) := rfl

@[simp] theorem State.staCfg_setStaCfg_self (k : Nat) (v : StaCfg) : (s.setStaCfg k v).staCfg k = v := Tab.get_put_self ..

theorem State.staCfg_setStaCfg_ne (k j : Nat) (v : StaCfg) (h : j ≠ k) : (s.setStaCfg k v).staCfg j = s.staCfg j := Tab.get_put_ne _ _ _ _ _ _ h

@[simp] theorem State.tb_setStaCfg (k : Nat) (v : StaCfg) : (s.setStaCfg k v).tb = s.tb := rfl
@[simp] theorem State.sq_setStaCfg (k : Nat) (v : StaCfg) : (s.setStaCfg k v).sq = s.sq := rfl
@[simp] theorem State.scan_setStaCfg (k : Nat) (v : StaCfg) : (s.setStaCfg k v).scan = s.scan := rfl
@[simp] theorem State.rx_setStaCfg (k : Nat) (v : StaCfg) : (s.setStaCfg k v).rx = s.rx := rfl
@[simp] theorem State.hist_setStaCfg (k : Nat) (v : StaCfg) : (s.setStaCfg k v).hist = s.hist := rfl
@[simp] theorem State.eng_setStaCfg (k : Nat) (v : StaCfg) : (s.setStaCfg k v).eng = s.eng := rfl
@[simp] theorem State.fab_setStaCfg (k : Nat) (v : StaCfg) : (s.setStaCfg k v).fab = s.fab := rfl
@[simp] theorem State.pll_setStaCfg (k : Nat) (v : StaCfg) : (s.setStaCfg k v).pll = s.pll := rfl
@[simp] theorem State.net_setStaCfg (k : Nat) (v : StaCfg) : (s.setStaCfg k v).net = s.net := rfl
@[simp] theorem State.motor_setStaCfg (k : Nat) (v : StaCfg) : (s.setStaCfg k v).motor = s.motor := rfl
@[simp] theorem State.sv_setStaCfg (k : Nat) (v : StaCfg) : (s.setStaCfg k v).sv = s.sv := rfl
@[simp] theorem State.cal_setStaCfg (k : Nat) (v : StaCfg) : (s.setStaCfg k v).cal = s.cal := rfl
@[simp] theorem State.regs_setStaCfg (k : Nat) (v : StaCfg) : (s.setStaCfg k v).regs = s.regs := rfl
@[simp] theorem State.mbx_setStaCfg (k : Nat) (v : StaCfg) : (s.setStaCfg k v).mbx = s.mbx := rfl
@[simp] theorem State.ret_setStaCfg (k : Nat) (v : StaCfg) : (s.setStaCfg k v).ret = s.ret := rfl
@[simp] theorem State.fw_setStaCfg (k : Nat) (v : StaCfg) : (s.setStaCfg k v).fw = s.fw := rfl
@[simp] theorem State.dev_setStaCfg (k : Nat) (v : StaCfg) : (s.setStaCfg k v).dev = s.dev := rfl
@[simp] theorem State.pending_setStaCfg (k : Nat) (v : StaCfg) : (s.setStaCfg k v).pending = s.pending := rfl
@[simp] theorem State.sent_setStaCfg (k : Nat) (v : StaCfg) : (s.setStaCfg k v).sent = s.sent := rfl
@[simp] theorem State.reply_setStaCfg (k : Nat) (v : StaCfg) : (s.setStaCfg k v).reply = s.reply := rfl
@[simp] theorem State.clock_setStaCfg (k : Nat) (v : StaCfg) : (s.setStaCfg k v).clock = s.clock := rfl
@[simp] theorem State.fresh_setStaCfg (k : Nat) (v : StaCfg) : (s.setStaCfg k v).fresh = s.fresh := rfl
@[simp] theorem State.out_setStaCfg (k : Nat) (v : StaCfg) (j : Nat) : (s.setStaCfg k v).out j = s.out j := rfl
@[simp] theorem State.row_setStaCfg (k : Nat) (v : StaCfg) (j : Nat) : (s.setStaCfg k v).row j = s.row j := rfl
@[simp] theorem State.shot_setStaCfg (k : Nat) (v : StaCfg) (j : Nat) : (s.setStaCfg k v).shot j = s.shot j := rfl
@[simp] theorem State.testCfg_setStaCfg (k : Nat) (v : StaCfg) (j : Nat) : (s.setStaCfg k v).testCfg j = s.testCfg j := rfl
@[simp] theorem State.lane_setStaCfg (k : Nat) (v : StaCfg) (j : Nat) : (s.setStaCfg k v).lane j = s.lane j := rfl
@[simp] theorem State.code_setStaCfg (k : Nat) (v : StaCfg) (j : Nat) : (s.setStaCfg k v).code j = s.code j := rfl

/-! ## shot -/

theorem State.modShot_eq (k : Nat) (f : Option Shot → Option Shot) : s.modShot k f = s.setShot k (f (s.shot k)) := rfl

@[simp] theorem State.shot_setShot_self (k : Nat) (v : Option Shot) : (s.setShot k v).shot k = v := Tab.get_put_self ..

theorem State.shot_setShot_ne (k j : Nat) (v : Option Shot) (h : j ≠ k) : (s.setShot k v).shot j = s.shot j := Tab.get_put_ne _ _ _ _ _ _ h

@[simp] theorem State.tb_setShot (k : Nat) (v : Option Shot) : (s.setShot k v).tb = s.tb := rfl
@[simp] theorem State.sq_setShot (k : Nat) (v : Option Shot) : (s.setShot k v).sq = s.sq := rfl
@[simp] theorem State.scan_setShot (k : Nat) (v : Option Shot) : (s.setShot k v).scan = s.scan := rfl
@[simp] theorem State.rx_setShot (k : Nat) (v : Option Shot) : (s.setShot k v).rx = s.rx := rfl
@[simp] theorem State.hist_setShot (k : Nat) (v : Option Shot) : (s.setShot k v).hist = s.hist := rfl
@[simp] theorem State.eng_setShot (k : Nat) (v : Option Shot) : (s.setShot k v).eng = s.eng := rfl
@[simp] theorem State.fab_setShot (k : Nat) (v : Option Shot) : (s.setShot k v).fab = s.fab := rfl
@[simp] theorem State.pll_setShot (k : Nat) (v : Option Shot) : (s.setShot k v).pll = s.pll := rfl
@[simp] theorem State.net_setShot (k : Nat) (v : Option Shot) : (s.setShot k v).net = s.net := rfl
@[simp] theorem State.motor_setShot (k : Nat) (v : Option Shot) : (s.setShot k v).motor = s.motor := rfl
@[simp] theorem State.sv_setShot (k : Nat) (v : Option Shot) : (s.setShot k v).sv = s.sv := rfl
@[simp] theorem State.cal_setShot (k : Nat) (v : Option Shot) : (s.setShot k v).cal = s.cal := rfl
@[simp] theorem State.regs_setShot (k : Nat) (v : Option Shot) : (s.setShot k v).regs = s.regs := rfl
@[simp] theorem State.mbx_setShot (k : Nat) (v : Option Shot) : (s.setShot k v).mbx = s.mbx := rfl
@[simp] theorem State.ret_setShot (k : Nat) (v : Option Shot) : (s.setShot k v).ret = s.ret := rfl
@[simp] theorem State.fw_setShot (k : Nat) (v : Option Shot) : (s.setShot k v).fw = s.fw := rfl
@[simp] theorem State.dev_setShot (k : Nat) (v : Option Shot) : (s.setShot k v).dev = s.dev := rfl
@[simp] theorem State.pending_setShot (k : Nat) (v : Option Shot) : (s.setShot k v).pending = s.pending := rfl
@[simp] theorem State.sent_setShot (k : Nat) (v : Option Shot) : (s.setShot k v).sent = s.sent := rfl
@[simp] theorem State.reply_setShot (k : Nat) (v : Option Shot) : (s.setShot k v).reply = s.reply := rfl
@[simp] theorem State.clock_setShot (k : Nat) (v : Option Shot) : (s.setShot k v).clock = s.clock := rfl
@[simp] theorem State.fresh_setShot (k : Nat) (v : Option Shot) : (s.setShot k v).fresh = s.fresh := rfl
@[simp] theorem State.out_setShot (k : Nat) (v : Option Shot) (j : Nat) : (s.setShot k v).out j = s.out j := rfl
@[simp] theorem State.row_setShot (k : Nat) (v : Option Shot) (j : Nat) : (s.setShot k v).row j = s.row j := rfl
@[simp] theorem State.staCfg_setShot (k : Nat) (v : Option Shot) (j : Nat) : (s.setShot k v).staCfg j = s.staCfg j := rfl
@[simp] theorem State.testCfg_setShot (k : Nat) (v : Option Shot) (j : Nat) : (s.setShot k v).testCfg j = s.testCfg j := rfl
@[simp] theorem State.lane_setShot (k : Nat) (v : Option Shot) (j : Nat) : (s.setShot k v).lane j = s.lane j := rfl
@[simp] theorem State.code_setShot (k : Nat) (v : Option Shot) (j : Nat) : (s.setShot k v).code j = s.code j := rfl

/-! ## testCfg -/

theorem State.modTestCfg_eq (k : Nat) (f : TestCfg → TestCfg) : s.modTestCfg k f = s.setTestCfg k (f (s.testCfg k)) := rfl

@[simp] theorem State.testCfg_setTestCfg_self (k : Nat) (v : TestCfg) : (s.setTestCfg k v).testCfg k = v := Tab.get_put_self ..

theorem State.testCfg_setTestCfg_ne (k j : Nat) (v : TestCfg) (h : j ≠ k) : (s.setTestCfg k v).testCfg j = s.testCfg j := Tab.get_put_ne _ _ _ _ _ _ h

@[simp] theorem State.tb_setTestCfg (k : Nat) (v : TestCfg) : (s.setTestCfg k v).tb = s.tb := rfl
@[simp] theorem State.sq_setTestCfg (k : Nat) (v : TestCfg) : (s.setTestCfg k v).sq = s.sq := rfl
@[simp] theorem State.scan_setTestCfg (k : Nat) (v : TestCfg) : (s.setTestCfg k v).scan = s.scan := rfl
@[simp] theorem State.rx_setTestCfg (k : Nat) (v : TestCfg) : (s.setTestCfg k v).rx = s.rx := rfl
@[simp] theorem State.hist_setTestCfg (k : Nat) (v : TestCfg) : (s.setTestCfg k v).hist = s.hist := rfl
@[simp] theorem State.eng_setTestCfg (k : Nat) (v : TestCfg) : (s.setTestCfg k v).eng = s.eng := rfl
@[simp] theorem State.fab_setTestCfg (k : Nat) (v : TestCfg) : (s.setTestCfg k v).fab = s.fab := rfl
@[simp] theorem State.pll_setTestCfg (k : Nat) (v : TestCfg) : (s.setTestCfg k v).pll = s.pll := rfl
@[simp] theorem State.net_setTestCfg (k : Nat) (v : TestCfg) : (s.setTestCfg k v).net = s.net := rfl
@[simp] theorem State.motor_setTestCfg (k : Nat) (v : TestCfg) : (s.setTestCfg k v).motor = s.motor := rfl
@[simp] theorem State.sv_setTestCfg (k : Nat) (v : TestCfg) : (s.setTestCfg k v).sv = s.sv := rfl
@[simp] theorem State.cal_setTestCfg (k : Nat) (v : TestCfg) : (s.setTestCfg k v).cal = s.cal := rfl
@[simp] theorem State.regs_setTestCfg (k : Nat) (v : TestCfg) : (s.setTestCfg k v).regs = s.regs := rfl
@[simp] theorem State.mbx_setTestCfg (k : Nat) (v : TestCfg) : (s.setTestCfg k v).mbx = s.mbx := rfl
@[simp] theorem State.ret_setTestCfg (k : Nat) (v : TestCfg) : (s.setTestCfg k v).ret = s.ret := rfl
@[simp] theorem State.fw_setTestCfg (k : Nat) (v : TestCfg) : (s.setTestCfg k v).fw = s.fw := rfl
@[simp] theorem State.dev_setTestCfg (k : Nat) (v : TestCfg) : (s.setTestCfg k v).dev = s.dev := rfl
@[simp] theorem State.pending_setTestCfg (k : Nat) (v : TestCfg) : (s.setTestCfg k v).pending = s.pending := rfl
@[simp] theorem State.sent_setTestCfg (k : Nat) (v : TestCfg) : (s.setTestCfg k v).sent = s.sent := rfl
@[simp] theorem State.reply_setTestCfg (k : Nat) (v : TestCfg) : (s.setTestCfg k v).reply = s.reply := rfl
@[simp] theorem State.clock_setTestCfg (k : Nat) (v : TestCfg) : (s.setTestCfg k v).clock = s.clock := rfl
@[simp] theorem State.fresh_setTestCfg (k : Nat) (v : TestCfg) : (s.setTestCfg k v).fresh = s.fresh := rfl
@[simp] theorem State.out_setTestCfg (k : Nat) (v : TestCfg) (j : Nat) : (s.setTestCfg k v).out j = s.out j := rfl
@[simp] theorem State.row_setTestCfg (k : Nat) (v : TestCfg) (j : Nat) : (s.setTestCfg k v).row j = s.row j := rfl
@[simp] theorem State.staCfg_setTestCfg (k : Nat) (v : TestCfg) (j : Nat) : (s.setTestCfg k v).staCfg j = s.staCfg j := rfl
@[simp] theorem State.shot_setTestCfg (k : Nat) (v : TestCfg) (j : Nat) : (s.setTestCfg k v).shot j = s.shot j := rfl
@[simp] theorem State.lane_setTestCfg (k : Nat) (v : TestCfg) (j : Nat) : (s.setTestCfg k v).lane j = s.lane j := rfl
@[simp] theorem State.code_setTestCfg (k : Nat) (v : TestCfg) (j : Nat) : (s.setTestCfg k v).code j = s.code j := rfl

/-! ## lane -/

theorem State.modLane_eq (k : Nat) (f : List TestJob → List TestJob) : s.modLane k f = s.setLane k (f (s.lane k)) := rfl

@[simp] theorem State.lane_setLane_self (k : Nat) (v : List TestJob) : (s.setLane k v).lane k = v := Tab.get_put_self ..

theorem State.lane_setLane_ne (k j : Nat) (v : List TestJob) (h : j ≠ k) : (s.setLane k v).lane j = s.lane j := Tab.get_put_ne _ _ _ _ _ _ h

@[simp] theorem State.tb_setLane (k : Nat) (v : List TestJob) : (s.setLane k v).tb = s.tb := rfl
@[simp] theorem State.sq_setLane (k : Nat) (v : List TestJob) : (s.setLane k v).sq = s.sq := rfl
@[simp] theorem State.scan_setLane (k : Nat) (v : List TestJob) : (s.setLane k v).scan = s.scan := rfl
@[simp] theorem State.rx_setLane (k : Nat) (v : List TestJob) : (s.setLane k v).rx = s.rx := rfl
@[simp] theorem State.hist_setLane (k : Nat) (v : List TestJob) : (s.setLane k v).hist = s.hist := rfl
@[simp] theorem State.eng_setLane (k : Nat) (v : List TestJob) : (s.setLane k v).eng = s.eng := rfl
@[simp] theorem State.fab_setLane (k : Nat) (v : List TestJob) : (s.setLane k v).fab = s.fab := rfl
@[simp] theorem State.pll_setLane (k : Nat) (v : List TestJob) : (s.setLane k v).pll = s.pll := rfl
@[simp] theorem State.net_setLane (k : Nat) (v : List TestJob) : (s.setLane k v).net = s.net := rfl
@[simp] theorem State.motor_setLane (k : Nat) (v : List TestJob) : (s.setLane k v).motor = s.motor := rfl
@[simp] theorem State.sv_setLane (k : Nat) (v : List TestJob) : (s.setLane k v).sv = s.sv := rfl
@[simp] theorem State.cal_setLane (k : Nat) (v : List TestJob) : (s.setLane k v).cal = s.cal := rfl
@[simp] theorem State.regs_setLane (k : Nat) (v : List TestJob) : (s.setLane k v).regs = s.regs := rfl
@[simp] theorem State.mbx_setLane (k : Nat) (v : List TestJob) : (s.setLane k v).mbx = s.mbx := rfl
@[simp] theorem State.ret_setLane (k : Nat) (v : List TestJob) : (s.setLane k v).ret = s.ret := rfl
@[simp] theorem State.fw_setLane (k : Nat) (v : List TestJob) : (s.setLane k v).fw = s.fw := rfl
@[simp] theorem State.dev_setLane (k : Nat) (v : List TestJob) : (s.setLane k v).dev = s.dev := rfl
@[simp] theorem State.pending_setLane (k : Nat) (v : List TestJob) : (s.setLane k v).pending = s.pending := rfl
@[simp] theorem State.sent_setLane (k : Nat) (v : List TestJob) : (s.setLane k v).sent = s.sent := rfl
@[simp] theorem State.reply_setLane (k : Nat) (v : List TestJob) : (s.setLane k v).reply = s.reply := rfl
@[simp] theorem State.clock_setLane (k : Nat) (v : List TestJob) : (s.setLane k v).clock = s.clock := rfl
@[simp] theorem State.fresh_setLane (k : Nat) (v : List TestJob) : (s.setLane k v).fresh = s.fresh := rfl
@[simp] theorem State.out_setLane (k : Nat) (v : List TestJob) (j : Nat) : (s.setLane k v).out j = s.out j := rfl
@[simp] theorem State.row_setLane (k : Nat) (v : List TestJob) (j : Nat) : (s.setLane k v).row j = s.row j := rfl
@[simp] theorem State.staCfg_setLane (k : Nat) (v : List TestJob) (j : Nat) : (s.setLane k v).staCfg j = s.staCfg j := rfl
@[simp] theorem State.shot_setLane (k : Nat) (v : List TestJob) (j : Nat) : (s.setLane k v).shot j = s.shot j := rfl
@[simp] theorem State.testCfg_setLane (k : Nat) (v : List TestJob) (j : Nat) : (s.setLane k v).testCfg j = s.testCfg j := rfl
@[simp] theorem State.code_setLane (k : Nat) (v : List TestJob) (j : Nat) : (s.setLane k v).code j = s.code j := rfl

/-! ## code -/

theorem State.modCode_eq (k : Nat) (f : CodeProfile → CodeProfile) : s.modCode k f = s.setCode k (f (s.code k)) := rfl

@[simp] theorem State.code_setCode_self (k : Nat) (v : CodeProfile) : (s.setCode k v).code k = v := Tab.get_put_self ..

theorem State.code_setCode_ne (k j : Nat) (v : CodeProfile) (h : j ≠ k) : (s.setCode k v).code j = s.code j := Tab.get_put_ne _ _ _ _ _ _ h

@[simp] theorem State.tb_setCode (k : Nat) (v : CodeProfile) : (s.setCode k v).tb = s.tb := rfl
@[simp] theorem State.sq_setCode (k : Nat) (v : CodeProfile) : (s.setCode k v).sq = s.sq := rfl
@[simp] theorem State.scan_setCode (k : Nat) (v : CodeProfile) : (s.setCode k v).scan = s.scan := rfl
@[simp] theorem State.rx_setCode (k : Nat) (v : CodeProfile) : (s.setCode k v).rx = s.rx := rfl
@[simp] theorem State.hist_setCode (k : Nat) (v : CodeProfile) : (s.setCode k v).hist = s.hist := rfl
@[simp] theorem State.eng_setCode (k : Nat) (v : CodeProfile) : (s.setCode k v).eng = s.eng := rfl
@[simp] theorem State.fab_setCode (k : Nat) (v : CodeProfile) : (s.setCode k v).fab = s.fab := rfl
@[simp] theorem State.pll_setCode (k : Nat) (v : CodeProfile) : (s.setCode k v).pll = s.pll := rfl
@[simp] theorem State.net_setCode (k : Nat) (v : CodeProfile) : (s.setCode k v).net = s.net := rfl
@[simp] theorem State.motor_setCode (k : Nat) (v : CodeProfile) : (s.setCode k v).motor = s.motor := rfl
@[simp] theorem State.sv_setCode (k : Nat) (v : CodeProfile) : (s.setCode k v).sv = s.sv := rfl
@[simp] theorem State.cal_setCode (k : Nat) (v : CodeProfile) : (s.setCode k v).cal = s.cal := rfl
@[simp] theorem State.regs_setCode (k : Nat) (v : CodeProfile) : (s.setCode k v).regs = s.regs := rfl
@[simp] theorem State.mbx_setCode (k : Nat) (v : CodeProfile) : (s.setCode k v).mbx = s.mbx := rfl
@[simp] theorem State.ret_setCode (k : Nat) (v : CodeProfile) : (s.setCode k v).ret = s.ret := rfl
@[simp] theorem State.fw_setCode (k : Nat) (v : CodeProfile) : (s.setCode k v).fw = s.fw := rfl
@[simp] theorem State.dev_setCode (k : Nat) (v : CodeProfile) : (s.setCode k v).dev = s.dev := rfl
@[simp] theorem State.pending_setCode (k : Nat) (v : CodeProfile) : (s.setCode k v).pending = s.pending := rfl
@[simp] theorem State.sent_setCode (k : Nat) (v : CodeProfile) : (s.setCode k v).sent = s.sent := rfl
@[simp] theorem State.reply_setCode (k : Nat) (v : CodeProfile) : (s.setCode k v).reply = s.reply := rfl
@[simp] theorem State.clock_setCode (k : Nat) (v : CodeProfile) : (s.setCode k v).clock = s.clock := rfl
@[simp] theorem State.fresh_setCode (k : Nat) (v : CodeProfile) : (s.setCode k v).fresh = s.fresh := rfl
@[simp] theorem State.out_setCode (k : Nat) (v : CodeProfile) (j : Nat) : (s.setCode k v).out j = s.out j := rfl
@[simp] theorem State.row_setCode (k : Nat) (v : CodeProfile) (j : Nat) : (s.setCode k v).row j = s.row j := rfl
@[simp] theorem State.staCfg_setCode (k : Nat) (v : CodeProfile) (j : Nat) : (s.setCode k v).staCfg j = s.staCfg j := rfl
@[simp] theorem State.shot_setCode (k : Nat) (v : CodeProfile) (j : Nat) : (s.setCode k v).shot j = s.shot j := rfl
@[simp] theorem State.testCfg_setCode (k : Nat) (v : CodeProfile) (j : Nat) : (s.setCode k v).testCfg j = s.testCfg j := rfl
@[simp] theorem State.lane_setCode (k : Nat) (v : CodeProfile) (j : Nat) : (s.setCode k v).lane j = s.lane j := rfl

/-! ## seq -/

theorem State.modSeq_eq (k : Nat) (f : SeqState → SeqState) : s.modSeq k f = s.setSeq k (f (s.seq k)) := rfl

@[simp] theorem State.seq_setSeq_self (k : Nat) (v : SeqState) : (s.setSeq k v).seq k = v := Tab.get_put_self ..

theorem State.seq_setSeq_ne (k j : Nat) (v : SeqState) (h : j ≠ k) : (s.setSeq k v).seq j = s.seq j := Tab.get_put_ne _ _ _ _ _ _ h

@[simp] theorem State.tb_setSeq (k : Nat) (v : SeqState) : (s.setSeq k v).tb = s.tb := rfl
@[simp] theorem State.tx_setSeq (k : Nat) (v : SeqState) : (s.setSeq k v).tx = s.tx := rfl
@[simp] theorem State.scan_setSeq (k : Nat) (v : SeqState) : (s.setSeq k v).scan = s.scan := rfl
@[simp] theorem State.rx_setSeq (k : Nat) (v : SeqState) : (s.setSeq k v).rx = s.rx := rfl
@[simp] theorem State.hist_setSeq (k : Nat) (v : SeqState) : (s.setSeq k v).hist = s.hist := rfl
@[simp] theorem State.eng_setSeq (k : Nat) (v : SeqState) : (s.setSeq k v).eng = s.eng := rfl
@[simp] theorem State.fab_setSeq (k : Nat) (v : SeqState) : (s.setSeq k v).fab = s.fab := rfl
@[simp] theorem State.pll_setSeq (k : Nat) (v : SeqState) : (s.setSeq k v).pll = s.pll := rfl
@[simp] theorem State.net_setSeq (k : Nat) (v : SeqState) : (s.setSeq k v).net = s.net := rfl
@[simp] theorem State.motor_setSeq (k : Nat) (v : SeqState) : (s.setSeq k v).motor = s.motor := rfl
@[simp] theorem State.sv_setSeq (k : Nat) (v : SeqState) : (s.setSeq k v).sv = s.sv := rfl
@[simp] theorem State.cal_setSeq (k : Nat) (v : SeqState) : (s.setSeq k v).cal = s.cal := rfl
@[simp] theorem State.regs_setSeq (k : Nat) (v : SeqState) : (s.setSeq k v).regs = s.regs := rfl
@[simp] theorem State.mbx_setSeq (k : Nat) (v : SeqState) : (s.setSeq k v).mbx = s.mbx := rfl
@[simp] theorem State.ret_setSeq (k : Nat) (v : SeqState) : (s.setSeq k v).ret = s.ret := rfl
@[simp] theorem State.fw_setSeq (k : Nat) (v : SeqState) : (s.setSeq k v).fw = s.fw := rfl
@[simp] theorem State.dev_setSeq (k : Nat) (v : SeqState) : (s.setSeq k v).dev = s.dev := rfl
@[simp] theorem State.pending_setSeq (k : Nat) (v : SeqState) : (s.setSeq k v).pending = s.pending := rfl
@[simp] theorem State.sent_setSeq (k : Nat) (v : SeqState) : (s.setSeq k v).sent = s.sent := rfl
@[simp] theorem State.reply_setSeq (k : Nat) (v : SeqState) : (s.setSeq k v).reply = s.reply := rfl
@[simp] theorem State.clock_setSeq (k : Nat) (v : SeqState) : (s.setSeq k v).clock = s.clock := rfl
@[simp] theorem State.fresh_setSeq (k : Nat) (v : SeqState) : (s.setSeq k v).fresh = s.fresh := rfl

/-! ## encoder -/

theorem State.modEncoder_eq (k : Nat) (f : Encoder → Encoder) : s.modEncoder k f = s.setEncoder k (f (s.encoder k)) := rfl

@[simp] theorem State.encoder_setEncoder_self (k : Nat) (v : Encoder) : (s.setEncoder k v).encoder k = v := Tab.get_put_self ..

theorem State.encoder_setEncoder_ne (k j : Nat) (v : Encoder) (h : j ≠ k) : (s.setEncoder k v).encoder j = s.encoder j := Tab.get_put_ne _ _ _ _ _ _ h

@[simp] theorem State.tb_setEncoder (k : Nat) (v : Encoder) : (s.setEncoder k v).tb = s.tb := rfl
@[simp] theorem State.tx_setEncoder (k : Nat) (v : Encoder) : (s.setEncoder k v).tx = s.tx := rfl
@[simp] theorem State.sq_setEncoder (k : Nat) (v : Encoder) : (s.setEncoder k v).sq = s.sq := rfl
@[simp] theorem State.rx_setEncoder (k : Nat) (v : Encoder) : (s.setEncoder k v).rx = s.rx := rfl
@[simp] theorem State.hist_setEncoder (k : Nat) (v : Encoder) : (s.setEncoder k v).hist = s.hist := rfl
@[simp] theorem State.eng_setEncoder (k : Nat) (v : Encoder) : (s.setEncoder k v).eng = s.eng := rfl
@[simp] theorem State.fab_setEncoder (k : Nat) (v : Encoder) : (s.setEncoder k v).fab = s.fab := rfl
@[simp] theorem State.pll_setEncoder (k : Nat) (v : Encoder) : (s.setEncoder k v).pll = s.pll := rfl
@[simp] theorem State.net_setEncoder (k : Nat) (v : Encoder) : (s.setEncoder k v).net = s.net := rfl
@[simp] theorem State.motor_setEncoder (k : Nat) (v : Encoder) : (s.setEncoder k v).motor = s.motor := rfl
@[simp] theorem State.sv_setEncoder (k : Nat) (v : Encoder) : (s.setEncoder k v).sv = s.sv := rfl
@[simp] theorem State.cal_setEncoder (k : Nat) (v : Encoder) : (s.setEncoder k v).cal = s.cal := rfl
@[simp] theorem State.regs_setEncoder (k : Nat) (v : Encoder) : (s.setEncoder k v).regs = s.regs := rfl
@[simp] theorem State.mbx_setEncoder (k : Nat) (v : Encoder) : (s.setEncoder k v).mbx = s.mbx := rfl
@[simp] theorem State.ret_setEncoder (k : Nat) (v : Encoder) : (s.setEncoder k v).ret = s.ret := rfl
@[simp] theorem State.fw_setEncoder (k : Nat) (v : Encoder) : (s.setEncoder k v).fw = s.fw := rfl
@[simp] theorem State.dev_setEncoder (k : Nat) (v : Encoder) : (s.setEncoder k v).dev = s.dev := rfl
@[simp] theorem State.pending_setEncoder (k : Nat) (v : Encoder) : (s.setEncoder k v).pending = s.pending := rfl
@[simp] theorem State.sent_setEncoder (k : Nat) (v : Encoder) : (s.setEncoder k v).sent = s.sent := rfl
@[simp] theorem State.reply_setEncoder (k : Nat) (v : Encoder) : (s.setEncoder k v).reply = s.reply := rfl
@[simp] theorem State.clock_setEncoder (k : Nat) (v : Encoder) : (s.setEncoder k v).clock = s.clock := rfl
@[simp] theorem State.fresh_setEncoder (k : Nat) (v : Encoder) : (s.setEncoder k v).fresh = s.fresh := rfl
@[simp] theorem State.estimator_setEncoder (k : Nat) (v : Encoder) (j : Nat) : (s.setEncoder k v).estimator j = s.estimator j := rfl
@[simp] theorem State.mark_setEncoder (k : Nat) (v : Encoder) (j : Nat) : (s.setEncoder k v).mark j = s.mark j := rfl

/-! ## estimator -/

theorem State.modEstimator_eq (k : Nat) (f : Estimator → Estimator) : s.modEstimator k f = s.setEstimator k (f (s.estimator k)) := rfl

@[simp] theorem State.estimator_setEstimator_self (k : Nat) (v : Estimator) : (s.setEstimator k v).estimator k = v := Tab.get_put_self ..

theorem State.estimator_setEstimator_ne (k j : Nat) (v : Estimator) (h : j ≠ k) : (s.setEstimator k v).estimator j = s.estimator j := Tab.get_put_ne _ _ _ _ _ _ h

@[simp] theorem State.tb_setEstimator (k : Nat) (v : Estimator) : (s.setEstimator k v).tb = s.tb := rfl
@[simp] theorem State.tx_setEstimator (k : Nat) (v : Estimator) : (s.setEstimator k v).tx = s.tx := rfl
@[simp] theorem State.sq_setEstimator (k : Nat) (v : Estimator) : (s.setEstimator k v).sq = s.sq := rfl
@[simp] theorem State.rx_setEstimator (k : Nat) (v : Estimator) : (s.setEstimator k v).rx = s.rx := rfl
@[simp] theorem State.hist_setEstimator (k : Nat) (v : Estimator) : (s.setEstimator k v).hist = s.hist := rfl
@[simp] theorem State.eng_setEstimator (k : Nat) (v : Estimator) : (s.setEstimator k v).eng = s.eng := rfl
@[simp] theorem State.fab_setEstimator (k : Nat) (v : Estimator) : (s.setEstimator k v).fab = s.fab := rfl
@[simp] theorem State.pll_setEstimator (k : Nat) (v : Estimator) : (s.setEstimator k v).pll = s.pll := rfl
@[simp] theorem State.net_setEstimator (k : Nat) (v : Estimator) : (s.setEstimator k v).net = s.net := rfl
@[simp] theorem State.motor_setEstimator (k : Nat) (v : Estimator) : (s.setEstimator k v).motor = s.motor := rfl
@[simp] theorem State.sv_setEstimator (k : Nat) (v : Estimator) : (s.setEstimator k v).sv = s.sv := rfl
@[simp] theorem State.cal_setEstimator (k : Nat) (v : Estimator) : (s.setEstimator k v).cal = s.cal := rfl
@[simp] theorem State.regs_setEstimator (k : Nat) (v : Estimator) : (s.setEstimator k v).regs = s.regs := rfl
@[simp] theorem State.mbx_setEstimator (k : Nat) (v : Estimator) : (s.setEstimator k v).mbx = s.mbx := rfl
@[simp] theorem State.ret_setEstimator (k : Nat) (v : Estimator) : (s.setEstimator k v).ret = s.ret := rfl
@[simp] theorem State.fw_setEstimator (k : Nat) (v : Estimator) : (s.setEstimator k v).fw = s.fw := rfl
@[simp] theorem State.dev_setEstimator (k : Nat) (v : Estimator) : (s.setEstimator k v).dev = s.dev := rfl
@[simp] theorem State.pending_setEstimator (k : Nat) (v : Estimator) : (s.setEstimator k v).pending = s.pending := rfl
@[simp] theorem State.sent_setEstimator (k : Nat) (v : Estimator) : (s.setEstimator k v).sent = s.sent := rfl
@[simp] theorem State.reply_setEstimator (k : Nat) (v : Estimator) : (s.setEstimator k v).reply = s.reply := rfl
@[simp] theorem State.clock_setEstimator (k : Nat) (v : Estimator) : (s.setEstimator k v).clock = s.clock := rfl
@[simp] theorem State.fresh_setEstimator (k : Nat) (v : Estimator) : (s.setEstimator k v).fresh = s.fresh := rfl
@[simp] theorem State.encoder_setEstimator (k : Nat) (v : Estimator) (j : Nat) : (s.setEstimator k v).encoder j = s.encoder j := rfl
@[simp] theorem State.mark_setEstimator (k : Nat) (v : Estimator) (j : Nat) : (s.setEstimator k v).mark j = s.mark j := rfl

/-! ## mark -/

theorem State.modMark_eq (k : Nat) (f : AngleMark → AngleMark) : s.modMark k f = s.setMark k (f (s.mark k)) := rfl

@[simp] theorem State.mark_setMark_self (k : Nat) (v : AngleMark) : (s.setMark k v).mark k = v := Tab.get_put_self ..

theorem State.mark_setMark_ne (k j : Nat) (v : AngleMark) (h : j ≠ k) : (s.setMark k v).mark j = s.mark j := Tab.get_put_ne _ _ _ _ _ _ h

@[simp] theorem State.tb_setMark (k : Nat) (v : AngleMark) : (s.setMark k v).tb = s.tb := rfl
@[simp] theorem State.tx_setMark (k : Nat) (v : AngleMark) : (s.setMark k v).tx = s.tx := rfl
@[simp] theorem State.sq_setMark (k : Nat) (v : AngleMark) : (s.setMark k v).sq = s.sq := rfl
@[simp] theorem State.rx_setMark (k : Nat) (v : AngleMark) : (s.setMark k v).rx = s.rx := rfl
@[simp] theorem State.hist_setMark (k : Nat) (v : AngleMark) : (s.setMark k v).hist = s.hist := rfl
@[simp] theorem State.eng_setMark (k : Nat) (v : AngleMark) : (s.setMark k v).eng = s.eng := rfl
@[simp] theorem State.fab_setMark (k : Nat) (v : AngleMark) : (s.setMark k v).fab = s.fab := rfl
@[simp] theorem State.pll_setMark (k : Nat) (v : AngleMark) : (s.setMark k v).pll = s.pll := rfl
@[simp] theorem State.net_setMark (k : Nat) (v : AngleMark) : (s.setMark k v).net = s.net := rfl
@[simp] theorem State.motor_setMark (k : Nat) (v : AngleMark) : (s.setMark k v).motor = s.motor := rfl
@[simp] theorem State.sv_setMark (k : Nat) (v : AngleMark) : (s.setMark k v).sv = s.sv := rfl
@[simp] theorem State.cal_setMark (k : Nat) (v : AngleMark) : (s.setMark k v).cal = s.cal := rfl
@[simp] theorem State.regs_setMark (k : Nat) (v : AngleMark) : (s.setMark k v).regs = s.regs := rfl
@[simp] theorem State.mbx_setMark (k : Nat) (v : AngleMark) : (s.setMark k v).mbx = s.mbx := rfl
@[simp] theorem State.ret_setMark (k : Nat) (v : AngleMark) : (s.setMark k v).ret = s.ret := rfl
@[simp] theorem State.fw_setMark (k : Nat) (v : AngleMark) : (s.setMark k v).fw = s.fw := rfl
@[simp] theorem State.dev_setMark (k : Nat) (v : AngleMark) : (s.setMark k v).dev = s.dev := rfl
@[simp] theorem State.pending_setMark (k : Nat) (v : AngleMark) : (s.setMark k v).pending = s.pending := rfl
@[simp] theorem State.sent_setMark (k : Nat) (v : AngleMark) : (s.setMark k v).sent = s.sent := rfl
@[simp] theorem State.reply_setMark (k : Nat) (v : AngleMark) : (s.setMark k v).reply = s.reply := rfl
@[simp] theorem State.clock_setMark (k : Nat) (v : AngleMark) : (s.setMark k v).clock = s.clock := rfl
@[simp] theorem State.fresh_setMark (k : Nat) (v : AngleMark) : (s.setMark k v).fresh = s.fresh := rfl
@[simp] theorem State.encoder_setMark (k : Nat) (v : AngleMark) (j : Nat) : (s.setMark k v).encoder j = s.encoder j := rfl
@[simp] theorem State.estimator_setMark (k : Nat) (v : AngleMark) (j : Nat) : (s.setMark k v).estimator j = s.estimator j := rfl

/-! ## chan -/

theorem State.modChan_eq (k : Nat) (f : Channel → Channel) : s.modChan k f = s.setChan k (f (s.chan k)) := rfl

@[simp] theorem State.chan_setChan_self (k : Nat) (v : Channel) : (s.setChan k v).chan k = v := Tab.get_put_self ..

theorem State.chan_setChan_ne (k j : Nat) (v : Channel) (h : j ≠ k) : (s.setChan k v).chan j = s.chan j := Tab.get_put_ne _ _ _ _ _ _ h

@[simp] theorem State.tb_setChan (k : Nat) (v : Channel) : (s.setChan k v).tb = s.tb := rfl
@[simp] theorem State.tx_setChan (k : Nat) (v : Channel) : (s.setChan k v).tx = s.tx := rfl
@[simp] theorem State.sq_setChan (k : Nat) (v : Channel) : (s.setChan k v).sq = s.sq := rfl
@[simp] theorem State.scan_setChan (k : Nat) (v : Channel) : (s.setChan k v).scan = s.scan := rfl
@[simp] theorem State.hist_setChan (k : Nat) (v : Channel) : (s.setChan k v).hist = s.hist := rfl
@[simp] theorem State.eng_setChan (k : Nat) (v : Channel) : (s.setChan k v).eng = s.eng := rfl
@[simp] theorem State.fab_setChan (k : Nat) (v : Channel) : (s.setChan k v).fab = s.fab := rfl
@[simp] theorem State.pll_setChan (k : Nat) (v : Channel) : (s.setChan k v).pll = s.pll := rfl
@[simp] theorem State.net_setChan (k : Nat) (v : Channel) : (s.setChan k v).net = s.net := rfl
@[simp] theorem State.motor_setChan (k : Nat) (v : Channel) : (s.setChan k v).motor = s.motor := rfl
@[simp] theorem State.sv_setChan (k : Nat) (v : Channel) : (s.setChan k v).sv = s.sv := rfl
@[simp] theorem State.cal_setChan (k : Nat) (v : Channel) : (s.setChan k v).cal = s.cal := rfl
@[simp] theorem State.regs_setChan (k : Nat) (v : Channel) : (s.setChan k v).regs = s.regs := rfl
@[simp] theorem State.mbx_setChan (k : Nat) (v : Channel) : (s.setChan k v).mbx = s.mbx := rfl
@[simp] theorem State.ret_setChan (k : Nat) (v : Channel) : (s.setChan k v).ret = s.ret := rfl
@[simp] theorem State.fw_setChan (k : Nat) (v : Channel) : (s.setChan k v).fw = s.fw := rfl
@[simp] theorem State.dev_setChan (k : Nat) (v : Channel) : (s.setChan k v).dev = s.dev := rfl
@[simp] theorem State.pending_setChan (k : Nat) (v : Channel) : (s.setChan k v).pending = s.pending := rfl
@[simp] theorem State.sent_setChan (k : Nat) (v : Channel) : (s.setChan k v).sent = s.sent := rfl
@[simp] theorem State.reply_setChan (k : Nat) (v : Channel) : (s.setChan k v).reply = s.reply := rfl
@[simp] theorem State.clock_setChan (k : Nat) (v : Channel) : (s.setChan k v).clock = s.clock := rfl
@[simp] theorem State.fresh_setChan (k : Nat) (v : Channel) : (s.setChan k v).fresh = s.fresh := rfl
@[simp] theorem State.sta_setChan (k : Nat) (v : Channel) (j : Nat) : (s.setChan k v).sta j = s.sta j := rfl
@[simp] theorem State.input_setChan (k : Nat) (v : Channel) (j : Nat) : (s.setChan k v).input j = s.input j := rfl
@[simp] theorem State.gateProf_setChan (k : Nat) (v : Channel) (j : Nat) : (s.setChan k v).gateProf j = s.gateProf j := rfl
@[simp] theorem State.matchProf_setChan (k : Nat) (v : Channel) (j : Nat) : (s.setChan k v).matchProf j = s.matchProf j := rfl
@[simp] theorem State.tap_setChan (k : Nat) (v : Channel) (j : Nat) : (s.setChan k v).tap j = s.tap j := rfl

/-! ## sta -/

theorem State.modSta_eq (k : Nat) (f : StaState → StaState) : s.modSta k f = s.setSta k (f (s.sta k)) := rfl

@[simp] theorem State.sta_setSta_self (k : Nat) (v : StaState) : (s.setSta k v).sta k = v := Tab.get_put_self ..

theorem State.sta_setSta_ne (k j : Nat) (v : StaState) (h : j ≠ k) : (s.setSta k v).sta j = s.sta j := Tab.get_put_ne _ _ _ _ _ _ h

@[simp] theorem State.tb_setSta (k : Nat) (v : StaState) : (s.setSta k v).tb = s.tb := rfl
@[simp] theorem State.tx_setSta (k : Nat) (v : StaState) : (s.setSta k v).tx = s.tx := rfl
@[simp] theorem State.sq_setSta (k : Nat) (v : StaState) : (s.setSta k v).sq = s.sq := rfl
@[simp] theorem State.scan_setSta (k : Nat) (v : StaState) : (s.setSta k v).scan = s.scan := rfl
@[simp] theorem State.hist_setSta (k : Nat) (v : StaState) : (s.setSta k v).hist = s.hist := rfl
@[simp] theorem State.eng_setSta (k : Nat) (v : StaState) : (s.setSta k v).eng = s.eng := rfl
@[simp] theorem State.fab_setSta (k : Nat) (v : StaState) : (s.setSta k v).fab = s.fab := rfl
@[simp] theorem State.pll_setSta (k : Nat) (v : StaState) : (s.setSta k v).pll = s.pll := rfl
@[simp] theorem State.net_setSta (k : Nat) (v : StaState) : (s.setSta k v).net = s.net := rfl
@[simp] theorem State.motor_setSta (k : Nat) (v : StaState) : (s.setSta k v).motor = s.motor := rfl
@[simp] theorem State.sv_setSta (k : Nat) (v : StaState) : (s.setSta k v).sv = s.sv := rfl
@[simp] theorem State.cal_setSta (k : Nat) (v : StaState) : (s.setSta k v).cal = s.cal := rfl
@[simp] theorem State.regs_setSta (k : Nat) (v : StaState) : (s.setSta k v).regs = s.regs := rfl
@[simp] theorem State.mbx_setSta (k : Nat) (v : StaState) : (s.setSta k v).mbx = s.mbx := rfl
@[simp] theorem State.ret_setSta (k : Nat) (v : StaState) : (s.setSta k v).ret = s.ret := rfl
@[simp] theorem State.fw_setSta (k : Nat) (v : StaState) : (s.setSta k v).fw = s.fw := rfl
@[simp] theorem State.dev_setSta (k : Nat) (v : StaState) : (s.setSta k v).dev = s.dev := rfl
@[simp] theorem State.pending_setSta (k : Nat) (v : StaState) : (s.setSta k v).pending = s.pending := rfl
@[simp] theorem State.sent_setSta (k : Nat) (v : StaState) : (s.setSta k v).sent = s.sent := rfl
@[simp] theorem State.reply_setSta (k : Nat) (v : StaState) : (s.setSta k v).reply = s.reply := rfl
@[simp] theorem State.clock_setSta (k : Nat) (v : StaState) : (s.setSta k v).clock = s.clock := rfl
@[simp] theorem State.fresh_setSta (k : Nat) (v : StaState) : (s.setSta k v).fresh = s.fresh := rfl
@[simp] theorem State.chan_setSta (k : Nat) (v : StaState) (j : Nat) : (s.setSta k v).chan j = s.chan j := rfl
@[simp] theorem State.input_setSta (k : Nat) (v : StaState) (j : Nat) : (s.setSta k v).input j = s.input j := rfl
@[simp] theorem State.gateProf_setSta (k : Nat) (v : StaState) (j : Nat) : (s.setSta k v).gateProf j = s.gateProf j := rfl
@[simp] theorem State.matchProf_setSta (k : Nat) (v : StaState) (j : Nat) : (s.setSta k v).matchProf j = s.matchProf j := rfl
@[simp] theorem State.tap_setSta (k : Nat) (v : StaState) (j : Nat) : (s.setSta k v).tap j = s.tap j := rfl

/-! ## input -/

theorem State.modInput_eq (k : Nat) (f : InputState → InputState) : s.modInput k f = s.setInput k (f (s.input k)) := rfl

@[simp] theorem State.input_setInput_self (k : Nat) (v : InputState) : (s.setInput k v).input k = v := Tab.get_put_self ..

theorem State.input_setInput_ne (k j : Nat) (v : InputState) (h : j ≠ k) : (s.setInput k v).input j = s.input j := Tab.get_put_ne _ _ _ _ _ _ h

@[simp] theorem State.tb_setInput (k : Nat) (v : InputState) : (s.setInput k v).tb = s.tb := rfl
@[simp] theorem State.tx_setInput (k : Nat) (v : InputState) : (s.setInput k v).tx = s.tx := rfl
@[simp] theorem State.sq_setInput (k : Nat) (v : InputState) : (s.setInput k v).sq = s.sq := rfl
@[simp] theorem State.scan_setInput (k : Nat) (v : InputState) : (s.setInput k v).scan = s.scan := rfl
@[simp] theorem State.hist_setInput (k : Nat) (v : InputState) : (s.setInput k v).hist = s.hist := rfl
@[simp] theorem State.eng_setInput (k : Nat) (v : InputState) : (s.setInput k v).eng = s.eng := rfl
@[simp] theorem State.fab_setInput (k : Nat) (v : InputState) : (s.setInput k v).fab = s.fab := rfl
@[simp] theorem State.pll_setInput (k : Nat) (v : InputState) : (s.setInput k v).pll = s.pll := rfl
@[simp] theorem State.net_setInput (k : Nat) (v : InputState) : (s.setInput k v).net = s.net := rfl
@[simp] theorem State.motor_setInput (k : Nat) (v : InputState) : (s.setInput k v).motor = s.motor := rfl
@[simp] theorem State.sv_setInput (k : Nat) (v : InputState) : (s.setInput k v).sv = s.sv := rfl
@[simp] theorem State.cal_setInput (k : Nat) (v : InputState) : (s.setInput k v).cal = s.cal := rfl
@[simp] theorem State.regs_setInput (k : Nat) (v : InputState) : (s.setInput k v).regs = s.regs := rfl
@[simp] theorem State.mbx_setInput (k : Nat) (v : InputState) : (s.setInput k v).mbx = s.mbx := rfl
@[simp] theorem State.ret_setInput (k : Nat) (v : InputState) : (s.setInput k v).ret = s.ret := rfl
@[simp] theorem State.fw_setInput (k : Nat) (v : InputState) : (s.setInput k v).fw = s.fw := rfl
@[simp] theorem State.dev_setInput (k : Nat) (v : InputState) : (s.setInput k v).dev = s.dev := rfl
@[simp] theorem State.pending_setInput (k : Nat) (v : InputState) : (s.setInput k v).pending = s.pending := rfl
@[simp] theorem State.sent_setInput (k : Nat) (v : InputState) : (s.setInput k v).sent = s.sent := rfl
@[simp] theorem State.reply_setInput (k : Nat) (v : InputState) : (s.setInput k v).reply = s.reply := rfl
@[simp] theorem State.clock_setInput (k : Nat) (v : InputState) : (s.setInput k v).clock = s.clock := rfl
@[simp] theorem State.fresh_setInput (k : Nat) (v : InputState) : (s.setInput k v).fresh = s.fresh := rfl
@[simp] theorem State.chan_setInput (k : Nat) (v : InputState) (j : Nat) : (s.setInput k v).chan j = s.chan j := rfl
@[simp] theorem State.sta_setInput (k : Nat) (v : InputState) (j : Nat) : (s.setInput k v).sta j = s.sta j := rfl
@[simp] theorem State.gateProf_setInput (k : Nat) (v : InputState) (j : Nat) : (s.setInput k v).gateProf j = s.gateProf j := rfl
@[simp] theorem State.matchProf_setInput (k : Nat) (v : InputState) (j : Nat) : (s.setInput k v).matchProf j = s.matchProf j := rfl
@[simp] theorem State.tap_setInput (k : Nat) (v : InputState) (j : Nat) : (s.setInput k v).tap j = s.tap j := rfl

/-! ## gateProf -/

theorem State.modGateProf_eq (k : Nat) (f : GateProfile → GateProfile) : s.modGateProf k f = s.setGateProf k (f (s.gateProf k)) := rfl

@[simp] theorem State.gateProf_setGateProf_self (k : Nat) (v : GateProfile) : (s.setGateProf k v).gateProf k = v := Tab.get_put_self ..

theorem State.gateProf_setGateProf_ne (k j : Nat) (v : GateProfile) (h : j ≠ k) : (s.setGateProf k v).gateProf j = s.gateProf j := Tab.get_put_ne _ _ _ _ _ _ h

@[simp] theorem State.tb_setGateProf (k : Nat) (v : GateProfile) : (s.setGateProf k v).tb = s.tb := rfl
@[simp] theorem State.tx_setGateProf (k : Nat) (v : GateProfile) : (s.setGateProf k v).tx = s.tx := rfl
@[simp] theorem State.sq_setGateProf (k : Nat) (v : GateProfile) : (s.setGateProf k v).sq = s.sq := rfl
@[simp] theorem State.scan_setGateProf (k : Nat) (v : GateProfile) : (s.setGateProf k v).scan = s.scan := rfl
@[simp] theorem State.hist_setGateProf (k : Nat) (v : GateProfile) : (s.setGateProf k v).hist = s.hist := rfl
@[simp] theorem State.eng_setGateProf (k : Nat) (v : GateProfile) : (s.setGateProf k v).eng = s.eng := rfl
@[simp] theorem State.fab_setGateProf (k : Nat) (v : GateProfile) : (s.setGateProf k v).fab = s.fab := rfl
@[simp] theorem State.pll_setGateProf (k : Nat) (v : GateProfile) : (s.setGateProf k v).pll = s.pll := rfl
@[simp] theorem State.net_setGateProf (k : Nat) (v : GateProfile) : (s.setGateProf k v).net = s.net := rfl
@[simp] theorem State.motor_setGateProf (k : Nat) (v : GateProfile) : (s.setGateProf k v).motor = s.motor := rfl
@[simp] theorem State.sv_setGateProf (k : Nat) (v : GateProfile) : (s.setGateProf k v).sv = s.sv := rfl
@[simp] theorem State.cal_setGateProf (k : Nat) (v : GateProfile) : (s.setGateProf k v).cal = s.cal := rfl
@[simp] theorem State.regs_setGateProf (k : Nat) (v : GateProfile) : (s.setGateProf k v).regs = s.regs := rfl
@[simp] theorem State.mbx_setGateProf (k : Nat) (v : GateProfile) : (s.setGateProf k v).mbx = s.mbx := rfl
@[simp] theorem State.ret_setGateProf (k : Nat) (v : GateProfile) : (s.setGateProf k v).ret = s.ret := rfl
@[simp] theorem State.fw_setGateProf (k : Nat) (v : GateProfile) : (s.setGateProf k v).fw = s.fw := rfl
@[simp] theorem State.dev_setGateProf (k : Nat) (v : GateProfile) : (s.setGateProf k v).dev = s.dev := rfl
@[simp] theorem State.pending_setGateProf (k : Nat) (v : GateProfile) : (s.setGateProf k v).pending = s.pending := rfl
@[simp] theorem State.sent_setGateProf (k : Nat) (v : GateProfile) : (s.setGateProf k v).sent = s.sent := rfl
@[simp] theorem State.reply_setGateProf (k : Nat) (v : GateProfile) : (s.setGateProf k v).reply = s.reply := rfl
@[simp] theorem State.clock_setGateProf (k : Nat) (v : GateProfile) : (s.setGateProf k v).clock = s.clock := rfl
@[simp] theorem State.fresh_setGateProf (k : Nat) (v : GateProfile) : (s.setGateProf k v).fresh = s.fresh := rfl
@[simp] theorem State.chan_setGateProf (k : Nat) (v : GateProfile) (j : Nat) : (s.setGateProf k v).chan j = s.chan j := rfl
@[simp] theorem State.sta_setGateProf (k : Nat) (v : GateProfile) (j : Nat) : (s.setGateProf k v).sta j = s.sta j := rfl
@[simp] theorem State.input_setGateProf (k : Nat) (v : GateProfile) (j : Nat) : (s.setGateProf k v).input j = s.input j := rfl
@[simp] theorem State.matchProf_setGateProf (k : Nat) (v : GateProfile) (j : Nat) : (s.setGateProf k v).matchProf j = s.matchProf j := rfl
@[simp] theorem State.tap_setGateProf (k : Nat) (v : GateProfile) (j : Nat) : (s.setGateProf k v).tap j = s.tap j := rfl

/-! ## matchProf -/

theorem State.modMatchProf_eq (k : Nat) (f : MatchProfile → MatchProfile) : s.modMatchProf k f = s.setMatchProf k (f (s.matchProf k)) := rfl

@[simp] theorem State.matchProf_setMatchProf_self (k : Nat) (v : MatchProfile) : (s.setMatchProf k v).matchProf k = v := Tab.get_put_self ..

theorem State.matchProf_setMatchProf_ne (k j : Nat) (v : MatchProfile) (h : j ≠ k) : (s.setMatchProf k v).matchProf j = s.matchProf j := Tab.get_put_ne _ _ _ _ _ _ h

@[simp] theorem State.tb_setMatchProf (k : Nat) (v : MatchProfile) : (s.setMatchProf k v).tb = s.tb := rfl
@[simp] theorem State.tx_setMatchProf (k : Nat) (v : MatchProfile) : (s.setMatchProf k v).tx = s.tx := rfl
@[simp] theorem State.sq_setMatchProf (k : Nat) (v : MatchProfile) : (s.setMatchProf k v).sq = s.sq := rfl
@[simp] theorem State.scan_setMatchProf (k : Nat) (v : MatchProfile) : (s.setMatchProf k v).scan = s.scan := rfl
@[simp] theorem State.hist_setMatchProf (k : Nat) (v : MatchProfile) : (s.setMatchProf k v).hist = s.hist := rfl
@[simp] theorem State.eng_setMatchProf (k : Nat) (v : MatchProfile) : (s.setMatchProf k v).eng = s.eng := rfl
@[simp] theorem State.fab_setMatchProf (k : Nat) (v : MatchProfile) : (s.setMatchProf k v).fab = s.fab := rfl
@[simp] theorem State.pll_setMatchProf (k : Nat) (v : MatchProfile) : (s.setMatchProf k v).pll = s.pll := rfl
@[simp] theorem State.net_setMatchProf (k : Nat) (v : MatchProfile) : (s.setMatchProf k v).net = s.net := rfl
@[simp] theorem State.motor_setMatchProf (k : Nat) (v : MatchProfile) : (s.setMatchProf k v).motor = s.motor := rfl
@[simp] theorem State.sv_setMatchProf (k : Nat) (v : MatchProfile) : (s.setMatchProf k v).sv = s.sv := rfl
@[simp] theorem State.cal_setMatchProf (k : Nat) (v : MatchProfile) : (s.setMatchProf k v).cal = s.cal := rfl
@[simp] theorem State.regs_setMatchProf (k : Nat) (v : MatchProfile) : (s.setMatchProf k v).regs = s.regs := rfl
@[simp] theorem State.mbx_setMatchProf (k : Nat) (v : MatchProfile) : (s.setMatchProf k v).mbx = s.mbx := rfl
@[simp] theorem State.ret_setMatchProf (k : Nat) (v : MatchProfile) : (s.setMatchProf k v).ret = s.ret := rfl
@[simp] theorem State.fw_setMatchProf (k : Nat) (v : MatchProfile) : (s.setMatchProf k v).fw = s.fw := rfl
@[simp] theorem State.dev_setMatchProf (k : Nat) (v : MatchProfile) : (s.setMatchProf k v).dev = s.dev := rfl
@[simp] theorem State.pending_setMatchProf (k : Nat) (v : MatchProfile) : (s.setMatchProf k v).pending = s.pending := rfl
@[simp] theorem State.sent_setMatchProf (k : Nat) (v : MatchProfile) : (s.setMatchProf k v).sent = s.sent := rfl
@[simp] theorem State.reply_setMatchProf (k : Nat) (v : MatchProfile) : (s.setMatchProf k v).reply = s.reply := rfl
@[simp] theorem State.clock_setMatchProf (k : Nat) (v : MatchProfile) : (s.setMatchProf k v).clock = s.clock := rfl
@[simp] theorem State.fresh_setMatchProf (k : Nat) (v : MatchProfile) : (s.setMatchProf k v).fresh = s.fresh := rfl
@[simp] theorem State.chan_setMatchProf (k : Nat) (v : MatchProfile) (j : Nat) : (s.setMatchProf k v).chan j = s.chan j := rfl
@[simp] theorem State.sta_setMatchProf (k : Nat) (v : MatchProfile) (j : Nat) : (s.setMatchProf k v).sta j = s.sta j := rfl
@[simp] theorem State.input_setMatchProf (k : Nat) (v : MatchProfile) (j : Nat) : (s.setMatchProf k v).input j = s.input j := rfl
@[simp] theorem State.gateProf_setMatchProf (k : Nat) (v : MatchProfile) (j : Nat) : (s.setMatchProf k v).gateProf j = s.gateProf j := rfl
@[simp] theorem State.tap_setMatchProf (k : Nat) (v : MatchProfile) (j : Nat) : (s.setMatchProf k v).tap j = s.tap j := rfl

/-! ## tap -/

theorem State.modTap_eq (k : Nat) (f : Tap → Tap) : s.modTap k f = s.setTap k (f (s.tap k)) := rfl

@[simp] theorem State.tap_setTap_self (k : Nat) (v : Tap) : (s.setTap k v).tap k = v := Tab.get_put_self ..

theorem State.tap_setTap_ne (k j : Nat) (v : Tap) (h : j ≠ k) : (s.setTap k v).tap j = s.tap j := Tab.get_put_ne _ _ _ _ _ _ h

@[simp] theorem State.tb_setTap (k : Nat) (v : Tap) : (s.setTap k v).tb = s.tb := rfl
@[simp] theorem State.tx_setTap (k : Nat) (v : Tap) : (s.setTap k v).tx = s.tx := rfl
@[simp] theorem State.sq_setTap (k : Nat) (v : Tap) : (s.setTap k v).sq = s.sq := rfl
@[simp] theorem State.scan_setTap (k : Nat) (v : Tap) : (s.setTap k v).scan = s.scan := rfl
@[simp] theorem State.hist_setTap (k : Nat) (v : Tap) : (s.setTap k v).hist = s.hist := rfl
@[simp] theorem State.eng_setTap (k : Nat) (v : Tap) : (s.setTap k v).eng = s.eng := rfl
@[simp] theorem State.fab_setTap (k : Nat) (v : Tap) : (s.setTap k v).fab = s.fab := rfl
@[simp] theorem State.pll_setTap (k : Nat) (v : Tap) : (s.setTap k v).pll = s.pll := rfl
@[simp] theorem State.net_setTap (k : Nat) (v : Tap) : (s.setTap k v).net = s.net := rfl
@[simp] theorem State.motor_setTap (k : Nat) (v : Tap) : (s.setTap k v).motor = s.motor := rfl
@[simp] theorem State.sv_setTap (k : Nat) (v : Tap) : (s.setTap k v).sv = s.sv := rfl
@[simp] theorem State.cal_setTap (k : Nat) (v : Tap) : (s.setTap k v).cal = s.cal := rfl
@[simp] theorem State.regs_setTap (k : Nat) (v : Tap) : (s.setTap k v).regs = s.regs := rfl
@[simp] theorem State.mbx_setTap (k : Nat) (v : Tap) : (s.setTap k v).mbx = s.mbx := rfl
@[simp] theorem State.ret_setTap (k : Nat) (v : Tap) : (s.setTap k v).ret = s.ret := rfl
@[simp] theorem State.fw_setTap (k : Nat) (v : Tap) : (s.setTap k v).fw = s.fw := rfl
@[simp] theorem State.dev_setTap (k : Nat) (v : Tap) : (s.setTap k v).dev = s.dev := rfl
@[simp] theorem State.pending_setTap (k : Nat) (v : Tap) : (s.setTap k v).pending = s.pending := rfl
@[simp] theorem State.sent_setTap (k : Nat) (v : Tap) : (s.setTap k v).sent = s.sent := rfl
@[simp] theorem State.reply_setTap (k : Nat) (v : Tap) : (s.setTap k v).reply = s.reply := rfl
@[simp] theorem State.clock_setTap (k : Nat) (v : Tap) : (s.setTap k v).clock = s.clock := rfl
@[simp] theorem State.fresh_setTap (k : Nat) (v : Tap) : (s.setTap k v).fresh = s.fresh := rfl
@[simp] theorem State.chan_setTap (k : Nat) (v : Tap) (j : Nat) : (s.setTap k v).chan j = s.chan j := rfl
@[simp] theorem State.sta_setTap (k : Nat) (v : Tap) (j : Nat) : (s.setTap k v).sta j = s.sta j := rfl
@[simp] theorem State.input_setTap (k : Nat) (v : Tap) (j : Nat) : (s.setTap k v).input j = s.input j := rfl
@[simp] theorem State.gateProf_setTap (k : Nat) (v : Tap) (j : Nat) : (s.setTap k v).gateProf j = s.gateProf j := rfl
@[simp] theorem State.matchProf_setTap (k : Nat) (v : Tap) (j : Nat) : (s.setTap k v).matchProf j = s.matchProf j := rfl

/-! ## bank -/

theorem State.modBank_eq (k : Nat) (f : Bank → Bank) : s.modBank k f = s.setBank k (f (s.bank k)) := rfl

@[simp] theorem State.bank_setBank_self (k : Nat) (v : Bank) : (s.setBank k v).bank k = v := Tab.get_put_self ..

theorem State.bank_setBank_ne (k j : Nat) (v : Bank) (h : j ≠ k) : (s.setBank k v).bank j = s.bank j := Tab.get_put_ne _ _ _ _ _ _ h

@[simp] theorem State.tb_setBank (k : Nat) (v : Bank) : (s.setBank k v).tb = s.tb := rfl
@[simp] theorem State.tx_setBank (k : Nat) (v : Bank) : (s.setBank k v).tx = s.tx := rfl
@[simp] theorem State.sq_setBank (k : Nat) (v : Bank) : (s.setBank k v).sq = s.sq := rfl
@[simp] theorem State.scan_setBank (k : Nat) (v : Bank) : (s.setBank k v).scan = s.scan := rfl
@[simp] theorem State.rx_setBank (k : Nat) (v : Bank) : (s.setBank k v).rx = s.rx := rfl
@[simp] theorem State.eng_setBank (k : Nat) (v : Bank) : (s.setBank k v).eng = s.eng := rfl
@[simp] theorem State.fab_setBank (k : Nat) (v : Bank) : (s.setBank k v).fab = s.fab := rfl
@[simp] theorem State.pll_setBank (k : Nat) (v : Bank) : (s.setBank k v).pll = s.pll := rfl
@[simp] theorem State.net_setBank (k : Nat) (v : Bank) : (s.setBank k v).net = s.net := rfl
@[simp] theorem State.motor_setBank (k : Nat) (v : Bank) : (s.setBank k v).motor = s.motor := rfl
@[simp] theorem State.sv_setBank (k : Nat) (v : Bank) : (s.setBank k v).sv = s.sv := rfl
@[simp] theorem State.cal_setBank (k : Nat) (v : Bank) : (s.setBank k v).cal = s.cal := rfl
@[simp] theorem State.regs_setBank (k : Nat) (v : Bank) : (s.setBank k v).regs = s.regs := rfl
@[simp] theorem State.mbx_setBank (k : Nat) (v : Bank) : (s.setBank k v).mbx = s.mbx := rfl
@[simp] theorem State.ret_setBank (k : Nat) (v : Bank) : (s.setBank k v).ret = s.ret := rfl
@[simp] theorem State.fw_setBank (k : Nat) (v : Bank) : (s.setBank k v).fw = s.fw := rfl
@[simp] theorem State.dev_setBank (k : Nat) (v : Bank) : (s.setBank k v).dev = s.dev := rfl
@[simp] theorem State.pending_setBank (k : Nat) (v : Bank) : (s.setBank k v).pending = s.pending := rfl
@[simp] theorem State.sent_setBank (k : Nat) (v : Bank) : (s.setBank k v).sent = s.sent := rfl
@[simp] theorem State.reply_setBank (k : Nat) (v : Bank) : (s.setBank k v).reply = s.reply := rfl
@[simp] theorem State.clock_setBank (k : Nat) (v : Bank) : (s.setBank k v).clock = s.clock := rfl
@[simp] theorem State.fresh_setBank (k : Nat) (v : Bank) : (s.setBank k v).fresh = s.fresh := rfl
@[simp] theorem State.histChan_setBank (k : Nat) (v : Bank) (j : Nat) : (s.setBank k v).histChan j = s.histChan j := rfl

/-! ## histChan -/

theorem State.modHistChan_eq (k : Nat) (f : HistChannel → HistChannel) : s.modHistChan k f = s.setHistChan k (f (s.histChan k)) := rfl

@[simp] theorem State.histChan_setHistChan_self (k : Nat) (v : HistChannel) : (s.setHistChan k v).histChan k = v := Tab.get_put_self ..

theorem State.histChan_setHistChan_ne (k j : Nat) (v : HistChannel) (h : j ≠ k) : (s.setHistChan k v).histChan j = s.histChan j := Tab.get_put_ne _ _ _ _ _ _ h

@[simp] theorem State.tb_setHistChan (k : Nat) (v : HistChannel) : (s.setHistChan k v).tb = s.tb := rfl
@[simp] theorem State.tx_setHistChan (k : Nat) (v : HistChannel) : (s.setHistChan k v).tx = s.tx := rfl
@[simp] theorem State.sq_setHistChan (k : Nat) (v : HistChannel) : (s.setHistChan k v).sq = s.sq := rfl
@[simp] theorem State.scan_setHistChan (k : Nat) (v : HistChannel) : (s.setHistChan k v).scan = s.scan := rfl
@[simp] theorem State.rx_setHistChan (k : Nat) (v : HistChannel) : (s.setHistChan k v).rx = s.rx := rfl
@[simp] theorem State.eng_setHistChan (k : Nat) (v : HistChannel) : (s.setHistChan k v).eng = s.eng := rfl
@[simp] theorem State.fab_setHistChan (k : Nat) (v : HistChannel) : (s.setHistChan k v).fab = s.fab := rfl
@[simp] theorem State.pll_setHistChan (k : Nat) (v : HistChannel) : (s.setHistChan k v).pll = s.pll := rfl
@[simp] theorem State.net_setHistChan (k : Nat) (v : HistChannel) : (s.setHistChan k v).net = s.net := rfl
@[simp] theorem State.motor_setHistChan (k : Nat) (v : HistChannel) : (s.setHistChan k v).motor = s.motor := rfl
@[simp] theorem State.sv_setHistChan (k : Nat) (v : HistChannel) : (s.setHistChan k v).sv = s.sv := rfl
@[simp] theorem State.cal_setHistChan (k : Nat) (v : HistChannel) : (s.setHistChan k v).cal = s.cal := rfl
@[simp] theorem State.regs_setHistChan (k : Nat) (v : HistChannel) : (s.setHistChan k v).regs = s.regs := rfl
@[simp] theorem State.mbx_setHistChan (k : Nat) (v : HistChannel) : (s.setHistChan k v).mbx = s.mbx := rfl
@[simp] theorem State.ret_setHistChan (k : Nat) (v : HistChannel) : (s.setHistChan k v).ret = s.ret := rfl
@[simp] theorem State.fw_setHistChan (k : Nat) (v : HistChannel) : (s.setHistChan k v).fw = s.fw := rfl
@[simp] theorem State.dev_setHistChan (k : Nat) (v : HistChannel) : (s.setHistChan k v).dev = s.dev := rfl
@[simp] theorem State.pending_setHistChan (k : Nat) (v : HistChannel) : (s.setHistChan k v).pending = s.pending := rfl
@[simp] theorem State.sent_setHistChan (k : Nat) (v : HistChannel) : (s.setHistChan k v).sent = s.sent := rfl
@[simp] theorem State.reply_setHistChan (k : Nat) (v : HistChannel) : (s.setHistChan k v).reply = s.reply := rfl
@[simp] theorem State.clock_setHistChan (k : Nat) (v : HistChannel) : (s.setHistChan k v).clock = s.clock := rfl
@[simp] theorem State.fresh_setHistChan (k : Nat) (v : HistChannel) : (s.setHistChan k v).fresh = s.fresh := rfl
@[simp] theorem State.bank_setHistChan (k : Nat) (v : HistChannel) (j : Nat) : (s.setHistChan k v).bank j = s.bank j := rfl

/-! ## engine -/

theorem State.modEngine_eq (k : Nat) (f : Engine → Engine) : s.modEngine k f = s.setEngine k (f (s.engine k)) := rfl

@[simp] theorem State.engine_setEngine_self (k : Nat) (v : Engine) : (s.setEngine k v).engine k = v := Tab.get_put_self ..

theorem State.engine_setEngine_ne (k j : Nat) (v : Engine) (h : j ≠ k) : (s.setEngine k v).engine j = s.engine j := Tab.get_put_ne _ _ _ _ _ _ h

@[simp] theorem State.tb_setEngine (k : Nat) (v : Engine) : (s.setEngine k v).tb = s.tb := rfl
@[simp] theorem State.tx_setEngine (k : Nat) (v : Engine) : (s.setEngine k v).tx = s.tx := rfl
@[simp] theorem State.sq_setEngine (k : Nat) (v : Engine) : (s.setEngine k v).sq = s.sq := rfl
@[simp] theorem State.scan_setEngine (k : Nat) (v : Engine) : (s.setEngine k v).scan = s.scan := rfl
@[simp] theorem State.rx_setEngine (k : Nat) (v : Engine) : (s.setEngine k v).rx = s.rx := rfl
@[simp] theorem State.hist_setEngine (k : Nat) (v : Engine) : (s.setEngine k v).hist = s.hist := rfl
@[simp] theorem State.fab_setEngine (k : Nat) (v : Engine) : (s.setEngine k v).fab = s.fab := rfl
@[simp] theorem State.pll_setEngine (k : Nat) (v : Engine) : (s.setEngine k v).pll = s.pll := rfl
@[simp] theorem State.net_setEngine (k : Nat) (v : Engine) : (s.setEngine k v).net = s.net := rfl
@[simp] theorem State.motor_setEngine (k : Nat) (v : Engine) : (s.setEngine k v).motor = s.motor := rfl
@[simp] theorem State.sv_setEngine (k : Nat) (v : Engine) : (s.setEngine k v).sv = s.sv := rfl
@[simp] theorem State.cal_setEngine (k : Nat) (v : Engine) : (s.setEngine k v).cal = s.cal := rfl
@[simp] theorem State.regs_setEngine (k : Nat) (v : Engine) : (s.setEngine k v).regs = s.regs := rfl
@[simp] theorem State.mbx_setEngine (k : Nat) (v : Engine) : (s.setEngine k v).mbx = s.mbx := rfl
@[simp] theorem State.ret_setEngine (k : Nat) (v : Engine) : (s.setEngine k v).ret = s.ret := rfl
@[simp] theorem State.fw_setEngine (k : Nat) (v : Engine) : (s.setEngine k v).fw = s.fw := rfl
@[simp] theorem State.dev_setEngine (k : Nat) (v : Engine) : (s.setEngine k v).dev = s.dev := rfl
@[simp] theorem State.pending_setEngine (k : Nat) (v : Engine) : (s.setEngine k v).pending = s.pending := rfl
@[simp] theorem State.sent_setEngine (k : Nat) (v : Engine) : (s.setEngine k v).sent = s.sent := rfl
@[simp] theorem State.reply_setEngine (k : Nat) (v : Engine) : (s.setEngine k v).reply = s.reply := rfl
@[simp] theorem State.clock_setEngine (k : Nat) (v : Engine) : (s.setEngine k v).clock = s.clock := rfl
@[simp] theorem State.fresh_setEngine (k : Nat) (v : Engine) : (s.setEngine k v).fresh = s.fresh := rfl
@[simp] theorem State.stream_setEngine (k : Nat) (v : Engine) (j : Nat) : (s.setEngine k v).stream j = s.stream j := rfl

/-! ## stream -/

theorem State.modStream_eq (k : Nat) (f : Stream → Stream) : s.modStream k f = s.setStream k (f (s.stream k)) := rfl

@[simp] theorem State.stream_setStream_self (k : Nat) (v : Stream) : (s.setStream k v).stream k = v := Tab.get_put_self ..

theorem State.stream_setStream_ne (k j : Nat) (v : Stream) (h : j ≠ k) : (s.setStream k v).stream j = s.stream j := Tab.get_put_ne _ _ _ _ _ _ h

@[simp] theorem State.tb_setStream (k : Nat) (v : Stream) : (s.setStream k v).tb = s.tb := rfl
@[simp] theorem State.tx_setStream (k : Nat) (v : Stream) : (s.setStream k v).tx = s.tx := rfl
@[simp] theorem State.sq_setStream (k : Nat) (v : Stream) : (s.setStream k v).sq = s.sq := rfl
@[simp] theorem State.scan_setStream (k : Nat) (v : Stream) : (s.setStream k v).scan = s.scan := rfl
@[simp] theorem State.rx_setStream (k : Nat) (v : Stream) : (s.setStream k v).rx = s.rx := rfl
@[simp] theorem State.hist_setStream (k : Nat) (v : Stream) : (s.setStream k v).hist = s.hist := rfl
@[simp] theorem State.fab_setStream (k : Nat) (v : Stream) : (s.setStream k v).fab = s.fab := rfl
@[simp] theorem State.pll_setStream (k : Nat) (v : Stream) : (s.setStream k v).pll = s.pll := rfl
@[simp] theorem State.net_setStream (k : Nat) (v : Stream) : (s.setStream k v).net = s.net := rfl
@[simp] theorem State.motor_setStream (k : Nat) (v : Stream) : (s.setStream k v).motor = s.motor := rfl
@[simp] theorem State.sv_setStream (k : Nat) (v : Stream) : (s.setStream k v).sv = s.sv := rfl
@[simp] theorem State.cal_setStream (k : Nat) (v : Stream) : (s.setStream k v).cal = s.cal := rfl
@[simp] theorem State.regs_setStream (k : Nat) (v : Stream) : (s.setStream k v).regs = s.regs := rfl
@[simp] theorem State.mbx_setStream (k : Nat) (v : Stream) : (s.setStream k v).mbx = s.mbx := rfl
@[simp] theorem State.ret_setStream (k : Nat) (v : Stream) : (s.setStream k v).ret = s.ret := rfl
@[simp] theorem State.fw_setStream (k : Nat) (v : Stream) : (s.setStream k v).fw = s.fw := rfl
@[simp] theorem State.dev_setStream (k : Nat) (v : Stream) : (s.setStream k v).dev = s.dev := rfl
@[simp] theorem State.pending_setStream (k : Nat) (v : Stream) : (s.setStream k v).pending = s.pending := rfl
@[simp] theorem State.sent_setStream (k : Nat) (v : Stream) : (s.setStream k v).sent = s.sent := rfl
@[simp] theorem State.reply_setStream (k : Nat) (v : Stream) : (s.setStream k v).reply = s.reply := rfl
@[simp] theorem State.clock_setStream (k : Nat) (v : Stream) : (s.setStream k v).clock = s.clock := rfl
@[simp] theorem State.fresh_setStream (k : Nat) (v : Stream) : (s.setStream k v).fresh = s.fresh := rfl
@[simp] theorem State.engine_setStream (k : Nat) (v : Stream) (j : Nat) : (s.setStream k v).engine j = s.engine j := rfl

/-! ## evch -/

theorem State.modEvch_eq (k : Nat) (f : EvChannel → EvChannel) : s.modEvch k f = s.setEvch k (f (s.evch k)) := rfl

@[simp] theorem State.evch_setEvch_self (k : Nat) (v : EvChannel) : (s.setEvch k v).evch k = v := Tab.get_put_self ..

theorem State.evch_setEvch_ne (k j : Nat) (v : EvChannel) (h : j ≠ k) : (s.setEvch k v).evch j = s.evch j := Tab.get_put_ne _ _ _ _ _ _ h

@[simp] theorem State.tb_setEvch (k : Nat) (v : EvChannel) : (s.setEvch k v).tb = s.tb := rfl
@[simp] theorem State.tx_setEvch (k : Nat) (v : EvChannel) : (s.setEvch k v).tx = s.tx := rfl
@[simp] theorem State.sq_setEvch (k : Nat) (v : EvChannel) : (s.setEvch k v).sq = s.sq := rfl
@[simp] theorem State.scan_setEvch (k : Nat) (v : EvChannel) : (s.setEvch k v).scan = s.scan := rfl
@[simp] theorem State.rx_setEvch (k : Nat) (v : EvChannel) : (s.setEvch k v).rx = s.rx := rfl
@[simp] theorem State.hist_setEvch (k : Nat) (v : EvChannel) : (s.setEvch k v).hist = s.hist := rfl
@[simp] theorem State.eng_setEvch (k : Nat) (v : EvChannel) : (s.setEvch k v).eng = s.eng := rfl
@[simp] theorem State.pll_setEvch (k : Nat) (v : EvChannel) : (s.setEvch k v).pll = s.pll := rfl
@[simp] theorem State.net_setEvch (k : Nat) (v : EvChannel) : (s.setEvch k v).net = s.net := rfl
@[simp] theorem State.motor_setEvch (k : Nat) (v : EvChannel) : (s.setEvch k v).motor = s.motor := rfl
@[simp] theorem State.sv_setEvch (k : Nat) (v : EvChannel) : (s.setEvch k v).sv = s.sv := rfl
@[simp] theorem State.cal_setEvch (k : Nat) (v : EvChannel) : (s.setEvch k v).cal = s.cal := rfl
@[simp] theorem State.regs_setEvch (k : Nat) (v : EvChannel) : (s.setEvch k v).regs = s.regs := rfl
@[simp] theorem State.mbx_setEvch (k : Nat) (v : EvChannel) : (s.setEvch k v).mbx = s.mbx := rfl
@[simp] theorem State.ret_setEvch (k : Nat) (v : EvChannel) : (s.setEvch k v).ret = s.ret := rfl
@[simp] theorem State.fw_setEvch (k : Nat) (v : EvChannel) : (s.setEvch k v).fw = s.fw := rfl
@[simp] theorem State.dev_setEvch (k : Nat) (v : EvChannel) : (s.setEvch k v).dev = s.dev := rfl
@[simp] theorem State.pending_setEvch (k : Nat) (v : EvChannel) : (s.setEvch k v).pending = s.pending := rfl
@[simp] theorem State.sent_setEvch (k : Nat) (v : EvChannel) : (s.setEvch k v).sent = s.sent := rfl
@[simp] theorem State.reply_setEvch (k : Nat) (v : EvChannel) : (s.setEvch k v).reply = s.reply := rfl
@[simp] theorem State.clock_setEvch (k : Nat) (v : EvChannel) : (s.setEvch k v).clock = s.clock := rfl
@[simp] theorem State.fresh_setEvch (k : Nat) (v : EvChannel) : (s.setEvch k v).fresh = s.fresh := rfl
@[simp] theorem State.subs_setEvch (k : Nat) (v : EvChannel) (j : Nat) : (s.setEvch k v).subs j = s.subs j := rfl
@[simp] theorem State.hev_setEvch (k : Nat) (v : EvChannel) (j : Nat) : (s.setEvch k v).hev j = s.hev j := rfl

/-! ## subs -/

theorem State.modSubs_eq (k : Nat) (f : Subs → Subs) : s.modSubs k f = s.setSubs k (f (s.subs k)) := rfl

@[simp] theorem State.subs_setSubs_self (k : Nat) (v : Subs) : (s.setSubs k v).subs k = v := Tab.get_put_self ..

theorem State.subs_setSubs_ne (k j : Nat) (v : Subs) (h : j ≠ k) : (s.setSubs k v).subs j = s.subs j := Tab.get_put_ne _ _ _ _ _ _ h

@[simp] theorem State.tb_setSubs (k : Nat) (v : Subs) : (s.setSubs k v).tb = s.tb := rfl
@[simp] theorem State.tx_setSubs (k : Nat) (v : Subs) : (s.setSubs k v).tx = s.tx := rfl
@[simp] theorem State.sq_setSubs (k : Nat) (v : Subs) : (s.setSubs k v).sq = s.sq := rfl
@[simp] theorem State.scan_setSubs (k : Nat) (v : Subs) : (s.setSubs k v).scan = s.scan := rfl
@[simp] theorem State.rx_setSubs (k : Nat) (v : Subs) : (s.setSubs k v).rx = s.rx := rfl
@[simp] theorem State.hist_setSubs (k : Nat) (v : Subs) : (s.setSubs k v).hist = s.hist := rfl
@[simp] theorem State.eng_setSubs (k : Nat) (v : Subs) : (s.setSubs k v).eng = s.eng := rfl
@[simp] theorem State.pll_setSubs (k : Nat) (v : Subs) : (s.setSubs k v).pll = s.pll := rfl
@[simp] theorem State.net_setSubs (k : Nat) (v : Subs) : (s.setSubs k v).net = s.net := rfl
@[simp] theorem State.motor_setSubs (k : Nat) (v : Subs) : (s.setSubs k v).motor = s.motor := rfl
@[simp] theorem State.sv_setSubs (k : Nat) (v : Subs) : (s.setSubs k v).sv = s.sv := rfl
@[simp] theorem State.cal_setSubs (k : Nat) (v : Subs) : (s.setSubs k v).cal = s.cal := rfl
@[simp] theorem State.regs_setSubs (k : Nat) (v : Subs) : (s.setSubs k v).regs = s.regs := rfl
@[simp] theorem State.mbx_setSubs (k : Nat) (v : Subs) : (s.setSubs k v).mbx = s.mbx := rfl
@[simp] theorem State.ret_setSubs (k : Nat) (v : Subs) : (s.setSubs k v).ret = s.ret := rfl
@[simp] theorem State.fw_setSubs (k : Nat) (v : Subs) : (s.setSubs k v).fw = s.fw := rfl
@[simp] theorem State.dev_setSubs (k : Nat) (v : Subs) : (s.setSubs k v).dev = s.dev := rfl
@[simp] theorem State.pending_setSubs (k : Nat) (v : Subs) : (s.setSubs k v).pending = s.pending := rfl
@[simp] theorem State.sent_setSubs (k : Nat) (v : Subs) : (s.setSubs k v).sent = s.sent := rfl
@[simp] theorem State.reply_setSubs (k : Nat) (v : Subs) : (s.setSubs k v).reply = s.reply := rfl
@[simp] theorem State.clock_setSubs (k : Nat) (v : Subs) : (s.setSubs k v).clock = s.clock := rfl
@[simp] theorem State.fresh_setSubs (k : Nat) (v : Subs) : (s.setSubs k v).fresh = s.fresh := rfl
@[simp] theorem State.evch_setSubs (k : Nat) (v : Subs) (j : Nat) : (s.setSubs k v).evch j = s.evch j := rfl
@[simp] theorem State.hev_setSubs (k : Nat) (v : Subs) (j : Nat) : (s.setSubs k v).hev j = s.hev j := rfl

/-! ## hev -/

theorem State.modHev_eq (k : Nat) (f : Hev → Hev) : s.modHev k f = s.setHev k (f (s.hev k)) := rfl

@[simp] theorem State.hev_setHev_self (k : Nat) (v : Hev) : (s.setHev k v).hev k = v := Tab.get_put_self ..

theorem State.hev_setHev_ne (k j : Nat) (v : Hev) (h : j ≠ k) : (s.setHev k v).hev j = s.hev j := Tab.get_put_ne _ _ _ _ _ _ h

@[simp] theorem State.tb_setHev (k : Nat) (v : Hev) : (s.setHev k v).tb = s.tb := rfl
@[simp] theorem State.tx_setHev (k : Nat) (v : Hev) : (s.setHev k v).tx = s.tx := rfl
@[simp] theorem State.sq_setHev (k : Nat) (v : Hev) : (s.setHev k v).sq = s.sq := rfl
@[simp] theorem State.scan_setHev (k : Nat) (v : Hev) : (s.setHev k v).scan = s.scan := rfl
@[simp] theorem State.rx_setHev (k : Nat) (v : Hev) : (s.setHev k v).rx = s.rx := rfl
@[simp] theorem State.hist_setHev (k : Nat) (v : Hev) : (s.setHev k v).hist = s.hist := rfl
@[simp] theorem State.eng_setHev (k : Nat) (v : Hev) : (s.setHev k v).eng = s.eng := rfl
@[simp] theorem State.pll_setHev (k : Nat) (v : Hev) : (s.setHev k v).pll = s.pll := rfl
@[simp] theorem State.net_setHev (k : Nat) (v : Hev) : (s.setHev k v).net = s.net := rfl
@[simp] theorem State.motor_setHev (k : Nat) (v : Hev) : (s.setHev k v).motor = s.motor := rfl
@[simp] theorem State.sv_setHev (k : Nat) (v : Hev) : (s.setHev k v).sv = s.sv := rfl
@[simp] theorem State.cal_setHev (k : Nat) (v : Hev) : (s.setHev k v).cal = s.cal := rfl
@[simp] theorem State.regs_setHev (k : Nat) (v : Hev) : (s.setHev k v).regs = s.regs := rfl
@[simp] theorem State.mbx_setHev (k : Nat) (v : Hev) : (s.setHev k v).mbx = s.mbx := rfl
@[simp] theorem State.ret_setHev (k : Nat) (v : Hev) : (s.setHev k v).ret = s.ret := rfl
@[simp] theorem State.fw_setHev (k : Nat) (v : Hev) : (s.setHev k v).fw = s.fw := rfl
@[simp] theorem State.dev_setHev (k : Nat) (v : Hev) : (s.setHev k v).dev = s.dev := rfl
@[simp] theorem State.pending_setHev (k : Nat) (v : Hev) : (s.setHev k v).pending = s.pending := rfl
@[simp] theorem State.sent_setHev (k : Nat) (v : Hev) : (s.setHev k v).sent = s.sent := rfl
@[simp] theorem State.reply_setHev (k : Nat) (v : Hev) : (s.setHev k v).reply = s.reply := rfl
@[simp] theorem State.clock_setHev (k : Nat) (v : Hev) : (s.setHev k v).clock = s.clock := rfl
@[simp] theorem State.fresh_setHev (k : Nat) (v : Hev) : (s.setHev k v).fresh = s.fresh := rfl
@[simp] theorem State.evch_setHev (k : Nat) (v : Hev) (j : Nat) : (s.setHev k v).evch j = s.evch j := rfl
@[simp] theorem State.subs_setHev (k : Nat) (v : Hev) (j : Nat) : (s.setHev k v).subs j = s.subs j := rfl

/-! ## hop -/

theorem State.modHop_eq (k : Nat) (f : Option HopEntry → Option HopEntry) : s.modHop k f = s.setHop k (f (s.hop k)) := rfl

@[simp] theorem State.hop_setHop_self (k : Nat) (v : Option HopEntry) : (s.setHop k v).hop k = v := Tab.get_put_self ..

theorem State.hop_setHop_ne (k j : Nat) (v : Option HopEntry) (h : j ≠ k) : (s.setHop k v).hop j = s.hop j := Tab.get_put_ne _ _ _ _ _ _ h

@[simp] theorem State.tb_setHop (k : Nat) (v : Option HopEntry) : (s.setHop k v).tb = s.tb := rfl
@[simp] theorem State.tx_setHop (k : Nat) (v : Option HopEntry) : (s.setHop k v).tx = s.tx := rfl
@[simp] theorem State.sq_setHop (k : Nat) (v : Option HopEntry) : (s.setHop k v).sq = s.sq := rfl
@[simp] theorem State.scan_setHop (k : Nat) (v : Option HopEntry) : (s.setHop k v).scan = s.scan := rfl
@[simp] theorem State.rx_setHop (k : Nat) (v : Option HopEntry) : (s.setHop k v).rx = s.rx := rfl
@[simp] theorem State.hist_setHop (k : Nat) (v : Option HopEntry) : (s.setHop k v).hist = s.hist := rfl
@[simp] theorem State.eng_setHop (k : Nat) (v : Option HopEntry) : (s.setHop k v).eng = s.eng := rfl
@[simp] theorem State.fab_setHop (k : Nat) (v : Option HopEntry) : (s.setHop k v).fab = s.fab := rfl
@[simp] theorem State.net_setHop (k : Nat) (v : Option HopEntry) : (s.setHop k v).net = s.net := rfl
@[simp] theorem State.motor_setHop (k : Nat) (v : Option HopEntry) : (s.setHop k v).motor = s.motor := rfl
@[simp] theorem State.sv_setHop (k : Nat) (v : Option HopEntry) : (s.setHop k v).sv = s.sv := rfl
@[simp] theorem State.cal_setHop (k : Nat) (v : Option HopEntry) : (s.setHop k v).cal = s.cal := rfl
@[simp] theorem State.regs_setHop (k : Nat) (v : Option HopEntry) : (s.setHop k v).regs = s.regs := rfl
@[simp] theorem State.mbx_setHop (k : Nat) (v : Option HopEntry) : (s.setHop k v).mbx = s.mbx := rfl
@[simp] theorem State.ret_setHop (k : Nat) (v : Option HopEntry) : (s.setHop k v).ret = s.ret := rfl
@[simp] theorem State.fw_setHop (k : Nat) (v : Option HopEntry) : (s.setHop k v).fw = s.fw := rfl
@[simp] theorem State.dev_setHop (k : Nat) (v : Option HopEntry) : (s.setHop k v).dev = s.dev := rfl
@[simp] theorem State.pending_setHop (k : Nat) (v : Option HopEntry) : (s.setHop k v).pending = s.pending := rfl
@[simp] theorem State.sent_setHop (k : Nat) (v : Option HopEntry) : (s.setHop k v).sent = s.sent := rfl
@[simp] theorem State.reply_setHop (k : Nat) (v : Option HopEntry) : (s.setHop k v).reply = s.reply := rfl
@[simp] theorem State.clock_setHop (k : Nat) (v : Option HopEntry) : (s.setHop k v).clock = s.clock := rfl
@[simp] theorem State.fresh_setHop (k : Nat) (v : Option HopEntry) : (s.setHop k v).fresh = s.fresh := rfl
@[simp] theorem State.cko_setHop (k : Nat) (v : Option HopEntry) (j : Nat) : (s.setHop k v).cko j = s.cko j := rfl

/-! ## cko -/

theorem State.modCko_eq (k : Nat) (f : Cko → Cko) : s.modCko k f = s.setCko k (f (s.cko k)) := rfl

@[simp] theorem State.cko_setCko_self (k : Nat) (v : Cko) : (s.setCko k v).cko k = v := Tab.get_put_self ..

theorem State.cko_setCko_ne (k j : Nat) (v : Cko) (h : j ≠ k) : (s.setCko k v).cko j = s.cko j := Tab.get_put_ne _ _ _ _ _ _ h

@[simp] theorem State.tb_setCko (k : Nat) (v : Cko) : (s.setCko k v).tb = s.tb := rfl
@[simp] theorem State.tx_setCko (k : Nat) (v : Cko) : (s.setCko k v).tx = s.tx := rfl
@[simp] theorem State.sq_setCko (k : Nat) (v : Cko) : (s.setCko k v).sq = s.sq := rfl
@[simp] theorem State.scan_setCko (k : Nat) (v : Cko) : (s.setCko k v).scan = s.scan := rfl
@[simp] theorem State.rx_setCko (k : Nat) (v : Cko) : (s.setCko k v).rx = s.rx := rfl
@[simp] theorem State.hist_setCko (k : Nat) (v : Cko) : (s.setCko k v).hist = s.hist := rfl
@[simp] theorem State.eng_setCko (k : Nat) (v : Cko) : (s.setCko k v).eng = s.eng := rfl
@[simp] theorem State.fab_setCko (k : Nat) (v : Cko) : (s.setCko k v).fab = s.fab := rfl
@[simp] theorem State.net_setCko (k : Nat) (v : Cko) : (s.setCko k v).net = s.net := rfl
@[simp] theorem State.motor_setCko (k : Nat) (v : Cko) : (s.setCko k v).motor = s.motor := rfl
@[simp] theorem State.sv_setCko (k : Nat) (v : Cko) : (s.setCko k v).sv = s.sv := rfl
@[simp] theorem State.cal_setCko (k : Nat) (v : Cko) : (s.setCko k v).cal = s.cal := rfl
@[simp] theorem State.regs_setCko (k : Nat) (v : Cko) : (s.setCko k v).regs = s.regs := rfl
@[simp] theorem State.mbx_setCko (k : Nat) (v : Cko) : (s.setCko k v).mbx = s.mbx := rfl
@[simp] theorem State.ret_setCko (k : Nat) (v : Cko) : (s.setCko k v).ret = s.ret := rfl
@[simp] theorem State.fw_setCko (k : Nat) (v : Cko) : (s.setCko k v).fw = s.fw := rfl
@[simp] theorem State.dev_setCko (k : Nat) (v : Cko) : (s.setCko k v).dev = s.dev := rfl
@[simp] theorem State.pending_setCko (k : Nat) (v : Cko) : (s.setCko k v).pending = s.pending := rfl
@[simp] theorem State.sent_setCko (k : Nat) (v : Cko) : (s.setCko k v).sent = s.sent := rfl
@[simp] theorem State.reply_setCko (k : Nat) (v : Cko) : (s.setCko k v).reply = s.reply := rfl
@[simp] theorem State.clock_setCko (k : Nat) (v : Cko) : (s.setCko k v).clock = s.clock := rfl
@[simp] theorem State.fresh_setCko (k : Nat) (v : Cko) : (s.setCko k v).fresh = s.fresh := rfl
@[simp] theorem State.hop_setCko (k : Nat) (v : Cko) (j : Nat) : (s.setCko k v).hop j = s.hop j := rfl

/-! ## port -/

theorem State.modPort_eq (k : Nat) (f : Port → Port) : s.modPort k f = s.setPort k (f (s.port k)) := rfl

@[simp] theorem State.port_setPort_self (k : Nat) (v : Port) : (s.setPort k v).port k = v := Tab.get_put_self ..

theorem State.port_setPort_ne (k j : Nat) (v : Port) (h : j ≠ k) : (s.setPort k v).port j = s.port j := Tab.get_put_ne _ _ _ _ _ _ h

@[simp] theorem State.tb_setPort (k : Nat) (v : Port) : (s.setPort k v).tb = s.tb := rfl
@[simp] theorem State.tx_setPort (k : Nat) (v : Port) : (s.setPort k v).tx = s.tx := rfl
@[simp] theorem State.sq_setPort (k : Nat) (v : Port) : (s.setPort k v).sq = s.sq := rfl
@[simp] theorem State.scan_setPort (k : Nat) (v : Port) : (s.setPort k v).scan = s.scan := rfl
@[simp] theorem State.rx_setPort (k : Nat) (v : Port) : (s.setPort k v).rx = s.rx := rfl
@[simp] theorem State.hist_setPort (k : Nat) (v : Port) : (s.setPort k v).hist = s.hist := rfl
@[simp] theorem State.eng_setPort (k : Nat) (v : Port) : (s.setPort k v).eng = s.eng := rfl
@[simp] theorem State.fab_setPort (k : Nat) (v : Port) : (s.setPort k v).fab = s.fab := rfl
@[simp] theorem State.pll_setPort (k : Nat) (v : Port) : (s.setPort k v).pll = s.pll := rfl
@[simp] theorem State.motor_setPort (k : Nat) (v : Port) : (s.setPort k v).motor = s.motor := rfl
@[simp] theorem State.sv_setPort (k : Nat) (v : Port) : (s.setPort k v).sv = s.sv := rfl
@[simp] theorem State.cal_setPort (k : Nat) (v : Port) : (s.setPort k v).cal = s.cal := rfl
@[simp] theorem State.regs_setPort (k : Nat) (v : Port) : (s.setPort k v).regs = s.regs := rfl
@[simp] theorem State.mbx_setPort (k : Nat) (v : Port) : (s.setPort k v).mbx = s.mbx := rfl
@[simp] theorem State.ret_setPort (k : Nat) (v : Port) : (s.setPort k v).ret = s.ret := rfl
@[simp] theorem State.fw_setPort (k : Nat) (v : Port) : (s.setPort k v).fw = s.fw := rfl
@[simp] theorem State.dev_setPort (k : Nat) (v : Port) : (s.setPort k v).dev = s.dev := rfl
@[simp] theorem State.pending_setPort (k : Nat) (v : Port) : (s.setPort k v).pending = s.pending := rfl
@[simp] theorem State.sent_setPort (k : Nat) (v : Port) : (s.setPort k v).sent = s.sent := rfl
@[simp] theorem State.reply_setPort (k : Nat) (v : Port) : (s.setPort k v).reply = s.reply := rfl
@[simp] theorem State.clock_setPort (k : Nat) (v : Port) : (s.setPort k v).clock = s.clock := rfl
@[simp] theorem State.fresh_setPort (k : Nat) (v : Port) : (s.setPort k v).fresh = s.fresh := rfl

/-! ## safeInput -/

theorem State.modSafeInput_eq (k : Nat) (f : SafeInput → SafeInput) : s.modSafeInput k f = s.setSafeInput k (f (s.safeInput k)) := rfl

@[simp] theorem State.safeInput_setSafeInput_self (k : Nat) (v : SafeInput) : (s.setSafeInput k v).safeInput k = v := Tab.get_put_self ..

theorem State.safeInput_setSafeInput_ne (k j : Nat) (v : SafeInput) (h : j ≠ k) : (s.setSafeInput k v).safeInput j = s.safeInput j := Tab.get_put_ne _ _ _ _ _ _ h

@[simp] theorem State.tb_setSafeInput (k : Nat) (v : SafeInput) : (s.setSafeInput k v).tb = s.tb := rfl
@[simp] theorem State.tx_setSafeInput (k : Nat) (v : SafeInput) : (s.setSafeInput k v).tx = s.tx := rfl
@[simp] theorem State.sq_setSafeInput (k : Nat) (v : SafeInput) : (s.setSafeInput k v).sq = s.sq := rfl
@[simp] theorem State.scan_setSafeInput (k : Nat) (v : SafeInput) : (s.setSafeInput k v).scan = s.scan := rfl
@[simp] theorem State.rx_setSafeInput (k : Nat) (v : SafeInput) : (s.setSafeInput k v).rx = s.rx := rfl
@[simp] theorem State.hist_setSafeInput (k : Nat) (v : SafeInput) : (s.setSafeInput k v).hist = s.hist := rfl
@[simp] theorem State.eng_setSafeInput (k : Nat) (v : SafeInput) : (s.setSafeInput k v).eng = s.eng := rfl
@[simp] theorem State.fab_setSafeInput (k : Nat) (v : SafeInput) : (s.setSafeInput k v).fab = s.fab := rfl
@[simp] theorem State.pll_setSafeInput (k : Nat) (v : SafeInput) : (s.setSafeInput k v).pll = s.pll := rfl
@[simp] theorem State.net_setSafeInput (k : Nat) (v : SafeInput) : (s.setSafeInput k v).net = s.net := rfl
@[simp] theorem State.motor_setSafeInput (k : Nat) (v : SafeInput) : (s.setSafeInput k v).motor = s.motor := rfl
@[simp] theorem State.cal_setSafeInput (k : Nat) (v : SafeInput) : (s.setSafeInput k v).cal = s.cal := rfl
@[simp] theorem State.regs_setSafeInput (k : Nat) (v : SafeInput) : (s.setSafeInput k v).regs = s.regs := rfl
@[simp] theorem State.mbx_setSafeInput (k : Nat) (v : SafeInput) : (s.setSafeInput k v).mbx = s.mbx := rfl
@[simp] theorem State.ret_setSafeInput (k : Nat) (v : SafeInput) : (s.setSafeInput k v).ret = s.ret := rfl
@[simp] theorem State.fw_setSafeInput (k : Nat) (v : SafeInput) : (s.setSafeInput k v).fw = s.fw := rfl
@[simp] theorem State.dev_setSafeInput (k : Nat) (v : SafeInput) : (s.setSafeInput k v).dev = s.dev := rfl
@[simp] theorem State.pending_setSafeInput (k : Nat) (v : SafeInput) : (s.setSafeInput k v).pending = s.pending := rfl
@[simp] theorem State.sent_setSafeInput (k : Nat) (v : SafeInput) : (s.setSafeInput k v).sent = s.sent := rfl
@[simp] theorem State.reply_setSafeInput (k : Nat) (v : SafeInput) : (s.setSafeInput k v).reply = s.reply := rfl
@[simp] theorem State.clock_setSafeInput (k : Nat) (v : SafeInput) : (s.setSafeInput k v).clock = s.clock := rfl
@[simp] theorem State.fresh_setSafeInput (k : Nat) (v : SafeInput) : (s.setSafeInput k v).fresh = s.fresh := rfl
@[simp] theorem State.svEnc_setSafeInput (k : Nat) (v : SafeInput) (j : Nat) : (s.setSafeInput k v).svEnc j = s.svEnc j := rfl
@[simp] theorem State.sectorCount_setSafeInput (k : Nat) (v : SafeInput) (j : Nat) : (s.setSafeInput k v).sectorCount j = s.sectorCount j := rfl

/-! ## svEnc -/

theorem State.modSvEnc_eq (k : Nat) (f : SvEncoder → SvEncoder) : s.modSvEnc k f = s.setSvEnc k (f (s.svEnc k)) := rfl

@[simp] theorem State.svEnc_setSvEnc_self (k : Nat) (v : SvEncoder) : (s.setSvEnc k v).svEnc k = v := Tab.get_put_self ..

theorem State.svEnc_setSvEnc_ne (k j : Nat) (v : SvEncoder) (h : j ≠ k) : (s.setSvEnc k v).svEnc j = s.svEnc j := Tab.get_put_ne _ _ _ _ _ _ h

@[simp] theorem State.tb_setSvEnc (k : Nat) (v : SvEncoder) : (s.setSvEnc k v).tb = s.tb := rfl
@[simp] theorem State.tx_setSvEnc (k : Nat) (v : SvEncoder) : (s.setSvEnc k v).tx = s.tx := rfl
@[simp] theorem State.sq_setSvEnc (k : Nat) (v : SvEncoder) : (s.setSvEnc k v).sq = s.sq := rfl
@[simp] theorem State.scan_setSvEnc (k : Nat) (v : SvEncoder) : (s.setSvEnc k v).scan = s.scan := rfl
@[simp] theorem State.rx_setSvEnc (k : Nat) (v : SvEncoder) : (s.setSvEnc k v).rx = s.rx := rfl
@[simp] theorem State.hist_setSvEnc (k : Nat) (v : SvEncoder) : (s.setSvEnc k v).hist = s.hist := rfl
@[simp] theorem State.eng_setSvEnc (k : Nat) (v : SvEncoder) : (s.setSvEnc k v).eng = s.eng := rfl
@[simp] theorem State.fab_setSvEnc (k : Nat) (v : SvEncoder) : (s.setSvEnc k v).fab = s.fab := rfl
@[simp] theorem State.pll_setSvEnc (k : Nat) (v : SvEncoder) : (s.setSvEnc k v).pll = s.pll := rfl
@[simp] theorem State.net_setSvEnc (k : Nat) (v : SvEncoder) : (s.setSvEnc k v).net = s.net := rfl
@[simp] theorem State.motor_setSvEnc (k : Nat) (v : SvEncoder) : (s.setSvEnc k v).motor = s.motor := rfl
@[simp] theorem State.cal_setSvEnc (k : Nat) (v : SvEncoder) : (s.setSvEnc k v).cal = s.cal := rfl
@[simp] theorem State.regs_setSvEnc (k : Nat) (v : SvEncoder) : (s.setSvEnc k v).regs = s.regs := rfl
@[simp] theorem State.mbx_setSvEnc (k : Nat) (v : SvEncoder) : (s.setSvEnc k v).mbx = s.mbx := rfl
@[simp] theorem State.ret_setSvEnc (k : Nat) (v : SvEncoder) : (s.setSvEnc k v).ret = s.ret := rfl
@[simp] theorem State.fw_setSvEnc (k : Nat) (v : SvEncoder) : (s.setSvEnc k v).fw = s.fw := rfl
@[simp] theorem State.dev_setSvEnc (k : Nat) (v : SvEncoder) : (s.setSvEnc k v).dev = s.dev := rfl
@[simp] theorem State.pending_setSvEnc (k : Nat) (v : SvEncoder) : (s.setSvEnc k v).pending = s.pending := rfl
@[simp] theorem State.sent_setSvEnc (k : Nat) (v : SvEncoder) : (s.setSvEnc k v).sent = s.sent := rfl
@[simp] theorem State.reply_setSvEnc (k : Nat) (v : SvEncoder) : (s.setSvEnc k v).reply = s.reply := rfl
@[simp] theorem State.clock_setSvEnc (k : Nat) (v : SvEncoder) : (s.setSvEnc k v).clock = s.clock := rfl
@[simp] theorem State.fresh_setSvEnc (k : Nat) (v : SvEncoder) : (s.setSvEnc k v).fresh = s.fresh := rfl
@[simp] theorem State.safeInput_setSvEnc (k : Nat) (v : SvEncoder) (j : Nat) : (s.setSvEnc k v).safeInput j = s.safeInput j := rfl
@[simp] theorem State.sectorCount_setSvEnc (k : Nat) (v : SvEncoder) (j : Nat) : (s.setSvEnc k v).sectorCount j = s.sectorCount j := rfl

/-! ## sectorCount -/

theorem State.modSectorCount_eq (k : Nat) (f : Nat → Nat) : s.modSectorCount k f = s.setSectorCount k (f (s.sectorCount k)) := rfl

@[simp] theorem State.sectorCount_setSectorCount_self (k : Nat) (v : Nat) : (s.setSectorCount k v).sectorCount k = v := Tab.get_put_self ..

theorem State.sectorCount_setSectorCount_ne (k j : Nat) (v : Nat) (h : j ≠ k) : (s.setSectorCount k v).sectorCount j = s.sectorCount j := Tab.get_put_ne _ _ _ _ _ _ h

@[simp] theorem State.tb_setSectorCount (k : Nat) (v : Nat) : (s.setSectorCount k v).tb = s.tb := rfl
@[simp] theorem State.tx_setSectorCount (k : Nat) (v : Nat) : (s.setSectorCount k v).tx = s.tx := rfl
@[simp] theorem State.sq_setSectorCount (k : Nat) (v : Nat) : (s.setSectorCount k v).sq = s.sq := rfl
@[simp] theorem State.scan_setSectorCount (k : Nat) (v : Nat) : (s.setSectorCount k v).scan = s.scan := rfl
@[simp] theorem State.rx_setSectorCount (k : Nat) (v : Nat) : (s.setSectorCount k v).rx = s.rx := rfl
@[simp] theorem State.hist_setSectorCount (k : Nat) (v : Nat) : (s.setSectorCount k v).hist = s.hist := rfl
@[simp] theorem State.eng_setSectorCount (k : Nat) (v : Nat) : (s.setSectorCount k v).eng = s.eng := rfl
@[simp] theorem State.fab_setSectorCount (k : Nat) (v : Nat) : (s.setSectorCount k v).fab = s.fab := rfl
@[simp] theorem State.pll_setSectorCount (k : Nat) (v : Nat) : (s.setSectorCount k v).pll = s.pll := rfl
@[simp] theorem State.net_setSectorCount (k : Nat) (v : Nat) : (s.setSectorCount k v).net = s.net := rfl
@[simp] theorem State.motor_setSectorCount (k : Nat) (v : Nat) : (s.setSectorCount k v).motor = s.motor := rfl
@[simp] theorem State.cal_setSectorCount (k : Nat) (v : Nat) : (s.setSectorCount k v).cal = s.cal := rfl
@[simp] theorem State.regs_setSectorCount (k : Nat) (v : Nat) : (s.setSectorCount k v).regs = s.regs := rfl
@[simp] theorem State.mbx_setSectorCount (k : Nat) (v : Nat) : (s.setSectorCount k v).mbx = s.mbx := rfl
@[simp] theorem State.ret_setSectorCount (k : Nat) (v : Nat) : (s.setSectorCount k v).ret = s.ret := rfl
@[simp] theorem State.fw_setSectorCount (k : Nat) (v : Nat) : (s.setSectorCount k v).fw = s.fw := rfl
@[simp] theorem State.dev_setSectorCount (k : Nat) (v : Nat) : (s.setSectorCount k v).dev = s.dev := rfl
@[simp] theorem State.pending_setSectorCount (k : Nat) (v : Nat) : (s.setSectorCount k v).pending = s.pending := rfl
@[simp] theorem State.sent_setSectorCount (k : Nat) (v : Nat) : (s.setSectorCount k v).sent = s.sent := rfl
@[simp] theorem State.reply_setSectorCount (k : Nat) (v : Nat) : (s.setSectorCount k v).reply = s.reply := rfl
@[simp] theorem State.clock_setSectorCount (k : Nat) (v : Nat) : (s.setSectorCount k v).clock = s.clock := rfl
@[simp] theorem State.fresh_setSectorCount (k : Nat) (v : Nat) : (s.setSectorCount k v).fresh = s.fresh := rfl
@[simp] theorem State.safeInput_setSectorCount (k : Nat) (v : Nat) (j : Nat) : (s.setSectorCount k v).safeInput j = s.safeInput j := rfl
@[simp] theorem State.svEnc_setSectorCount (k : Nat) (v : Nat) (j : Nat) : (s.setSectorCount k v).svEnc j = s.svEnc j := rfl

/-! ## calStore -/

theorem State.modCalStore_eq (k : Nat) (f : CalStore → CalStore) : s.modCalStore k f = s.setCalStore k (f (s.calStore k)) := rfl

@[simp] theorem State.calStore_setCalStore_self (k : Nat) (v : CalStore) : (s.setCalStore k v).calStore k = v := Tab.get_put_self ..

theorem State.calStore_setCalStore_ne (k j : Nat) (v : CalStore) (h : j ≠ k) : (s.setCalStore k v).calStore j = s.calStore j := Tab.get_put_ne _ _ _ _ _ _ h

@[simp] theorem State.tb_setCalStore (k : Nat) (v : CalStore) : (s.setCalStore k v).tb = s.tb := rfl
@[simp] theorem State.tx_setCalStore (k : Nat) (v : CalStore) : (s.setCalStore k v).tx = s.tx := rfl
@[simp] theorem State.sq_setCalStore (k : Nat) (v : CalStore) : (s.setCalStore k v).sq = s.sq := rfl
@[simp] theorem State.scan_setCalStore (k : Nat) (v : CalStore) : (s.setCalStore k v).scan = s.scan := rfl
@[simp] theorem State.rx_setCalStore (k : Nat) (v : CalStore) : (s.setCalStore k v).rx = s.rx := rfl
@[simp] theorem State.hist_setCalStore (k : Nat) (v : CalStore) : (s.setCalStore k v).hist = s.hist := rfl
@[simp] theorem State.eng_setCalStore (k : Nat) (v : CalStore) : (s.setCalStore k v).eng = s.eng := rfl
@[simp] theorem State.fab_setCalStore (k : Nat) (v : CalStore) : (s.setCalStore k v).fab = s.fab := rfl
@[simp] theorem State.pll_setCalStore (k : Nat) (v : CalStore) : (s.setCalStore k v).pll = s.pll := rfl
@[simp] theorem State.net_setCalStore (k : Nat) (v : CalStore) : (s.setCalStore k v).net = s.net := rfl
@[simp] theorem State.motor_setCalStore (k : Nat) (v : CalStore) : (s.setCalStore k v).motor = s.motor := rfl
@[simp] theorem State.sv_setCalStore (k : Nat) (v : CalStore) : (s.setCalStore k v).sv = s.sv := rfl
@[simp] theorem State.regs_setCalStore (k : Nat) (v : CalStore) : (s.setCalStore k v).regs = s.regs := rfl
@[simp] theorem State.mbx_setCalStore (k : Nat) (v : CalStore) : (s.setCalStore k v).mbx = s.mbx := rfl
@[simp] theorem State.ret_setCalStore (k : Nat) (v : CalStore) : (s.setCalStore k v).ret = s.ret := rfl
@[simp] theorem State.fw_setCalStore (k : Nat) (v : CalStore) : (s.setCalStore k v).fw = s.fw := rfl
@[simp] theorem State.dev_setCalStore (k : Nat) (v : CalStore) : (s.setCalStore k v).dev = s.dev := rfl
@[simp] theorem State.pending_setCalStore (k : Nat) (v : CalStore) : (s.setCalStore k v).pending = s.pending := rfl
@[simp] theorem State.sent_setCalStore (k : Nat) (v : CalStore) : (s.setCalStore k v).sent = s.sent := rfl
@[simp] theorem State.reply_setCalStore (k : Nat) (v : CalStore) : (s.setCalStore k v).reply = s.reply := rfl
@[simp] theorem State.clock_setCalStore (k : Nat) (v : CalStore) : (s.setCalStore k v).clock = s.clock := rfl
@[simp] theorem State.fresh_setCalStore (k : Nat) (v : CalStore) : (s.setCalStore k v).fresh = s.fresh := rfl
@[simp] theorem State.calWork_setCalStore (k : Nat) (v : CalStore) (j : Nat) : (s.setCalStore k v).calWork j = s.calWork j := rfl
@[simp] theorem State.calForce_setCalStore (k : Nat) (v : CalStore) (j : Nat) : (s.setCalStore k v).calForce j = s.calForce j := rfl
@[simp] theorem State.sensor_setCalStore (k : Nat) (v : CalStore) (j : Nat) : (s.setCalStore k v).sensor j = s.sensor j := rfl
@[simp] theorem State.calRunState_setCalStore (k : Nat) (v : CalStore) (j : Nat) : (s.setCalStore k v).calRunState j = s.calRunState j := rfl

/-! ## calWork -/

theorem State.modCalWork_eq (k : Nat) (f : List CalSet → List CalSet) : s.modCalWork k f = s.setCalWork k (f (s.calWork k)) := rfl

@[simp] theorem State.calWork_setCalWork_self (k : Nat) (v : List CalSet) : (s.setCalWork k v).calWork k = v := Tab.get_put_self ..

theorem State.calWork_setCalWork_ne (k j : Nat) (v : List CalSet) (h : j ≠ k) : (s.setCalWork k v).calWork j = s.calWork j := Tab.get_put_ne _ _ _ _ _ _ h

@[simp] theorem State.tb_setCalWork (k : Nat) (v : List CalSet) : (s.setCalWork k v).tb = s.tb := rfl
@[simp] theorem State.tx_setCalWork (k : Nat) (v : List CalSet) : (s.setCalWork k v).tx = s.tx := rfl
@[simp] theorem State.sq_setCalWork (k : Nat) (v : List CalSet) : (s.setCalWork k v).sq = s.sq := rfl
@[simp] theorem State.scan_setCalWork (k : Nat) (v : List CalSet) : (s.setCalWork k v).scan = s.scan := rfl
@[simp] theorem State.rx_setCalWork (k : Nat) (v : List CalSet) : (s.setCalWork k v).rx = s.rx := rfl
@[simp] theorem State.hist_setCalWork (k : Nat) (v : List CalSet) : (s.setCalWork k v).hist = s.hist := rfl
@[simp] theorem State.eng_setCalWork (k : Nat) (v : List CalSet) : (s.setCalWork k v).eng = s.eng := rfl
@[simp] theorem State.fab_setCalWork (k : Nat) (v : List CalSet) : (s.setCalWork k v).fab = s.fab := rfl
@[simp] theorem State.pll_setCalWork (k : Nat) (v : List CalSet) : (s.setCalWork k v).pll = s.pll := rfl
@[simp] theorem State.net_setCalWork (k : Nat) (v : List CalSet) : (s.setCalWork k v).net = s.net := rfl
@[simp] theorem State.motor_setCalWork (k : Nat) (v : List CalSet) : (s.setCalWork k v).motor = s.motor := rfl
@[simp] theorem State.sv_setCalWork (k : Nat) (v : List CalSet) : (s.setCalWork k v).sv = s.sv := rfl
@[simp] theorem State.regs_setCalWork (k : Nat) (v : List CalSet) : (s.setCalWork k v).regs = s.regs := rfl
@[simp] theorem State.mbx_setCalWork (k : Nat) (v : List CalSet) : (s.setCalWork k v).mbx = s.mbx := rfl
@[simp] theorem State.ret_setCalWork (k : Nat) (v : List CalSet) : (s.setCalWork k v).ret = s.ret := rfl
@[simp] theorem State.fw_setCalWork (k : Nat) (v : List CalSet) : (s.setCalWork k v).fw = s.fw := rfl
@[simp] theorem State.dev_setCalWork (k : Nat) (v : List CalSet) : (s.setCalWork k v).dev = s.dev := rfl
@[simp] theorem State.pending_setCalWork (k : Nat) (v : List CalSet) : (s.setCalWork k v).pending = s.pending := rfl
@[simp] theorem State.sent_setCalWork (k : Nat) (v : List CalSet) : (s.setCalWork k v).sent = s.sent := rfl
@[simp] theorem State.reply_setCalWork (k : Nat) (v : List CalSet) : (s.setCalWork k v).reply = s.reply := rfl
@[simp] theorem State.clock_setCalWork (k : Nat) (v : List CalSet) : (s.setCalWork k v).clock = s.clock := rfl
@[simp] theorem State.fresh_setCalWork (k : Nat) (v : List CalSet) : (s.setCalWork k v).fresh = s.fresh := rfl
@[simp] theorem State.calStore_setCalWork (k : Nat) (v : List CalSet) (j : Nat) : (s.setCalWork k v).calStore j = s.calStore j := rfl
@[simp] theorem State.calForce_setCalWork (k : Nat) (v : List CalSet) (j : Nat) : (s.setCalWork k v).calForce j = s.calForce j := rfl
@[simp] theorem State.sensor_setCalWork (k : Nat) (v : List CalSet) (j : Nat) : (s.setCalWork k v).sensor j = s.sensor j := rfl
@[simp] theorem State.calRunState_setCalWork (k : Nat) (v : List CalSet) (j : Nat) : (s.setCalWork k v).calRunState j = s.calRunState j := rfl

/-! ## calForce -/

theorem State.modCalForce_eq (k : Nat) (f : Tab Int → Tab Int) : s.modCalForce k f = s.setCalForce k (f (s.calForce k)) := rfl

@[simp] theorem State.calForce_setCalForce_self (k : Nat) (v : Tab Int) : (s.setCalForce k v).calForce k = v := Tab.get_put_self ..

theorem State.calForce_setCalForce_ne (k j : Nat) (v : Tab Int) (h : j ≠ k) : (s.setCalForce k v).calForce j = s.calForce j := Tab.get_put_ne _ _ _ _ _ _ h

@[simp] theorem State.tb_setCalForce (k : Nat) (v : Tab Int) : (s.setCalForce k v).tb = s.tb := rfl
@[simp] theorem State.tx_setCalForce (k : Nat) (v : Tab Int) : (s.setCalForce k v).tx = s.tx := rfl
@[simp] theorem State.sq_setCalForce (k : Nat) (v : Tab Int) : (s.setCalForce k v).sq = s.sq := rfl
@[simp] theorem State.scan_setCalForce (k : Nat) (v : Tab Int) : (s.setCalForce k v).scan = s.scan := rfl
@[simp] theorem State.rx_setCalForce (k : Nat) (v : Tab Int) : (s.setCalForce k v).rx = s.rx := rfl
@[simp] theorem State.hist_setCalForce (k : Nat) (v : Tab Int) : (s.setCalForce k v).hist = s.hist := rfl
@[simp] theorem State.eng_setCalForce (k : Nat) (v : Tab Int) : (s.setCalForce k v).eng = s.eng := rfl
@[simp] theorem State.fab_setCalForce (k : Nat) (v : Tab Int) : (s.setCalForce k v).fab = s.fab := rfl
@[simp] theorem State.pll_setCalForce (k : Nat) (v : Tab Int) : (s.setCalForce k v).pll = s.pll := rfl
@[simp] theorem State.net_setCalForce (k : Nat) (v : Tab Int) : (s.setCalForce k v).net = s.net := rfl
@[simp] theorem State.motor_setCalForce (k : Nat) (v : Tab Int) : (s.setCalForce k v).motor = s.motor := rfl
@[simp] theorem State.sv_setCalForce (k : Nat) (v : Tab Int) : (s.setCalForce k v).sv = s.sv := rfl
@[simp] theorem State.regs_setCalForce (k : Nat) (v : Tab Int) : (s.setCalForce k v).regs = s.regs := rfl
@[simp] theorem State.mbx_setCalForce (k : Nat) (v : Tab Int) : (s.setCalForce k v).mbx = s.mbx := rfl
@[simp] theorem State.ret_setCalForce (k : Nat) (v : Tab Int) : (s.setCalForce k v).ret = s.ret := rfl
@[simp] theorem State.fw_setCalForce (k : Nat) (v : Tab Int) : (s.setCalForce k v).fw = s.fw := rfl
@[simp] theorem State.dev_setCalForce (k : Nat) (v : Tab Int) : (s.setCalForce k v).dev = s.dev := rfl
@[simp] theorem State.pending_setCalForce (k : Nat) (v : Tab Int) : (s.setCalForce k v).pending = s.pending := rfl
@[simp] theorem State.sent_setCalForce (k : Nat) (v : Tab Int) : (s.setCalForce k v).sent = s.sent := rfl
@[simp] theorem State.reply_setCalForce (k : Nat) (v : Tab Int) : (s.setCalForce k v).reply = s.reply := rfl
@[simp] theorem State.clock_setCalForce (k : Nat) (v : Tab Int) : (s.setCalForce k v).clock = s.clock := rfl
@[simp] theorem State.fresh_setCalForce (k : Nat) (v : Tab Int) : (s.setCalForce k v).fresh = s.fresh := rfl
@[simp] theorem State.calStore_setCalForce (k : Nat) (v : Tab Int) (j : Nat) : (s.setCalForce k v).calStore j = s.calStore j := rfl
@[simp] theorem State.calWork_setCalForce (k : Nat) (v : Tab Int) (j : Nat) : (s.setCalForce k v).calWork j = s.calWork j := rfl
@[simp] theorem State.sensor_setCalForce (k : Nat) (v : Tab Int) (j : Nat) : (s.setCalForce k v).sensor j = s.sensor j := rfl
@[simp] theorem State.calRunState_setCalForce (k : Nat) (v : Tab Int) (j : Nat) : (s.setCalForce k v).calRunState j = s.calRunState j := rfl

/-! ## sensor -/

theorem State.modSensor_eq (k : Nat) (f : Int → Int) : s.modSensor k f = s.setSensor k (f (s.sensor k)) := rfl

@[simp] theorem State.sensor_setSensor_self (k : Nat) (v : Int) : (s.setSensor k v).sensor k = v := Tab.get_put_self ..

theorem State.sensor_setSensor_ne (k j : Nat) (v : Int) (h : j ≠ k) : (s.setSensor k v).sensor j = s.sensor j := Tab.get_put_ne _ _ _ _ _ _ h

@[simp] theorem State.tb_setSensor (k : Nat) (v : Int) : (s.setSensor k v).tb = s.tb := rfl
@[simp] theorem State.tx_setSensor (k : Nat) (v : Int) : (s.setSensor k v).tx = s.tx := rfl
@[simp] theorem State.sq_setSensor (k : Nat) (v : Int) : (s.setSensor k v).sq = s.sq := rfl
@[simp] theorem State.scan_setSensor (k : Nat) (v : Int) : (s.setSensor k v).scan = s.scan := rfl
@[simp] theorem State.rx_setSensor (k : Nat) (v : Int) : (s.setSensor k v).rx = s.rx := rfl
@[simp] theorem State.hist_setSensor (k : Nat) (v : Int) : (s.setSensor k v).hist = s.hist := rfl
@[simp] theorem State.eng_setSensor (k : Nat) (v : Int) : (s.setSensor k v).eng = s.eng := rfl
@[simp] theorem State.fab_setSensor (k : Nat) (v : Int) : (s.setSensor k v).fab = s.fab := rfl
@[simp] theorem State.pll_setSensor (k : Nat) (v : Int) : (s.setSensor k v).pll = s.pll := rfl
@[simp] theorem State.net_setSensor (k : Nat) (v : Int) : (s.setSensor k v).net = s.net := rfl
@[simp] theorem State.motor_setSensor (k : Nat) (v : Int) : (s.setSensor k v).motor = s.motor := rfl
@[simp] theorem State.sv_setSensor (k : Nat) (v : Int) : (s.setSensor k v).sv = s.sv := rfl
@[simp] theorem State.regs_setSensor (k : Nat) (v : Int) : (s.setSensor k v).regs = s.regs := rfl
@[simp] theorem State.mbx_setSensor (k : Nat) (v : Int) : (s.setSensor k v).mbx = s.mbx := rfl
@[simp] theorem State.ret_setSensor (k : Nat) (v : Int) : (s.setSensor k v).ret = s.ret := rfl
@[simp] theorem State.fw_setSensor (k : Nat) (v : Int) : (s.setSensor k v).fw = s.fw := rfl
@[simp] theorem State.dev_setSensor (k : Nat) (v : Int) : (s.setSensor k v).dev = s.dev := rfl
@[simp] theorem State.pending_setSensor (k : Nat) (v : Int) : (s.setSensor k v).pending = s.pending := rfl
@[simp] theorem State.sent_setSensor (k : Nat) (v : Int) : (s.setSensor k v).sent = s.sent := rfl
@[simp] theorem State.reply_setSensor (k : Nat) (v : Int) : (s.setSensor k v).reply = s.reply := rfl
@[simp] theorem State.clock_setSensor (k : Nat) (v : Int) : (s.setSensor k v).clock = s.clock := rfl
@[simp] theorem State.fresh_setSensor (k : Nat) (v : Int) : (s.setSensor k v).fresh = s.fresh := rfl
@[simp] theorem State.calStore_setSensor (k : Nat) (v : Int) (j : Nat) : (s.setSensor k v).calStore j = s.calStore j := rfl
@[simp] theorem State.calWork_setSensor (k : Nat) (v : Int) (j : Nat) : (s.setSensor k v).calWork j = s.calWork j := rfl
@[simp] theorem State.calForce_setSensor (k : Nat) (v : Int) (j : Nat) : (s.setSensor k v).calForce j = s.calForce j := rfl
@[simp] theorem State.calRunState_setSensor (k : Nat) (v : Int) (j : Nat) : (s.setSensor k v).calRunState j = s.calRunState j := rfl

/-! ## calRunState -/

theorem State.modCalRunState_eq (k : Nat) (f : CalRunState → CalRunState) : s.modCalRunState k f = s.setCalRunState k (f (s.calRunState k)) := rfl

@[simp] theorem State.calRunState_setCalRunState_self (k : Nat) (v : CalRunState) : (s.setCalRunState k v).calRunState k = v := Tab.get_put_self ..

theorem State.calRunState_setCalRunState_ne (k j : Nat) (v : CalRunState) (h : j ≠ k) : (s.setCalRunState k v).calRunState j = s.calRunState j := Tab.get_put_ne _ _ _ _ _ _ h

@[simp] theorem State.tb_setCalRunState (k : Nat) (v : CalRunState) : (s.setCalRunState k v).tb = s.tb := rfl
@[simp] theorem State.tx_setCalRunState (k : Nat) (v : CalRunState) : (s.setCalRunState k v).tx = s.tx := rfl
@[simp] theorem State.sq_setCalRunState (k : Nat) (v : CalRunState) : (s.setCalRunState k v).sq = s.sq := rfl
@[simp] theorem State.scan_setCalRunState (k : Nat) (v : CalRunState) : (s.setCalRunState k v).scan = s.scan := rfl
@[simp] theorem State.rx_setCalRunState (k : Nat) (v : CalRunState) : (s.setCalRunState k v).rx = s.rx := rfl
@[simp] theorem State.hist_setCalRunState (k : Nat) (v : CalRunState) : (s.setCalRunState k v).hist = s.hist := rfl
@[simp] theorem State.eng_setCalRunState (k : Nat) (v : CalRunState) : (s.setCalRunState k v).eng = s.eng := rfl
@[simp] theorem State.fab_setCalRunState (k : Nat) (v : CalRunState) : (s.setCalRunState k v).fab = s.fab := rfl
@[simp] theorem State.pll_setCalRunState (k : Nat) (v : CalRunState) : (s.setCalRunState k v).pll = s.pll := rfl
@[simp] theorem State.net_setCalRunState (k : Nat) (v : CalRunState) : (s.setCalRunState k v).net = s.net := rfl
@[simp] theorem State.motor_setCalRunState (k : Nat) (v : CalRunState) : (s.setCalRunState k v).motor = s.motor := rfl
@[simp] theorem State.sv_setCalRunState (k : Nat) (v : CalRunState) : (s.setCalRunState k v).sv = s.sv := rfl
@[simp] theorem State.regs_setCalRunState (k : Nat) (v : CalRunState) : (s.setCalRunState k v).regs = s.regs := rfl
@[simp] theorem State.mbx_setCalRunState (k : Nat) (v : CalRunState) : (s.setCalRunState k v).mbx = s.mbx := rfl
@[simp] theorem State.ret_setCalRunState (k : Nat) (v : CalRunState) : (s.setCalRunState k v).ret = s.ret := rfl
@[simp] theorem State.fw_setCalRunState (k : Nat) (v : CalRunState) : (s.setCalRunState k v).fw = s.fw := rfl
@[simp] theorem State.dev_setCalRunState (k : Nat) (v : CalRunState) : (s.setCalRunState k v).dev = s.dev := rfl
@[simp] theorem State.pending_setCalRunState (k : Nat) (v : CalRunState) : (s.setCalRunState k v).pending = s.pending := rfl
@[simp] theorem State.sent_setCalRunState (k : Nat) (v : CalRunState) : (s.setCalRunState k v).sent = s.sent := rfl
@[simp] theorem State.reply_setCalRunState (k : Nat) (v : CalRunState) : (s.setCalRunState k v).reply = s.reply := rfl
@[simp] theorem State.clock_setCalRunState (k : Nat) (v : CalRunState) : (s.setCalRunState k v).clock = s.clock := rfl
@[simp] theorem State.fresh_setCalRunState (k : Nat) (v : CalRunState) : (s.setCalRunState k v).fresh = s.fresh := rfl
@[simp] theorem State.calStore_setCalRunState (k : Nat) (v : CalRunState) (j : Nat) : (s.setCalRunState k v).calStore j = s.calStore j := rfl
@[simp] theorem State.calWork_setCalRunState (k : Nat) (v : CalRunState) (j : Nat) : (s.setCalRunState k v).calWork j = s.calWork j := rfl
@[simp] theorem State.calForce_setCalRunState (k : Nat) (v : CalRunState) (j : Nat) : (s.setCalRunState k v).calForce j = s.calForce j := rfl
@[simp] theorem State.sensor_setCalRunState (k : Nat) (v : CalRunState) (j : Nat) : (s.setCalRunState k v).sensor j = s.sensor j := rfl

/-! ## pace -/

theorem State.modPace_eq (k : Nat) (f : Pace → Pace) : s.modPace k f = s.setPace k (f (s.pace k)) := rfl

@[simp] theorem State.pace_setPace_self (k : Nat) (v : Pace) : (s.setPace k v).pace k = v := Tab.get_put_self ..

theorem State.pace_setPace_ne (k j : Nat) (v : Pace) (h : j ≠ k) : (s.setPace k v).pace j = s.pace j := Tab.get_put_ne _ _ _ _ _ _ h

@[simp] theorem State.tb_setPace (k : Nat) (v : Pace) : (s.setPace k v).tb = s.tb := rfl
@[simp] theorem State.tx_setPace (k : Nat) (v : Pace) : (s.setPace k v).tx = s.tx := rfl
@[simp] theorem State.sq_setPace (k : Nat) (v : Pace) : (s.setPace k v).sq = s.sq := rfl
@[simp] theorem State.scan_setPace (k : Nat) (v : Pace) : (s.setPace k v).scan = s.scan := rfl
@[simp] theorem State.rx_setPace (k : Nat) (v : Pace) : (s.setPace k v).rx = s.rx := rfl
@[simp] theorem State.hist_setPace (k : Nat) (v : Pace) : (s.setPace k v).hist = s.hist := rfl
@[simp] theorem State.eng_setPace (k : Nat) (v : Pace) : (s.setPace k v).eng = s.eng := rfl
@[simp] theorem State.fab_setPace (k : Nat) (v : Pace) : (s.setPace k v).fab = s.fab := rfl
@[simp] theorem State.pll_setPace (k : Nat) (v : Pace) : (s.setPace k v).pll = s.pll := rfl
@[simp] theorem State.net_setPace (k : Nat) (v : Pace) : (s.setPace k v).net = s.net := rfl
@[simp] theorem State.motor_setPace (k : Nat) (v : Pace) : (s.setPace k v).motor = s.motor := rfl
@[simp] theorem State.sv_setPace (k : Nat) (v : Pace) : (s.setPace k v).sv = s.sv := rfl
@[simp] theorem State.cal_setPace (k : Nat) (v : Pace) : (s.setPace k v).cal = s.cal := rfl
@[simp] theorem State.mbx_setPace (k : Nat) (v : Pace) : (s.setPace k v).mbx = s.mbx := rfl
@[simp] theorem State.ret_setPace (k : Nat) (v : Pace) : (s.setPace k v).ret = s.ret := rfl
@[simp] theorem State.fw_setPace (k : Nat) (v : Pace) : (s.setPace k v).fw = s.fw := rfl
@[simp] theorem State.dev_setPace (k : Nat) (v : Pace) : (s.setPace k v).dev = s.dev := rfl
@[simp] theorem State.pending_setPace (k : Nat) (v : Pace) : (s.setPace k v).pending = s.pending := rfl
@[simp] theorem State.sent_setPace (k : Nat) (v : Pace) : (s.setPace k v).sent = s.sent := rfl
@[simp] theorem State.reply_setPace (k : Nat) (v : Pace) : (s.setPace k v).reply = s.reply := rfl
@[simp] theorem State.clock_setPace (k : Nat) (v : Pace) : (s.setPace k v).clock = s.clock := rfl
@[simp] theorem State.fresh_setPace (k : Nat) (v : Pace) : (s.setPace k v).fresh = s.fresh := rfl

/-! ## box -/

theorem State.modBox_eq (k : Nat) (f : Mailbox → Mailbox) : s.modBox k f = s.setBox k (f (s.box k)) := rfl

@[simp] theorem State.box_setBox_self (k : Nat) (v : Mailbox) : (s.setBox k v).box k = v := Tab.get_put_self ..

theorem State.box_setBox_ne (k j : Nat) (v : Mailbox) (h : j ≠ k) : (s.setBox k v).box j = s.box j := Tab.get_put_ne _ _ _ _ _ _ h

@[simp] theorem State.tb_setBox (k : Nat) (v : Mailbox) : (s.setBox k v).tb = s.tb := rfl
@[simp] theorem State.tx_setBox (k : Nat) (v : Mailbox) : (s.setBox k v).tx = s.tx := rfl
@[simp] theorem State.sq_setBox (k : Nat) (v : Mailbox) : (s.setBox k v).sq = s.sq := rfl
@[simp] theorem State.scan_setBox (k : Nat) (v : Mailbox) : (s.setBox k v).scan = s.scan := rfl
@[simp] theorem State.rx_setBox (k : Nat) (v : Mailbox) : (s.setBox k v).rx = s.rx := rfl
@[simp] theorem State.hist_setBox (k : Nat) (v : Mailbox) : (s.setBox k v).hist = s.hist := rfl
@[simp] theorem State.eng_setBox (k : Nat) (v : Mailbox) : (s.setBox k v).eng = s.eng := rfl
@[simp] theorem State.fab_setBox (k : Nat) (v : Mailbox) : (s.setBox k v).fab = s.fab := rfl
@[simp] theorem State.pll_setBox (k : Nat) (v : Mailbox) : (s.setBox k v).pll = s.pll := rfl
@[simp] theorem State.net_setBox (k : Nat) (v : Mailbox) : (s.setBox k v).net = s.net := rfl
@[simp] theorem State.motor_setBox (k : Nat) (v : Mailbox) : (s.setBox k v).motor = s.motor := rfl
@[simp] theorem State.sv_setBox (k : Nat) (v : Mailbox) : (s.setBox k v).sv = s.sv := rfl
@[simp] theorem State.cal_setBox (k : Nat) (v : Mailbox) : (s.setBox k v).cal = s.cal := rfl
@[simp] theorem State.regs_setBox (k : Nat) (v : Mailbox) : (s.setBox k v).regs = s.regs := rfl
@[simp] theorem State.ret_setBox (k : Nat) (v : Mailbox) : (s.setBox k v).ret = s.ret := rfl
@[simp] theorem State.fw_setBox (k : Nat) (v : Mailbox) : (s.setBox k v).fw = s.fw := rfl
@[simp] theorem State.dev_setBox (k : Nat) (v : Mailbox) : (s.setBox k v).dev = s.dev := rfl
@[simp] theorem State.pending_setBox (k : Nat) (v : Mailbox) : (s.setBox k v).pending = s.pending := rfl
@[simp] theorem State.sent_setBox (k : Nat) (v : Mailbox) : (s.setBox k v).sent = s.sent := rfl
@[simp] theorem State.reply_setBox (k : Nat) (v : Mailbox) : (s.setBox k v).reply = s.reply := rfl
@[simp] theorem State.clock_setBox (k : Nat) (v : Mailbox) : (s.setBox k v).clock = s.clock := rfl
@[simp] theorem State.fresh_setBox (k : Nat) (v : Mailbox) : (s.setBox k v).fresh = s.fresh := rfl

end Sys2Proof.Machine
end

