-- ==== Sys2Proof/Laws/Ops.lean ====
section
/-! SUPPORT. What the shared operations do, said once: each leaves every field alone but those that its rule names, and
what it does to those. -/

namespace Sys2Proof.Machine

variable (s : State)

/-! ## What leaves the device -/

@[simp] theorem State.tb_log (x : Sent) : (s.log x).tb = s.tb := rfl
@[simp] theorem State.tx_log (x : Sent) : (s.log x).tx = s.tx := rfl
@[simp] theorem State.sq_log (x : Sent) : (s.log x).sq = s.sq := rfl
@[simp] theorem State.scan_log (x : Sent) : (s.log x).scan = s.scan := rfl
@[simp] theorem State.rx_log (x : Sent) : (s.log x).rx = s.rx := rfl
@[simp] theorem State.hist_log (x : Sent) : (s.log x).hist = s.hist := rfl
@[simp] theorem State.eng_log (x : Sent) : (s.log x).eng = s.eng := rfl
@[simp] theorem State.fab_log (x : Sent) : (s.log x).fab = s.fab := rfl
@[simp] theorem State.pll_log (x : Sent) : (s.log x).pll = s.pll := rfl
@[simp] theorem State.net_log (x : Sent) : (s.log x).net = s.net := rfl
@[simp] theorem State.motor_log (x : Sent) : (s.log x).motor = s.motor := rfl
@[simp] theorem State.sv_log (x : Sent) : (s.log x).sv = s.sv := rfl
@[simp] theorem State.cal_log (x : Sent) : (s.log x).cal = s.cal := rfl
@[simp] theorem State.regs_log (x : Sent) : (s.log x).regs = s.regs := rfl
@[simp] theorem State.mbx_log (x : Sent) : (s.log x).mbx = s.mbx := rfl
@[simp] theorem State.ret_log (x : Sent) : (s.log x).ret = s.ret := rfl
@[simp] theorem State.fw_log (x : Sent) : (s.log x).fw = s.fw := rfl
@[simp] theorem State.dev_log (x : Sent) : (s.log x).dev = s.dev := rfl
@[simp] theorem State.pending_log (x : Sent) : (s.log x).pending = s.pending := rfl
@[simp] theorem State.reply_log (x : Sent) : (s.log x).reply = s.reply := rfl
@[simp] theorem State.clock_log (x : Sent) : (s.log x).clock = s.clock := rfl
@[simp] theorem State.fresh_log (x : Sent) : (s.log x).fresh = s.fresh := rfl

@[simp] theorem State.sent_log (x : Sent) : (s.log x).sent = x :: s.sent := rfl

@[simp] theorem State.tb_draw : (s.draw).tb = s.tb := rfl
@[simp] theorem State.tx_draw : (s.draw).tx = s.tx := rfl
@[simp] theorem State.sq_draw : (s.draw).sq = s.sq := rfl
@[simp] theorem State.scan_draw : (s.draw).scan = s.scan := rfl
@[simp] theorem State.rx_draw : (s.draw).rx = s.rx := rfl
@[simp] theorem State.hist_draw : (s.draw).hist = s.hist := rfl
@[simp] theorem State.eng_draw : (s.draw).eng = s.eng := rfl
@[simp] theorem State.fab_draw : (s.draw).fab = s.fab := rfl
@[simp] theorem State.pll_draw : (s.draw).pll = s.pll := rfl
@[simp] theorem State.net_draw : (s.draw).net = s.net := rfl
@[simp] theorem State.motor_draw : (s.draw).motor = s.motor := rfl
@[simp] theorem State.sv_draw : (s.draw).sv = s.sv := rfl
@[simp] theorem State.cal_draw : (s.draw).cal = s.cal := rfl
@[simp] theorem State.regs_draw : (s.draw).regs = s.regs := rfl
@[simp] theorem State.mbx_draw : (s.draw).mbx = s.mbx := rfl
@[simp] theorem State.ret_draw : (s.draw).ret = s.ret := rfl
@[simp] theorem State.fw_draw : (s.draw).fw = s.fw := rfl
@[simp] theorem State.dev_draw : (s.draw).dev = s.dev := rfl
@[simp] theorem State.pending_draw : (s.draw).pending = s.pending := rfl
@[simp] theorem State.sent_draw : (s.draw).sent = s.sent := rfl
@[simp] theorem State.reply_draw : (s.draw).reply = s.reply := rfl
@[simp] theorem State.clock_draw : (s.draw).clock = s.clock := rfl

@[simp] theorem State.tb_withQueue (q : List Instr) : (s.withQueue q).tb = s.tb := rfl
@[simp] theorem State.tx_withQueue (q : List Instr) : (s.withQueue q).tx = s.tx := rfl
@[simp] theorem State.sq_withQueue (q : List Instr) : (s.withQueue q).sq = s.sq := rfl
@[simp] theorem State.scan_withQueue (q : List Instr) : (s.withQueue q).scan = s.scan := rfl
@[simp] theorem State.rx_withQueue (q : List Instr) : (s.withQueue q).rx = s.rx := rfl
@[simp] theorem State.hist_withQueue (q : List Instr) : (s.withQueue q).hist = s.hist := rfl
@[simp] theorem State.eng_withQueue (q : List Instr) : (s.withQueue q).eng = s.eng := rfl
@[simp] theorem State.fab_withQueue (q : List Instr) : (s.withQueue q).fab = s.fab := rfl
@[simp] theorem State.pll_withQueue (q : List Instr) : (s.withQueue q).pll = s.pll := rfl
@[simp] theorem State.net_withQueue (q : List Instr) : (s.withQueue q).net = s.net := rfl
@[simp] theorem State.motor_withQueue (q : List Instr) : (s.withQueue q).motor = s.motor := rfl
@[simp] theorem State.sv_withQueue (q : List Instr) : (s.withQueue q).sv = s.sv := rfl
@[simp] theorem State.cal_withQueue (q : List Instr) : (s.withQueue q).cal = s.cal := rfl
@[simp] theorem State.regs_withQueue (q : List Instr) : (s.withQueue q).regs = s.regs := rfl
@[simp] theorem State.mbx_withQueue (q : List Instr) : (s.withQueue q).mbx = s.mbx := rfl
@[simp] theorem State.ret_withQueue (q : List Instr) : (s.withQueue q).ret = s.ret := rfl
@[simp] theorem State.fw_withQueue (q : List Instr) : (s.withQueue q).fw = s.fw := rfl
@[simp] theorem State.dev_withQueue (q : List Instr) : (s.withQueue q).dev = s.dev := rfl
@[simp] theorem State.sent_withQueue (q : List Instr) : (s.withQueue q).sent = s.sent := rfl
@[simp] theorem State.reply_withQueue (q : List Instr) : (s.withQueue q).reply = s.reply := rfl
@[simp] theorem State.clock_withQueue (q : List Instr) : (s.withQueue q).clock = s.clock := rfl
@[simp] theorem State.fresh_withQueue (q : List Instr) : (s.withQueue q).fresh = s.fresh := rfl

@[simp] theorem State.pending_withQueue (q : List Instr) : (s.withQueue q).pending = q := rfl

/-! ## Interrupts (R327, R421) -/

@[simp] theorem State.tb_vector (v : Nat) : (s.vector v).tb = s.tb := by unfold State.vector; (repeat' split) <;> rfl
@[simp] theorem State.tx_vector (v : Nat) : (s.vector v).tx = s.tx := by unfold State.vector; (repeat' split) <;> rfl
@[simp] theorem State.sq_vector (v : Nat) : (s.vector v).sq = s.sq := by unfold State.vector; (repeat' split) <;> rfl
@[simp] theorem State.scan_vector (v : Nat) : (s.vector v).scan = s.scan := by unfold State.vector; (repeat' split) <;> rfl
@[simp] theorem State.rx_vector (v : Nat) : (s.vector v).rx = s.rx := by unfold State.vector; (repeat' split) <;> rfl
@[simp] theorem State.hist_vector (v : Nat) : (s.vector v).hist = s.hist := by unfold State.vector; (repeat' split) <;> rfl
@[simp] theorem State.eng_vector (v : Nat) : (s.vector v).eng = s.eng := by unfold State.vector; (repeat' split) <;> rfl
@[simp] theorem State.fab_vector (v : Nat) : (s.vector v).fab = s.fab := by unfold State.vector; (repeat' split) <;> rfl
@[simp] theorem State.pll_vector (v : Nat) : (s.vector v).pll = s.pll := by unfold State.vector; (repeat' split) <;> rfl
@[simp] theorem State.net_vector (v : Nat) : (s.vector v).net = s.net := by unfold State.vector; (repeat' split) <;> rfl
@[simp] theorem State.motor_vector (v : Nat) : (s.vector v).motor = s.motor := by unfold State.vector; (repeat' split) <;> rfl
@[simp] theorem State.sv_vector (v : Nat) : (s.vector v).sv = s.sv := by unfold State.vector; (repeat' split) <;> rfl
@[simp] theorem State.cal_vector (v : Nat) : (s.vector v).cal = s.cal := by unfold State.vector; (repeat' split) <;> rfl
@[simp] theorem State.mbx_vector (v : Nat) : (s.vector v).mbx = s.mbx := by unfold State.vector; (repeat' split) <;> rfl
@[simp] theorem State.ret_vector (v : Nat) : (s.vector v).ret = s.ret := by unfold State.vector; (repeat' split) <;> rfl
@[simp] theorem State.fw_vector (v : Nat) : (s.vector v).fw = s.fw := by unfold State.vector; (repeat' split) <;> rfl
@[simp] theorem State.dev_vector (v : Nat) : (s.vector v).dev = s.dev := by unfold State.vector; (repeat' split) <;> rfl
@[simp] theorem State.pending_vector (v : Nat) : (s.vector v).pending = s.pending := by unfold State.vector; (repeat' split) <;> rfl
@[simp] theorem State.reply_vector (v : Nat) : (s.vector v).reply = s.reply := by unfold State.vector; (repeat' split) <;> rfl
@[simp] theorem State.clock_vector (v : Nat) : (s.vector v).clock = s.clock := by unfold State.vector; (repeat' split) <;> rfl
@[simp] theorem State.fresh_vector (v : Nat) : (s.vector v).fresh = s.fresh := by unfold State.vector; (repeat' split) <;> rfl

/-- A vector leaves as a message where the endpoint sends it; else it waits in its pending bit, or, in reset, is lost. -/
theorem State.vector_cases (v : Nat) :
    (s.regs.pcie.sends v = true ∧ s.vector v = s.log (.interrupt v)) ∨
    (s.regs.pcie.sends v = false ∧ s.endpointUp = true ∧ s.vector v = s.setPending v true) ∨
    (s.regs.pcie.sends v = false ∧ s.endpointUp = false ∧ s.vector v = s) := by
  unfold State.vector
  cases s.regs.pcie.sends v <;> cases s.endpointUp <;> simp

@[simp] theorem State.tb_cause (b : Nat) : (s.cause b).tb = s.tb := by unfold State.cause; dsimp only; split <;> split <;> simp
@[simp] theorem State.tx_cause (b : Nat) : (s.cause b).tx = s.tx := by unfold State.cause; dsimp only; split <;> split <;> simp
@[simp] theorem State.sq_cause (b : Nat) : (s.cause b).sq = s.sq := by unfold State.cause; dsimp only; split <;> split <;> simp
@[simp] theorem State.scan_cause (b : Nat) : (s.cause b).scan = s.scan := by unfold State.cause; dsimp only; split <;> split <;> simp
@[simp] theorem State.rx_cause (b : Nat) : (s.cause b).rx = s.rx := by unfold State.cause; dsimp only; split <;> split <;> simp
@[simp] theorem State.hist_cause (b : Nat) : (s.cause b).hist = s.hist := by unfold State.cause; dsimp only; split <;> split <;> simp
@[simp] theorem State.eng_cause (b : Nat) : (s.cause b).eng = s.eng := by unfold State.cause; dsimp only; split <;> split <;> simp
@[simp] theorem State.fab_cause (b : Nat) : (s.cause b).fab = s.fab := by unfold State.cause; dsimp only; split <;> split <;> simp
@[simp] theorem State.pll_cause (b : Nat) : (s.cause b).pll = s.pll := by unfold State.cause; dsimp only; split <;> split <;> simp
@[simp] theorem State.net_cause (b : Nat) : (s.cause b).net = s.net := by unfold State.cause; dsimp only; split <;> split <;> simp
@[simp] theorem State.motor_cause (b : Nat) : (s.cause b).motor = s.motor := by unfold State.cause; dsimp only; split <;> split <;> simp
@[simp] theorem State.sv_cause (b : Nat) : (s.cause b).sv = s.sv := by unfold State.cause; dsimp only; split <;> split <;> simp
@[simp] theorem State.cal_cause (b : Nat) : (s.cause b).cal = s.cal := by unfold State.cause; dsimp only; split <;> split <;> simp
@[simp] theorem State.mbx_cause (b : Nat) : (s.cause b).mbx = s.mbx := by unfold State.cause; dsimp only; split <;> split <;> simp
@[simp] theorem State.ret_cause (b : Nat) : (s.cause b).ret = s.ret := by unfold State.cause; dsimp only; split <;> split <;> simp
@[simp] theorem State.fw_cause (b : Nat) : (s.cause b).fw = s.fw := by unfold State.cause; dsimp only; split <;> split <;> simp
@[simp] theorem State.dev_cause (b : Nat) : (s.cause b).dev = s.dev := by unfold State.cause; dsimp only; split <;> split <;> simp
@[simp] theorem State.pending_cause (b : Nat) : (s.cause b).pending = s.pending := by unfold State.cause; dsimp only; split <;> split <;> simp
@[simp] theorem State.reply_cause (b : Nat) : (s.cause b).reply = s.reply := by unfold State.cause; dsimp only; split <;> split <;> simp
@[simp] theorem State.clock_cause (b : Nat) : (s.cause b).clock = s.clock := by unfold State.cause; dsimp only; split <;> split <;> simp
@[simp] theorem State.fresh_cause (b : Nat) : (s.cause b).fresh = s.fresh := by unfold State.cause; dsimp only; split <;> split <;> simp


/-! ## READY (R393) -/

@[simp] theorem State.tb_setReadyAll (r : BitVec 27) : (s.setReadyAll r).tb = s.tb := by unfold State.setReadyAll; split <;> simp
@[simp] theorem State.tx_setReadyAll (r : BitVec 27) : (s.setReadyAll r).tx = s.tx := by unfold State.setReadyAll; split <;> simp
@[simp] theorem State.sq_setReadyAll (r : BitVec 27) : (s.setReadyAll r).sq = s.sq := by unfold State.setReadyAll; split <;> simp
@[simp] theorem State.scan_setReadyAll (r : BitVec 27) : (s.setReadyAll r).scan = s.scan := by unfold State.setReadyAll; split <;> simp
@[simp] theorem State.rx_setReadyAll (r : BitVec 27) : (s.setReadyAll r).rx = s.rx := by unfold State.setReadyAll; split <;> simp
@[simp] theorem State.hist_setReadyAll (r : BitVec 27) : (s.setReadyAll r).hist = s.hist := by unfold State.setReadyAll; split <;> simp
@[simp] theorem State.eng_setReadyAll (r : BitVec 27) : (s.setReadyAll r).eng = s.eng := by unfold State.setReadyAll; split <;> simp
@[simp] theorem State.fab_setReadyAll (r : BitVec 27) : (s.setReadyAll r).fab = s.fab := by unfold State.setReadyAll; split <;> simp
@[simp] theorem State.pll_setReadyAll (r : BitVec 27) : (s.setReadyAll r).pll = s.pll := by unfold State.setReadyAll; split <;> simp
@[simp] theorem State.net_setReadyAll (r : BitVec 27) : (s.setReadyAll r).net = s.net := by unfold State.setReadyAll; split <;> simp
@[simp] theorem State.motor_setReadyAll (r : BitVec 27) : (s.setReadyAll r).motor = s.motor := by unfold State.setReadyAll; split <;> simp
@[simp] theorem State.sv_setReadyAll (r : BitVec 27) : (s.setReadyAll r).sv = s.sv := by unfold State.setReadyAll; split <;> simp
@[simp] theorem State.cal_setReadyAll (r : BitVec 27) : (s.setReadyAll r).cal = s.cal := by unfold State.setReadyAll; split <;> simp
@[simp] theorem State.mbx_setReadyAll (r : BitVec 27) : (s.setReadyAll r).mbx = s.mbx := by unfold State.setReadyAll; split <;> simp
@[simp] theorem State.ret_setReadyAll (r : BitVec 27) : (s.setReadyAll r).ret = s.ret := by unfold State.setReadyAll; split <;> simp
@[simp] theorem State.fw_setReadyAll (r : BitVec 27) : (s.setReadyAll r).fw = s.fw := by unfold State.setReadyAll; split <;> simp
@[simp] theorem State.pending_setReadyAll (r : BitVec 27) : (s.setReadyAll r).pending = s.pending := by unfold State.setReadyAll; split <;> simp
@[simp] theorem State.reply_setReadyAll (r : BitVec 27) : (s.setReadyAll r).reply = s.reply := by unfold State.setReadyAll; split <;> simp
@[simp] theorem State.clock_setReadyAll (r : BitVec 27) : (s.setReadyAll r).clock = s.clock := by unfold State.setReadyAll; split <;> simp
@[simp] theorem State.fresh_setReadyAll (r : BitVec 27) : (s.setReadyAll r).fresh = s.fresh := by unfold State.setReadyAll; split <;> simp

@[simp] theorem State.dev_setReadyAll (r : BitVec 27) : (s.setReadyAll r).dev = { s.dev with ready := r } := by
  unfold State.setReadyAll
  split
  · subst r; rfl
  · simp

@[simp] theorem State.tb_setReady (b : Nat) (v : Bool) : (s.setReady b v).tb = s.tb := by simp [State.setReady]
@[simp] theorem State.tx_setReady (b : Nat) (v : Bool) : (s.setReady b v).tx = s.tx := by simp [State.setReady]
@[simp] theorem State.sq_setReady (b : Nat) (v : Bool) : (s.setReady b v).sq = s.sq := by simp [State.setReady]
@[simp] theorem State.scan_setReady (b : Nat) (v : Bool) : (s.setReady b v).scan = s.scan := by simp [State.setReady]
@[simp] theorem State.rx_setReady (b : Nat) (v : Bool) : (s.setReady b v).rx = s.rx := by simp [State.setReady]
@[simp] theorem State.hist_setReady (b : Nat) (v : Bool) : (s.setReady b v).hist = s.hist := by simp [State.setReady]
@[simp] theorem State.eng_setReady (b : Nat) (v : Bool) : (s.setReady b v).eng = s.eng := by simp [State.setReady]
@[simp] theorem State.fab_setReady (b : Nat) (v : Bool) : (s.setReady b v).fab = s.fab := by simp [State.setReady]
@[simp] theorem State.pll_setReady (b : Nat) (v : Bool) : (s.setReady b v).pll = s.pll := by simp [State.setReady]
@[simp] theorem State.net_setReady (b : Nat) (v : Bool) : (s.setReady b v).net = s.net := by simp [State.setReady]
@[simp] theorem State.motor_setReady (b : Nat) (v : Bool) : (s.setReady b v).motor = s.motor := by simp [State.setReady]
@[simp] theorem State.sv_setReady (b : Nat) (v : Bool) : (s.setReady b v).sv = s.sv := by simp [State.setReady]
@[simp] theorem State.cal_setReady (b : Nat) (v : Bool) : (s.setReady b v).cal = s.cal := by simp [State.setReady]
@[simp] theorem State.mbx_setReady (b : Nat) (v : Bool) : (s.setReady b v).mbx = s.mbx := by simp [State.setReady]
@[simp] theorem State.ret_setReady (b : Nat) (v : Bool) : (s.setReady b v).ret = s.ret := by simp [State.setReady]
@[simp] theorem State.fw_setReady (b : Nat) (v : Bool) : (s.setReady b v).fw = s.fw := by simp [State.setReady]
@[simp] theorem State.pending_setReady (b : Nat) (v : Bool) : (s.setReady b v).pending = s.pending := by simp [State.setReady]
@[simp] theorem State.reply_setReady (b : Nat) (v : Bool) : (s.setReady b v).reply = s.reply := by simp [State.setReady]
@[simp] theorem State.clock_setReady (b : Nat) (v : Bool) : (s.setReady b v).clock = s.clock := by simp [State.setReady]
@[simp] theorem State.fresh_setReady (b : Nat) (v : Bool) : (s.setReady b v).fresh = s.fresh := by simp [State.setReady]

@[simp] theorem State.dev_setReady (b : Nat) (v : Bool) :
    (s.setReady b v).dev = { s.dev with ready := setBit s.dev.ready b v } := by simp [State.setReady]

/-! ## Publication (R224, R226) -/

@[simp] theorem State.tb_publish (p : Nat) (t : Tq) (g : Nat) : (s.publish p t g).tb = s.tb := by unfold State.publish; split <;> rfl
@[simp] theorem State.tx_publish (p : Nat) (t : Tq) (g : Nat) : (s.publish p t g).tx = s.tx := by unfold State.publish; split <;> rfl
@[simp] theorem State.sq_publish (p : Nat) (t : Tq) (g : Nat) : (s.publish p t g).sq = s.sq := by unfold State.publish; split <;> rfl
@[simp] theorem State.scan_publish (p : Nat) (t : Tq) (g : Nat) : (s.publish p t g).scan = s.scan := by unfold State.publish; split <;> rfl
@[simp] theorem State.rx_publish (p : Nat) (t : Tq) (g : Nat) : (s.publish p t g).rx = s.rx := by unfold State.publish; split <;> rfl
@[simp] theorem State.hist_publish (p : Nat) (t : Tq) (g : Nat) : (s.publish p t g).hist = s.hist := by unfold State.publish; split <;> rfl
@[simp] theorem State.eng_publish (p : Nat) (t : Tq) (g : Nat) : (s.publish p t g).eng = s.eng := by unfold State.publish; split <;> rfl
@[simp] theorem State.pll_publish (p : Nat) (t : Tq) (g : Nat) : (s.publish p t g).pll = s.pll := by unfold State.publish; split <;> rfl
@[simp] theorem State.net_publish (p : Nat) (t : Tq) (g : Nat) : (s.publish p t g).net = s.net := by unfold State.publish; split <;> rfl
@[simp] theorem State.motor_publish (p : Nat) (t : Tq) (g : Nat) : (s.publish p t g).motor = s.motor := by unfold State.publish; split <;> rfl
@[simp] theorem State.sv_publish (p : Nat) (t : Tq) (g : Nat) : (s.publish p t g).sv = s.sv := by unfold State.publish; split <;> rfl
@[simp] theorem State.cal_publish (p : Nat) (t : Tq) (g : Nat) : (s.publish p t g).cal = s.cal := by unfold State.publish; split <;> rfl
@[simp] theorem State.regs_publish (p : Nat) (t : Tq) (g : Nat) : (s.publish p t g).regs = s.regs := by unfold State.publish; split <;> rfl
@[simp] theorem State.mbx_publish (p : Nat) (t : Tq) (g : Nat) : (s.publish p t g).mbx = s.mbx := by unfold State.publish; split <;> rfl
@[simp] theorem State.ret_publish (p : Nat) (t : Tq) (g : Nat) : (s.publish p t g).ret = s.ret := by unfold State.publish; split <;> rfl
@[simp] theorem State.fw_publish (p : Nat) (t : Tq) (g : Nat) : (s.publish p t g).fw = s.fw := by unfold State.publish; split <;> rfl
@[simp] theorem State.dev_publish (p : Nat) (t : Tq) (g : Nat) : (s.publish p t g).dev = s.dev := by unfold State.publish; split <;> rfl
@[simp] theorem State.pending_publish (p : Nat) (t : Tq) (g : Nat) : (s.publish p t g).pending = s.pending := by unfold State.publish; split <;> rfl
@[simp] theorem State.sent_publish (p : Nat) (t : Tq) (g : Nat) : (s.publish p t g).sent = s.sent := by unfold State.publish; split <;> rfl
@[simp] theorem State.reply_publish (p : Nat) (t : Tq) (g : Nat) : (s.publish p t g).reply = s.reply := by unfold State.publish; split <;> rfl
@[simp] theorem State.clock_publish (p : Nat) (t : Tq) (g : Nat) : (s.publish p t g).clock = s.clock := by unfold State.publish; split <;> rfl
@[simp] theorem State.fresh_publish (p : Nat) (t : Tq) (g : Nat) : (s.publish p t g).fresh = s.fresh := by unfold State.publish; split <;> rfl

@[simp] theorem State.subs_publish (p : Nat) (t : Tq) (g : Nat) : (s.publish p t g).fab.subs = s.fab.subs := by unfold State.publish; split <;> rfl

@[simp] theorem State.hevs_publish (p : Nat) (t : Tq) (g : Nat) : (s.publish p t g).fab.hevs = s.fab.hevs := by unfold State.publish; split <;> rfl

/-! ## Groups -/

/-- What one application of `f` keeps, a run over a list keeps. -/
theorem State.each_keeps (P : State → Prop) (f : State → Nat → State) (ks : List Nat)
    (h : ∀ (s : State) (k : Nat), k ∈ ks → P s → P (f s k)) (hs : P s) : P (s.each ks f) := by
  unfold State.each
  induction ks generalizing s with
  | nil => exact hs
  | cons k t ih => exact ih (f s k) (fun s j hj => h s j (List.mem_cons_of_mem _ hj)) (h s k (List.mem_cons_self ..) hs)

/-- What no application of `f` changes, a run over a list does not change. -/
theorem State.each_field {β : Type} (g : State → β) (f : State → Nat → State) (ks : List Nat)
    (h : ∀ (s : State) (k : Nat), g (f s k) = g s) : g (s.each ks f) = g s :=
  State.each_keeps s (fun t => g t = g s) f ks (fun t k _ ht => (h t k).trans ht) rfl

/-! ## Dark, permit, status pair, torque (R293, R294, R297, R302) -/

@[simp] theorem State.tb_darkenBursts (a b : Tq) : (s.darkenBursts a b).tb = s.tb := rfl
@[simp] theorem State.sq_darkenBursts (a b : Tq) : (s.darkenBursts a b).sq = s.sq := rfl
@[simp] theorem State.scan_darkenBursts (a b : Tq) : (s.darkenBursts a b).scan = s.scan := rfl
@[simp] theorem State.rx_darkenBursts (a b : Tq) : (s.darkenBursts a b).rx = s.rx := rfl
@[simp] theorem State.hist_darkenBursts (a b : Tq) : (s.darkenBursts a b).hist = s.hist := rfl
@[simp] theorem State.eng_darkenBursts (a b : Tq) : (s.darkenBursts a b).eng = s.eng := rfl
@[simp] theorem State.fab_darkenBursts (a b : Tq) : (s.darkenBursts a b).fab = s.fab := rfl
@[simp] theorem State.pll_darkenBursts (a b : Tq) : (s.darkenBursts a b).pll = s.pll := rfl
@[simp] theorem State.net_darkenBursts (a b : Tq) : (s.darkenBursts a b).net = s.net := rfl
@[simp] theorem State.motor_darkenBursts (a b : Tq) : (s.darkenBursts a b).motor = s.motor := rfl
@[simp] theorem State.sv_darkenBursts (a b : Tq) : (s.darkenBursts a b).sv = s.sv := rfl
@[simp] theorem State.cal_darkenBursts (a b : Tq) : (s.darkenBursts a b).cal = s.cal := rfl
@[simp] theorem State.regs_darkenBursts (a b : Tq) : (s.darkenBursts a b).regs = s.regs := rfl
@[simp] theorem State.mbx_darkenBursts (a b : Tq) : (s.darkenBursts a b).mbx = s.mbx := rfl
@[simp] theorem State.ret_darkenBursts (a b : Tq) : (s.darkenBursts a b).ret = s.ret := rfl
@[simp] theorem State.fw_darkenBursts (a b : Tq) : (s.darkenBursts a b).fw = s.fw := rfl
@[simp] theorem State.dev_darkenBursts (a b : Tq) : (s.darkenBursts a b).dev = s.dev := rfl
@[simp] theorem State.pending_darkenBursts (a b : Tq) : (s.darkenBursts a b).pending = s.pending := rfl
@[simp] theorem State.sent_darkenBursts (a b : Tq) : (s.darkenBursts a b).sent = s.sent := rfl
@[simp] theorem State.reply_darkenBursts (a b : Tq) : (s.darkenBursts a b).reply = s.reply := rfl
@[simp] theorem State.clock_darkenBursts (a b : Tq) : (s.darkenBursts a b).clock = s.clock := rfl
@[simp] theorem State.fresh_darkenBursts (a b : Tq) : (s.darkenBursts a b).fresh = s.fresh := rfl

@[simp] theorem State.tb_setDark (d : Bool) : (s.setDark d).tb = s.tb := by unfold State.setDark; repeat' split <;> simp
@[simp] theorem State.sq_setDark (d : Bool) : (s.setDark d).sq = s.sq := by unfold State.setDark; repeat' split <;> simp
@[simp] theorem State.scan_setDark (d : Bool) : (s.setDark d).scan = s.scan := by unfold State.setDark; repeat' split <;> simp
@[simp] theorem State.rx_setDark (d : Bool) : (s.setDark d).rx = s.rx := by unfold State.setDark; repeat' split <;> simp
@[simp] theorem State.hist_setDark (d : Bool) : (s.setDark d).hist = s.hist := by unfold State.setDark; repeat' split <;> simp
@[simp] theorem State.eng_setDark (d : Bool) : (s.setDark d).eng = s.eng := by unfold State.setDark; repeat' split <;> simp
@[simp] theorem State.pll_setDark (d : Bool) : (s.setDark d).pll = s.pll := by unfold State.setDark; repeat' split <;> simp
@[simp] theorem State.net_setDark (d : Bool) : (s.setDark d).net = s.net := by unfold State.setDark; repeat' split <;> simp
@[simp] theorem State.motor_setDark (d : Bool) : (s.setDark d).motor = s.motor := by unfold State.setDark; repeat' split <;> simp
@[simp] theorem State.cal_setDark (d : Bool) : (s.setDark d).cal = s.cal := by unfold State.setDark; repeat' split <;> simp
@[simp] theorem State.regs_setDark (d : Bool) : (s.setDark d).regs = s.regs := by unfold State.setDark; repeat' split <;> simp
@[simp] theorem State.mbx_setDark (d : Bool) : (s.setDark d).mbx = s.mbx := by unfold State.setDark; repeat' split <;> simp
@[simp] theorem State.ret_setDark (d : Bool) : (s.setDark d).ret = s.ret := by unfold State.setDark; repeat' split <;> simp
@[simp] theorem State.fw_setDark (d : Bool) : (s.setDark d).fw = s.fw := by unfold State.setDark; repeat' split <;> simp
@[simp] theorem State.dev_setDark (d : Bool) : (s.setDark d).dev = s.dev := by unfold State.setDark; repeat' split <;> simp
@[simp] theorem State.pending_setDark (d : Bool) : (s.setDark d).pending = s.pending := by unfold State.setDark; repeat' split <;> simp
@[simp] theorem State.sent_setDark (d : Bool) : (s.setDark d).sent = s.sent := by unfold State.setDark; repeat' split <;> simp
@[simp] theorem State.reply_setDark (d : Bool) : (s.setDark d).reply = s.reply := by unfold State.setDark; repeat' split <;> simp
@[simp] theorem State.clock_setDark (d : Bool) : (s.setDark d).clock = s.clock := by unfold State.setDark; repeat' split <;> simp
@[simp] theorem State.fresh_setDark (d : Bool) : (s.setDark d).fresh = s.fresh := by unfold State.setDark; repeat' split <;> simp

@[simp] theorem State.dark_setDark (d : Bool) : (s.setDark d).sv.dark = d := by
  unfold State.setDark
  split
  · exact (‹d = s.sv.dark›).symm
  · split
    · simp_all
    · simp_all

@[simp] theorem State.permit_setDark (d : Bool) : (s.setDark d).sv.permit = s.sv.permit := by
  unfold State.setDark; repeat' split <;> simp

@[simp] theorem State.svRun_setDark (d : Bool) : (s.setDark d).sv.run = s.sv.run := by
  unfold State.setDark; repeat' split <;> simp

@[simp] theorem State.tb_refreshDark : (s.refreshDark).tb = s.tb := by unfold State.refreshDark; dsimp only; split <;> simp
@[simp] theorem State.sq_refreshDark : (s.refreshDark).sq = s.sq := by unfold State.refreshDark; dsimp only; split <;> simp
@[simp] theorem State.scan_refreshDark : (s.refreshDark).scan = s.scan := by unfold State.refreshDark; dsimp only; split <;> simp
@[simp] theorem State.rx_refreshDark : (s.refreshDark).rx = s.rx := by unfold State.refreshDark; dsimp only; split <;> simp
@[simp] theorem State.hist_refreshDark : (s.refreshDark).hist = s.hist := by unfold State.refreshDark; dsimp only; split <;> simp
@[simp] theorem State.eng_refreshDark : (s.refreshDark).eng = s.eng := by unfold State.refreshDark; dsimp only; split <;> simp
@[simp] theorem State.pll_refreshDark : (s.refreshDark).pll = s.pll := by unfold State.refreshDark; dsimp only; split <;> simp
@[simp] theorem State.net_refreshDark : (s.refreshDark).net = s.net := by unfold State.refreshDark; dsimp only; split <;> simp
@[simp] theorem State.motor_refreshDark : (s.refreshDark).motor = s.motor := by unfold State.refreshDark; dsimp only; split <;> simp
@[simp] theorem State.cal_refreshDark : (s.refreshDark).cal = s.cal := by unfold State.refreshDark; dsimp only; split <;> simp
@[simp] theorem State.regs_refreshDark : (s.refreshDark).regs = s.regs := by unfold State.refreshDark; dsimp only; split <;> simp
@[simp] theorem State.mbx_refreshDark : (s.refreshDark).mbx = s.mbx := by unfold State.refreshDark; dsimp only; split <;> simp
@[simp] theorem State.ret_refreshDark : (s.refreshDark).ret = s.ret := by unfold State.refreshDark; dsimp only; split <;> simp
@[simp] theorem State.fw_refreshDark : (s.refreshDark).fw = s.fw := by unfold State.refreshDark; dsimp only; split <;> simp
@[simp] theorem State.dev_refreshDark : (s.refreshDark).dev = s.dev := by unfold State.refreshDark; dsimp only; split <;> simp
@[simp] theorem State.pending_refreshDark : (s.refreshDark).pending = s.pending := by unfold State.refreshDark; dsimp only; split <;> simp
@[simp] theorem State.sent_refreshDark : (s.refreshDark).sent = s.sent := by unfold State.refreshDark; dsimp only; split <;> simp
@[simp] theorem State.reply_refreshDark : (s.refreshDark).reply = s.reply := by unfold State.refreshDark; dsimp only; split <;> simp
@[simp] theorem State.clock_refreshDark : (s.refreshDark).clock = s.clock := by unfold State.refreshDark; dsimp only; split <;> simp
@[simp] theorem State.fresh_refreshDark : (s.refreshDark).fresh = s.fresh := by unfold State.refreshDark; dsimp only; split <;> simp

@[simp] theorem State.tb_refreshSst : (s.refreshSst).tb = s.tb := by unfold State.refreshSst; dsimp only; split <;> simp
@[simp] theorem State.tx_refreshSst : (s.refreshSst).tx = s.tx := by unfold State.refreshSst; dsimp only; split <;> simp
@[simp] theorem State.sq_refreshSst : (s.refreshSst).sq = s.sq := by unfold State.refreshSst; dsimp only; split <;> simp
@[simp] theorem State.scan_refreshSst : (s.refreshSst).scan = s.scan := by unfold State.refreshSst; dsimp only; split <;> simp
@[simp] theorem State.rx_refreshSst : (s.refreshSst).rx = s.rx := by unfold State.refreshSst; dsimp only; split <;> simp
@[simp] theorem State.hist_refreshSst : (s.refreshSst).hist = s.hist := by unfold State.refreshSst; dsimp only; split <;> simp
@[simp] theorem State.eng_refreshSst : (s.refreshSst).eng = s.eng := by unfold State.refreshSst; dsimp only; split <;> simp
@[simp] theorem State.fab_refreshSst : (s.refreshSst).fab = s.fab := by unfold State.refreshSst; dsimp only; split <;> simp
@[simp] theorem State.pll_refreshSst : (s.refreshSst).pll = s.pll := by unfold State.refreshSst; dsimp only; split <;> simp
@[simp] theorem State.net_refreshSst : (s.refreshSst).net = s.net := by unfold State.refreshSst; dsimp only; split <;> simp
@[simp] theorem State.motor_refreshSst : (s.refreshSst).motor = s.motor := by unfold State.refreshSst; dsimp only; split <;> simp
@[simp] theorem State.cal_refreshSst : (s.refreshSst).cal = s.cal := by unfold State.refreshSst; dsimp only; split <;> simp
@[simp] theorem State.mbx_refreshSst : (s.refreshSst).mbx = s.mbx := by unfold State.refreshSst; dsimp only; split <;> simp
@[simp] theorem State.ret_refreshSst : (s.refreshSst).ret = s.ret := by unfold State.refreshSst; dsimp only; split <;> simp
@[simp] theorem State.fw_refreshSst : (s.refreshSst).fw = s.fw := by unfold State.refreshSst; dsimp only; split <;> simp
@[simp] theorem State.dev_refreshSst : (s.refreshSst).dev = s.dev := by unfold State.refreshSst; dsimp only; split <;> simp
@[simp] theorem State.pending_refreshSst : (s.refreshSst).pending = s.pending := by unfold State.refreshSst; dsimp only; split <;> simp
@[simp] theorem State.reply_refreshSst : (s.refreshSst).reply = s.reply := by unfold State.refreshSst; dsimp only; split <;> simp
@[simp] theorem State.clock_refreshSst : (s.refreshSst).clock = s.clock := by unfold State.refreshSst; dsimp only; split <;> simp
@[simp] theorem State.fresh_refreshSst : (s.refreshSst).fresh = s.fresh := by unfold State.refreshSst; dsimp only; split <;> simp

/-- The permit stands exactly when it is due. -/
@[simp] theorem State.permit_refreshSst : s.refreshSst.sv.permit = s.sv.permit := by
  unfold State.refreshSst; dsimp only; split <;> simp

@[simp] theorem State.svRun_refreshSst : s.refreshSst.sv.run = s.sv.run := by
  unfold State.refreshSst; dsimp only; split <;> simp

@[simp] theorem State.permit_refreshDark : s.refreshDark.sv.permit = s.sv.permit := by
  unfold State.refreshDark; dsimp only; split <;> simp

@[simp] theorem State.svRun_refreshDark : s.refreshDark.sv.run = s.sv.run := by
  unfold State.refreshDark; dsimp only; split <;> simp

@[simp] theorem State.tb_refreshPermit : (s.refreshPermit).tb = s.tb := by unfold State.refreshPermit; dsimp only; split <;> simp
@[simp] theorem State.sq_refreshPermit : (s.refreshPermit).sq = s.sq := by unfold State.refreshPermit; dsimp only; split <;> simp
@[simp] theorem State.scan_refreshPermit : (s.refreshPermit).scan = s.scan := by unfold State.refreshPermit; dsimp only; split <;> simp
@[simp] theorem State.rx_refreshPermit : (s.refreshPermit).rx = s.rx := by unfold State.refreshPermit; dsimp only; split <;> simp
@[simp] theorem State.hist_refreshPermit : (s.refreshPermit).hist = s.hist := by unfold State.refreshPermit; dsimp only; split <;> simp
@[simp] theorem State.eng_refreshPermit : (s.refreshPermit).eng = s.eng := by unfold State.refreshPermit; dsimp only; split <;> simp
@[simp] theorem State.pll_refreshPermit : (s.refreshPermit).pll = s.pll := by unfold State.refreshPermit; dsimp only; split <;> simp
@[simp] theorem State.net_refreshPermit : (s.refreshPermit).net = s.net := by unfold State.refreshPermit; dsimp only; split <;> simp
@[simp] theorem State.motor_refreshPermit : (s.refreshPermit).motor = s.motor := by unfold State.refreshPermit; dsimp only; split <;> simp
@[simp] theorem State.cal_refreshPermit : (s.refreshPermit).cal = s.cal := by unfold State.refreshPermit; dsimp only; split <;> simp
@[simp] theorem State.mbx_refreshPermit : (s.refreshPermit).mbx = s.mbx := by unfold State.refreshPermit; dsimp only; split <;> simp
@[simp] theorem State.ret_refreshPermit : (s.refreshPermit).ret = s.ret := by unfold State.refreshPermit; dsimp only; split <;> simp
@[simp] theorem State.fw_refreshPermit : (s.refreshPermit).fw = s.fw := by unfold State.refreshPermit; dsimp only; split <;> simp
@[simp] theorem State.pending_refreshPermit : (s.refreshPermit).pending = s.pending := by unfold State.refreshPermit; dsimp only; split <;> simp
@[simp] theorem State.reply_refreshPermit : (s.refreshPermit).reply = s.reply := by unfold State.refreshPermit; dsimp only; split <;> simp
@[simp] theorem State.clock_refreshPermit : (s.refreshPermit).clock = s.clock := by unfold State.refreshPermit; dsimp only; split <;> simp
@[simp] theorem State.fresh_refreshPermit : (s.refreshPermit).fresh = s.fresh := by unfold State.refreshPermit; dsimp only; split <;> simp

@[simp] theorem State.permit_refreshPermit : s.refreshPermit.sv.permit = s.permitDue := by
  unfold State.refreshPermit; dsimp only; split <;> simp

@[simp] theorem State.svRun_refreshPermit : s.refreshPermit.sv.run = s.sv.run := by
  unfold State.refreshPermit; dsimp only; split <;> simp

@[simp] theorem State.tb_refreshSto : (s.refreshSto).tb = s.tb := by unfold State.refreshSto; dsimp only; split <;> rfl
@[simp] theorem State.tx_refreshSto : (s.refreshSto).tx = s.tx := by unfold State.refreshSto; dsimp only; split <;> rfl
@[simp] theorem State.sq_refreshSto : (s.refreshSto).sq = s.sq := by unfold State.refreshSto; dsimp only; split <;> rfl
@[simp] theorem State.scan_refreshSto : (s.refreshSto).scan = s.scan := by unfold State.refreshSto; dsimp only; split <;> rfl
@[simp] theorem State.rx_refreshSto : (s.refreshSto).rx = s.rx := by unfold State.refreshSto; dsimp only; split <;> rfl
@[simp] theorem State.hist_refreshSto : (s.refreshSto).hist = s.hist := by unfold State.refreshSto; dsimp only; split <;> rfl
@[simp] theorem State.eng_refreshSto : (s.refreshSto).eng = s.eng := by unfold State.refreshSto; dsimp only; split <;> rfl
@[simp] theorem State.fab_refreshSto : (s.refreshSto).fab = s.fab := by unfold State.refreshSto; dsimp only; split <;> rfl
@[simp] theorem State.pll_refreshSto : (s.refreshSto).pll = s.pll := by unfold State.refreshSto; dsimp only; split <;> rfl
@[simp] theorem State.net_refreshSto : (s.refreshSto).net = s.net := by unfold State.refreshSto; dsimp only; split <;> rfl
@[simp] theorem State.motor_refreshSto : (s.refreshSto).motor = s.motor := by unfold State.refreshSto; dsimp only; split <;> rfl
@[simp] theorem State.cal_refreshSto : (s.refreshSto).cal = s.cal := by unfold State.refreshSto; dsimp only; split <;> rfl
@[simp] theorem State.regs_refreshSto : (s.refreshSto).regs = s.regs := by unfold State.refreshSto; dsimp only; split <;> rfl
@[simp] theorem State.mbx_refreshSto : (s.refreshSto).mbx = s.mbx := by unfold State.refreshSto; dsimp only; split <;> rfl
@[simp] theorem State.ret_refreshSto : (s.refreshSto).ret = s.ret := by unfold State.refreshSto; dsimp only; split <;> rfl
@[simp] theorem State.fw_refreshSto : (s.refreshSto).fw = s.fw := by unfold State.refreshSto; dsimp only; split <;> rfl
@[simp] theorem State.dev_refreshSto : (s.refreshSto).dev = s.dev := by unfold State.refreshSto; dsimp only; split <;> rfl
@[simp] theorem State.pending_refreshSto : (s.refreshSto).pending = s.pending := by unfold State.refreshSto; dsimp only; split <;> rfl
@[simp] theorem State.sent_refreshSto : (s.refreshSto).sent = s.sent := by unfold State.refreshSto; dsimp only; split <;> rfl
@[simp] theorem State.reply_refreshSto : (s.refreshSto).reply = s.reply := by unfold State.refreshSto; dsimp only; split <;> rfl
@[simp] theorem State.clock_refreshSto : (s.refreshSto).clock = s.clock := by unfold State.refreshSto; dsimp only; split <;> rfl
@[simp] theorem State.fresh_refreshSto : (s.refreshSto).fresh = s.fresh := by unfold State.refreshSto; dsimp only; split <;> rfl

@[simp] theorem State.svRun_refreshSto : s.refreshSto.sv.run = s.sv.run := by
  unfold State.refreshSto; dsimp only; split <;> rfl

@[simp] theorem State.tb_svGo (r : SvRun) : (s.svGo r).tb = s.tb := by unfold State.svGo; split <;> simp
@[simp] theorem State.sq_svGo (r : SvRun) : (s.svGo r).sq = s.sq := by unfold State.svGo; split <;> simp
@[simp] theorem State.scan_svGo (r : SvRun) : (s.svGo r).scan = s.scan := by unfold State.svGo; split <;> simp
@[simp] theorem State.rx_svGo (r : SvRun) : (s.svGo r).rx = s.rx := by unfold State.svGo; split <;> simp
@[simp] theorem State.hist_svGo (r : SvRun) : (s.svGo r).hist = s.hist := by unfold State.svGo; split <;> simp
@[simp] theorem State.eng_svGo (r : SvRun) : (s.svGo r).eng = s.eng := by unfold State.svGo; split <;> simp
@[simp] theorem State.pll_svGo (r : SvRun) : (s.svGo r).pll = s.pll := by unfold State.svGo; split <;> simp
@[simp] theorem State.net_svGo (r : SvRun) : (s.svGo r).net = s.net := by unfold State.svGo; split <;> simp
@[simp] theorem State.motor_svGo (r : SvRun) : (s.svGo r).motor = s.motor := by unfold State.svGo; split <;> simp
@[simp] theorem State.cal_svGo (r : SvRun) : (s.svGo r).cal = s.cal := by unfold State.svGo; split <;> simp
@[simp] theorem State.mbx_svGo (r : SvRun) : (s.svGo r).mbx = s.mbx := by unfold State.svGo; split <;> simp
@[simp] theorem State.ret_svGo (r : SvRun) : (s.svGo r).ret = s.ret := by unfold State.svGo; split <;> simp
@[simp] theorem State.fw_svGo (r : SvRun) : (s.svGo r).fw = s.fw := by unfold State.svGo; split <;> simp
@[simp] theorem State.pending_svGo (r : SvRun) : (s.svGo r).pending = s.pending := by unfold State.svGo; split <;> simp
@[simp] theorem State.reply_svGo (r : SvRun) : (s.svGo r).reply = s.reply := by unfold State.svGo; split <;> simp
@[simp] theorem State.clock_svGo (r : SvRun) : (s.svGo r).clock = s.clock := by unfold State.svGo; split <;> simp
@[simp] theorem State.fresh_svGo (r : SvRun) : (s.svGo r).fresh = s.fresh := by unfold State.svGo; split <;> simp

/-- The supervisor is in the state that it enters. -/
@[simp] theorem State.svRun_svGo (r : SvRun) : (s.svGo r).sv.run = r := by
  unfold State.svGo
  split
  · assumption
  · simp

end Sys2Proof.Machine
end

