-- ==== Sys2Proof/Laws/Commands.lean ====
section
/-! SUPPORT. Laws of mailbox commands: what a row does when its command may run, once for all rows. -/

namespace Sys2Proof.Machine

@[simp] theorem State.core_answerBare (s : State) (op : Nat) (st : Status) (r : List Fld) (b : List Byte) :
    (s.answerBare op st r b).core = s.core := rfl

@[simp] theorem State.core_log (s : State) (x : Sent) : (s.log x).core = s.core := rfl

@[simp] theorem State.core_setBox (s : State) (k : Nat) (v : Mailbox) : (s.setBox k v).core = s.core := rfl

@[simp] theorem State.core_modBox (s : State) (k : Nat) (f : Mailbox → Mailbox) : (s.modBox k f).core = s.core := rfl

@[simp] theorem State.core_release (s : State) : s.release.core = s.core := rfl

@[simp] theorem State.core_vector (s : State) (v : Nat) : (s.vector v).core = s.core := by
  obtain ⟨-, h⟩ | ⟨-, -, h⟩ | ⟨-, -, h⟩ := s.vector_cases v <;> rw [h] <;> rfl

/-- An own frame waits at its port, which but for its queue stays as it is. -/
@[simp] theorem State.core_sendOwn (s : State) (port pcp : Nat) (b : OwnBody) : (s.sendOwn port pcp b).core = s.core := by
  have h (k : Nat) : { (s.sendOwn port pcp b).port k with queue := [] } = { s.port k with queue := [] } := by
    unfold State.sendOwn
    rw [State.modPort_eq]
    by_cases e : k = port
    · rw [e, State.port_setPort_self]
    · rw [State.port_setPort_ne _ _ _ _ e]
  have h' : (fun k => (k, { (s.sendOwn port pcp b).port k with queue := [] })) = fun k => (k, { s.port k with queue := [] }) :=
    funext fun k => congrArg (Prod.mk k) (h k)
  unfold State.core
  rw [h']
  rfl

@[simp] theorem State.core_deliver (s : State) (t : Taken) (r : Response) : (s.deliver t r).core = s.core := by
  unfold State.deliver
  dsimp only
  split
  · split <;> simp
  · split
    · simp
    · rfl

@[simp] theorem State.core_conclude (s : State) (t : Taken) (r : Response) : (s.conclude t r).core = s.core := by
  simp [State.conclude]

/-- An answer touches nothing else, but for AER where the read behind its block fails (R323, R356). -/
theorem State.core_answerTaken (s : State) (t : Taken) (d : Option Nat) (st : Status) (r : List Fld) (b : List Byte)
    (h : d = none ∨ t.readOk = true) : (s.answerTaken t d st r b).core = s.core := by
  unfold State.answerTaken State.sendBlock
  rcases d with _ | d
  · simp
  · obtain h | h := h
    · cases h
    · dsimp only
      rw [h]
      split
      · split <;> simp
      · simp

@[simp] theorem State.box_log (s : State) (x : Sent) (k : Nat) : (s.log x).box k = s.box k := rfl

@[simp] theorem State.box_sendOwn (s : State) (port pcp : Nat) (b : OwnBody) (k : Nat) :
    (s.sendOwn port pcp b).box k = s.box k := rfl

@[simp] theorem State.box_vector (s : State) (v k : Nat) : (s.vector v).box k = s.box k := by
  obtain ⟨-, h⟩ | ⟨-, -, h⟩ | ⟨-, -, h⟩ := s.vector_cases v <;> rw [h] <;> rfl

/-- Delivery leaves the journal of the mailbox. -/
theorem State.journal_deliver (s : State) (t : Taken) (r : Response) :
    ((s.deliver t r).box t.mailbox).journal = (s.box t.mailbox).journal := by
  unfold State.deliver State.modBox
  dsimp only
  split
  · split <;> simp
  · split
    · simp
    · rw [State.box_log]
      change ((s.setBox t.mailbox _).box t.mailbox).journal = _
      simp

/-- A command that concludes is the newest of its mailbox's journal (R359). -/
theorem State.journal_conclude (s : State) (t : Taken) (r : Response) :
    ((s.conclude t r).box t.mailbox).journal.head?.map (·.response) = some r := by
  unfold State.conclude State.modBox
  rw [State.journal_deliver]
  simp

theorem State.journal_answerTaken (s : State) (t : Taken) (st : Status) (ret : List Fld) (hst : st ≠ .integrity) :
    ((s.answerTaken t none st ret []).box t.mailbox).journal.head?.map (·.response) = some (responseOf t st ret []) := by
  simp only [State.answerTaken, State.sendBlock, hst, if_false]
  exact State.journal_conclude _ _ _

/-- Any row of a mailbox command answers a next state. -/
theorem cmdRow_next (c : Instr) (b : State → Body) (s : State) : ∃ t, cmdRow c b s = .next t := by
  unfold cmdRow
  split
  · split <;> exact ⟨_, rfl⟩
  · exact ⟨_, rfl⟩

/-- A row with no mailbox. -/
theorem cmdRow_bare (c : Instr) (b : State → Body) (s : State) (hx : s.mbx.executing = none) (hp : s.dev.pfail = false) :
    cmdRow c b s = .next (s.runBare c (b s)) := by
  simp [cmdRow, State.rowDue, hx, hp]

/-- The row of the command in execution. -/
theorem cmdRow_taken (c : Instr) (b : State → Body) (s : State) (t : Taken) (p : Option Taken)
    (hx : s.mbx.executing = some (t, p)) (hi : isCommand c t = true) (hp : s.powerIdle = false) :
    cmdRow c b s = .next (s.release.runTaken c t p (b s.release)) := by
  simp [cmdRow, State.rowDue, hx, hi, hp]

/-- A command that may run and passes its checks completes with what its body gives. -/
theorem cmdRow_done (c : Instr) (b : State → Body) (s s' : State) (st : Status) (ret : List Fld) (he : exec c s = cmdRow c b s)
    (hr : s.runs c = true) (hd : (b s.release).dst = none) (hb : (b s.release).run = .done s' st ret [])
    (hst : st ≠ .integrity) (hc : s.release.checkBody c none (b s.release) = .ok) : completes c s s' st ret := by
  rcases hx : s.mbx.executing with _ | ⟨t, p⟩
  · have hs : s.release = s := by
      unfold State.release; rw [← hx]
    rw [hs] at hd hb hc
    simp only [State.runs, hx, Bool.not_eq_true'] at hr
    refine ⟨s'.answerBare (opcodeOf c) st ret [], ?_, rfl, ?_⟩
    · rw [he, cmdRow_bare c b s hx hr, State.runBare]
      change Host.Outcome.next (match s.checkBody c none (b s) with | .ok => _ | st => _) = _
      rw [hc, hb]
    · simp [answered, hx, State.answerBare]
  · simp only [State.runs, hx, Bool.and_eq_true, Option.isNone_iff_eq_none, Bool.not_eq_true'] at hr
    obtain ⟨⟨rfl, hi⟩, hp⟩ := hr
    have hc' : s.release.checkBody c (some t) (b s.release) = .ok := by
      rw [← hc]; simp [State.checkBody, blockChecks, hd]
    refine ⟨s'.answerTaken t none st ret [], ?_, State.core_answerTaken _ _ _ _ _ _ (.inl rfl), ?_⟩
    · rw [he, cmdRow_taken c b s t none hx hi hp]; simp only [State.runTaken]
      change Host.Outcome.next (match s.release.checkBody c (some t) (b s.release) with | .ok => _ | st => _) = _
      rw [hc', hb, hd]
    · simp only [answered, hx]; exact State.journal_answerTaken _ _ _ _ hst

/-- A command that may run, passes its checks and waits for its answer. -/
theorem cmdRow_waits (c : Instr) (b : State → Body) (s s' : State) (k : WaitKey) (he : exec c s = cmdRow c b s)
    (hr : s.runs c = true) (hd : (b s.release).dst = none) (hb : (b s.release).run = .waits s' k)
    (hw : s.dev.pfail = false) (hc : s.release.checkBody c none (b s.release) = .ok) : waitsFor c s s' k := by
  rcases hx : s.mbx.executing with _ | ⟨t, p⟩
  · have hs : s.release = s := by
      unfold State.release; rw [← hx]
    rw [hs] at hd hb hc
    simp only [State.runs, hx, Bool.not_eq_true'] at hr
    refine ⟨{ s' with mbx := { s'.mbx with waiting := s'.mbx.waiting ++ [(k, none)] } }, ?_, none, rfl, rfl⟩
    rw [he, cmdRow_bare c b s hx hr, State.runBare]
    change Host.Outcome.next (match s.checkBody c none (b s) with | .ok => _ | st => _) = _
    rw [hc, hb]
  · simp only [State.runs, hx, Bool.and_eq_true, Option.isNone_iff_eq_none, Bool.not_eq_true'] at hr
    obtain ⟨⟨rfl, hi⟩, hp⟩ := hr
    have hc' : s.release.checkBody c (some t) (b s.release) = .ok := by
      rw [← hc]; simp [State.checkBody, blockChecks, hd]
    refine ⟨{ s' with mbx := { s'.mbx with waiting := s'.mbx.waiting ++ [(k, some t)] } }, ?_, some t, rfl, rfl⟩
    rw [he, cmdRow_taken c b s t none hx hi hp]; simp only [State.runTaken]
    change Host.Outcome.next (match s.release.checkBody c (some t) (b s.release) with | .ok => _ | st => _) = _
    rw [hc', hb]
    change Host.Outcome.next (if s.dev.pfail = true then _ else _) = _
    rw [hw]; rfl

theorem State.mem_sent_vector (s : State) (v : Nat) (x : Sent) (h : x ∈ s.sent) : x ∈ (s.vector v).sent := by
  obtain ⟨-, e⟩ | ⟨-, -, e⟩ | ⟨-, -, e⟩ := s.vector_cases v <;> rw [e]
  · exact List.mem_cons_of_mem _ h
  · exact h
  · exact h

theorem State.mem_sent_conclude (s : State) (t : Taken) (r : Response) (x : Sent) (h : x ∈ s.sent) :
    x ∈ (s.conclude t r).sent := by
  unfold State.conclude State.deliver
  dsimp only
  split
  · split
    · exact State.mem_sent_vector _ _ _ h
    · exact h
  · split
    · exact h
    · exact List.mem_cons_of_mem _ h

/-- A status command that may run, passes its checks and can send its block. -/
theorem cmdRow_shows (c : Instr) (b : State → Body) (s s' : State) (d : Nat) (blk : List Byte) (he : exec c s = cmdRow c b s)
    (hr : s.runs c = true) (hd : (b s.release).dst = some d) (hb : (b s.release).run = .done s' .ok [] blk)
    (hm : s'.dmaOk = s.dmaOk) (hs : s.canShow d blk.length = true)
    (hc : s.release.checkBody c none (b s.release) = .ok) : shows c s s' d blk := by
  rcases hx : s.mbx.executing with _ | ⟨t, p⟩
  · have hs : s.release = s := by
      unfold State.release; rw [← hx]
    rw [hs] at hd hb hc
    simp only [State.runs, hx, Bool.not_eq_true'] at hr
    refine ⟨s'.answerBare (opcodeOf c) .ok [] blk, ?_, rfl, ?_⟩
    · rw [he, cmdRow_bare c b s hx hr, State.runBare]
      change Host.Outcome.next (match s.checkBody c none (b s) with | .ok => _ | st => _) = _
      rw [hc, hb]
    · rw [hx]; rfl
  · simp only [State.runs, hx, Bool.and_eq_true, Option.isNone_iff_eq_none, Bool.not_eq_true'] at hr
    obtain ⟨⟨rfl, hi⟩, hp⟩ := hr
    have hc' : s.release.checkBody c (some t) (b s.release) = .ok := by
      rw [← hc]
      simp only [State.canShow, hx] at hs
      by_cases hm' : t.mailbox < 32
      · simp [State.checkBody, blockChecks, hd, hb, hm']
      · simp only [hm', if_false, Bool.and_eq_true, decide_eq_true_eq] at hs
        have h2 : ¬ ((if t.mailbox < 40 then 8192 else 4096) < blk.length) := Nat.not_lt.mpr hs.2
        simp [State.checkBody, blockChecks, hd, hb, hm', hs.1, h2, verdict]
    refine ⟨s'.answerTaken t (some d) .ok [] blk, ?_, ?_, ?_⟩
    · rw [he, cmdRow_taken c b s t none hx hi hp]; simp only [State.runTaken]
      change Host.Outcome.next (match s.release.checkBody c (some t) (b s.release) with | .ok => _ | st => _) = _
      rw [hc', hb, hd]
    · simp only [State.canShow, hx] at hs
      by_cases hm' : t.mailbox < 32
      · simp only [hm', if_true, Bool.and_eq_true] at hs
        exact State.core_answerTaken _ _ _ _ _ _ (.inr hs.2)
      · simp [State.answerTaken, State.sendBlock, hm']
    · rw [hx]
      simp only [State.canShow, hx] at hs
      by_cases hm' : t.mailbox < 32
      · simp only [hm', if_true, Bool.and_eq_true] at hs
        simp only [State.answerTaken, State.sendBlock, hm', if_true, hm, hs.1, hs.2, Bool.not_true, Bool.false_eq_true, if_false]
        exact ⟨State.journal_conclude _ _ _,
          fun _ => State.mem_sent_conclude _ _ _ _ (List.mem_cons_of_mem _ List.mem_cons_self)⟩
      · simp only [State.answerTaken, State.sendBlock, hm', if_false]
        exact ⟨State.journal_conclude _ _ _, fun h => absurd h (by simp)⟩

/-- No check that holds: the verdict is OK. -/
theorem verdict_ok (cs : List (Bool × Status)) (h : ∀ c ∈ cs, c.1 = false) : verdict cs = .ok := by
  have : (Status.order.find? fun st => cs.any fun c => c.1 && decide (c.2 = st)) = none := by
    rw [List.find?_eq_none]
    intro st _ hst
    obtain ⟨c, hc, h'⟩ := List.any_eq_true.mp hst
    simp [h c hc] at h'
  rw [verdict, this]; rfl

/-- A body whose checks all fail to hold, of a command that the state of the device allows. -/
theorem State.checkBody_ok (s : State) (i : Instr) (b : Body) (hf : s.stateForbids i = false)
    (h : ∀ c ∈ b.checks, c.1 = false) : s.checkBody i none b = .ok := by
  apply verdict_ok
  intro c hc
  simp only [List.mem_cons, List.mem_append] at hc
  rcases hc with rfl | hc | hc
  · exact hf
  · simp [blockChecks] at hc
  · exact h c hc

@[simp] theorem State.core_idem (s : State) : s.core.core = s.core := rfl

/-- The next state of a completion matters only up to the answer. -/
theorem completes_of_core {c : Instr} {s s' s'' : State} {st : Status} {ret : List Fld} (h : completes c s s' st ret)
    (e : s'.core = s''.core) : completes c s s'' st ret := by
  obtain ⟨t, h1, h2, h3⟩ := h
  exact ⟨t, h1, h2.trans e, h3⟩

theorem State.runs_of_admits {s : State} {c : Instr} (h : s.admits c = true) :
    s.runs c = true ∧ s.release.stateForbids c = false := by
  simp only [State.admits, Bool.and_eq_true, Bool.not_eq_true'] at h
  exact h

/-- A command that is admitted, whose checks all fail to hold, completes with what its body gives. -/
theorem completes_row {c : Instr} {b : State → Body} {s s' s'' : State} {st : Status} {ret : List Fld}
    (he : exec c s = cmdRow c b s) (h : s.admits c = true) (hd : (b s.release).dst = none)
    (hb : (b s.release).run = .done s' st ret []) (hst : st ≠ .integrity) (e : s'.core = s''.core)
    (hc : ∀ x ∈ (b s.release).checks, x.1 = false) : completes c s s'' st ret :=
  have h' := State.runs_of_admits h
  completes_of_core (cmdRow_done _ _ s _ _ _ he h'.1 hd hb hst (State.checkBody_ok _ _ _ h'.2 hc)) e

/-- A status command that is admitted, whose checks all fail to hold, shows its block. -/
theorem shows_row {c : Instr} {b : State → Body} {s s' s'' : State} {d : Nat} {blk : List Byte}
    (he : exec c s = cmdRow c b s) (h : s.admits c = true) (hd : (b s.release).dst = some d)
    (hb : (b s.release).run = .done s' .ok [] blk) (hm : s'.dmaOk = s.dmaOk) (hs : s.canShow d blk.length = true)
    (e : s'.core = s''.core) (hc : ∀ x ∈ (b s.release).checks, x.1 = false) : shows c s s'' d blk := by
  have h' := State.runs_of_admits h
  obtain ⟨t, h1, h2, h3⟩ := cmdRow_shows _ _ s _ _ _ he h'.1 hd hb hm hs (State.checkBody_ok _ _ _ h'.2 hc)
  exact ⟨t, h1, h2.trans e, h3⟩

/-- A command that is admitted, whose checks all fail to hold, and whose answer waits. -/
theorem waitsFor_row {c : Instr} {b : State → Body} {s s' : State} {k : WaitKey} (he : exec c s = cmdRow c b s)
    (h : s.admitsWait c = true) (hd : (b s.release).dst = none) (hb : (b s.release).run = .waits s' k)
    (hc : ∀ x ∈ (b s.release).checks, x.1 = false) : waitsFor c s s' k :=
  have hw : s.admits c = true ∧ s.dev.pfail = false := by
    simpa only [State.admitsWait, Bool.and_eq_true, Bool.not_eq_true'] using h
  have h' := State.runs_of_admits hw.1
  cmdRow_waits _ _ s _ _ he h'.1 hd hb hw.2 (State.checkBody_ok _ _ _ h'.2 hc)

/-- The second submission of a dual submission that passes its checks: both are answered, the first to last being the
one held. -/
theorem cmdRow_pair (c : Instr) (b : State → Body) (s s' : State) (t q : Taken) (st : Status) (ret : List Fld)
    (hx : s.mbx.executing = some (t, some q)) (hi : isCommand c t = true) (hp : s.powerIdle = false) (hd : (b s.release).dst = none)
    (hb : (b s.release).run = .done s' st ret []) (hc : s.release.checkBody c none (b s.release) = .ok) :
    cmdRow c b s = .next ((s'.answerTaken t none st ret []).answerTaken q none st ret []) := by
  have hc' : s.release.checkBody c (some t) (b s.release) = .ok := by
    rw [← hc]; simp [State.checkBody, blockChecks, hd]
  rw [cmdRow_taken c b s t (some q) hx hi hp]; simp only [State.runTaken]
  change Host.Outcome.next (match s.release.checkBody c (some t) (b s.release) with | .ok => _ | st => _) = _
  rw [hc', hb, hd]

/-- Delivery leaves every other mailbox as it is. -/
theorem State.box_deliver_ne (s : State) (t : Taken) (r : Response) (m : Nat) (h : m ≠ t.mailbox) :
    (s.deliver t r).box m = s.box m := by
  unfold State.deliver State.modBox
  dsimp only
  split
  · split <;> simp [State.box_setBox_ne _ _ _ _ h]
  · split
    · simp [State.box_setBox_ne _ _ _ _ h]
    · rw [State.box_log]
      change (s.setBox t.mailbox _).box m = s.box m
      exact State.box_setBox_ne _ _ _ _ h

/-- What stands first in a journal stays in it with the next answer. -/
theorem State.mem_journal_answerTaken (s : State) (t : Taken) (st : Status) (ret : List Fld) (m : Nat) (r : Response)
    (h : (s.box m).journal.head?.map (·.response) = some r) :
    ∃ e ∈ ((s.answerTaken t none st ret []).box m).journal, e.response = r := by
  obtain ⟨e, he, rfl⟩ := Option.map_eq_some_iff.mp h
  obtain ⟨l, hl⟩ : ∃ l, (s.box m).journal = e :: l := by
    cases hj : (s.box m).journal <;> simp_all
  refine ⟨e, ?_, rfl⟩
  simp only [State.answerTaken, State.sendBlock, State.conclude, State.modBox]
  by_cases hm : m = t.mailbox
  · subst hm
    rw [State.journal_deliver]
    simp [hl]
  · rw [State.box_deliver_ne _ _ _ _ hm, State.box_setBox_ne _ _ _ _ hm, hl]
    exact List.mem_cons_self

/-- A safety configuration command that is admitted and whose checks all fail to hold completes with what its body gives
(R360). -/
theorem completesDual_row {c : Instr} {b : State → Body} {s s' s'' : State} {st : Status} {ret : List Fld}
    (he : exec c s = dualRow c b s) (h : s.admitsDual c = true) (hd : (b s.release).dst = none)
    (hb : (b s.release).run = .done s' st ret []) (hst : st ≠ .integrity) (e : s'.core = s''.core)
    (hc : ∀ x ∈ (b s.release).checks, x.1 = false) : completesDual c s s'' st ret := by
  simp only [State.admitsDual, Bool.and_eq_true, Bool.not_eq_true'] at h
  obtain ⟨hr, hf⟩ := h
  have hk : s.release.checkBody c none (b s.release) = .ok := State.checkBody_ok _ _ _ hf hc
  rcases hx : s.mbx.executing with _ | ⟨t, _ | q⟩
  · have hs : s.release = s := by unfold State.release; rw [← hx]
    rw [hs] at hk
    simp only [State.runsDual, hx, Bool.not_eq_true'] at hr
    simp only [completesDual, hx]
    refine ⟨s.answerBare (opcodeOf c) .safetyDenied [] [], ?_, rfl, ?_⟩
    · rw [he]; simp only [dualRow, State.rowDue, hx, hr, Bool.not_false, if_true]
      change (match s.checkBody c none (b s) with | .ok => _ | st => _) = _
      rw [hk]
    · simp [answered, hx, State.answerBare]
  · simp only [State.runsDual, hx, Bool.and_eq_true, Bool.not_eq_true'] at hr
    have hk' : s.checkBody c (some t) (b s.release) = .ok := by
      rw [← hk]; simp only [State.checkBody, blockChecks, hd]; rfl
    have hh : exec c s = .next (s.release.holdFirst t) := by
      rw [he]; simp only [dualRow, State.rowDue, hx, hr.1, hr.2, Bool.not_false, Bool.and_self, if_true]
      change (match s.checkBody c (some t) (b s.release) with | .ok => _ | st => _) = _
      rw [hk']
    simp only [completesDual, hx]
    refine ⟨fun hw => ?_, fun hw => ⟨s.release.denyPair t, ?_, ?_, ?_⟩⟩
    · rw [hh]
      change Host.Outcome.next (if s.dev.pfail = true then _ else _) = _
      rw [hw]; rfl
    · rw [hh]
      change Host.Outcome.next (if s.dev.pfail = true then _ else _) = _
      rw [hw]; rfl
    · rw [State.denyPair, State.core_answerTaken _ _ _ _ _ _ (.inl rfl), State.core_modBox, State.core_release]
    · simp only [answered, hx]
      exact State.journal_answerTaken _ _ _ _ (by simp)
  · simp only [State.runsDual, hx, Bool.and_eq_true, Bool.not_eq_true'] at hr
    simp only [completesDual, hx]
    refine ⟨(s'.answerTaken t none st ret []).answerTaken q none st ret [], ?_, ?_,
      State.mem_journal_answerTaken _ _ _ _ _ _ (State.journal_answerTaken s' t st ret hst), ?_⟩
    · rw [he]; simp only [dualRow, State.rowDue, hx, hr.1, hr.2, Bool.not_false, Bool.and_self, if_true]
      exact cmdRow_pair c b s s' t q st ret hx hr.1 hr.2 hd hb hk
    · rw [State.core_answerTaken _ _ _ _ _ _ (.inl rfl), State.core_answerTaken _ _ _ _ _ _ (.inl rfl), e]
    · obtain ⟨x, hx', hr'⟩ := Option.map_eq_some_iff.mp
        (State.journal_answerTaken (s'.answerTaken t none st ret []) q st ret hst)
      exact ⟨x, List.mem_of_mem_head? hx', hr'⟩

end Sys2Proof.Machine
end

