-- ==== Sys2Proof/Laws/Memory.lean ====
section
/-! SUPPORT. Laws of program memory (R86): its canonical form, and reads after writes. -/

namespace Sys2Proof.Machine

/-- A write of bytes keeps the canonical form. -/
theorem Memory.wf_write (m : Memory) (a : Nat) (bs : List Byte) (h : m.wf = true) : (m.write a bs).wf = true := by
  induction bs generalizing m a with
  | nil => exact h
  | cons b t ih => exact ih _ _ (Tab.wf_put _ _ _ _ h)

/-- A write leaves every byte outside it as it was. -/
theorem Memory.byte_write_outside (m : Memory) (a k : Nat) (bs : List Byte) (h : k < a ∨ a + bs.length ≤ k) :
    (m.write a bs).byte k = m.byte k := by
  induction bs generalizing m a with
  | nil => rfl
  | cons b t ih =>
    simp only [List.length_cons] at h
    rw [Memory.write, ih _ _ (by omega)]
    exact Tab.get_put_ne _ _ _ _ _ _ (by omega)

/-- A byte written reads back. -/
theorem Memory.byte_write_inside (m : Memory) (a i : Nat) (bs : List Byte) (hi : i < bs.length) :
    (m.write a bs).byte (a + i) = bs[i] := by
  induction bs generalizing m a i with
  | nil => exact absurd hi (Nat.not_lt_zero _)
  | cons b t ih =>
    cases i with
    | zero =>
      rw [Memory.write, Memory.byte_write_outside _ _ _ _ (by omega)]
      exact Tab.get_put_self _ _ _ _
    | succ i =>
      have := ih (Tab.put (0 : Byte) m a b) (a + 1) i (by simpa using hi)
      simpa [Memory.write, Nat.add_assoc, Nat.add_comm 1 i] using this

/-- Program memory after reset has its canonical form. -/
theorem Memory.wf_reset : State.reset.sq.mem.wf = true := by decide

/-- A write of program memory keeps its canonical form. -/
theorem State.wf_writeProgram (s : State) (a : Nat) (bs : List Byte) (h : s.sq.mem.wf = true) :
    (s.writeProgram a bs).sq.mem.wf = true := Memory.wf_write _ _ _ h

end Sys2Proof.Machine
end

