-- ==== Sys2Proof/Machine/HostReads.lean ====
section
/-! DEFINITION. What a host reads in the windows of the device: direct registers (R416 to R428), mailboxes (R349), and BAR2
(R192, R326). A read changes nothing and has no row, so it is a function of the state. -/

namespace Sys2Proof.Machine

/-- A register from its fields, each with the place of its lowest bit; reserved bits read 0 (R7). -/
def fields (fs : List (Nat × Nat)) : Nat := (fs.map fun f => f.2 * 2 ^ f.1).sum

/-- A signed value in 16 bits. -/
def low16 (v : Int) : Nat := (v % 65536).toNat

/-- The halves of a value of 64 bits. -/
def lowHalf (v : Nat) : Nat := v % 2 ^ 32
def highHalf (v : Nat) : Nat := v / 2 ^ 32 % 2 ^ 32

/-- ID_PART to ID_DEVID (R418). -/
def State.readIdent (s : State) (i : Nat) : Nat :=
  [fields [(16, 0x5128), (8, Config.stepping)], s.fwVersion, lowHalf Config.uid.toNat, highHalf Config.uid.toNat,
    lowHalf Config.mac.toNat, highHalf Config.mac.toNat, s.tx.deviceId].getD i 0

/-- STATE (R419). -/
def State.readState (s : State) : Nat :=
  fields [(18, s.tb.source.code), (17, s.net.stepRefused.toNat), (12, s.pll.run.code), (8, s.sv.run.code), (0, s.deviceCode)]

/-- Some fault is latched, a discrepancy of a safe input among them (R289, R296, R420). -/
def Supervisor.faultLatched (v : Supervisor) : Bool := !v.faults.isEmpty || v.inputs.any fun p => p.2.faultLatched

/-- SAFETY_STATUS (R420). -/
def State.readSafety (s : State) : Nat :=
  fields [(7, s.sv.emissionFault.toNat), (6, s.sv.faultLatched.toNat), (5, s.sv.setB.toNat), (4, s.sv.sto.toNat),
    (3, s.sv.dark.toNat), (2, s.sv.permit.toNat), (1, s.sv.sstbReads.toNat), (0, s.sv.sstaReads.toNat)]

/-- SNAP_INFO to SNAP_SEC_HI (R422). -/
def State.readSnap (s : State) (i : Nat) : Nat :=
  let x := s.tb.snap
  [0, fields [(31, x.pending.toNat), (16, x.source), (0, x.epoch.toNat)], x.ns.toNat, lowHalf x.sec.toNat,
    highHalf x.sec.toNat].getD i 0

/-- A word of 32 locks, channel 32 w + b in bit b (R424). -/
def lockWord (f : Nat → Bool) (w : Nat) : Nat := fields ((List.range 32).map fun b => (b, (f (32 * w + b)).toNat))

/-- The domain with the lowest margin, the lower one on equal margins (R425). -/
def State.lowestPace (s : State) : Nat :=
  [1, 2, 3].foldl (fun m d => if (s.pace d).margin < (s.pace m).margin then d else m) 0

/-- PACE_SUMMARY and PACE_D0 to PACE_D3 (R425). -/
def State.readPace (s : State) (i : Nat) : Nat :=
  if i = 0 then
    fields [(31, s.regs.paceWarn.toNat), (16, s.lowestPace), (0, low16 (s.pace s.lowestPace).margin)]
  else if i ≤ 4 then fields [(16, low16 (s.pace (i - 1)).low), (0, low16 (s.pace (i - 1)).margin)]
  else 0

/-- Register `i` of a host event input (R427). -/
def Hev.readReg (x : Hev) (i : Nat) : Nat :=
  let t := FullTime.ofTq x.time
  [fields [(31, x.valid.toNat), (28, x.gen), (8, t.fns.toNat), (0, x.channel)], t.ns.toNat, lowHalf t.sec.toNat,
    highHalf t.sec.toNat, x.overrun].getD i 0

/-- SEQ_RING (R428). -/
def SeqState.readRing (q : SeqState) : Nat := fields [(31, q.pushErr.toNat), (16, q.rd), (0, q.wr)]

/-- RING_STAT (R428). -/
def Ring.readStat (r : Ring) : Nat :=
  fields [(31, r.ciErr.toNat), (30, r.reconPending.toNat), (0, r.unconfirmed.length)]

/-- The direct register at offset `a`, a multiple of 4 (R417): what is write-only or reserved reads 0. -/
def State.readDirect (s : State) (a : Nat) : Nat :=
  if a ≤ 0x18 then s.readIdent (a / 4)
  else if a = 0x40 then s.dev.ready.toNat
  else if a = 0x44 then s.enginesReady
  else if a = 0x48 then s.readState
  else if a = 0x4C then s.readSafety
  else if a = 0x60 then s.intStatus.toNat
  else if a = 0x64 then s.regs.intMask.toNat
  else if 0x80 ≤ a ∧ a ≤ 0x90 then s.readSnap ((a - 0x80) / 4)
  else if a = 0xA0 then fields [(31, s.fab.fireRejected.toNat)]
  else if 0x100 ≤ a ∧ a ≤ 0x11C then lockWord (fun c => (s.evch c).sticky) ((a - 0x100) / 4)
  else if 0x120 ≤ a ∧ a ≤ 0x13C then lockWord s.keyLocked ((a - 0x120) / 4)
  else if 0x180 ≤ a ∧ a ≤ 0x190 then s.readPace ((a - 0x180) / 4)
  else if a = 0x1C0 then s.regs.progWriteReject
  else if a = 0x1C4 then s.regs.badAccess
  else if a = 0x1C8 then s.regs.watchdogExpiries
  else if a = 0x1CC then s.regs.pfailWarnings
  else if 0x200 ≤ a ∧ a < 0x400 then (s.hev ((a - 0x200) / 32)).readReg ((a - 0x200) % 32 / 4)
  else if 0x400 ≤ a ∧ a < 0x440 then if a % 8 = 4 then (s.seq ((a - 0x400) / 8)).readRing else 0
  else if 0x800 ≤ a ∧ a < 0xA00 then
    let r := (s.stream ((a - 0x800) / 8)).ring
    if a % 8 = 0 then r.ci.toNat else r.readStat
  else 0

/-- A read of `n` bytes at offset `a`: the addressed bytes of the registers (R416). -/
def State.readBytes (s : State) (a n : Nat) : List Byte :=
  (numbers a n).map fun b => BitVec.ofNat 8 (s.readDirect (b / 4 * 4) / 256 ^ (b % 4))

/-! ## The PCIe endpoint (R323, R325) -/

/-- Word `w` of entry `v` of the MSI-X table (R325). -/
def Pcie.readMsix (p : Pcie) (v w : Nat) : Nat :=
  let e := Tab.get MsixEntry.zero p.msixTable v
  [lowHalf e.addr.toNat, highHalf e.addr.toNat, e.data.toNat, (Tab.get true p.msixMask v).toNat].getD w 0

/-- The MSI-X pending bits 32 w to 32 w + 31 (R325, R327). -/
def Pcie.readPending (p : Pcie) (w : Nat) : Nat :=
  fields ((List.range 32).map fun b => (b, (Tab.get false p.msixPending (32 * w + b)).toNat))

/-- The word at offset `a` of the regions of BAR0 between the direct registers and the mailboxes (R325). -/
def State.readEndpoint (s : State) (a : Nat) : Nat :=
  if 0x7000 ≤ a ∧ a < 0x7400 then s.regs.pcie.readMsix ((a - 0x7000) / 16) (a / 4 % 4)
  else if a = 0x7800 then s.regs.pcie.readPending 0
  else if a = 0x7804 then s.regs.pcie.readPending 1
  else 0

/-- The identification of the configuration space, at its offset in the header (R323): the vendor ID is not in the manual and
left out. The BARs read with their type: 64-bit, BAR2 prefetchable. -/
def State.readConfig (s : State) (a : Nat) : Nat :=
  let c := s.regs.pcie.config
  if a = 0 then fields [(16, 0x5128)]
  else if a = 8 then fields [(8, 0x118000), (0, 0x21)]
  else if a = 0x10 then lowHalf c.bar0.toNat / 65536 * 65536 + 4
  else if a = 0x14 then highHalf c.bar0.toNat
  else if a = 0x18 then lowHalf c.bar2.toNat / 0x4000000 * 0x4000000 + 12
  else if a = 0x1C then highHalf c.bar2.toNat
  else 0

/-- The capability registers of the endpoint that the manual's features need (R323, R325). -/
inductive CapReg where
  | deviceControl
  | linkControl
  | msixControl
  | msixTable
  | msixPending
  | powerControl
  | aerUncorrectable
  | aerUncorrectableMask
  | aerSeverity
  | aerCorrectable
  | aerCorrectableMask
  | headerLog (word : Nat)
  deriving DecidableEq, Repr

/-- A size in bytes as Device Control holds it: 0 for 128. -/
def sizeCode (n : Nat) : Nat := if 512 ≤ n then 2 else if 256 ≤ n then 1 else 0

/-- A capability register as it reads (R323): its place in the configuration space is not in the manual. The header log of AER
has four words. Entry 14, PRESUMED. -/
def Pcie.readCap (p : Pcie) : CapReg → Nat
  | .deviceControl => fields [(12, sizeCode p.config.maxReadRequest), (5, sizeCode p.config.maxPayload)]
  | .linkControl => fields [(1, p.config.aspmL1.toNat)]
  | .msixControl => fields [(15, p.config.msixEnable.toNat), (14, p.config.functionMask.toNat), (0, 63)]
  | .msixTable => 0x7000
  | .msixPending => 0x7800
  | .powerControl => fields [(0, if p.config.d3hot then 3 else 0)]
  | .aerUncorrectable => p.config.aerUncorrectable.toNat
  | .aerUncorrectableMask => p.config.aerUncorrectableMask.toNat
  | .aerSeverity => p.config.aerSeverity.toNat
  | .aerCorrectable => p.config.aerCorrectable.toNat
  | .aerCorrectableMask => p.config.aerCorrectableMask.toNat
  | .headerLog w => if w < 4 then p.config.headerLog.toNat / 2 ^ (32 * w) % 2 ^ 32 else 0

/-- A command of mailbox `k` is in execution, either of a dual submission (R349, R360). -/
def State.executes (s : State) (k : Nat) : Bool :=
  match s.mbx.executing with
  | none => false
  | some (t, p) => decide (t.mailbox = k) || p.any fun q => decide (q.mailbox = k)

/-- MB_STATUS of mailbox `k` (R349). -/
def State.readMbStatus (s : State) (k : Nat) : Nat :=
  let b := s.box k
  fields [(31, b.err.toNat), (30, (s.pairWait k).toNat),
    (29, (s.executes k).toNat), (8, (b.cmdPi - b.rspPi).toNat % 256)]

/-- The counts and MB_STATUS of mailbox `k`, at their offset in its 1,024 bytes (R349). -/
def State.readMailbox (s : State) (k a : Nat) : Nat :=
  if a = 0x3F0 then (s.box k).cmdPi.toNat
  else if a = 0x3F4 then (s.box k).rspCi.toNat
  else if a = 0x3F8 then (s.box k).rspPi.toNat
  else if a = 0x3FC then s.readMbStatus k
  else 0

/-- The 64 bytes of command slot `j` of mailbox `k`: zeros where none was written (R349, R354; entry 46, DEDUCED). -/
def State.readCommandSlot (s : State) (k j : Nat) : List Byte :=
  match Tab.get none (s.box k).slots j with
  | some f => frameBytes f
  | none => List.replicate 64 0

/-- The 32 bytes of response slot `j` of mailbox `k`, zeros before the first (R349, R355). -/
def State.readResponseSlot (s : State) (k j : Nat) : List Byte :=
  match Tab.get none (s.box k).responses j with
  | some r => r.bytes
  | none => List.replicate 32 0

/-- Bin `i` of bank `k` of channel `c` as BAR2 gives it: no parity check, 0 in a stale block (R192). -/
def State.readBin (s : State) (c k i : Nat) : Nat :=
  let x := (s.bank (2 * c + k)).block (i / 64)
  if x.stale then 0 else (x.bin (i % 64)).v.toNat

/-- The byte at offset `a` of BAR2 (R192, R326): bins, program memory, and 0 in the reserved region. -/
def State.readBar2 (s : State) (a : Nat) : Byte :=
  if a < 0x2000000 then BitVec.ofNat 8 (s.readBin (a / 65536) (a / 32768 % 2) (a / 2 % 16384) / 256 ^ (a % 2))
  else if a < 0x2200000 then s.sq.mem.byte (a - 0x2000000)
  else 0

end Sys2Proof.Machine
end

