-- ==== Sys2Proof/Machine/Balls.lean ====
section
/-! DEFINITION. The levels of the balls that the device drives, as functions of the state and the present time: delay and marker
outputs, clock outputs, MSPD and MDIR, STOA and STOB, SSTA and SSTB (R42, R44, R47, R48, R244 to R249, R277, R278, R281,
R302, R401). -/

namespace Sys2Proof.Machine

/-- Levels of a ball pair: P, and N where it is driven. -/
structure PairLevel where
  p : Bool
  n : Option Bool
  deriving DecidableEq, Repr

/-- A pair that is off: both legs pulled low (R401). -/
def PairLevel.off : PairLevel := { p := false, n := none }

/-! ## Delay and marker outputs (R42, R47, R48) -/

/-- A pulse of the burst stands at the ball at time `t`: none once a step has cut it (R33). -/
def Burst.stands (b : Burst) (t : Tq) : Bool :=
  b.cutAt.isNone && (b.formed (t + 1)).any fun p => decide (p.2.1 ≤ t ∧ t < max p.2.2 (p.2.1 + 1))

/-- A pulse of a fired burst stands at the ball of output `o`. An output with ENABLE 0 forms none (R45); a test pulse never
reaches the ball (R75). -/
def State.pulseStands (s : State) (o : Nat) : Bool :=
  let x := s.out o
  decide (x.cfg.enable = 1) && match x.active with
    | some b => b.fired && (if b.emitter then s.darkenNow b else b).stands s.now
    | none => false

/-- The polarity at the ball of an output: that with which the burst under way was taken (R46). -/
def OutState.polNow (x : OutState) : Nat :=
  match x.active with
  | some b => if b.fired then b.pol else x.cfg.pol
  | none => x.cfg.pol

/-- The levels of output `o` (R47, R48): single-ended for a marker, with the N leg at high impedance in LVCMOS. -/
def State.outputBall (s : State) (o : Nat) : PairLevel :=
  let x := s.out o
  if s.ballsOff then PairLevel.off
  else
    let p := pLevel x.polNow (s.pulseStands o)
    { p := p, n := if 127 < o ∨ x.fmt = 3 then none else some !p }

/-! ## Clock outputs (R244, R246, R248, R249) -/

/-- A clock output is in a high time at `t`, in 1/1980 tq: within the pulse with which it is gated off, or while it runs. -/
def Cko.highAt (c : Cko) (dt : Nat) (t : Int) : Bool :=
  let inTail := match c.tail with
    | some p => decide (p.1 ≤ t ∧ t < p.2)
    | none => false
  let r := c.riseFrom dt (t - c.high dt + 1)
  inTail || (!c.gated && decide (c.starts ≤ r ∧ r ≤ t))

/-- A clock output toggles: it has risen since it was ungated, or ends the pulse with which it was gated off (R244). -/
def Cko.toggles (c : Cko) (dt : Nat) (t : Int) : Bool :=
  (!c.gated && decide (c.firstRise dt ≤ t)) || match c.tail with
    | some p => decide (t < p.2)
    | none => false

/-- The POL by which a clock output drives its ball (R244, R248): that of the pulse with which it is gated off, until it ends.
Entry 34, DEDUCED. -/
def Cko.polAt (c : Cko) (t : Int) : Nat :=
  match c.tail with
  | none => c.cfg.pol
  | some p => if t < p.2 then c.tailPol else c.cfg.pol

/-- The levels of clock output `k` (R244, R248): gated, it holds P low; N is driven in a differential format. -/
def State.clockBall (s : State) (k : Nat) : PairLevel :=
  let c := s.cko k
  let t := s.now * 1980
  if s.ballsOff ∧ c.cfg.enable = 0 then PairLevel.off
  else
    let p := c.toggles s.pll.cfg.dt t && pLevel (c.polAt t) (c.highAt s.pll.cfg.dt t)
    { p := p, n := if ckoFormat c.cfg = 3 then none else some !p }

/-! ## The motor and the safety lines -/

/-- The high time of MSPD in a period of frequency `f` with duty `d`, in ns (R277). -/
def pwmHigh (f d : Nat) : Nat := (roundDiv (1000000000 * d : Nat) (65536 * f : Nat)).toNat

/-- The level of MSPD at the true time `t` (R277): high at the start of each period. -/
def Motor.mspd (m : Motor) (t : Nat) : Bool :=
  let p := m.pwm t
  decide ((t - p.2) * p.1 % 1000000000 < pwmHigh p.1 (m.dIn t) * p.1)

/-- MSPD, none at high impedance (R282, R401). -/
def State.mspdBall (s : State) : Option Bool := if s.ballsOff then none else some (s.motor.mspd s.clock)

/-- MDIR: 0 forward, 1 reverse (R278). -/
def State.mdirBall (s : State) : Option Bool := if s.ballsOff then none else some (decide (s.motor.mdir = 1))

/-- STOA and STOB (R281, R401): with torque permitted STOA toggles with a period of 100 µs and STOB is its complement,
otherwise both are low. The phase is the model's. Entry 36, DESIGN CHOICE. -/
def State.stoBalls (s : State) : Bool × Bool :=
  let a := decide (s.clock % 100000 < 50000)
  if s.sv.sto && !s.ballsOff then (a, !a) else (false, false)

/-- SSTA and SSTB (R302, R401). -/
def State.sstBalls (s : State) : Bool × Bool := (s.sv.ssta && !s.ballsOff, s.sv.sstb && !s.ballsOff)

/-- SYNCO (R130, R401): the last pulse stands. Entry 25, DEDUCED. -/
def State.syncoBall (s : State) : Bool :=
  !s.ballsOff && match s.tb.sync.ball with
    | some (r, f) => decide (r ≤ s.now ∧ s.now < f)
    | none => false

end Sys2Proof.Machine
end

