-- ==== Sys2Proof/Tests/Slice0.lean ====
section
/-! SUPPORT. Small states, smoke tests of well-formedness, the manual's worked examples, single steps, and for every
statement with hypotheses a state and operands that meet them, clause by clause. -/

namespace Sys2Proof.Tests

open Sys2Proof Sys2Proof.Machine

/-! ## Small states -/

/-- Ready-idle at 1,000 s: every bit of READY set, PLL locked, supervisor in NORMAL with its permit, PCIe up. -/
def idle : State := { State.reset with
  dev := { State.reset.dev with run := .readyIdle, rstLow := false, fwRunning := true, coldDone := true, derived := true,
                                ready := 0x7FFFFFF, results := [(.outputLoopback, true)] }
  pll := { State.reset.pll with run := .locked, locked := true }
  sv := { State.reset.sv with run := .normal, permit := true, dark := false, keysRestored := true }
  tb := { State.reset.tb with sec := 1000, source := .free }
  regs := { State.reset.regs with pcie := { State.reset.regs.pcie with
    perst := true, linkUp := true, busMaster := true, config := { PcieConfig.reset with msixEnable := true } } }
  fw := { State.reset.fw with running := some 0 }
  clock := 2000000000 }

/-- A sequencer that runs in the time domain on row 0. -/
def playing : SeqState := { SeqState.reset with
  cfg := { SeqCfg.reset with domain := 1, rows := 1, streamBase := 100, streamLen := 8 }
  run := .running
  j := 1
  k := 1
  accum := { Accum.reset with x0 := 1000 * tqPerSec, freq := 2 ^ 36 } }

/-- Ranging with sequencer 0 running. -/
def ranging : State := ({ idle with dev := { idle.dev with run := .ranging } } : State).setSeq 0 playing

/-- A list entry of period 4,096 tq, amplitude 512 and row 0, with the given byte 27. -/
def listEntry (b : Byte) : List Byte :=
  zeroBytes 4 ++ [16, 0, 0, 0] ++ zeroBytes 4 ++ [0, 2, 0, 0] ++ [1, 0, 0, 0] ++ zeroBytes 4 ++ [0, 0, 0, b] ++ zeroBytes 4

/-- Four entries that end with HALT, committed at entry 0; sequencer 0 set up to play them in the time domain. -/
def loaded : State := ({ idle with
  sq := { idle.sq with
    mem := Memory.write [] 0 (listEntry 0 ++ listEntry 0 ++ listEntry 0 ++ listEntry 0x58), committed := [(0, 4)] } } :
  State).setSeq 0 { SeqState.reset with cfg := { SeqCfg.reset with domain := 1, rows := 1 } }

/-- Ranging at a granule boundary of sequencer 0, which plays the program of `loaded`. -/
def stepping (f : SeqState → SeqState) : State :=
  { ranging with sq := { loaded.sq with seqs := [(0, f { playing with j := 0 })] } }

/-- A match of pulse 0 that waits. -/
def waitingMatch : Match := { multi := false, ids := [0], stamps := [(0, 4096)], full := true, tau := none, state := .pending }

/-- A bank with four accumulations in bins 3,201 to 3,203 (chapter 10). -/
def echoBank : Bank := { Bank.reset with
  blocks := [(50, { stale := false, sum := 4, sumP := true, bins := [(1, Bin.of 1), (2, Bin.of 2), (3, Bin.of 1)] })] }

/-- Ready-idle with task input `i` subscribed to channel 255, on which events wait. -/
def woken (i : Nat) (s : State) : State :=
  (({ s with fab := { s.fab with subs := [(i, { sub0 := { channel := 254, enable := true }, sub1 := { channel := 255, enable := true } })] } } :
    State).setEvch 255 { EvChannel.reset with holding := some { time := 7, gen := 0 } }).setEvch 254
      { EvChannel.reset with holding := some { time := 8, gen := 7 } }

/-- An entry of an OUT_SCHEDULE command with trigger time `t`. -/
def entry (t : Tq) : Entry := { src := .command, tTrig := t, gen := 0, burst := .own, shot := none, came := 0 }

/-- A burst of one pulse of 512 tq at `t`. -/
def burst (t : Tq) : Burst :=
  { rises := [t], w := 512, gen := 0, shot := none, emitter := false, row := 0, pol := 0, cls := 4,
    lateExec := 0, lateMax := 0, skewCal := 0, shifted := 0, fired := false, suppressed := [], darkCuts := [], darkHit := false,
    counted := [], cutAt := none }

/-- A request of a test pulse on lane 0. -/
def testReq : TestReq :=
  { testId := 65535, output := 127, lane := 7, channel := 63, width := 512, mode := 0, earliest := FullTime.ofTq (1000 * tqPerSec),
    deadline := 1024000000 }

/-- A queued test pulse. -/
def testJob : TestJob :=
  { req := testReq, earliest := 1000 * tqPerSec, deadline := 1000 * tqPerSec + 100000, placed := none, retries := 0,
    notBefore := 1000 * tqPerSec, unit := none }

/-- An armed gate with queue 0 that opens at `t` for 4,096 tq. -/
def gateAt (t : Tq) : Gate :=
  { id := 0, queue := some 0, seq := 0, shot := none, slot := 0, tOpen := t, tClose := t + 4096, life := .armed, words := [],
    drops := 0, calDecided := false, calReused := false, suspect := false, cal := false, selftest := false,
    epochChanged := false, cut := false, inService := true, bank := none, profile := 0, binK := 0,
    skewCal := 0, offsets := [0], found := [], table := 0, tapStream := none, matching := MatchProfile.reset }

/-- An enabled channel of ranging class on row 0. -/
def chanOn : Channel := { Channel.reset 0 with cfg := { HitCfg.reset with enable := 1 }, row := 0 }

/-- Channel `c` with one open gate, 1,000 s. -/
def gated (c : Nat) : State :=
  ranging.setChan c { chanOn with gates := [{ gateAt (1000 * tqPerSec) with life := .opened }] }

/-- A stamp in the path, formed from an edge at `t`. -/
def stampAt (t : Tq) : PathStamp :=
  { id := 0, t := t, gated := [], tEdge := t, conv := 0, suspect := false, falling := false, epoch := 0, cfg := chanOn.cfg, backed := false, moved := 0 }

/-- A match window of pulse 0 of row `r`, around `t`. -/
def winAt (r : Nat) (t : Tq) : MatchWin := { row := r, shot := none, k := 0, rise := t - 4096, lo := t, hi := t + 8192, w := 512 }

/-- A shot of one pulse at `t` on row `r`. -/
def shotAt (r : Nat) (t : Tq) : Shot :=
  { seq := 0, row := r, slot := 0, offsets := [0], w := 512, rises := [t], took := 1, darkAll := 0, formed := true,
    stamps := [], staDev := none, ref := none, darkened := false }

/-- A word of a gate's queue at `t`. -/
def wordAt (id : Nat) (t : Tq) : Machine.Word := { id := id, multi := false, t := t, bits := 0 }

/-- The header values of a step of sequencer 0 on stream 0, every slot issued. -/
def bankStep : BankStep :=
  { seq := 0, stream := 0, epoch := 0, facet := 0, time := 1000 * tqPerSec, twilight := false, credit := 1, allIssued := true,
    cut := false }

/-- A filling bank of channel `c`. -/
def fillingBank : Bank := { Bank.reset with state := .filling, step := some bankStep }

/-- A drained gate of bank `b` without words. -/
def drainedGate (b : Nat) : Gate := { gateAt (900 * tqPerSec) with life := .drained, bank := some b }

/-- A point job of channel 0 on stream 0. -/
def job : Job :=
  { stream := 0, number := 1, channel := 0, bank := 0, desc := Descriptor.zero, step := bankStep, kernel := KernelCfg.reset,
    maxEchoes := 1, tofOffset := 0, walk := 0, faultedOn := [], waitFrom := none }

/-- Engine `e` busy with a job. -/
def working (e : Nat) (j : Job) : State :=
  ({ ranging with eng := { ranging.eng with streams := [(0, { Stream.reset with nextIssue := 2, reserved := 1 })] } } :
    State).setEngine e { Engine.reset with run := .busy, job := some j }

/-- A skip result of one record. -/
def skipResult : Result :=
  { number := 1, kind := .skip, recs := [{ w0 := 0, w1 := 0, w2 := 0, w3 := 0 }], seq := 0, epoch := 0, facet := 0xFF, step := 0,
    time := 0 }

/-- A batch of one skip result. -/
def batch : Batch :=
  { results := [skipResult], timedOut := false, reconciled := false, firstAfterStart := false, openedAt := 0, slot := 0 }

/-- Stream 63 with a ring of 64 slots and the given change. -/
def ringed (f : Stream → Stream) : State :=
  idle.setStream 63 (f { Stream.reset with ring := { Ring.reset with
    cfg := { RingCfg.reset with enable := 1, base := 4096, ringLen := 64, piAddr := 0 } } })

/-- Ready-idle with both references valid at 25 MHz. -/
def refsOk : State := { idle with pll := { idle.pll with
  refA := { hz := some 25000000, gap := false, valid := true, validSince := 0 }
  refB := { hz := some 25000000, gap := false, valid := true, validSince := 0 } } }

/-- Ranging with both references valid and FORCE 1. -/
def forcing : State := { ranging with pll := { refsOk.pll with cfg := { refsOk.pll.cfg with force := 1 } } }

/-- An alarm at `t` with period `p`. -/
def alarmAt (t : Tq) (p : Nat) : Alarm :=
  { Alarm.reset with cfg := { time := FullTime.ofTq t, period := p, enable := 1, epochHold := 0 }, armed := true }

/-- A valid estimator: an edge of 2^20 units each 102,400 tq, the newest 204,800 tq ago, 625,000 / 256 revolutions per second. -/
def turningEst : Estimator :=
  { Estimator.reset with
    cfg := { Estimator.reset.cfg with window := 4 }
    valid := true
    indexSeen := true
    edges := (List.range 5).map fun i =>
      { t := 1000 * tqPerSec - 204800 - 102400 * (i : Int), count := 16 - (i : Int), u := 16777216 - 1048576 * (i : Int) } }

/-- The safety configuration with both encoders enabled. -/
def encodersOn : SafetyCfg :=
  { SafetyCfg.reset with encoders := [(0, { EncCfg.reset with enable := 1 }), (1, { EncCfg.reset with enable := 1 })] }

/-- Ready-idle with both encoders enabled and estimator `e` valid. -/
def turning (e : Nat) : State := ({ idle with sv := { idle.sv with active := encodersOn } } : State).setEstimator e turningEst

/-- As `turning`, with the motor as `f` makes it. -/
def driven (f : Motor → Motor) : State :=
  { turning 0 with motor := f { idle.motor with cfg := { idle.motor.cfg with speedFull := 1048575 }, target := 625000 } }

/-- Port `n` up as `f` makes it, NORMAL bridge. -/
def ported (n : Nat) (f : Port → Port) : State :=
  ({ idle with net := { idle.net with bridgePassed := true } } : State).setPort n
    (f { Port.reset with blockLock := true, testPassed := true })

/-- A data frame of 64 bytes. -/
def netFrame : NetFrame :=
  { src := 5, dst := Config.mac.toNat + 1, length := 64, tag := none, kind := .data, correction := 0, tIn := 0, outPhase := 0 }

/-- The supervisor in LOCKOUT, without permit. -/
def lockout : State := { idle with sv := { idle.sv with run := .lockout, permit := false, dark := true } }

/-- The state `s` with the supervisor as `f` makes it. -/
def svAs (s : State) (f : Supervisor → Supervisor) : State := { s with sv := f s.sv }

/-- Ready-idle with a BIST under way. -/
def bisting : State := { idle with dev := { idle.dev with bist := true, bistReady := idle.dev.ready } }

/-- As `idle`, with the start-up state as `f` makes it. -/
def devAs (f : Startup → Startup) : State := { idle with dev := f idle.dev }

/-- A frame without payload. -/
def frameOf (op token : Nat) : Frame :=
  { opcode := op, flags := 0, token := token, payloadLen := 0, payloadCrc := 0, payload := zeroBytes 48 }

/-- A command taken from mailbox `n`. -/
def takenOf (n op token : Nat) : Taken := { mailbox := n, frame := frameOf op token, payload := [], origin := none, readOk := true, takenAt := 2000000000 }

/-- As `s`, with the command `c` taken from PCIe mailbox 31. -/
def solo (c : Instr) (s : State) : State :=
  let t : Taken := match payloadOf c with
    | some (op, bs) => { takenOf 31 op 1 with payload := bs }
    | none => takenOf 31 0 1
  { s with mbx := { s.mbx with executing := some (t, none) } }

/-- As `s`, with both submissions of the safety configuration command `c` taken. -/
def paired (c : Instr) (s : State) : State :=
  let f (n token : Nat) : Taken := match payloadOf c with
    | some (op, bs) => { takenOf n op token with payload := bs }
    | none => takenOf n 0 token
  { s with mbx := { s.mbx with executing := some (f 31 2, some (f 30 1)) } }

/-- Ready-idle with a command in slot 0 of PCIe mailbox 31. -/
def submitted (op token : Nat) : State :=
  idle.setBox 31 { Mailbox.reset with cmdPi := 1, slots := [(0, some (frameOf op token))] }

/-- Host memory that answers a DMA read with no bytes. -/
def dmaRead : DmaOutcome := { payload := some [], readBack := true }

/-- Ready-idle with PCIE_PERST_N low. -/
def perstLow : State := { idle with regs := { idle.regs with pcie := { idle.regs.pcie with perst := false } } }

/-- A datagram that came by port 2. -/
def via : Via := { port := 2, mac := 9, tag := none }

/-- Ready-idle with the device's address 10.0.0.1 and port `n` up. -/
def addressed : State := { idle with net := { idle.net with net := { idle.net.net with ipAddr := 0x0100000A } } }

/-- An open update of slot B. -/
def updating (u : Update) : State := { idle with fw := { idle.fw with update := some u } }

/-! ## Ill-formed commands, one for each check -/

/-- A field that does not fit its type. -/
theorem test_wf_refuses_wide_field : (Instr.outFormat 0 256 0).wf = false ∧ (Instr.outFormat 0 255 0).wf = true := by decide

/-- Data of another length than the command counts. -/
theorem test_wf_refuses_wrong_length :
    (Instr.progWrite 0 1 0 (some [1])).wf = false ∧ (Instr.calSetWrite 1 0 0 4 0 (some [1])).wf = false ∧
      (Instr.paceWindow [some 1, some 2, some 3]).wf = false ∧ (Instr.temperatureUpdate []).wf = false ∧
      (Instr.svSampleTick { sinA := [], sinB := [], srstA := false, srstB := false }).wf = false := by decide

/-- A register value of more than 32 bits, a frame whose field is too wide, a MAC address of more than 48 bits. -/
theorem test_wf_refuses_wide_values :
    (Instr.intMaskWrite (2 ^ 32)).wf = false ∧ (Instr.cmdPi 0 1 [{ frameOf 0 0 with opcode := 65536 }]).wf = false ∧
      (Instr.uartPacket (frameOf 1 1) [] (2 ^ 32)).wf = false ∧
      (Instr.embDatagram 20000 via (2 ^ 32) 0 (frameOf 1 1) []).wf = false ∧
      (Instr.bridgeFrameReceived 0 { netFrame with dst := 2 ^ 48 }).wf = false := by decide

/-- A unit that the device does not have. -/
theorem test_wf_refuses_missing_unit :
    (Instr.slotIssue 8).wf = false ∧ (Instr.ringBatchWrite 64).wf = false ∧ (Instr.cmdPi 32 0 []).wf = false ∧
      (Instr.edgeGeneratorTake 136).wf = false ∧ (Instr.alarmInstance 16).wf = false ∧
      (Instr.hitEdge 512 false 0 0 0).wf = false ∧ (Instr.engineJobStart 96).wf = false ∧
      (Instr.angleMarkCrossing 8).wf = false ∧ (Instr.discrepancyFault 4).wf = false ∧ (Instr.refEdgeGap 2).wf = false ∧
      (Instr.announceTimeout 3).wf = false ∧ (Instr.stampDelivery 585).wf = false := by decide

/-! ## Worked examples of the manual -/

/-- The carry of NS into SEC (R27). -/
theorem test_tick_carries_seconds :
    (({ idle with tb := { idle.tb with ns := 999999999 } } : State).tick).tb.sec = 1001 ∧
      (({ idle with tb := { idle.tb with ns := 999999999 } } : State).tick).tb.ns = 0 := by decide

/-- The emitter example of chapter 03: pulse 0 rises 2,355 tq before 1000:000,500,000. -/
theorem test_skewed_edge : FullTime.ofTq (1000 * tqPerSec + 500000 * 1024 - 2355) = { sec := 1000, ns := 499997, fns := 45888 } := by
  decide

/-- R49 at its bound. -/
theorem test_burst_rule : burstValid [0, 17408, 47104] 3072 = true ∧ burstValid [0, 3583] 3072 = false := by decide

/-- The code of device 37 at slot 1,000 on row 0 (chapter 04). -/
theorem test_code_draw :
    codeOffsets 37 0 1000 { n := 3, mode := 0, spacing1 := 8, spacing2 := 8, spacing3 := 8 } = [0, 25600, 58368] := by
  decide +kernel

/-- Slots 0, 1 and 2 of the time-domain example, and slot 1 of the pod at PHASE 3 × 2^30 (chapters 06 and 08). -/
theorem test_slot_positions :
    ([0, 1, 2].map ({ Accum.reset with freq := 197912093 } : Accum).position) = [0, 1422223, 2844445] ∧
      ({ Accum.reset with freq := 197912093, phase := 3 * 2 ^ 30 } : Accum).position 1 = 355556 := by decide

/-- Slot 100 of the angle-domain example (chapter 06). -/
theorem test_angle_position : ({ Accum.reset with freq := 7549747200 } : Accum).position 100 = 3728271 := by decide

/-- The converter example of chapter 07: G 4, O -8, INL(17) 1.5 tq, phase 2. -/
theorem test_converter_stamp :
    ({ Converter.reset with
        m1 := 258
        m2 := 514
        tables := { inl := List.replicate 17 0 ++ [24], ph := [] } } : Converter).stamp
      (1000 * tqPerSec + 500200 * 1024) 2 17 0 = 1000 * tqPerSec + 500200 * 1024 + 196 := by decide

/-- The stamp of the same example as a raw stamp. -/
def rawExample : RawStamp :=
  { t := 1000 * tqPerSec + 500200 * 1024 + 196, source := 40, falling := false, holdover := false, droppedBefore := false,
    epoch := 0 }

/-- The raw record of the same stamp begins with FNS_HI 0x31, SOURCE 40 and NS 500,200. -/
theorem test_raw_record :
    (rawExample.rec_).w0 = 0x310A0000 ∧ (rawExample.rec_).w1 = 500200 := by decide

/-- The matcher example of chapter 09: the FULL match, and its time of flight. -/
theorem test_full_match :
    (bestHypothesis [0, 17408, 47104] 64 (wordAt 0 209544) ([215000, 226900, 227000, 256652, 262000].map (wordAt 1))).map
      (fun p => (p.1, p.2.t)) = [(0, 209544), (1, 227000), (2, 256652)] ∧
    flightTime [0, 17408, 47104] [(0, 209544), (1, 227000), (2, 256652)] 4600 = 204961 := by decide

/-- The stamp 180,004 of the same example reaches count 2 only. -/
theorem test_false_match :
    ((bestHypothesis [0, 17408, 47104] 64 (wordAt 0 180004)
      ([209544, 215000, 226900, 227000, 256652].map (wordAt 1))).map (·.1)) = [0, 2] := by decide

/-- The echo of the kernel example (chapter 10). -/
theorem test_echo_fields :
    echoOf { job with tofOffset := 19, desc := { Descriptor.zero with binK := 1, gatesUsed := 16 } } 1 254
      [(3201, 1), (3202, 2), (3203, 1)] =
    { tof := 204941, width := 192, intensity := 1024, quality := 15, total := 4, sat := false, precip := false } := by
  decide +kernel

/-- The record of the same example, byte by byte. -/
theorem test_point_record :
    (pointRec { job with channel := 3, desc := { Descriptor.zero with step := 1234, stampsIn := 100, gateTimeTq := 1024000 } } 0 0 true 204941 15 192
      1024).bytes =
    [0x19, 0x20, 0x4D, 0x00, 0x4F, 0x23, 0xC8, 0x00, 0x00, 0x04, 0xC0, 0x00, 0x10, 0x27, 0x00, 0x00] := by decide

/-- The LOST_RANGE record of the example of chapter 21. -/
theorem test_lost_range_record :
    lostRangeRec 999996416 3585 1 = { w0 := 0x00E01FFB, w1 := 0x3B9ABC00, w2 := 0, w3 := 0xB0000001 } := by decide

/-- The ratios of the PLL example (chapter 12): 400, 1,000, and 1,200 with DT 12 on 10 MHz. -/
theorem test_pll_ratios :
    nNom 10 25000000 1 = 400 * 2 ^ 48 ∧ nNom 10 10000000 1 = 1000 * 2 ^ 48 ∧ nNom 12 10000000 1 = 1200 * 2 ^ 48 := by decide

/-- The speed thresholds of the example of chapter 15. -/
theorem test_speed_thresholds : nBelow 32768 1280 = 169 ∧ nAbove 32768 1792 = 223 := by decide

/-- HEV0 of the example of chapter 22: registers 0x0200 to 0x020C. -/
theorem test_hev_registers :
    [0x200, 0x204, 0x208, 0x20C].map (idle.setHev 0 { Hev.reset with
        valid := true
        gen := 1
        channel := 2
        time := 1000 * tqPerSec + 750021 * 1024 }).readDirect = [0x90000002, 0x000B71C5, 0x3E8, 0] := by decide +kernel

/-- What the direct registers read right after reset (R419, R420, R425). -/
theorem test_registers_at_reset :
    [0x40, 0x48, 0x4C, 0x60, 0x64, 0x184, 0x1C0].map State.reset.readDirect = [0, 1, 8, 0, 0, 0x7FFF7FFF, 0] := by decide +kernel

/-- The interpolation example of chapter 16. -/
theorem test_interpolation :
    interpolate 6 475 [{ temp := 250, vals := [(6, 12)] }, { temp := 850, vals := [(6, 18)] }] = 14 ∧
      interpolate 1024 475 [{ temp := 250, vals := [(1024, 4)] }, { temp := 850, vals := [(1024, 6)] }] = 5 := by decide

/-! ## Single steps -/

/-- A step takes the front of the queue. -/
theorem test_step_runs_front :
    (step (idle.withQueue [.intMaskWrite 0x1F, .secCarry])) = exec (.intMaskWrite 0x1F) (idle.withQueue [.secCarry]) := rfl

/-- A row that names a unit the device does not have changes nothing. -/
theorem test_missing_unit : exec (.slotIssue 8) idle = .next idle := by rfl

/-- A write of INT_MASK is read back, without the reserved bits. -/
theorem test_int_mask : (match exec (.intMaskWrite 0xFFFFFFFF) idle with
    | .next t => decide (t.regs.intMask = 0x1FE)
    | _ => false) = true := by decide +kernel

/-- A setting out of its range is BAD_ARG and leaves the output as it was. -/
theorem test_bad_arg : (match exec (.outFormat 0 4 0) idle with
    | .next t => decide (t.reply.map (·.status) = some .badArg ∧ t.out 0 = idle.out 0)
    | _ => false) = true := by decide +kernel

/-- A safe stop outside Ranging leads to LOCKOUT, without permit (R295). -/
theorem test_safe_stop : (match exec .svSafeStop idle with
    | .next t => decide (t.sv.run = .lockout ∧ t.sv.permit = false ∧ t.sv.dark = true)
    | _ => false) = true := by decide +kernel

/-! ## Witnesses: states and operands that meet the hypotheses of each clause -/

theorem witness_StepRunsFrontCommand : ∃ (s : State) (c : Instr) (rest : List Instr), s.pending = c :: rest :=
  ⟨idle.withQueue [.secCarry], .secCarry, [], rfl⟩

theorem witness_EveryCommandAnswers :
    ∃ c : Instr, c.unitOk = false := ⟨.slotIssue 8, by decide⟩

theorem witness_EveryStepKeepsTime : ∃ s s' : State, s.timeInv ∧ step s = .next s' :=
  ⟨ranging, ranging.tick, by unfold State.timeInv; decide, rfl⟩

theorem witness_EveryStepKeepsProgramMemory : ∃ s s' : State, s.memInv ∧ step s = .next s' :=
  ⟨loaded, loaded.tick, by unfold State.memInv; decide +kernel, rfl⟩

theorem witness_EveryStepKeepsSafety : ∃ s s' : State, s.safetyInv ∧ step s = .next s' :=
  ⟨ranging, ranging.tick, by unfold State.safetyInv; decide, rfl⟩

theorem witness_EveryStepKeepsBounds : ∃ s s' : State, s.boundsInv ∧ step s = .next s' :=
  ⟨ranging, ranging.tick, ⟨fun _ => Nat.zero_le _, by decide, by decide, by decide⟩, rfl⟩

theorem witness_PayloadLayouts :
    (∃ fs : List Fld, ∀ f ∈ fs, Val.fits f.1 f.2 = true) ∧
    (∃ (c : Instr) (op : Nat) (bs : List Byte), payloadOf c = some (op, bs) ∧ payloadFits c = true ∧
      ∀ (o w : Nat) (time : FullTime) (l : List Nat), c = .outSchedule o 0 w time l → w = 0) :=
  ⟨⟨[fU8 255, fU32 7], by decide⟩, .outFormat 3 1 2, 0x0302, [3, 0, 1, 2], by decide, by decide, by simp⟩

theorem witness_TimePasses :
    (∃ (s : State), s.pending = [] ∧ s.tb.ns ≤ 999999999 ∧ s.tb.sec.toNat < 2 ^ 64 - 1 ∧ s.tb.pendingSecHi = none ∧ (∀ k, k ≤ 2 → (s.port k).queue = []) ∧ s.pll.resetting = none ∧ s.dev.rstLow = false) ∧
    (∃ (s : State), s.pending = [] ∧ (∀ k, k ≤ 2 → (s.port k).queue = []) ∧ s.pll.resetting = none ∧ s.dev.rstLow = true) ∧
    (∃ (s : State), s.atSecCarry = true ∧ s.tb.pendingSecHi = none) ∧
    (∃ (s : State), s.atSecCarry = false) ∧
    (∃ (s : State) (v : BitVec 16), s.atSecCarry = true ∧ s.tb.pendingSecHi = some v ∧ ((s.tb.sec + 1).toNat / 2 ^ 48 ≤ v.toNat ∨ s.count.stepAllowed (-1) = true)) ∧
    (∃ (s : State) (v : BitVec 16), s.atSecCarry = true ∧ s.tb.pendingSecHi = some v ∧ v.toNat < (s.tb.sec + 1).toNat / 2 ^ 48 ∧ s.count.stepAllowed (-1) = false) :=
  ⟨⟨idle, by decide⟩,
   ⟨{ idle with dev := { idle.dev with rstLow := true } }, by decide⟩,
   ⟨{ idle with tb := { idle.tb with sec := 0xFFFFFFFFFFFF, ns := 999999999 } }, by decide⟩,
   ⟨{ idle with tb := { idle.tb with sec := 0xFFFFFFFFFFFF, ns := 999999998 } }, by decide⟩,
   ⟨{ idle with tb := { idle.tb with sec := 0xFFFFFFFFFFFF, ns := 999999999, pendingSecHi := some 2 } }, 2, by decide⟩,
   ⟨({ ranging with tb := { idle.tb with sec := 0x1FFFFFFFFFFFF, ns := 999999999, pendingSecHi := some 1 } } : State), 1, by decide⟩⟩

theorem witness_OutputSettings :
    (∃ (s : State) (o : Nat) (c : OutCfg), s.admits (.outConfig o c) = true ∧ s.outConfigBad o c = false ∧ (s.dev.classLocked = true → c.cls = (s.out o).cfg.cls) ∧ (c.enable = 1 → (s.out o).fmtBy = none)) ∧
    (∃ (s : State) (o : Nat) (f : Nat) (w : Nat), s.admits (.outFormat o f w) = true ∧ o ≤ 135 ∧ f ≤ 3 ∧ w ≤ 7 ∧ (128 ≤ o → f = 3) ∧ (f = 3 → o < 128 → 2048 ≤ (s.out o).cfg.width) ∧ (f = 3 → o < 128 → (s.out o).cfg.cls = 0 → ∀ q ∈ s.sq.seqs, q.2.running = true → q.2.cfg.rows.getLsbD (s.out o).cfg.row = true → s.lowAmp q.2 = false) ∧ (s.out o).cfg.enable ≠ 1) ∧
    (∃ (s : State) (k : Nat) (c : StaCfg), s.admits (.staConfig k c) = true ∧ k ≤ 63 ∧ (c.row ≤ 63 ∨ c.row = 0x7F) ∧ c.latMin ≤ 1024000 ∧ c.latMin + 512 ≤ c.latMax ∧ c.latMax ≤ c.latMin + 8192 ∧ c.widthTol ≤ 65535 ∧ 1 ≤ c.missLimit ∧ c.missLimit ≤ 255 ∧ (c.row ≠ 0x7F → (∀ p ∈ s.tx.stas, p.1 ≠ k → p.2.row ≠ c.row) ∧ (s.emittersOf c.row).length = 1 ∧ s.rowInUse c.row = false) ∧ ((s.staCfg k).row = 0x7F ∨ s.rowInUse (s.staCfg k).row = false)) ∧
    (∃ (s : State) (p : Nat) (c : CodeProfile), s.admits (.codeProfileSet p c) = true ∧ p ≤ 15 ∧ 1 ≤ c.n ∧ c.n ≤ 4 ∧ c.mode ≤ 1 ∧ within 8 40 c.spacing1 = true ∧ within 8 40 c.spacing2 = true ∧ within 8 40 c.spacing3 = true ∧ s.ranging = false) :=
  ⟨⟨idle.setOut 135 { OutState.reset 135 with sched := [] }, 135, { OutCfg.reset with enable := 1, cls := 3, width := 2048 }, by decide⟩,
   ⟨idle, 127, 2, 7, by decide⟩,
   ⟨idle.setOut 3 { OutState.reset 3 with cfg := { OutCfg.reset with enable := 1, cls := 0, row := 63 } }, 63, { row := 63, latMin := 1024000, latMax := 1032192, widthTol := 65535, missLimit := 255 }, by decide⟩,
   ⟨idle, 15, { n := 4, mode := 1, spacing1 := 8, spacing2 := 40, spacing3 := 8 }, by decide⟩⟩

theorem witness_OutputCommands :
    (∃ (s : State) (o : Nat) (n : Nat) (w : Nat) (time : FullTime) (offs : List Nat), s.admitsWait (.outSchedule o n w time offs) = true ∧ s.scheduleBad o n w time offs = false ∧ s.dev.run ≠ .nadir ∧ s.dev.warm = false ∧ s.ballsOff = false ∧ (s.stopsWithPll o && s.firingStopped) = false ∧ (s.out o).sched.length < 4) ∧
    (∃ (s : State) (first : Nat) (count : Nat), s.admits (.outCountersClear first count) = true ∧ 1 ≤ count ∧ first + count ≤ 136) ∧
    (∃ (s : State) (o : Nat), (s.out o).cfg.cls ≠ 0) ∧
    (∃ (s : State) (o : Nat), (s.out o).cfg.cls = 0) :=
  ⟨⟨idle, 0, 1, 512, FullTime.ofTq (1001 * tqPerSec), [], by decide⟩,
   ⟨idle.setOut 135 { OutState.reset 135 with late := 3 }, 135, 1, by decide⟩,
   ⟨idle.setOut 7 { OutState.reset 7 with overrun := 3 }, 7, by decide⟩,
   ⟨idle.setOut 7 { OutState.reset 7 with cfg := { OutCfg.reset with cls := 0, row := 5 }, overrun := 3 }, 7, by decide⟩⟩

theorem witness_ScheduleInputDepth :
    (∃ (s : State) (o : Nat) (_e : Entry), s.dev.run ≠ .nadir ∧ s.dev.warm = false ∧ s.ballsOff = false ∧ (s.stopsWithPll o && s.firingStopped) = false) ∧
    (∃ (s : State) (o : Nat) (_e : Entry), s.dev.run ≠ .nadir ∧ s.dev.warm = false ∧ s.ballsOff = false ∧ (s.stopsWithPll o && s.firingStopped) = false) :=
  ⟨⟨idle.setOut 7 { OutState.reset 7 with sched := [entry 0, entry 1, entry 2, entry 3] }, 7, entry 4, by decide⟩,
   ⟨idle.setOut 7 { OutState.reset 7 with sched := [entry 0, entry 1, entry 2] }, 7, entry 4, by decide⟩⟩

theorem witness_EdgeGenerator :
    (∃ (s : State) (o : Nat) (e : Entry) (rest : List Entry), o ≤ 135 ∧ s.dev.warm = false ∧ (s.out o).sched = e :: rest ∧ (s.out o).next = none ∧ (s.out o).active = none ∧ (s.out o).cfg.enable = 1 ∧ s.now + 8192 ≤ e.tTrig + edgeShift (s.out o).cfg) ∧
    (∃ (s : State) (o : Nat) (e : Entry) (rest : List Entry), o ≤ 135 ∧ s.dev.warm = false ∧ (s.out o).sched = e :: rest ∧ (s.out o).next = none ∧ (s.out o).cfg.enable = 1 ∧ e.tTrig + edgeShift (s.out o).cfg < s.now + 8192 ∧ ((s.out o).cfg.cls < 2 ∨ (s.out o).cfg.lateExec ≠ 1)) ∧
    (∃ (s : State) (o : Nat) (b : Burst), o ≤ 135 ∧ (s.out o).active = some b ∧ b.fired = false ∧ s.reached (b.rises.headD 0) = true) ∧
    (∃ (s : State) (o : Nat) (b : Burst), o ≤ 135 ∧ (s.out o).active = some b ∧ b.fired = true ∧ b.emitter = false ∧ b.darkHit = false ∧ (b.cutAt.isSome || s.reached b.stop) = true) ∧
    (∃ (s : State) (o : Nat) (b : Burst), o ≤ 135 ∧ (s.out o).active = some b ∧ b.fired = true ∧ b.emitter = true ∧ (b.cutAt.isSome || s.reached b.stop) = true) ∧
    (∃ (_s : State) (o : Nat), o ≤ 135) :=
  ⟨⟨idle.setOut 135 { OutState.reset 135 with cfg := { OutCfg.reset with enable := 1 }, sched := [entry (1000 * tqPerSec + 8192)] }, 135, entry (1000 * tqPerSec + 8192), [], by decide⟩,
   ⟨idle.setOut 5 { OutState.reset 5 with cfg := { OutCfg.reset with enable := 1 }, sched := [entry (1000 * tqPerSec + 8191)] }, 5, entry (1000 * tqPerSec + 8191), [], by decide⟩,
   ⟨idle.setOut 5 { OutState.reset 5 with active := some (burst (1000 * tqPerSec + 1023)) }, 5, burst (1000 * tqPerSec + 1023), by decide⟩,
   ⟨idle.setOut 5 { OutState.reset 5 with active := some { burst (1000 * tqPerSec - 512) with fired := true } }, 5, { burst (1000 * tqPerSec - 512) with fired := true }, by decide⟩,
   ⟨({ idle with tx := { idle.tx with shots := [(0, shotAt 0 (1000 * tqPerSec))] } } : State).setOut 5 { OutState.reset 5 with active := some { burst (1000 * tqPerSec - 512) with fired := true, emitter := true, shot := some 0 } }, 5, { burst (1000 * tqPerSec - 512) with fired := true, emitter := true, shot := some 0 }, by decide⟩,
   ⟨idle.setOut 5 { OutState.reset 5 with fmtBy := some 12 }, 5, by decide⟩⟩

theorem witness_TestPulses :
    (∃ (s : State) (o : Nat) (c : TestCfg), s.admits (.testConfig o c) = true ∧ o ≤ 127 ∧ c.testAllow ≤ 1 ∧ 2048 ≤ c.guard ∧ c.guard ≤ 20480 ∧ c.testOffset ≤ 1024000) ∧
    (∃ (s : State) (r : TestReq), s.admits (.testPulseRequest r) = true ∧ r.testId ≤ 65535 ∧ r.output ≤ 127 ∧ r.lane ≤ 7 ∧ r.channel ≤ 63 ∧ 512 ≤ r.width ∧ r.width ≤ 32768 ∧ r.mode ≤ 1 ∧ r.earliest.ok = true ∧ 1024 ≤ r.deadline ∧ r.deadline ≤ 1024000000 ∧ s.testPending r.testId = false ∧ (s.testCfg r.output).testAllow ≠ 0 ∧ (s.lane r.lane).length < 16 ∧ s.isReady readyPll = true ∧ s.isReady (readyHg r.lane) = true ∧ s.now < s.earliestOf r + r.deadline) ∧
    (∃ (s : State) (i : Nat) (r : TestRecord), s.admits (.testResultRead i) = true ∧ s.testPending i = false ∧ (s.tx.records.find? fun x => decide (x.testId = i)) = some r) ∧
    (∃ (s : State) (l : Nat) (j : TestJob) (rest : List TestJob) (w : Tq) (earliest : Tq), l ≤ 7 ∧ s.pll.locked = true ∧ s.lane l = j :: rest ∧ j.placed = none ∧ w = j.req.width ∧ ((j.req.mode = 0 ∨ 0 < j.retries) ∧ earliest = max j.notBefore s.now ∨ (j.req.mode ≠ 0 ∧ j.retries = 0 ∧ s.now ≤ earliest ∧ ∃ n slot, s.seqOfOutput j.req.output = some n ∧ (s.seq n).testSlot = some slot ∧ earliest = slot + (s.testCfg j.req.output).testOffset))) ∧
    (∃ (s : State) (l : Nat) (j : TestJob) (rest : List TestJob) (w : Tq) (earliest : Tq), l ≤ 7 ∧ s.pll.locked = true ∧ s.lane l = j :: rest ∧ j.placed = none ∧ w = j.req.width ∧ ((j.req.mode = 0 ∨ 0 < j.retries) ∧ earliest = max j.notBefore s.now ∨ (j.req.mode ≠ 0 ∧ j.retries = 0 ∧ s.now ≤ earliest ∧ ∃ n slot, s.seqOfOutput j.req.output = some n ∧ (s.seq n).testSlot = some slot ∧ earliest = slot + (s.testCfg j.req.output).testOffset))) ∧
    (∃ (s : State) (l : Nat) (j : TestJob) (rest : List TestJob) (w : Tq) (earliest : Tq), l ≤ 7 ∧ s.pll.locked = true ∧ s.lane l = j :: rest ∧ j.placed = none ∧ w = j.req.width ∧ ((j.req.mode = 0 ∨ 0 < j.retries) ∧ earliest = max j.notBefore s.now ∨ (j.req.mode ≠ 0 ∧ j.retries = 0 ∧ s.now ≤ earliest ∧ ∃ n slot, s.seqOfOutput j.req.output = some n ∧ (s.seq n).testSlot = some slot ∧ earliest = slot + (s.testCfg j.req.output).testOffset))) ∧
    (∃ (s : State) (l : Nat) (j : TestJob) (rest : List TestJob) (p : PlacedTest) (x : Tq), l ≤ 7 ∧ s.lane l = j :: rest ∧ j.placed = some p ∧ j.unit = none ∧ p.cut = false ∧ s.reached p.fall = true ∧ p.rise ≤ x ∧ x ≤ p.rise + 65536) ∧
    (∃ (s : State) (l : Nat) (j : TestJob) (rest : List TestJob) (p : PlacedTest), l ≤ 7 ∧ s.lane l = j :: rest ∧ j.placed = some p ∧ j.unit = none ∧ s.reached p.fall = true ∧ s.reached (p.rise + 65536) = true) ∧
    (∃ (s : State) (l : Nat) (j : TestJob) (rest : List TestJob), l ≤ 7 ∧ s.lane l = j :: rest ∧ j.placed = none ∧ j.unit = none ∧ s.reached j.deadline = true) :=
  ⟨⟨idle, 127, { testAllow := 1, guard := 2048, testOffset := 1024000 }, by decide⟩,
   ⟨idle, testReq, by decide⟩,
   ⟨{ idle with tx := { idle.tx with records := [{ channel := 0, lane := 0, output := 0, retries := 0, status := 0, shortGuard := false, inSlot := false, testId := 9, widthFormed := 512, rise := 5, measured := 7 }] } }, 9, { channel := 0, lane := 0, output := 0, retries := 0, status := 0, shortGuard := false, inSlot := false, testId := 9, widthFormed := 512, rise := 5, measured := 7 }, by decide⟩,
   ⟨idle.setLane 7 [testJob], 7, testJob, [], 512, 1000 * tqPerSec, by decide, by decide, by decide, by decide, by decide, .inl ⟨by decide, by decide⟩⟩,
   ⟨(idle.setOut 127 { OutState.reset 127 with active := some (burst (1000 * tqPerSec + 4000)), next := some (burst (1000 * tqPerSec + 40000)), lastFall := some (1000 * tqPerSec - 100) }).setLane 7 [{ testJob with deadline := 1000 * tqPerSec + 1000000 }], 7, { testJob with deadline := 1000 * tqPerSec + 1000000 }, [], 512, 1000 * tqPerSec, by decide, by decide, by decide, by decide, by decide, .inl ⟨by decide, by decide⟩⟩,
   ⟨((({ idle with tx := { idle.tx with outs := [(127, { OutState.reset 127 with cfg := { (OutState.reset 127).cfg with row := 0, cls := 0, enable := 1 } })] } } : State).setSeq 0 { playing with testSlot := some (1000 * tqPerSec + 30000) }).setLane 7 [{ testJob with deadline := 1000 * tqPerSec + 1000000, req := { testReq with mode := 1 } }]), 7, { testJob with deadline := 1000 * tqPerSec + 1000000, req := { testReq with mode := 1 } }, [], 512, 1000 * tqPerSec + 30000, by decide, by decide, by decide, by decide, by decide, .inr ⟨by decide, by decide, by decide, 0, 1000 * tqPerSec + 30000, by decide, by decide, by decide⟩⟩,
   ⟨idle.setLane 7 [{ testJob with placed := some { rise := 1000 * tqPerSec - 60000, fall := 1000 * tqPerSec - 59488, cut := false, shortGuard := false, guard := 20480, inSlot := false } }], 7, { testJob with placed := some { rise := 1000 * tqPerSec - 60000, fall := 1000 * tqPerSec - 59488, cut := false, shortGuard := false, guard := 20480, inSlot := false } }, [], { rise := 1000 * tqPerSec - 60000, fall := 1000 * tqPerSec - 59488, cut := false, shortGuard := false, guard := 20480, inSlot := false }, 1000 * tqPerSec + 5536, by decide⟩,
   ⟨idle.setLane 7 [{ testJob with placed := some { rise := 1000 * tqPerSec - 65536, fall := 1000 * tqPerSec - 65024, cut := false, shortGuard := false, guard := 20480, inSlot := false } }], 7, { testJob with placed := some { rise := 1000 * tqPerSec - 65536, fall := 1000 * tqPerSec - 65024, cut := false, shortGuard := false, guard := 20480, inSlot := false } }, [], { rise := 1000 * tqPerSec - 65536, fall := 1000 * tqPerSec - 65024, cut := false, shortGuard := false, guard := 20480, inSlot := false }, by decide⟩,
   ⟨idle.setLane 7 [{ testJob with deadline := 1000 * tqPerSec }], 7, { testJob with deadline := 1000 * tqPerSec }, [], by decide⟩⟩

theorem witness_SequencerSettings :
    (∃ (s : State) (n : Nat) (c : SeqCfg), s.admits (.seqConfig n c) = true ∧ s.seqConfigBad n c = false ∧ (s.seq n).running = false ∧ s.resetting 1 n = false) ∧
    (∃ (s : State) (n : Nat) (g : FullTime) (trim : Int), s.admits (.seqGridSet n g trim) = true ∧ n ≤ 7 ∧ g.ok = true ∧ g.onTq = true ∧ -65536 ≤ trim ∧ trim ≤ 65535 ∧ (s.seq n).trimTooFar trim = false ∧ (s.seq n).running = false) ∧
    (∃ (s : State) (n : Nat) (trim : Int), s.admits (.seqGridSet n (s.seq n).g0 trim) = true ∧ n ≤ 7 ∧ (s.seq n).g0.ok = true ∧ (s.seq n).g0.onTq = true ∧ -65536 ≤ trim ∧ trim ≤ 65535 ∧ (s.seq n).trimTooFar trim = false ∧ (s.seq n).running = true) ∧
    (∃ (s : State) (n : Nat), s.admits (.seqCountersClear n) = true ∧ n ≤ 7) ∧
    (∃ (s : State) (n : Nat) (k : Nat), s.admits (.seqStreamPush n k) = true ∧ n ≤ 7 ∧ 0 < (s.seq n).cfg.streamLen ∧ k ≤ (s.seq n).ringFree) ∧
    (∃ (s : State) (n : Nat), s.admits (.seqStreamPush n 0) = true ∧ n ≤ 7 ∧ (s.seq n).cfg.streamLen = 0) ∧
    (∃ (s : State) (n : Nat) (k : Nat), s.admits (.seqJump n k) = true ∧ n ≤ 7 ∧ s.sq.mem.segStart (s.seq n).cfg.progBase (s.seq n).cfg.progLen k = true ∧ (s.seq n).jump = none ∧ (s.seq n).running = true) :=
  ⟨⟨loaded, 7, { SeqCfg.reset with progLen := 4, rows := 1, resultStream := 63 }, by decide⟩,
   ⟨idle, 7, FullTime.zero, 65535, by decide⟩,
   ⟨ranging, 0, -16, by decide⟩,
   ⟨idle.setSeq 7 { SeqState.reset with pushErr := true }, 7, by decide⟩,
   ⟨ranging, 0, 7, by decide⟩,
   ⟨idle, 7, by decide⟩,
   ⟨ranging, 0, 0, by decide⟩⟩

theorem witness_ProgramMemory :
    (∃ (s : State) (first : Nat) (count : Nat) (src : Nat) (bs : List Byte), s.admits (.progWrite first count src (some bs)) = true ∧ first + count ≤ 65536 ∧ s.isProtected first count = false ∧ s.meetsWaiting first count = false ∧ s.dmaOk = true ∧ bs.length = 32 * count) ∧
    (∃ (s : State) (first : Nat) (count : Nat), s.admits (.progCommit first count) = true ∧ first + count ≤ 65536 ∧ count ≠ 0 ∧ s.offending first count = []) ∧
    (∃ (s : State) (a : Nat) (bs : List Byte), s.endpointUp = true ∧ a + bs.length ≤ 2097152 ∧ s.isProtected (a / 32) ((a + bs.length + 31) / 32 - a / 32) = false ∧ s.meetsWaiting (a / 32) ((a + bs.length + 31) / 32 - a / 32) = false) ∧
    (∃ (s : State) (first : Nat) (count : Nat) (src : Nat) (bs : List Byte), s.admits (.progWrite first count src (some bs)) = true ∧ first + count ≤ 65536 ∧ s.isProtected first count = false ∧ s.meetsWaiting first count = false ∧ s.dmaOk = true ∧ bs.length = 32 * count) ∧
    (∃ (s : State) (first : Nat) (count : Nat) (src : Nat) (bs : List Byte), s.admits (.progWrite first count src (some bs)) = true ∧ first + count ≤ 65536 ∧ s.isProtected first count = false ∧ s.meetsWaiting first count = false ∧ s.dmaOk = true ∧ bs.length = 32 * count) ∧
    (∃ (s : State) (a : Nat) (bs : List Byte), s.endpointUp = true ∧ a + bs.length ≤ 2097152 ∧ (s.isProtected (a / 32) ((a + bs.length + 31) / 32 - a / 32) || s.meetsWaiting (a / 32) ((a + bs.length + 31) / 32 - a / 32)) = true) :=
  ⟨⟨idle, 65535, 1, 0, List.replicate 32 7, by decide⟩,
   ⟨loaded, 0, 4, by decide +kernel⟩,
   ⟨idle, 2097151, [7], by decide⟩,
   ⟨idle, 65535, 1, 0, List.replicate 32 7, by decide⟩,
   ⟨idle, 65535, 0, 0, [], by decide⟩,
   ⟨ranging.setSeq 0 { playing with wr := 1 }, 3200, [1], by decide⟩⟩

theorem witness_SequencerRuns :
    (∃ (s : State) (n : Nat) (mode : Nat) (facet : Nat) (time : FullTime), s.admits (.seqStart n mode facet time) = true ∧ s.startBad n mode facet time = false ∧ s.sv.permit = true ∧ s.sv.run ≠ .dusk ∧ s.sv.run ≠ .eclipse ∧ s.dev.run ≠ .eclipse ∧ s.fsReady n = true ∧ s.startUnfed (s.seq n) = false ∧ (s.seq n).running = false ∧ (s.stream (s.seq n).cfg.resultStream).lostWaits = false ∧ s.pll.armed = false ∧ s.resetting 1 n = false ∧ (mode = 1 → s.now + startLead ≤ time.tq)) ∧
    (∃ (s : State) (n : Nat) (mode : Nat) (facet : Nat) (time : FullTime), s.runs (.seqStart n mode facet time) = true ∧ s.dev.fwRunning = true ∧ s.startBad n mode facet time = false ∧ (s.sv.permit = false ∨ s.sv.run = .dusk ∨ s.sv.run = .eclipse ∨ s.dev.run = .eclipse)) ∧
    (∃ (s : State) (n : Nat) (mode : Nat), s.admitsWait (.seqStop n mode) = true ∧ n ≤ 7 ∧ mode ≤ 2 ∧ (s.seq n).running = true) ∧
    (∃ (s : State) (n : Nat) (mode : Nat), s.admits (.seqStop n mode) = true ∧ n ≤ 7 ∧ mode ≤ 2 ∧ (s.seq n).running = false) :=
  ⟨⟨loaded, 0, 1, 0, FullTime.ofTq (1001 * tqPerSec), by decide +kernel⟩,
   ⟨{ loaded with sv := { idle.sv with permit := false } }, 0, 1, 0, FullTime.ofTq (1001 * tqPerSec), by decide +kernel⟩,
   ⟨ranging, 0, 2, by decide⟩,
   ⟨idle, 7, 0, by decide⟩⟩

theorem witness_SlotIssues :
    (∃ (s : State) (n : Nat), n ≤ 7 ∧ (s.seq n).running = true ∧ (s.seq n).cfg.domain = 1 ∧ (s.seq n).stepTo = none ∧ (s.seq n).j ≠ 0 ∧ s.reached ((s.seq n).accum.position (s.seq n).k + (s.seq n).trim - 20480) = true ∧ (∀ w ∈ s.mbx.waiting, w.1 ≠ .seqStart n) ∧ (s.seq n).granDark = true) ∧
    (∃ (s : State) (n : Nat) (f : Tq), n ≤ 7 ∧ (s.seq n).running = true ∧ (s.seq n).cfg.domain = 1 ∧ (s.seq n).stepTo = none ∧ (s.seq n).j ≠ 0 ∧ f = (s.seq n).accum.position (s.seq n).k + (s.seq n).trim ∧ s.reached (f - 20480) = true ∧ (∀ w ∈ s.mbx.waiting, w.1 ≠ .seqStart n) ∧ (s.seq n).granDark = false ∧ (∀ l, (s.seq n).lastFire = some l → l + 262144 ≤ f) ∧ (s.sv.run = .twilight → (s.seq n).j % 2 = 0) ∧ bitField (s.seq n).gran.testMask (s.seq n).j (s.seq n).j = 0 ∧ (s.seq n).step.channels.Nodup) ∧
    (∃ (s : State) (n : Nat), n ≤ 7 ∧ (s.seq n).running = true ∧ (s.seq n).cfg.domain = 0 ∧ (s.seq n).j ≠ 0 ∧ s.estValid (s.seq n).cfg.encoder = false) ∧
    (∃ (s : State) (n : Nat) (f : Tq), n ≤ 7 ∧ (s.seq n).running = true ∧ (s.seq n).cfg.domain = 0 ∧ (s.seq n).j ≠ 0 ∧ s.estValid (s.seq n).cfg.encoder = true ∧ (s.seq n).stepTo = none ∧ (s.estimator (s.seq n).cfg.encoder).resample ((s.seq n).accum.position (s.seq n).k) = some f) ∧
    (∃ (s : State) (n : Nat) (f : Tq), n ≤ 7 ∧ (s.seq n).running = true ∧ (s.seq n).cfg.domain = 1 ∧ (s.seq n).stepTo = none ∧ (s.seq n).j ≠ 0 ∧ f = (s.seq n).accum.position (s.seq n).k + (s.seq n).trim ∧ s.reached (f - 20480) = true ∧ ((s.seq n).frozen = none ∧ bitField (s.seq n).gran.testMask (s.seq n).j (s.seq n).j = 1 ∨ s.sv.run = .twilight ∧ (s.seq n).j % 2 = 1 ∨ (∃ l, (s.seq n).lastFire = some l ∧ f < l + 262144))) ∧
    (∃ (s : State) (n : Nat) (f : Tq), n ≤ 7 ∧ (s.seq n).running = true ∧ (s.seq n).cfg.domain = 1 ∧ (s.seq n).stepTo = none ∧ (s.seq n).j ≠ 0 ∧ f = (s.seq n).accum.position (s.seq n).k + (s.seq n).trim ∧ s.reached (f - 20480) = true ∧ ((s.seq n).frozen = none ∧ bitField (s.seq n).gran.testMask (s.seq n).j (s.seq n).j = 1 ∨ s.sv.run = .twilight ∧ (s.seq n).j % 2 = 1 ∨ (∃ l, (s.seq n).lastFire = some l ∧ f < l + 262144))) ∧
    (∃ (s : State) (n : Nat) (f : Tq), n ≤ 7 ∧ (s.seq n).running = true ∧ (s.seq n).cfg.domain = 1 ∧ (s.seq n).stepTo = none ∧ (s.seq n).j ≠ 0 ∧ f = (s.seq n).accum.position (s.seq n).k + (s.seq n).trim ∧ s.reached (f - 20480) = true ∧ ((s.seq n).frozen = none ∧ bitField (s.seq n).gran.testMask (s.seq n).j (s.seq n).j = 1 ∨ s.sv.run = .twilight ∧ (s.seq n).j % 2 = 1 ∨ (∃ l, (s.seq n).lastFire = some l ∧ f < l + 262144))) ∧
    (∃ (s : State) (n : Nat) (f : Tq) (e : ListEntry), s.atBoundary n f ∧ (s.seq n).halting = false ∧ s.stopIsDue n = false ∧ e = s.sq.mem.entry (s.seq n).nextEntry ∧ (s.seq n).begins e = false ∧ e.src = false) ∧
    (∃ (s : State) (n : Nat) (f : Tq) (e : ListEntry), s.atBoundary n f ∧ (s.seq n).halting = false ∧ s.stopIsDue n = false ∧ e = s.sq.mem.entry (s.seq n).nextEntry ∧ (s.seq n).begins e = false ∧ e.src = false ∧ e.segEnd = true) ∧
    (∃ (s : State) (n : Nat) (f : Tq) (e : ListEntry), s.atBoundary n f ∧ (s.seq n).halting = false ∧ s.stopIsDue n = false ∧ e = s.sq.mem.entry (s.seq n).nextEntry ∧ (s.seq n).begins e = false ∧ e.src = false ∧ e.segEnd = true) ∧
    (∃ (s : State) (n : Nat) (f : Tq) (e : ListEntry), s.atBoundary n f ∧ s.stepBegins n e ∧ (s.stepChannels n e).Nodup ∧ s.canAdmit n e) ∧
    (∃ (s : State) (n : Nat) (f : Tq) (e : ListEntry) (why : Reasons), s.atBoundary n f ∧ s.stepBegins n e ∧ why = (if s.eng.slotsUsed + (s.stepChannels n e).length * (s.stream (s.seq n).cfg.resultStream).cfg.maxEchoes ≤ 16384 then 0 else Reasons.credit) ||| (if (s.stepChannels n e).all fun c => decide ((s.bank (2 * c + (s.histChan c).nextBank)).state = .free) then 0 else Reasons.bank) ||| (if s.firingStopped || !s.groupsReady (s.stepChannels n e) then Reasons.reference else 0) ||| (if !s.sv.permit || s.sv.dark || s.dev.pfail then Reasons.safety else 0) ∧ why ≠ 0) ∧
    (∃ (s : State) (n : Nat) (f : Tq) (e : ListEntry), s.atBoundary n f ∧ (s.seq n).halting = false ∧ s.stopIsDue n = false ∧ e = s.sq.mem.entry (s.seq n).nextEntry ∧ (s.seq n).begins e = true ∧ (s.stepAt (s.seq n).nextEntry).2 = 0 ∧ (s.seq n).first = false ∧ (s.seq n).step.reasons ≠ 0 ∧ s.sv.permit = false) ∧
    (∃ (s : State) (n : Nat) (f : Tq) (e : ListEntry), s.atBoundary n f ∧ (s.seq n).halting = false ∧ s.stopIsDue n = false ∧ e = s.sq.mem.entry (s.seq n).nextEntry ∧ (s.seq n).begins e = true ∧ (s.seq n).waitingCount < (s.stepAt (s.seq n).nextEntry).2 ∧ ((s.seq n).first = true ∨ (s.seq n).step.reasons = 0)) ∧
    (∃ (s : State) (n : Nat) (f : Tq), s.atBoundary n f ∧ ((s.seq n).halting = true ∨ s.stopIsDue n = true)) :=
  ⟨⟨ranging.setSeq 0 { playing with granDark := true }, 0, by decide⟩,
   ⟨ranging.setSeq 0 { playing with gran := { ListEntry.zero with mask := 1 }, step := { Step.none with rows := 1 } }, 0, _, by decide, by decide, by decide, by decide, by decide, rfl, by decide, by decide, by decide, by decide, by decide, by decide, by decide⟩,
   ⟨ranging.setSeq 7 { playing with cfg := { playing.cfg with domain := 0 } }, 7, by decide⟩,
   ⟨({ turning 0 with dev := ranging.dev } : State).setSeq 0 { playing with cfg := { playing.cfg with domain := 0 }, granDark := true, accum := { Accum.reset with x0 := 18808831, freq := 2 ^ 32 } }, 0, 1000 * tqPerSec, by decide⟩,
   ⟨ranging.setSeq 0 { playing with gran := { ListEntry.zero with testMask := 2 } }, 0, _, by decide, by decide, by decide, by decide, by decide, rfl, by decide, by decide⟩,
   ⟨svAs (ranging.setSeq 0 { playing with granDark := true }) (fun v => { v with run := .twilight }), 0, _, by decide, by decide, by decide, by decide, by decide, rfl, by decide, by decide⟩,
   ⟨ranging.setSeq 0 { playing with granDark := true, lastFire := some (1000 * tqPerSec) }, 0, _, by decide, by decide, by decide, by decide, by decide, rfl, by decide, by decide⟩,
   ⟨stepping (fun q => { q with first := false, step := { Step.none with admitted := true, granules := 1 } }), 0, playing.accum.position 1, loaded.sq.mem.entry 1, by decide +kernel⟩,
   ⟨stepping (fun q => { q with first := false, entry := 2, step := { Step.none with admitted := true, granules := 1 } }), 0, playing.accum.position 1, loaded.sq.mem.entry 3, by decide +kernel⟩,
   ⟨stepping (fun q => { q with first := false, entry := 2, jump := some 1, step := { Step.none with admitted := true, granules := 1 } }), 0, playing.accum.position 1, loaded.sq.mem.entry 3, by decide +kernel⟩,
   ⟨(stepping id).setChan 511 chanOn, 0, playing.accum.position 1, loaded.sq.mem.entry 0, by decide +kernel⟩,
   ⟨svAs (stepping id) (fun v => { v with permit := false, dark := true }), 0, playing.accum.position 1, loaded.sq.mem.entry 0, Reasons.safety, by decide +kernel⟩,
   ⟨svAs (stepping fun q => { q with first := false, step := { Step.none with granules := 64, reasons := Reasons.safety } }) (fun v => { v with permit := false, dark := true }), 0, playing.accum.position 1, loaded.sq.mem.entry 1, by decide +kernel⟩,
   ⟨{ (stepping id) with sq := { (stepping id).sq with mem := Memory.write [] 0 (listEntry 1) } }, 0, playing.accum.position 1, (Memory.write [] 0 (listEntry 1)).entry 0, by decide +kernel⟩,
   ⟨stepping (fun q => { q with stops := [{ mode := 1, reason := 0 }] }), 0, playing.accum.position 1, by decide +kernel⟩⟩

theorem witness_ReceiveSettings :
    (∃ (s : State) (first : Nat) (count : Nat) (cfg : HitCfg), s.admits (.hitConfig first count cfg) = true ∧ 1 ≤ count ∧ first + count ≤ 512 ∧ hitRanges cfg = true ∧ (cfg.rawGate = 1 → (s.trg cfg.trgSel).edges = 3) ∧ (∀ c ∈ numbers first count, s.hasOpenGate c = false ∧ s.watchedNow c = false) ∧ s.groupResetting (numbers first count) = false) ∧
    (∃ (s : State) (k : Nat) (edges : Nat), s.admits (.trgConfig k edges) = true ∧ k ≤ 7 ∧ edges ≤ 3 ∧ (edges ≠ 3 → s.gatesRaw k = false)) ∧
    (∃ (s : State) (first : Nat) (count : Nat) (cfg : StaInCfg), s.admits (.staInputConfig first count cfg) = true ∧ 1 ≤ count ∧ first + count ≤ 64 ∧ staInRanges cfg = true ∧ (∀ k ∈ numbers first count, s.rowInUse (s.staCfg k).row = true → staInDiffers (s.sta k).cfg cfg = false)) ∧
    (∃ (s : State) (p : Nat) (cfg : GateProfile), s.admits (.gateProfileSet p cfg) = true ∧ p ≤ 15 ∧ cfg.openOffset ≤ 65536000 ∧ cfg.openOffset % 4 = 0 ∧ 1024 ≤ cfg.length ∧ cfg.length ≤ 65536000 ∧ cfg.length % 4 = 0 ∧ cfg.binK ≤ 5 ∧ cfg.winStart ≤ 65536000 ∧ s.ranging = false) ∧
    (∃ (s : State) (first : Nat) (count : Nat) (row : Nat), s.admits (.channelRowSet first count row) = true ∧ 1 ≤ count ∧ first + count ≤ 512 ∧ (row ≤ 63 ∨ row = 0x7F) ∧ s.rowInUse row = false ∧ (∀ c ∈ numbers first count, (∀ g ∈ (s.chan c).gates, g.inUse = false) ∧ s.rowInUse (s.chan c).row = false) ∧ s.groupResetting (numbers first count) = false) ∧
    (∃ (s : State) (n : Nat) (ins : List Nat), s.admits (.rawExportSet n ins) = true ∧ n ≤ 63 ∧ (∀ i ∈ ins, i ≤ 584) ∧ s.isResultStream n = false ∧ (∀ i ∈ s.rebound n ins, (s.input i).queue = []) ∧ s.groupResetting ((ins ++ s.rebound n ins).filter (· < 512)) = false) ∧
    (∃ (s : State) (g : Nat) (ch : Nat) (st : Nat) (mon : Nat), s.admits (.gateTapSet g ch st mon) = true ∧ g ≤ 7 ∧ (ch ≤ 63 ∨ ch = 0x7F) ∧ st ≤ 63 ∧ mon ≤ 63 ∧ (s.stream st).raw = true ∧ s.groupResetting [64 * g] = false) :=
  ⟨⟨idle, 0, 512, { HitCfg.reset with enable := 1, hyst := 3, term := 0 }, by decide +kernel⟩,
   ⟨idle, 7, 3, by decide⟩,
   ⟨idle, 63, 1, { StaInCfg.reset with enable := 1, staDev := 8192 }, by decide⟩,
   ⟨idle, 15, { openOffset := 65536000, length := 1024, binK := 5, winStart := 65536000 }, by decide⟩,
   ⟨idle, 511, 1, 0x7F, by decide⟩,
   ⟨idle, 63, [0, 511, 584], by decide⟩,
   ⟨idle.setStream 63 { Stream.reset with raw := true }, 7, 0x7F, 63, 63, by decide⟩⟩

theorem witness_ReceiveCommands :
    (∃ (s : State) (first : Nat) (count : Nat), s.admits (.inputCountersClear first count) = true ∧ 1 ≤ count ∧ first + count ≤ 585) ∧
    (∃ (_s : State) (i : Nat), i ≤ 511) ∧
    (∃ (s : State) (first : Nat) (count : Nat), s.admits (.gateCountersClear first count) = true ∧ 1 ≤ count ∧ first + count ≤ 512) ∧
    (∃ (s : State) (first : Nat) (count : Nat) (p : Nat) (st : Nat) (time : FullTime), s.admits (.gateArm first count p st time) = true ∧ 1 ≤ count ∧ first + count ≤ 512 ∧ p ≤ 15 ∧ st ≤ 63 ∧ time.ok = true ∧ time.fns.toNat % 256 = 0 ∧ (s.stream st).raw = true ∧ (∀ c ∈ numbers first count, (s.chan c).watchesRow = true ∧ s.isReady (readyHg (c / 64)) = true ∧ (s.chan c).freeQueue.isSome = true) ∧ s.pll.locked = true ∧ (s.dev.run = .readyIdle ∨ s.ranging = true) ∧ s.now ≤ time.tq - 18432) :=
  ⟨⟨idle, 0, 585, by decide⟩,
   ⟨idle, 511, by decide⟩,
   ⟨idle, 511, 1, by decide⟩,
   ⟨({ idle with eng := { idle.eng with streams := [(63, { Stream.reset with raw := true })] } } : State).setChan 511 chanOn, 511, 1, 15, 63, { sec := 1000, ns := 18#30, fns := 0#16 }, by decide⟩⟩

theorem witness_HitsReachGates :
    (∃ (s : State) (c : Nat) (_phase : Nat) (_n : Nat) (falling : Bool) (tBall : Tq), c ≤ 511 ∧ (s.chan c).cfg.enable = 1 ∧ (s.chan c).cfg.edge = falling.toNat ∧ s.heard tBall = true ∧ s.injected c tBall = false ∧ (s.chan c).cfg.cls = 0 ∧ (s.chan c).openGates tBall = []) ∧
    (∃ (s : State) (c : Nat) (_phase : Nat) (_n : Nat) (falling : Bool) (tBall : Tq), c ≤ 511 ∧ (s.chan c).cfg.enable = 1 ∧ (s.chan c).cfg.edge = falling.toNat ∧ s.heard tBall = true ∧ s.injected c tBall = false ∧ (s.chan c).cfg.cls = 0 ∧ (s.chan c).openGates tBall ≠ [] ∧ s.inService c = true ∧ s.freeConv c 0 4 (s.input c).rr tBall = none) ∧
    (∃ (s : State) (c : Nat) (_phase : Nat) (_n : Nat) (k : Nat) (falling : Bool) (tBall : Tq), c ≤ 511 ∧ (s.chan c).cfg.enable = 1 ∧ (s.chan c).cfg.edge = falling.toNat ∧ s.heard tBall = true ∧ s.injected c tBall = false ∧ (s.chan c).cfg.cls = 0 ∧ (s.chan c).openGates tBall ≠ [] ∧ s.inService c = true ∧ s.freeConv c 0 4 (s.input c).rr tBall = some k ∧ 0 ≤ tBall) ∧
    (∃ (s : State) (c : Nat) (_phase : Nat) (_n : Nat) (falling : Bool) (tBall : Tq), c ≤ 511 ∧ (s.chan c).cfg.enable = 1 ∧ (s.chan c).cfg.edge = falling.toNat ∧ s.heard tBall = true ∧ s.injected c tBall = true) ∧
    (∃ (s : State) (c : Nat) (p : PathStamp) (rest : List PathStamp), c ≤ 511 ∧ (s.input c).path = p :: rest ∧ p.cfg.cls = 0 ∧ s.now ≤ p.tEdge + 32768 ∧ (s.chan c).targets p ≠ [] ∧ (s.chan c).poolUsed + ((s.chan c).targets p).length ≤ 256) ∧
    (∃ (s : State) (c : Nat) (p : PathStamp) (rest : List PathStamp), c ≤ 511 ∧ (s.input c).path = p :: rest ∧ p.cfg.cls = 0 ∧ s.now ≤ p.tEdge + 32768 ∧ (s.chan c).targets p ≠ [] ∧ 256 < (s.chan c).poolUsed + ((s.chan c).targets p).length) ∧
    (∃ (s : State) (c : Nat) (p : PathStamp) (rest : List PathStamp), c ≤ 511 ∧ (s.input c).path = p :: rest ∧ p.cfg.cls = 0 ∧ s.reached (p.tEdge + 32768) = true ∧ (s.chan c).targets p ≠ []) ∧
    (∃ (s : State) (c : Nat) (p : PathStamp) (rest : List PathStamp), c ≤ 511 ∧ (s.input c).path = p :: rest ∧ p.cfg.cls = 0 ∧ s.now ≤ p.tEdge + 32768 ∧ (s.chan c).targets p = []) ∧
    (∃ (s : State) (c : Nat) (p : PathStamp) (rest : List PathStamp), c ≤ 511 ∧ (s.input c).path = p :: rest ∧ p.cfg.cls = 0 ∧ s.reached (p.tEdge + 32768) = true ∧ (s.chan c).targets p = []) ∧
    (∃ (s : State) (c : Nat) (p : PathStamp) (rest : List PathStamp), c ≤ 511 ∧ (s.input c).path = p :: rest ∧ p.cfg.cls ≠ 0 ∧ p.cfg.rawGate = 1 ∧ p.onScale < s.now ∧ s.now ≤ p.tEdge + 32768 ∧ (∀ l, (s.trg p.cfg.trgSel).lastAt p.onScale = some l → l.1 + 2052 ≤ s.now) ∧ (s.trg p.cfg.trgSel).levelAt p.onScale ≠ some (decide (p.cfg.trgActive = 1))) ∧
    (∃ (s : State) (i : Nat) (p : PathStamp) (rest : List PathStamp), 512 ≤ i ∧ i ≤ 584 ∧ (s.input i).path = p :: rest ∧ s.now ≤ p.tEdge + 32768 ∧ (s.input i).stream = none) :=
  ⟨⟨ranging.setChan 511 chanOn, 511, 0, 0, false, 1000 * tqPerSec, by decide⟩,
   ⟨(gated 511).setInput 511 { InputState.reset with convs := [(0, { Converter.reset with busyUntil := 2000 * tqPerSec }), (1, { Converter.reset with excluded := true }), (2, { Converter.reset with busyUntil := 1000 * tqPerSec + 1 }), (3, { Converter.reset with calibrating := true, busyUntil := 0 })] }, 511, 0, 0, false, 1000 * tqPerSec, by decide⟩,
   ⟨gated 511, 511, 0, 300, 0, false, 1000 * tqPerSec + 1023, by decide⟩,
   ⟨(gated 511).setLane 7 [{ testJob with placed := some { rise := 1000 * tqPerSec + 1500, fall := 1000 * tqPerSec + 2012, cut := false, shortGuard := false, guard := 20480, inSlot := false } }], 511, 0, 0, false, 1000 * tqPerSec, by decide⟩,
   ⟨(gated 0).setInput 0 { InputState.reset with path := [stampAt (1000 * tqPerSec)] }, 0, stampAt (1000 * tqPerSec), [], by decide⟩,
   ⟨(idle.setChan 0 { chanOn with gates := [{ gateAt (1000 * tqPerSec) with life := .opened, words := (List.range 256).map fun i => { id := i, multi := false, t := 0, bits := 0 } }] }).setInput 0 { InputState.reset with path := [stampAt (1000 * tqPerSec)] }, 0, stampAt (1000 * tqPerSec), [], by decide +kernel⟩,
   ⟨(idle.setChan 0 { chanOn with gates := [{ gateAt (1000 * tqPerSec - 32768) with tClose := 1000 * tqPerSec, life := .opened }] }).setInput 0 { InputState.reset with path := [stampAt (1000 * tqPerSec - 32768)] }, 0, stampAt (1000 * tqPerSec - 32768), [], by decide⟩,
   ⟨(ranging.setChan 511 chanOn).setInput 511 { InputState.reset with path := [stampAt (1000 * tqPerSec)] }, 511, stampAt (1000 * tqPerSec), [], by decide⟩,
   ⟨(ranging.setChan 511 chanOn).setInput 511 { InputState.reset with path := [stampAt (1000 * tqPerSec - 32768)] }, 511, stampAt (1000 * tqPerSec - 32768), [], by decide⟩,
   ⟨ranging.setInput 511 { InputState.reset with path := [{ stampAt (1000 * tqPerSec - 1) with cfg := { chanOn.cfg with cls := 1, rawGate := 1 } }] }, 511, { stampAt (1000 * tqPerSec - 1) with cfg := { chanOn.cfg with cls := 1, rawGate := 1 } }, [], by decide⟩,
   ⟨ranging.setInput 584 { InputState.reset with path := [stampAt (1000 * tqPerSec)] }, 584, stampAt (1000 * tqPerSec), [], by decide⟩⟩

theorem witness_TriggerEdges :
    (∃ (s : State) (n : Nat) (falling : Bool) (tBall : Tq), n ≤ 7 ∧ s.isReady readyTimebase = true ∧ s.heard tBall = true ∧ (if falling then 2 ≤ (s.trg n).edges else (s.trg n).edges % 2 = 1) ∧ (n ≠ 0 ∨ s.net.ptp.role ≠ 1 ∨ falling = true) ∧ (∀ l, (s.trg n).lastEdge = some l → 2048 ≤ (tBall - l).natAbs)) ∧
    (∃ (s : State) (n : Nat) (falling : Bool) (tBall : Int) (l : Int), n ≤ 7 ∧ s.isReady readyTimebase = true ∧ s.heard tBall = true ∧ (if falling then 2 ≤ (s.trg n).edges else (s.trg n).edges % 2 = 1) ∧ (s.trg n).lastEdge = some l ∧ (tBall - l).natAbs < 2048) ∧
    (∃ (s : State) (n : Nat) (falling : Bool) (_tBall : Tq), n ≤ 7 ∧ ¬ (if falling then 2 ≤ (s.trg n).edges else (s.trg n).edges % 2 = 1)) ∧
    (∃ (s : State) (tBall : Tq), s.tb.sync.cfg.mode ≠ 1 ∧ s.tb.sync.pending = none ∧ s.heard tBall = true) :=
  ⟨⟨idle.setTrg 7 { Trg.reset with edges := 3, lastEdge := some (1000 * tqPerSec - 2048) }, 7, true, 1000 * tqPerSec, by decide⟩,
   ⟨idle.setTrg 7 { Trg.reset with edges := 1, lastEdge := some (1000 * tqPerSec - 2047) }, 7, false, 1000 * tqPerSec, 1000 * tqPerSec - 2047, by decide⟩,
   ⟨idle.setTrg 0 { Trg.reset with edges := 2 }, 0, false, 1000 * tqPerSec, by decide⟩,
   ⟨idle, 1000 * tqPerSec + 7, by decide⟩⟩

theorem witness_ConverterCalibration :
    (∃ (s : State) (i : Nat) (k : Nat) (m1 : Nat) (m2 : Nat), i ≤ 511 ∧ k ≤ 3 ∧ (s.conv i k).calibrating = true ∧ (s.input i).rolling = none ∧ m1 < m2 ∧ 7 * (m2 - m1) ≤ 2048 ∧ 2048 ≤ 9 * (m2 - m1) ∧ (1024 * ((m2 : Int) - m1) - 1024 * m1).natAbs ≤ 64 * (m2 - m1)) ∧
    (∃ (s : State) (i : Nat) (k : Nat) (m1 : Nat) (m2 : Nat), i ≤ 511 ∧ k ≤ 3 ∧ (s.conv i k).calibrating = true ∧ (s.input i).rolling = none ∧ (m2 ≤ m1 ∨ 2048 < 7 * (m2 - m1) ∨ 9 * (m2 - m1) < 2048 ∨ 64 * (m2 - m1) < (1024 * ((m2 : Int) - m1) - 1024 * m1).natAbs)) ∧
    (∃ (s : State) (c : Nat) (g : Gate), c ≤ 511 ∧ (s.chan c).gate g.id = some g ∧ g.waiting = true ∧ g.calDecided = false ∧ s.reached (g.tOpen - 18432) = true ∧ s.pll.locked = true ∧ (s.chan c).needFull = false ∧ ((s.chan c).heldOpenAt (g.tOpen - 18432) = true ∨ s.calibrating c = true)) ∧
    (∃ (s : State) (c : Nat) (g : Gate), c ≤ 511 ∧ (s.chan c).gate g.id = some g ∧ g.waiting = true ∧ g.calDecided = false ∧ s.reached (g.tOpen - 18432) = true ∧ s.pll.locked = true ∧ (s.chan c).heldOpenAt (g.tOpen - 18432) = false ∧ s.calibrating c = false) ∧
    (∃ (s : State) (c : Nat), c ≤ 511 ∧ s.rolls c = true ∧ (s.input c).sweep = [] ∧ 3000 ≤ (s.clock : Int) - (s.conv c (s.oldestConv c)).calAt) :=
  ⟨⟨(gated 511).setInput 511 { InputState.reset with convs := [(3, { Converter.reset with calibrating := true, fails := 2, excluded := true })] }, 511, 3, 256, 512, by decide⟩,
   ⟨(gated 511).setInput 511 { InputState.reset with convs := [(3, { Converter.reset with calibrating := true, fails := 2 })] }, 511, 3, 256, 549, by decide⟩,
   ⟨idle.setChan 0 { chanOn with gates := [gateAt (1000 * tqPerSec + 18432), { gateAt (1000 * tqPerSec - 100) with id := 1, life := .opened }] }, 0, gateAt (1000 * tqPerSec + 18432), by decide⟩,
   ⟨idle.setChan 511 { chanOn with gates := [gateAt (1000 * tqPerSec + 18432)] }, 511, gateAt (1000 * tqPerSec + 18432), by decide⟩,
   ⟨({ gated 511 with clock := 3000 }), 511, by decide⟩⟩

theorem witness_StartInputs :
    (∃ (s : State) (k : Nat) (phase : Nat) (n : Nat) (v : Nat) (falling : Bool) (tBall : Tq) (τ : Tq) (w : MatchWin), k ≤ 63 ∧ (s.sta k).cfg.enable = 1 ∧ s.heard tBall = true ∧ 0 ≤ tBall ∧ falling = decide ((s.sta k).cfg.pol = 1) ∧ (s.staCfg k).row ≤ 63 ∧ s.freeConv (512 + k) (if falling then 2 else 0) 2 (if falling then (s.input (512 + k)).rrFall else (s.input (512 + k)).rr) tBall = some v ∧ τ = (s.conv (512 + k) v).stamp tBall phase n ((s.sta k).cfg.skewBoard + s.staSkew k) ∧ s.windowOf (s.staCfg k).row τ = some w) ∧
    (∃ (s : State) (k : Nat) (phase : Nat) (n : Nat) (v : Nat) (falling : Bool) (tBall : Tq) (τ : Tq), k ≤ 63 ∧ (s.sta k).cfg.enable = 1 ∧ s.heard tBall = true ∧ 0 ≤ tBall ∧ falling = decide ((s.sta k).cfg.pol = 1) ∧ (s.staCfg k).row ≤ 63 ∧ s.freeConv (512 + k) (if falling then 2 else 0) 2 (if falling then (s.input (512 + k)).rrFall else (s.input (512 + k)).rr) tBall = some v ∧ τ = (s.conv (512 + k) v).stamp tBall phase n ((s.sta k).cfg.skewBoard + s.staSkew k) ∧ s.windowOf (s.staCfg k).row τ = none) ∧
    (∃ (s : State) (k : Nat) (phase : Nat) (n : Nat) (v : Nat) (r : Nat) (w : Nat) (falling : Bool) (tBall : Tq) (τ : Tq) (t0 : Tq), k ≤ 63 ∧ (s.sta k).cfg.enable = 1 ∧ s.heard tBall = true ∧ 0 ≤ tBall ∧ falling = decide ((s.sta k).cfg.pol = 0) ∧ (s.sta k).cfg.pol ≤ 1 ∧ (s.staCfg k).row ≤ 63 ∧ s.freeConv (512 + k) (if falling then 2 else 0) 2 (if falling then (s.input (512 + k)).rrFall else (s.input (512 + k)).rr) tBall = some v ∧ τ = (s.conv (512 + k) v).stamp tBall phase n ((s.sta k).cfg.skewBoard + s.staSkew k) ∧ (s.sta k).lastRise = some (t0, some (r, w)) ∧ (w : Int) + (s.staCfg k).widthTol < τ - t0) ∧
    (∃ (s : State) (r : Nat) (w : MatchWin), r ≤ 63 ∧ earliest (s.tx.windows.filter fun w => decide (w.row = r ∧ w.hi < s.now)) = some w ∧ s.isDarkWindow w = false) ∧
    (∃ (s : State) (r : Nat) (w : MatchWin), r ≤ 63 ∧ earliest (s.tx.windows.filter fun w => decide (w.row = r ∧ w.hi < s.now)) = some w ∧ s.isDarkWindow w = true) :=
  ⟨⟨({ ranging with tx := { ranging.tx with windows := [winAt 0 (1000 * tqPerSec - 4096)], stas := [(63, { StaCfg.reset with row := 0 })] } } : State).setSta 63 { StaState.reset with cfg := { StaInCfg.reset with enable := 1 } }, 63, 7, 256, 0, false, 1000 * tqPerSec, _, winAt 0 (1000 * tqPerSec - 4096), by decide, by decide, by decide, by decide, by decide, by decide, by decide, rfl, by decide⟩,
   ⟨({ ranging with tx := { ranging.tx with stas := [(63, { StaCfg.reset with row := 0 })] } } : State).setSta 63 { StaState.reset with cfg := { StaInCfg.reset with enable := 1 } }, 63, 7, 256, 0, false, 1000 * tqPerSec, _, by decide, by decide, by decide, by decide, by decide, by decide, by decide, rfl, by decide⟩,
   ⟨({ ranging with tx := { ranging.tx with stas := [(63, { StaCfg.reset with row := 0 })] } } : State).setSta 63 { StaState.reset with cfg := { StaInCfg.reset with enable := 1 }, lastRise := some (1000 * tqPerSec - 200000, some (7, 512)) }, 63, 7, 256, 2, 7, 512, true, 1000 * tqPerSec, _, 1000 * tqPerSec - 200000, by decide, by decide, by decide, by decide, by decide, by decide, by decide, by decide, rfl, by decide, by decide⟩,
   ⟨{ ranging with tx := { ranging.tx with windows := [winAt 63 (1000 * tqPerSec - 8193)] } }, 63, winAt 63 (1000 * tqPerSec - 8193), by decide⟩,
   ⟨{ ranging with sv := { ranging.sv with dark := true, darkSince := 1000 * tqPerSec - 20000 }, tx := { ranging.tx with windows := [winAt 63 (1000 * tqPerSec - 8193)] } }, 63, winAt 63 (1000 * tqPerSec - 8193), by decide⟩⟩

theorem witness_GateLife :
    (∃ (s : State) (c : Nat) (g : Gate), c ≤ 511 ∧ (s.chan c).gate g.id = some g ∧ g.waiting = true ∧ s.reached g.tOpen = true) ∧
    (∃ (s : State) (c : Nat) (g : Gate), c ≤ 511 ∧ (s.chan c).gate g.id = some g ∧ g.waiting = true ∧ s.reached g.tOpen = false) ∧
    (∃ (s : State) (c : Nat) (g : Gate), c ≤ 511 ∧ (s.chan c).gate g.id = some g ∧ g.life = .opened ∧ s.reached (g.tClose + max 0 (s.chan c).cfg.skewBoard + 32768) = true ∧ g.cut = false ∧ g.shot.isSome = true) ∧
    (∃ (s : State) (c : Nat) (g : Gate), c ≤ 511 ∧ (s.chan c).gate g.id = some g ∧ g.life = .opened ∧ s.reached (g.tClose + max 0 (s.chan c).cfg.skewBoard + 32768) = true ∧ (g.cut = true ∨ g.shot = none)) :=
  ⟨⟨ranging.setChan 511 { chanOn with gates := [gateAt (1000 * tqPerSec + 1023)] }, 511, gateAt (1000 * tqPerSec + 1023), by decide⟩,
   ⟨ranging.setChan 511 { chanOn with gates := [gateAt (1000 * tqPerSec + 1024)] }, 511, gateAt (1000 * tqPerSec + 1024), by decide⟩,
   ⟨(ranging.setShot 7 (some (shotAt 0 (1000 * tqPerSec - 36864)))).setChan 511 { chanOn with gates := [{ gateAt (1000 * tqPerSec - 36864) with life := .opened, shot := some 7 }] }, 511, { gateAt (1000 * tqPerSec - 36864) with life := .opened, shot := some 7 }, by decide⟩,
   ⟨ranging.setChan 511 { chanOn with gates := [{ gateAt (1000 * tqPerSec - 36864) with life := .opened }] }, 511, { gateAt (1000 * tqPerSec - 36864) with life := .opened }, by decide⟩⟩

theorem witness_Matching :
    (∃ (s : State) (k : Nat) (x : Shot), s.shot k = some x ∧ x.ref = none ∧ s.reached (s.fixTime x) = true ∧ s.staOfRow x.row = none) ∧
    (∃ (s : State) (k : Nat) (a : Nat) (j : Nat) (x : Shot) (τ : Tq), s.shot k = some x ∧ x.ref = none ∧ s.reached (s.fixTime x) = true ∧ x.row ≤ 63 ∧ s.staOfRow x.row = some a ∧ s.isDarkened k x = false ∧ s.hasGates k = true ∧ bestCandidate (s.candidates x a) = some (j, τ) ∧ (j ≠ 0 ∨ s.cal.learns = [])) ∧
    (∃ (s : State) (k : Nat) (a : Nat) (x : Shot), s.shot k = some x ∧ x.ref = none ∧ s.reached (s.fixTime x) = true ∧ x.row ≤ 63 ∧ s.staOfRow x.row = some a ∧ s.isDarkened k x = false ∧ s.hasGates k = true ∧ bestCandidate (s.candidates x a) = none) ∧
    (∃ (s : State) (c : Nat) (g : Gate) (w : Word) (rest : List Word), c ≤ 511 ∧ (s.chan c).gate g.id = some g ∧ g.cut = false ∧ g.shot.isSome = true ∧ g.words = w :: rest ∧ (s.chan c).wordDue g w (32 * 2 ^ g.binK) = true ∧ (bestHypothesis g.offsets (32 * 2 ^ g.binK) w rest).length < minPulses g.matching g.offsets.length) ∧
    (∃ (s : State) (c : Nat) (g : Gate) (w : Word) (rest : List Word), c ≤ 511 ∧ (s.chan c).gate g.id = some g ∧ g.cut = false ∧ g.shot.isSome = true ∧ g.words = w :: rest ∧ (s.chan c).wordDue g w (32 * 2 ^ g.binK) = true ∧ g.offsets.length ≠ 0 ∧ (bestHypothesis g.offsets (32 * 2 ^ g.binK) w rest).length = g.offsets.length) ∧
    (∃ (s : State) (c : Nat) (g : Gate) (w : Word) (rest : List Word), c ≤ 511 ∧ (s.chan c).gate g.id = some g ∧ g.cut = false ∧ g.shot.isSome = true ∧ g.words = w :: rest ∧ (s.chan c).wordDue g w (32 * 2 ^ g.binK) = true ∧ minPulses g.matching g.offsets.length ≤ (bestHypothesis g.offsets (32 * 2 ^ g.binK) w rest).length ∧ (bestHypothesis g.offsets (32 * 2 ^ g.binK) w rest).length < g.offsets.length) ∧
    (∃ (s : State) (c : Nat) (b : Nat) (g : Gate) (w : Word) (rest : List Word), c ≤ 511 ∧ (s.chan c).gate g.id = some g ∧ g.cut = false ∧ g.shot.isSome = true ∧ g.words = w :: rest ∧ (s.chan c).wordDue g w (32 * 2 ^ g.binK) = true ∧ g.bank = some b ∧ minPulses g.matching g.offsets.length ≤ (bestHypothesis g.offsets (32 * 2 ^ g.binK) w rest).length ∧ 64 ≤ (g.found.filter fun m => decide (m.state = .pending)).length) ∧
    (∃ (s : State) (c : Nat) (g : Gate) (w : Word) (rest : List Word), c ≤ 511 ∧ (s.chan c).gate g.id = some g ∧ g.cut = false ∧ g.shot = none ∧ g.words = w :: rest) ∧
    (∃ (s : State) (c : Nat) (id : Nat) (i : Nat) (k : Nat) (g : Gate) (m : Match) (x : Shot) (r : Reference), (s.chan c).gate id = some g ∧ g.found[i]? = some m ∧ g.shot = some k ∧ s.shot k = some x ∧ x.ref = some r ∧ m.state = .pending ∧ m.tau = none ∧ x.darkened = true) ∧
    (∃ (s : State) (c : Nat) (id : Nat) (i : Nat) (k : Nat) (b : Nat) (τ : Int) (g : Gate) (m : Match) (x : Shot) (r : Reference), (s.chan c).gate id = some g ∧ g.found[i]? = some m ∧ g.shot = some k ∧ s.shot k = some x ∧ x.ref = some r ∧ m.state = .pending ∧ m.tau = none ∧ x.darkened = false ∧ g.matching.nbN = 1 ∧ g.bank = some b ∧ m.stamps ≠ [] ∧ τ = ((m.stamps.map fun p => p.2 - (g.offsets.getD p.1 0 : Int)).sum / m.stamps.length) - r.time) ∧
    (∃ (d : Descriptor) (τ : Int), (d.winStart : Int) ≤ τ ∧ τ < d.winStart + 16384 * (32 * 2 ^ d.binK) ∧ τ < 2 ^ 26) ∧
    (∃ (d : Descriptor) (τ : Int), (d.winStart : Int) ≤ τ ∧ τ < d.winStart + 16384 * (32 * 2 ^ d.binK) ∧ τ < 2 ^ 26) ∧
    (∃ (d : Descriptor) (τ : Int), (τ < d.winStart ∨ d.winStart + 16384 * (32 * 2 ^ d.binK) ≤ τ ∨ 2 ^ 26 ≤ τ)) ∧
    (∃ (d : Descriptor) (τ : Int), (τ < d.winStart ∨ d.winStart + 16384 * (32 * 2 ^ d.binK) ≤ τ ∨ 2 ^ 26 ≤ τ)) ∧
    (∃ (d : Descriptor) (τ : Int), (τ < d.winStart ∨ d.winStart + 16384 * (32 * 2 ^ d.binK) ≤ τ ∨ 2 ^ 26 ≤ τ)) ∧
    (∃ (s : State) (_c : Nat) (b : Nat) (τ : Int) (_full : Bool) (_multi : Bool), binOf (s.bank b).desc τ = none) ∧
    (∃ (s : State) (_c : Nat) (b : Nat) (i : Nat) (τ : Int) (_full : Bool) (_multi : Bool), binOf (s.bank b).desc τ = some i) ∧
    (∃ (x : Block) (_i : Nat), x.stale = true) ∧
    (∃ (x : Block) (i : Nat), x.stale = false ∧ (x.bin i).good = true ∧ (x.bin i).v ≠ 65535) ∧
    (∃ (x : Block) (i : Nat), x.stale = false ∧ (x.bin i).good = true ∧ (x.bin i).v = 65535) ∧
    (∃ (x : Block) (i : Nat), x.stale = false ∧ (x.bin i).good = false) ∧
    (∃ (s : State) (c : Nat) (g : Gate), c ≤ 511 ∧ (s.chan c).gate g.id = some g ∧ g.matching.nbN ≠ 1 ∧ g.ready = true ∧ (∀ d ∈ s.neighbours c g.matching.nbN, ∀ y, s.slotGateOf d g = some y → y.ready = true)) ∧
    (∃ (s : State) (c : Nat) (i : Nat) (g : Gate) (m : Match) (tau : Int), g.found[i]? = some m ∧ m.tau = some tau ∧ m.state = .pending ∧ ((s.neighbours c g.matching.nbN).filter fun d => match s.slotGateOf d g with | none => false | some y => y.sees tau (g.matching.nbTol * (32 * 2 ^ g.binK))).length < g.matching.nbK - 1) ∧
    (∃ (s : State) (c : Nat) (i : Nat) (g : Gate) (m : Match) (tau : Int), g.found[i]? = some m ∧ m.tau = some tau ∧ m.state = .pending ∧ g.matching.nbK - 1 ≤ ((s.neighbours c g.matching.nbN).filter fun d => match s.slotGateOf d g with | none => false | some y => y.sees tau (g.matching.nbTol * (32 * 2 ^ g.binK))).length) :=
  ⟨⟨ranging.setShot 7 (some (shotAt 63 (1000 * tqPerSec - 32768))), 7, shotAt 63 (1000 * tqPerSec - 32768), by decide⟩,
   ⟨(((({ ranging with tx := { ranging.tx with stas := [(63, { StaCfg.reset with row := 7 })] } } : State).setSta 63 { StaState.reset with cfg := { StaInCfg.reset with enable := 1 } })).setShot 7 (some { shotAt 7 (1000 * tqPerSec - 102400) with stamps := [(0, 1000 * tqPerSec - 102400)] })).setChan 511 { chanOn with gates := [{ gateAt (1000 * tqPerSec) with shot := some 7 }] }, 7, 63, 0, { shotAt 7 (1000 * tqPerSec - 102400) with stamps := [(0, 1000 * tqPerSec - 102400)] }, 1000 * tqPerSec - 102400, by decide⟩,
   ⟨(((({ ranging with tx := { ranging.tx with stas := [(63, { StaCfg.reset with row := 7 })] } } : State).setSta 63 { StaState.reset with cfg := { StaInCfg.reset with enable := 1 } })).setShot 7 (some (shotAt 7 (1000 * tqPerSec - 102400)))).setChan 511 { chanOn with gates := [{ gateAt (1000 * tqPerSec) with shot := some 7 }] }, 7, 63, shotAt 7 (1000 * tqPerSec - 102400), by decide⟩,
   ⟨ranging.setChan 511 { chanOn with gates := [{ drainedGate 1022 with shot := some 7, offsets := [0, 8192], words := [wordAt 0 4096] }] }, 511, { drainedGate 1022 with shot := some 7, offsets := [0, 8192], words := [wordAt 0 4096] }, wordAt 0 4096, [], by decide⟩,
   ⟨ranging.setChan 511 { chanOn with gates := [{ drainedGate 1022 with shot := some 7, offsets := [0, 8192], words := [wordAt 0 4096, wordAt 1 12288] }] }, 511, { drainedGate 1022 with shot := some 7, offsets := [0, 8192], words := [wordAt 0 4096, wordAt 1 12288] }, wordAt 0 4096, [wordAt 1 12288], by decide⟩,
   ⟨ranging.setChan 511 { chanOn with gates := [{ drainedGate 1022 with shot := some 7, matching := { MatchProfile.reset with minPulses := 2 }, offsets := [0, 8192, 16384], words := [wordAt 0 4096, wordAt 1 12288] }] }, 511, { drainedGate 1022 with shot := some 7, matching := { MatchProfile.reset with minPulses := 2 }, offsets := [0, 8192, 16384], words := [wordAt 0 4096, wordAt 1 12288] }, wordAt 0 4096, [wordAt 1 12288], by decide⟩,
   ⟨ranging.setChan 511 { chanOn with gates := [{ drainedGate 1022 with shot := some 7, found := List.replicate 64 waitingMatch, words := [wordAt 0 4096] }] }, 511, 1022, { drainedGate 1022 with shot := some 7, found := List.replicate 64 waitingMatch, words := [wordAt 0 4096] }, wordAt 0 4096, [], by decide +kernel⟩,
   ⟨ranging.setChan 511 { chanOn with gates := [{ gateAt 0 with life := .opened, words := [wordAt 0 4096] }] }, 511, { gateAt 0 with life := .opened, words := [wordAt 0 4096] }, wordAt 0 4096, [], by decide⟩,
   ⟨(ranging.setShot 7 (some { shotAt 63 4000 with ref := some { time := 4000, sta := false }, darkened := true })).setChan 511 { chanOn with gates := [{ drainedGate 1022 with shot := some 7, found := [waitingMatch] }] }, 511, 0, 0, 7, { drainedGate 1022 with shot := some 7, found := [waitingMatch] }, waitingMatch, { shotAt 63 4000 with ref := some { time := 4000, sta := false }, darkened := true }, { time := 4000, sta := false }, by decide⟩,
   ⟨(ranging.setShot 7 (some { shotAt 63 4000 with ref := some { time := 4000, sta := false }, darkened := false })).setChan 511 { chanOn with gates := [{ drainedGate 1022 with shot := some 7, found := [waitingMatch] }] }, 511, 0, 0, 7, 1022, 96, { drainedGate 1022 with shot := some 7, found := [waitingMatch] }, waitingMatch, { shotAt 63 4000 with ref := some { time := 4000, sta := false }, darkened := false }, { time := 4000, sta := false }, by decide⟩,
   ⟨{ Descriptor.zero with winStart := 100 }, 100, by decide⟩,
   ⟨{ Descriptor.zero with winStart := 100 }, 524387, by decide⟩,
   ⟨{ Descriptor.zero with winStart := 100 }, 99, by decide⟩,
   ⟨{ Descriptor.zero with winStart := 100 }, 524388, by decide⟩,
   ⟨{ Descriptor.zero with binK := 5, winStart := 65536000 }, 67108864, by decide⟩,
   ⟨idle, 511, 1023, -1, true, false, by decide⟩,
   ⟨idle, 511, 1023, 16383, 524287, false, true, by decide⟩,
   ⟨{ stale := true, sum := 3, sumP := false, bins := [] }, 63, by decide⟩,
   ⟨{ stale := false, sum := 3, sumP := false, bins := [(63, Bin.of 3)] }, 63, by decide⟩,
   ⟨{ stale := false, sum := 65535, sumP := false, bins := [(63, Bin.of 65535)] }, 63, by decide⟩,
   ⟨{ stale := false, sum := 3, sumP := false, bins := [(63, { v := 3, p := true })] }, 63, by decide⟩,
   ⟨ranging.setChan 511 { chanOn with gates := [{ drainedGate 1022 with matching := { MatchProfile.reset with nbN := 3 }, shot := some 7, found := [{ multi := false, ids := [0], stamps := [(0, 4096)], full := true, tau := some 4096, state := .pending }] }] }, 511, { drainedGate 1022 with matching := { MatchProfile.reset with nbN := 3 }, shot := some 7, found := [{ multi := false, ids := [0], stamps := [(0, 4096)], full := true, tau := some 4096, state := .pending }] }, by decide⟩,
   ⟨ranging.setChan 511 { chanOn with gates := [{ drainedGate 1022 with matching := { MatchProfile.reset with nbN := 3, nbK := 2 }, shot := some 7, found := [{ multi := false, ids := [0], stamps := [(0, 4096)], full := true, tau := some 4096, state := .pending }] }] }, 511, 0, { drainedGate 1022 with matching := { MatchProfile.reset with nbN := 3, nbK := 2 }, shot := some 7, found := [{ multi := false, ids := [0], stamps := [(0, 4096)], full := true, tau := some 4096, state := .pending }] }, { multi := false, ids := [0], stamps := [(0, 4096)], full := true, tau := some 4096, state := .pending }, 4096, by decide⟩,
   ⟨(ranging.setMatchProf 0 { MatchProfile.reset with nbN := 3, nbK := 1 }).setChan 511 { chanOn with gates := [{ drainedGate 1022 with shot := some 7, found := [{ multi := false, ids := [0], stamps := [(0, 4096)], full := true, tau := some 4096, state := .pending }] }] }, 511, 0, { drainedGate 1022 with shot := some 7, found := [{ multi := false, ids := [0], stamps := [(0, 4096)], full := true, tau := some 4096, state := .pending }] }, { multi := false, ids := [0], stamps := [(0, 4096)], full := true, tau := some 4096, state := .pending }, 4096, by decide⟩⟩

theorem witness_HistogramAndEngineCommands :
    (∃ (s : State) (p : Nat) (cfg : MatchProfile), s.admits (.matchProfileSet p cfg) = true ∧ p ≤ 15 ∧ (cfg.minPulses = 0 ∨ (2 ≤ cfg.minPulses ∧ cfg.minPulses ≤ 4)) ∧ cfg.nbN ∈ [1, 3, 5, 7] ∧ 1 ≤ cfg.nbK ∧ cfg.nbK ≤ cfg.nbN ∧ cfg.nbTol ≤ 15 ∧ s.ranging = false) ∧
    (∃ (s : State) (c : Nat), s.admits (.histHold c 1) = true ∧ c ≤ 511 ∧ (s.histChan c).holdPending = false ∧ (s.histChan c).held = none) ∧
    (∃ (s : State) (c : Nat), s.admits (.histHold c 0) = true ∧ c ≤ 511 ∧ (s.histChan c).held = none) ∧
    (∃ (s : State) (c : Nat) (b : Nat), s.admits (.histHold c 0) = true ∧ c ≤ 511 ∧ (s.histChan c).held = some b) ∧
    (∃ (s : State) (first : Nat) (count : Nat), s.admits (.histCountersClear first count) = true ∧ 1 ≤ count ∧ first + count ≤ 512) ∧
    (∃ (s : State) (n : Nat) (cfg : StreamCfg), s.admits (.streamConfig n cfg) = true ∧ n ≤ 63 ∧ ((s.stream n).raw = false → 1 ≤ cfg.maxEchoes ∧ cfg.maxEchoes ≤ 4) ∧ cfg.transport ≤ 1 ∧ 1 ≤ cfg.batchMax ∧ cfg.batchMax ≤ 4096 ∧ 1 ≤ cfg.batchTimeout ∧ cfg.batchTimeout ≤ 10000 ∧ ((s.stream n).raw = false → cfg.maxEchoes ≤ cfg.batchMax) ∧ overMtu s.net.net.mtu (s.stream n).raw cfg = false ∧ s.streamBusy n = false) ∧
    (∃ (s : State) (n : Nat) (cfg : KernelCfg), s.admits (.kernelConfig n cfg) = true ∧ cfg.kernel ≤ 1 ∧ n ≤ 63 ∧ kernelRanges cfg = true ∧ s.streamBusy n = false) ∧
    (∃ (s : State) (e : Nat), s.admitsWait (.engineRetest e) = true ∧ e < 96 ∧ s.dev.bist = false ∧ ((s.engine e).run = .idle ∨ (s.engine e).run = .quarantined)) ∧
    (∃ (s : State), s.admits .engineCountersClear = true) :=
  ⟨⟨idle, 15, { minPulses := 2, nbN := 7, nbK := 7, nbTol := 15 }, by decide⟩,
   ⟨idle, 511, by decide⟩,
   ⟨idle.setHistChan 511 { HistChannel.reset with holdPending := true }, 511, by decide⟩,
   ⟨idle.setHistChan 511 { HistChannel.reset with held := some 1 }, 511, 1, by decide⟩,
   ⟨idle, 511, 1, by decide⟩,
   ⟨idle, 63, { maxEchoes := 4, transport := 0, batchMax := 4096, batchTimeout := 10000 }, by decide⟩,
   ⟨idle, 63, { KernelCfg.reset with kernel := 0, jobTimeout := 1000, precipMaxTof := 67108862 }, by decide⟩,
   ⟨idle.setEngine 95 { Engine.reset with run := .quarantined }, 95, by decide⟩,
   ⟨idle, by decide⟩⟩

theorem witness_BanksClose :
    (∃ (s : State) (c : Nat) (b : Nat) (st : BankStep), c ≤ 511 ∧ b ≤ 1 ∧ (s.bank (2 * c + b)).step = some st ∧ s.bankDue (2 * c + b) = true ∧ s.isReady readyEngines = true ∧ s.dev.pfail = false ∧ (s.stream st.stream).atLimit = false ∧ s.inService c = true ∧ s.calibrated c = true ∧ (s.finalDesc (2 * c + b)).gatesUsed ≠ 0) ∧
    (∃ (s : State) (c : Nat) (b : Nat) (st : BankStep), c ≤ 511 ∧ b ≤ 1 ∧ (s.bank (2 * c + b)).step = some st ∧ s.bankDue (2 * c + b) = true ∧ s.isReady readyEngines = true ∧ s.dev.pfail = false ∧ (s.stream st.stream).atLimit = false ∧ s.inService c = false) ∧
    (∃ (s : State) (c : Nat) (b : Nat) (st : BankStep), c ≤ 511 ∧ b ≤ 1 ∧ (s.bank (2 * c + b)).step = some st ∧ s.bankDue (2 * c + b) = true ∧ s.isReady readyEngines = true ∧ s.dev.pfail = false ∧ (s.stream st.stream).atLimit = false ∧ s.inService c = true ∧ s.calibrated c = false) ∧
    (∃ (s : State) (c : Nat) (b : Nat) (st : BankStep), c ≤ 511 ∧ b ≤ 1 ∧ (s.bank (2 * c + b)).step = some st ∧ s.bankDue (2 * c + b) = true ∧ s.isReady readyEngines = true ∧ s.dev.pfail = false ∧ (s.stream st.stream).atLimit = false ∧ s.inService c = true ∧ s.calibrated c = true ∧ (s.finalDesc (2 * c + b)).gatesUsed = 0) :=
  ⟨⟨((ranging.setBank 1023 fillingBank).setChan 511 { chanOn with gates := [drainedGate 1023] }).setStream 0 { Stream.reset with issueLimit := some 100 }, 511, 1, bankStep, by decide⟩,
   ⟨((ranging.setBank 1023 fillingBank).setChan 511 { chanOn with gates := [drainedGate 1023], failed := true }).setStream 0 { Stream.reset with issueLimit := some 100 }, 511, 1, bankStep, by decide⟩,
   ⟨(((ranging.setBank 1023 fillingBank).setChan 511 { chanOn with gates := [drainedGate 1023] }).setStream 0 { Stream.reset with issueLimit := some 100 }).setCalStore calTof { CalStore.delivered calTof with a := CalSlot.empty }, 511, 1, bankStep, by decide⟩,
   ⟨((ranging.setBank 1023 fillingBank).setChan 511 chanOn).setStream 0 { Stream.reset with issueLimit := some 100 }, 511, 1, bankStep, by decide⟩⟩

theorem witness_EngineJobs :
    (∃ (s : State) (e : Nat) (j : Job) (rest : List Job), e < 96 ∧ (s.engine e).run = .idle ∧ takeJob e s.eng.queue = some (j, rest)) ∧
    (∃ (s : State) (e : Nat) (j : Job), e < 96 ∧ (s.engine e).job = some j ∧ s.overran e j = false ∧ (s.histChan j.channel).holdPending = false) ∧
    (∃ (s : State) (e : Nat) (j : Job), e < 96 ∧ (s.engine e).job = some j ∧ s.overran e j = false ∧ (s.histChan j.channel).holdPending = true) ∧
    (∃ (s : State) (n : Nat), n ≤ 63 ∧ (s.stream n).atLimit = true ∧ s.dev.pfail = false ∧ s.dev.derived = true) ∧
    (∃ (s : State) (e : Nat) (j : Job), e < 96 ∧ (s.engine e).job = some j ∧ s.overran e j = false) ∧
    (∃ (_j : Job) (_n : Nat) (_k : Nat) (a : Nat) (b : Nat) (r : Run) (T : Nat), r.head?.map (·.1) = some a ∧ r.getLast?.map (·.1) = some b ∧ a ≤ b ∧ T = (r.map (·.2)).sum) ∧
    (∃ (_j : Job) (_n : Nat) (k : Nat) (a : Nat) (b : Nat) (r : Run) (T : Nat), r.head?.map (·.1) = some a ∧ r.getLast?.map (·.1) = some b ∧ a ≤ b ∧ T = (r.map (·.2)).sum ∧ 0 < k) ∧
    (∃ (j : Job) (x : Bank) (i : Nat) (f : Nat) (e : Echo), f = j.desc.flags j.step.twilight (decide (0 < (runKernel j x).recomputedBins)) (decide (0 < (runKernel j x).erasedBlocks)) ∧ (runKernel j x).echoes[i]? = some e) ∧
    (∃ (j : Job) (x : Bank) (f : Nat), f = j.desc.flags j.step.twilight (decide (0 < (runKernel j x).recomputedBins)) (decide (0 < (runKernel j x).erasedBlocks)) ∧ (runKernel j x).echoes = []) :=
  ⟨⟨({ ranging with eng := { ranging.eng with queue := [{ job with faultedOn := [95] }, { job with number := 2 }] } } : State).setEngine 95 { Engine.reset with run := .idle }, 95, { job with number := 2 }, [{ job with faultedOn := [95] }], by decide⟩,
   ⟨{ working 95 job with clock := 0 }, 95, job, by decide⟩,
   ⟨{ (working 95 job).setHistChan 0 { HistChannel.reset with holdPending := true } with clock := 0 }, 95, job, by decide⟩,
   ⟨ranging.setStream 63 { Stream.reset with nextIssue := 100, issueLimit := some 100 }, 63, by decide⟩,
   ⟨{ working 95 job with clock := 0 }, 95, job, by decide⟩,
   ⟨{ job with tofOffset := 19, desc := { Descriptor.zero with binK := 1, gatesUsed := 16 } }, 1, 254, 3201, 3203, [(3201, 1), (3202, 2), (3203, 1)], 4, by decide⟩,
   ⟨{ job with tofOffset := 19, desc := { Descriptor.zero with binK := 1, gatesUsed := 16 } }, 1, 254, 3201, 3203, [(3201, 1), (3202, 2), (3203, 1)], 4, by decide⟩,
   ⟨{ job with tofOffset := 19, desc := { Descriptor.zero with binK := 1, gatesUsed := 16 } }, echoBank, 0, 0, { tof := 204941, width := 192, intensity := 1024, quality := 16, total := 4, sat := false, precip := false }, by decide +kernel⟩,
   ⟨job, Bank.reset, 0, by decide +kernel⟩⟩

theorem witness_EngineFaults :
    (∃ (s : State) (e : Nat) (_cause : EngineFault) (j : Job), e < 96 ∧ (s.engine e).job = some j ∧ j.faultedOn = []) ∧
    (∃ (s : State) (e : Nat) (_cause : EngineFault) (j : Job), e < 96 ∧ (s.engine e).job = some j ∧ j.faultedOn ≠ []) ∧
    (∃ (s : State) (e : Nat) (j : Job), e < 96 ∧ (s.engine e).job = some j ∧ j.faultedOn = [] ∧ (s.engine e).since + j.kernel.jobTimeout * 1000 < s.clock) ∧
    (∃ (s : State) (j : Job) (rest : List Job), s.lateJob s.eng.queue = some (j, rest)) ∧
    (∃ (s : State) (e : Nat), e < 96 ∧ (s.engine e).job = none ∧ (s.engine e).run = .idle) ∧
    (∃ (s : State) (e : Nat) (j : Job), e < 96 ∧ (s.engine e).job = some j ∧ s.overran e j = true) ∧
    (∃ (s : State) (e : Nat), e < 96 ∧ s.dev.fwRunning = true ∧ (s.engine e).run = .idle ∧ s.eng.queue = [] ∧ s.testDue e = true) ∧
    (∃ (s : State) (e : Nat) (_pass : Bool), e < 96 ∧ ((s.engine e).run = .suspect ∨ (s.dev.fwRunning = true ∧ (s.engine e).run = .selftest))) ∧
    (∃ (s : State) (e : Nat) (_pass : Bool), e < 96 ∧ ((s.engine e).run = .suspect ∨ (s.dev.fwRunning = true ∧ (s.engine e).run = .selftest))) :=
  ⟨⟨working 95 job, 95, .ecc, job, by decide⟩,
   ⟨working 95 { job with faultedOn := [3] }, 95, .check, { job with faultedOn := [3] }, by decide⟩,
   ⟨{ working 95 { job with kernel := { KernelCfg.reset with jobTimeout := 8 } } with clock := 8001 }, 95, { job with kernel := { KernelCfg.reset with jobTimeout := 8 } }, by decide⟩,
   ⟨{ ranging with clock := 40000, eng := { (working 95 job).eng with engines := [], queue := [{ job with waitFrom := some 0 }] } }, { job with waitFrom := some 0 }, [], by decide⟩,
   ⟨idle.setEngine 95 { Engine.reset with run := .idle }, 95, by decide⟩,
   ⟨working 95 job, 95, job, by decide⟩,
   ⟨({ idle with clock := 60000000000 } : State).setEngine 95 { Engine.reset with run := .idle }, 95, by decide⟩,
   ⟨idle.setEngine 95 { Engine.reset with run := .suspect }, 95, false, by decide⟩,
   ⟨idle.setEngine 0 { Engine.reset with run := .selftest }, 0, true, by decide⟩⟩

theorem witness_Rings :
    (∃ (s : State) (n : Nat) (b : Batch), n ≤ 63 ∧ (s.stream n).openBatch = some b ∧ b.openedAt + (s.stream n).cfg.batchTimeout * 1000 ≤ s.clock) ∧
    (∃ (s : State) (n : Nat) (b : Batch) (rest : List Batch), n ≤ 63 ∧ (s.stream n).closed = b :: rest ∧ s.ringOpen n = true ∧ countDiff (s.stream n).ring.pi (s.stream n).ring.ci < (s.stream n).ring.cfg.ringLen ∧ (s.stream n).ring.unconfirmed.length < 64 ∧ s.readDue (s.stream n).ring = false) ∧
    (∃ (s : State) (n : Nat) (b : Batch) (rest : List Batch), n ≤ 63 ∧ (s.stream n).closed = b :: rest ∧ s.ringOpen n = true ∧ (s.stream n).ring.cfg.ringLen ≤ countDiff (s.stream n).ring.pi (s.stream n).ring.ci) ∧
    (∃ (s : State) (n : Nat), n ≤ 63 ∧ 8 ≤ (s.stream n).ring.uncovered) ∧
    (∃ (s : State) (n : Nat) (b : Batch) (rest : List Batch), n ≤ 63 ∧ (s.stream n).closed = b :: rest ∧ (s.stream n).cfg.transport = 1 ∧ (s.stream n).udp.dstMac ≠ 0 ∧ s.net.net.ipAddr ≠ 0 ∧ s.isReady (readyPort (s.egressPort (s.stream n).udp)) = true ∧ s.dev.pfail = false ∧ s.ownLeaves (s.egressPort (s.stream n).udp) (tagQueue (s.ownTag (s.stream n).udp.pcp)) = true ∧ s.dev.warm = false) ∧
    (∃ (s : State) (n : Nat) (q : Queued), n ≤ 63 ∧ q ∈ (s.port (s.egressPort (s.stream n).udp)).queue ∧ q.number ≤ tagQueue (s.ownTag (s.stream n).udp.pcp)) ∧
    (∃ (s : State) (n : Nat), n ≤ 63 ∧ (s.dev.warm = true ∨ s.dev.pfail = true)) ∧
    (∃ (s : State) (n : Nat), n ≤ 63 ∧ (s.stream n).ring.piAdvanced = true ∧ (∀ l, (s.stream n).ring.lastIrq = some l → l + (s.stream n).ring.cfg.irqHoldoff * 1000 ≤ s.clock)) ∧
    (∃ (s : State) (n : Nat) (b : Batch), n ≤ 63 ∧ (s.stream n).ring.unconfirmed.getLast? = some b ∧ 0 < (s.stream n).ring.uncovered ∧ s.dmaOk = true ∧ (s.stream n).ring.reconPending = false ∧ s.dev.pfail = false ∧ (s.eng.streams.map fun x => x.2.ring.reading.length).sum < 256) ∧
    (∃ (s : State) (n : Nat) (k : Nat) (rest : List Nat), n ≤ 63 ∧ (s.stream n).ring.reading = k :: rest ∧ s.dev.pfail = false) ∧
    (∃ (s : State) (_n : Nat) (_ok : Bool), s.dev.pfail = true) ∧
    (∃ (s : State) (_n : Nat), 256 ≤ (s.eng.streams.map fun x => x.2.ring.reading.length).sum) ∧
    (∃ (s : State) (n : Nat) (k : Nat), n ≤ 63 ∧ (s.stream n).ring.reading = [k] ∧ s.dev.pfail = false) ∧
    (∃ (s : State) (v : Nat), s.endpointUp = true ∧ v ≤ 63 ∧ Tab.get false s.regs.pcie.msixPending v = true ∧ s.regs.pcie.busMaster = true ∧ s.regs.pcie.config.msixEnable = true ∧ s.regs.pcie.config.functionMask = false ∧ s.regs.pcie.config.d3hot = false) ∧
    (∃ (s : State) (v : Nat), s.endpointUp = true ∧ v ≤ 63 ∧ Tab.get false s.regs.pcie.msixPending v = false) ∧
    (∃ (s : State) (_v : Nat), s.endpointUp = false) :=
  ⟨⟨({ idle with clock := 100000 } : State).setStream 63 { Stream.reset with openBatch := some batch }, 63, batch, by decide⟩,
   ⟨ringed fun x => { x with closed := [batch] }, 63, batch, [], by decide⟩,
   ⟨ringed fun x => { x with closed := [batch], ring := { x.ring with pi := 5, ci := 0xFFFFFFC5 } }, 63, batch, [], by decide⟩,
   ⟨ringed fun x => { x with closed := [batch], ring := { x.ring with uncovered := 8 } }, 63, by decide⟩,
   ⟨({ idle with net := { idle.net with net := { idle.net.net with ipAddr := 1 } } } : State).setStream 63 { Stream.reset with closed := [batch], cfg := { StreamCfg.reset with transport := 1 }, udp := { UdpCfg.reset with dstMac := 1 } }, 63, batch, [], by decide⟩,
   ⟨(ringed id).setPort 0 { Port.reset with queue := [.own { tag := none, body := .ptp (.sync 0 0) }] }, 63, .own { tag := none, body := .ptp (.sync 0 0) }, by decide⟩,
   ⟨({ ringed id with dev := { idle.dev with pfail := true } } : State), 63, by decide⟩,
   ⟨({ ringed fun x => { x with ring := { x.ring with piAdvanced := true, lastIrq := some 0 } } with clock := 20000 } : State), 63, by decide⟩,
   ⟨ringed fun x => { x with ring := { x.ring with unconfirmed := [batch], uncovered := 1 } }, 63, batch, by decide⟩,
   ⟨ringed fun x => { x with nextIssue := 2, ring := { x.ring with unconfirmed := [batch], reading := [1] } }, 63, 1, [], by decide⟩,
   ⟨({ ringed id with dev := { idle.dev with pfail := true } } : State), 63, true, by decide⟩,
   ⟨ringed (fun x => { x with ring := { x.ring with reading := List.replicate 256 1 } }), 63, by decide +kernel⟩,
   ⟨ringed fun x => { x with ring := { x.ring with unconfirmed := [batch], reading := [1] } }, 63, 1, by decide⟩,
   ⟨{ idle with regs := { idle.regs with pcie := { idle.regs.pcie with msixPending := [(63, true)] } } }, 63, by decide⟩,
   ⟨idle, 63, by decide⟩,
   ⟨perstLow, 63, by decide⟩⟩

theorem witness_RingCommandsAndLinkResets :
    (∃ (s : State) (n : Nat) (cfg : RingCfg), s.admits (.ringConfig n cfg) = true ∧ n ≤ 63 ∧ ringRanges cfg = true ∧ (s.stream n).cfg.transport ≠ 1 ∧ (s.stream n).overlapsPi cfg = false ∧ s.streamRunning n = false ∧ (cfg.replay = 0 → (s.stream n).ring.unconfirmed = [] ∧ (s.stream n).ring.reconPending = false)) ∧
    (∃ (s : State) (n : Nat) (cfg : RingCfg), s.admits (.ringConfig n cfg) = true ∧ n ≤ 63 ∧ ringRanges cfg = true ∧ (s.stream n).cfg.transport ≠ 1 ∧ (s.stream n).overlapsPi cfg = false ∧ s.streamRunning n = false ∧ (cfg.replay = 0 → (s.stream n).ring.unconfirmed = [] ∧ (s.stream n).ring.reconPending = false)) ∧
    (∃ (x : Stream) (cfg : RingCfg), x.ring.unconfirmed = [] ∧ x.ring.reconPending = false ∧ (cfg.base ≠ x.ring.cfg.base ∨ cfg.ringLen ≠ x.ring.cfg.ringLen)) ∧
    (∃ (x : Stream) (cfg : RingCfg), x.ring.unconfirmed = [] ∧ x.ring.reconPending = false ∧ cfg.base = x.ring.cfg.base ∧ cfg.ringLen = x.ring.cfg.ringLen) ∧
    (∃ (s : State) (n : Nat) (cfg : UdpCfg), s.admits (.streamUdpSet n cfg) = true ∧ n ≤ 63 ∧ cfg.dstMac < 2 ^ 48 ∧ cfg.dstIp < 2 ^ 32 ∧ 1 ≤ cfg.dstPort ∧ cfg.dstPort ≤ 65535 ∧ 1 ≤ cfg.srcPort ∧ cfg.srcPort ≤ 65535 ∧ cfg.egress ≤ 3 ∧ cfg.pcp ≤ 7 ∧ s.streamBusy n = false) ∧
    (∃ (s : State) (reads : List (Option Bool)), s.admits (.ringResume reads) = true ∧ s.pendingRings = []) ∧
    (∃ (s : State) (reads : List (Option Bool)), s.admits (.ringResume reads) = true ∧ s.pendingRings ≠ [] ∧ s.dmaOk = true ∧ s.dev.pfail = false ∧ s.dev.warm = false) ∧
    (∃ (s : State) (reads : List (Option Bool)) (n : Nat) (rest : List Nat), s.admits (.ringResume reads) = true ∧ s.pendingRings = n :: rest ∧ s.dmaOk = false ∧ s.dev.pfail = false ∧ s.dev.warm = false) ∧
    (∃ (s : State) (reads : List (Option Bool)), s.admits (.ringResume reads) = true ∧ (s.dev.pfail = true ∨ s.dev.warm = true)) ∧
    (∃ (s : State) (reads : List (Option Bool)), s.admits (.ringResume reads) = true ∧ (s.dev.pfail = true ∨ s.dev.warm = true)) ∧
    (∃ (s : State) (_reads : List (Option Bool)), s.regs.pcie.linkReset = true ∧ s.regs.pcie.linkUp = true ∧ s.dev.fwRunning = true ∧ s.dev.pfail = false ∧ s.dev.warm = false) ∧
    (∃ (s : State) (_reads : List (Option Bool)), s.regs.pcie.linkReset = true ∧ s.regs.pcie.linkUp = true ∧ s.dev.pfail = false ∧ s.dev.warm = true) ∧
    (∃ (s : State) (_reads : List (Option Bool)), s.dev.pfail = true) ∧
    (∃ (s : State) (n : Nat), n ≤ 63 ∧ (s.stream n).ring.cfg.enable = 1) ∧
    (∃ (s : State) (reads : List (Option Bool)) (ks : List (Nat × Nat)), s.survey s.pendingRings reads = .inr ks) :=
  ⟨⟨idle, 63, { enable := 1, base := 4096, ringLen := 65536, piAddr := 0, vector := 63, irqHoldoff := 1000, replay := 0 }, by decide⟩,
   ⟨ringed fun x => { x with ring := { x.ring with unconfirmed := [batch] } }, 63, { enable := 1, base := 4096, ringLen := 64, piAddr := 0, vector := 36, irqHoldoff := 0, replay := 1 }, by decide⟩,
   ⟨Stream.reset, { RingCfg.reset with base := 4096 }, by decide⟩,
   ⟨Stream.reset, { RingCfg.reset with vector := 63 }, by decide⟩,
   ⟨idle, 63, { dstMac := 2 ^ 48 - 1, dstIp := 2 ^ 32 - 1, dstPort := 65535, srcPort := 1, egress := 3, pcp := 7 }, by decide⟩,
   ⟨idle, [], by decide⟩,
   ⟨ringed fun x => { x with ring := { x.ring with reconPending := true } }, [some true], by decide⟩,
   ⟨({ ringed (fun x => { x with ring := { x.ring with reconPending := true } }) with regs := Regs.reset } : State), [some true], 63, [], by decide⟩,
   ⟨{ idle with dev := { idle.dev with warm := true } }, [], by decide⟩,
   ⟨solo (.ringResume []) { idle with dev := { idle.dev with pfail := true, pfailAt := 2000000000 } }, [], by decide⟩,
   ⟨{ ringed (fun x => { x with ring := { x.ring with reconPending := true } }) with regs := { Regs.reset with pcie := { Pcie.reset with linkUp := true, linkReset := true } } }, [], by decide⟩,
   ⟨{ ringed id with dev := { idle.dev with warm := true }, regs := { Regs.reset with pcie := { Pcie.reset with linkUp := true, linkReset := true } } }, [], by decide⟩,
   ⟨{ ringed id with dev := { idle.dev with pfail := true } }, [some true], by decide⟩,
   ⟨ringed id, 63, by decide⟩,
   ⟨ringed fun x => { x with ring := { x.ring with reconPending := true } }, [some true], [(63, 0)], by decide⟩⟩

theorem witness_Fabric :
    (∃ (s : State) (c : Nat) (src : Nat), s.admits (.evchConfig c src) = true ∧ c ≤ 255 ∧ (isProducer src = true ∨ src = 0xFFF) ∧ (s.evch c).sticky = false ∧ s.keyLocked c = false) ∧
    (∃ (s : State) (u : Nat) (slot : Nat) (c : Nat) (en : Nat), s.admits (.evchSubscribe u slot c en) = true ∧ isConsumer u = true ∧ slot ≤ 1 ∧ c ≤ 255 ∧ en ≤ 1 ∧ ((s.subs u).setSlot slot { channel := c, enable := decide (en = 1) }).doubled = false ∧ s.rewiresLocked ((s.subs u).slot slot) { channel := c, enable := decide (en = 1) } = false) ∧
    (∃ (s : State) (c : Nat), s.admits (.evchLock c) = true ∧ c ≤ 255) ∧
    (∃ (s : State) (first : Nat) (count : Nat), s.admits (.evchCountersClear first count) = true ∧ 1 ≤ count ∧ first + count ≤ 256) ∧
    (∃ (s : State) (v : Nat), s.endpointUp = true ∧ v / 2 ^ 31 % 2 = 0 ∧ s.isReady readyFabric = true ∧ s.chLocked (v % 256) = false ∧ (s.evch (v % 256)).holding = none) ∧
    (∃ (s : State) (v : Nat) (e : Event), s.endpointUp = true ∧ v / 2 ^ 31 % 2 = 0 ∧ s.isReady readyFabric = true ∧ s.chLocked (v % 256) = false ∧ (s.evch (v % 256)).holding = some e) ∧
    (∃ (s : State) (v : Nat), s.endpointUp = true ∧ v / 2 ^ 31 % 2 = 0 ∧ s.isReady readyFabric = true ∧ s.chLocked (v % 256) = true) ∧
    (∃ (s : State) (v : Nat), (s.endpointUp = false ∨ (v / 2 ^ 31 % 2 = 0 ∧ s.isReady readyFabric = false))) ∧
    (∃ (s : State) (v : Nat), s.endpointUp = true ∧ v / 2 ^ 31 % 2 = 1) :=
  ⟨⟨idle, 255, 0xFFF, by decide⟩,
   ⟨idle, 0x8AF, 1, 255, 1, by decide⟩,
   ⟨idle, 255, by decide⟩,
   ⟨idle, 0, 256, by decide⟩,
   ⟨idle, 0x7FFFFFFF, by decide⟩,
   ⟨idle.setEvch 255 { EvChannel.reset with holding := some { time := 0, gen := 0 } }, 255, { time := 0, gen := 0 }, by decide⟩,
   ⟨idle.setEvch 255 { EvChannel.reset with sticky := true }, 255, by decide⟩,
   ⟨perstLow, 1, by decide⟩,
   ⟨{ idle with fab := { idle.fab with fireRejected := true } }, 0x80000000, by decide⟩⟩

theorem witness_DeliveryWaves :
    (∃ (s : State) (p : Nat) (gen : Nat) (c : Nat) (_τ : Tq), s.isReady readyFabric = true ∧ p ≠ 0xFFF ∧ (s.evch c).source = p ∧ 8 ≤ gen) ∧
    (∃ (s : State) (p : Nat) (gen : Nat) (c : Nat) (_τ : Tq), s.isReady readyFabric = true ∧ p ≠ 0xFFF ∧ (s.evch c).source = p ∧ gen < 8 ∧ (s.evch c).holding = none) ∧
    (∃ (s : State) (p : Nat) (gen : Nat) (c : Nat) (_τ : Tq) (e : Event), s.isReady readyFabric = true ∧ p ≠ 0xFFF ∧ (s.evch c).source = p ∧ gen < 8 ∧ (s.evch c).holding = some e) ∧
    (∃ (s : State) (p : Nat) (_gen : Nat) (c : Nat) (_τ : Tq), (s.evch c).source ≠ p) ∧
    (∃ (s : State), s.isReady readyFabric = true) ∧
    (∃ (s : State) (n : Nat) (x : Subs) (p : Nat × Event) (rest : Wave), s.isReady readyFabric = true ∧ n ≤ 15 ∧ (s.fab.subs.map (·.1)).Nodup ∧ (0x8A0 + n, x) ∈ s.fab.subs ∧ x.arrivals s.wave = p :: rest ∧ (s.hev n).valid = false) ∧
    (∃ (s : State) (n : Nat) (x : Subs), s.isReady readyFabric = true ∧ n ≤ 15 ∧ (s.fab.subs.map (·.1)).Nodup ∧ (0x8A0 + n, x) ∈ s.fab.subs ∧ (s.hev n).valid = true) ∧
    (∃ (s : State) (n : Nat) (x : Subs) (p : Nat × Event) (rest : Wave), s.isReady readyFabric = true ∧ n ≤ 7 ∧ (s.fab.subs.map (·.1)).Nodup ∧ (0x890 + 2 * n, x) ∈ s.fab.subs ∧ x.arrivals s.wave = p :: rest ∧ (s.seq n).running = true ∧ (s.seq n).jump = none) ∧
    (∃ (s : State) (n : Nat) (x : Subs) (p : Nat × Event) (rest : Wave), s.isReady readyFabric = true ∧ n ≤ 7 ∧ (s.fab.subs.map (·.1)).Nodup ∧ (0x891 + 2 * n, x) ∈ s.fab.subs ∧ x.arrivals s.wave = p :: rest ∧ (s.seq n).running = true ∧ (s.seq n).cond = false) ∧
    (∃ (s : State) (n : Nat) (j : Nat) (x : Subs) (p : Nat × Event) (rest : Wave), s.isReady readyFabric = true ∧ n ≤ 7 ∧ (s.fab.subs.map (·.1)).Nodup ∧ (0x890 + 2 * n, x) ∈ s.fab.subs ∧ x.arrivals s.wave = p :: rest ∧ (s.seq n).running = true ∧ (s.seq n).jump = some j) ∧
    (∃ (s : State) (n : Nat) (x : Subs) (p : Nat × Event) (rest : Wave), s.isReady readyFabric = true ∧ n ≤ 7 ∧ (s.fab.subs.map (·.1)).Nodup ∧ (0x891 + 2 * n, x) ∈ s.fab.subs ∧ x.arrivals s.wave = p :: rest ∧ (s.seq n).running = true ∧ (s.seq n).cond = true) ∧
    (∃ (s : State) (n : Nat), s.isReady readyFabric = true ∧ n ≤ 7 ∧ (s.seq n).running = false) ∧
    (∃ (s : State) (o : Nat) (x : Subs), s.isReady readyFabric = true ∧ o ≤ 135 ∧ (s.fab.subs.map (·.1)).Nodup ∧ (0x800 + o, x) ∈ s.fab.subs) ∧
    (∃ (s : State), s.isReady readyFabric = false) :=
  ⟨⟨idle.setEvch 255 { EvChannel.reset with source := 5 }, 5, 8, 255, 7, by decide⟩,
   ⟨idle.setEvch 255 { EvChannel.reset with source := 5 }, 5, 7, 255, 7, by decide⟩,
   ⟨idle.setEvch 255 { EvChannel.reset with source := 5, holding := some { time := 1, gen := 0 } }, 5, 7, 255, 7, { time := 1, gen := 0 }, by decide⟩,
   ⟨idle, 5, 0, 255, 7, by decide⟩,
   ⟨woken 0x8AF idle, by decide⟩,
   ⟨woken 0x8AF idle, 15, { sub0 := { channel := 254, enable := true }, sub1 := { channel := 255, enable := true } }, (255, { time := 7, gen := 0 }), [(254, { time := 8, gen := 7 })], by decide⟩,
   ⟨woken 0x8AF (idle.setHev 15 { Hev.reset with valid := true }), 15, { sub0 := { channel := 254, enable := true }, sub1 := { channel := 255, enable := true } }, by decide⟩,
   ⟨woken 0x890 ranging, 0, { sub0 := { channel := 254, enable := true }, sub1 := { channel := 255, enable := true } }, (255, { time := 7, gen := 0 }), [(254, { time := 8, gen := 7 })], by decide⟩,
   ⟨woken 0x891 ranging, 0, { sub0 := { channel := 254, enable := true }, sub1 := { channel := 255, enable := true } }, (255, { time := 7, gen := 0 }), [(254, { time := 8, gen := 7 })], by decide⟩,
   ⟨woken 0x890 (ranging.setSeq 0 { playing with jump := some 2 }), 0, 2, { sub0 := { channel := 254, enable := true }, sub1 := { channel := 255, enable := true } }, (255, { time := 7, gen := 0 }), [(254, { time := 8, gen := 7 })], by decide⟩,
   ⟨woken 0x891 (ranging.setSeq 0 { playing with cond := true }), 0, { sub0 := { channel := 254, enable := true }, sub1 := { channel := 255, enable := true } }, (255, { time := 7, gen := 0 }), [(254, { time := 8, gen := 7 })], by decide⟩,
   ⟨woken 0x890 idle, 0, by decide⟩,
   ⟨woken 0x887 idle, 135, { sub0 := { channel := 254, enable := true }, sub1 := { channel := 255, enable := true } }, by decide⟩,
   ⟨devAs fun d => { d with ready := 0 }, by decide⟩⟩

theorem witness_Doorbells :
    (∃ (s : State) (n : Nat) (v : Nat), s.endpointUp = true ∧ n ≤ 7 ∧ v % 65536 ≤ (s.seq n).ringFree ∧ 0 < (s.seq n).cfg.streamLen) ∧
    (∃ (s : State) (n : Nat) (v : Nat), s.endpointUp = true ∧ n ≤ 7 ∧ (s.seq n).ringFree < v % 65536) ∧
    (∃ (s : State) (n : Nat) (v : Nat), s.endpointUp = true ∧ n ≤ 7 ∧ v / 2 ^ 31 % 2 = 1) ∧
    (∃ (s : State) (n : Nat) (v : Nat), s.endpointUp = true ∧ n ≤ 7 ∧ v / 2 ^ 31 % 2 = 0) ∧
    (∃ (s : State) (n : Nat) (v : Nat), s.endpointUp = true ∧ n ≤ 63 ∧ countDiff (BitVec.ofNat 32 v) (s.stream n).ring.ci ≤ countDiff (s.stream n).ring.pi (s.stream n).ring.ci) ∧
    (∃ (s : State) (n : Nat) (v : Nat), s.endpointUp = true ∧ n ≤ 63 ∧ countDiff (s.stream n).ring.pi (s.stream n).ring.ci < countDiff (BitVec.ofNat 32 v) (s.stream n).ring.ci) ∧
    (∃ (s : State) (n : Nat) (v : Nat), s.endpointUp = true ∧ n ≤ 63 ∧ v / 2 ^ 31 % 2 = 1) ∧
    (∃ (_s : State) (n : Nat) (v : Nat), n ≤ 63 ∧ v / 2 ^ 31 % 2 = 0) ∧
    (∃ (s : State) (_n : Nat) (_v : Nat), s.endpointUp = false) ∧
    (∃ (s : State) (n : Nat) (v : Nat), s.endpointUp = true ∧ n ≤ 15 ∧ v / 2 ^ 31 % 2 = 1) ∧
    (∃ (_s : State) (n : Nat) (v : Nat), n ≤ 15 ∧ v / 2 ^ 31 % 2 = 0) ∧
    (∃ (s : State) (n : Nat) (_v : Nat), s.endpointUp = true ∧ n ≤ 15) ∧
    (∃ (s : State) (n : Nat) (v : Nat), s.endpointUp = true ∧ n ≤ 15 ∧ v % 2 ^ 32 = 0xFFFFFFFF) ∧
    (∃ (s : State) (_n : Nat) (_v : Nat), s.endpointUp = false) ∧
    (∃ (s : State) (m : Nat) (v : Nat) (_fs : List Frame), m ≤ 31 ∧ s.endpointUp = true ∧ countDiff (s.box m).cmdPi (s.box m).rspCi ≤ countDiff (BitVec.ofNat 32 v) (s.box m).rspCi ∧ countDiff (BitVec.ofNat 32 v) (s.box m).rspCi ≤ 8) ∧
    (∃ (s : State) (m : Nat) (v : Nat) (_fs : List Frame), m ≤ 31 ∧ s.endpointUp = true ∧ (countDiff (BitVec.ofNat 32 v) (s.box m).rspCi < countDiff (s.box m).cmdPi (s.box m).rspCi ∨ 8 < countDiff (BitVec.ofNat 32 v) (s.box m).rspCi)) ∧
    (∃ (s : State) (m : Nat) (v : Nat), m ≤ 31 ∧ s.endpointUp = true ∧ countDiff (BitVec.ofNat 32 v) (s.box m).rspCi ≤ countDiff (s.box m).rspPi (s.box m).rspCi) ∧
    (∃ (s : State) (m : Nat) (v : Nat), m ≤ 31 ∧ s.endpointUp = true ∧ countDiff (s.box m).rspPi (s.box m).rspCi < countDiff (BitVec.ofNat 32 v) (s.box m).rspCi) ∧
    (∃ (s : State) (m : Nat) (v : Nat), m ≤ 31 ∧ s.endpointUp = true ∧ v / 2 ^ 31 % 2 = 1) ∧
    (∃ (_s : State) (_m : Nat) (v : Nat), v / 2 ^ 31 % 2 = 0) ∧
    (∃ (s : State) (_m : Nat) (_v : Nat) (_fs : List Frame), s.endpointUp = false) :=
  ⟨⟨idle.setSeq 7 { SeqState.reset with cfg := { SeqCfg.reset with streamLen := 8 }, rd := 3, wr := 3 }, 7, 0x10006, by decide⟩,
   ⟨idle.setSeq 7 { SeqState.reset with cfg := { SeqCfg.reset with streamLen := 8 }, rd := 3, wr := 2 }, 7, 1, by decide⟩,
   ⟨idle.setSeq 7 { SeqState.reset with pushErr := true }, 7, 0x80000000, by decide⟩,
   ⟨idle.setSeq 7 { SeqState.reset with pushErr := true }, 7, 0x7FFFFFFF, by decide⟩,
   ⟨ringed fun x => { x with ring := { x.ring with pi := 3, ci := 0xFFFFFFFE } }, 63, 3, by decide⟩,
   ⟨ringed fun x => { x with ring := { x.ring with pi := 3, ci := 0xFFFFFFFE } }, 63, 4, by decide⟩,
   ⟨ringed fun x => { x with ring := { x.ring with ciErr := true } }, 63, 0x80000000, by decide⟩,
   ⟨ringed fun x => { x with ring := { x.ring with ciErr := true } }, 63, 0x7FFFFFFF, by decide⟩,
   ⟨perstLow, 63, 1, by decide⟩,
   ⟨idle.setHev 15 { Hev.reset with valid := true }, 15, 0x80000000, by decide⟩,
   ⟨idle.setHev 15 { Hev.reset with valid := true }, 15, 0x7FFFFFFF, by decide⟩,
   ⟨idle.setHev 15 { Hev.reset with overrun := 5 }, 15, 0xFFFFFFFE, by decide⟩,
   ⟨idle.setHev 15 { Hev.reset with overrun := 5 }, 15, 0xFFFFFFFF, by decide⟩,
   ⟨perstLow, 15, 0xFFFFFFFF, by decide⟩,
   ⟨idle.setBox 31 { Mailbox.reset with cmdPi := 0xFFFFFFFF, rspCi := 0xFFFFFFFC, rspPi := 0xFFFFFFFE }, 31, 4, [], by decide⟩,
   ⟨idle.setBox 31 { Mailbox.reset with cmdPi := 0xFFFFFFFF, rspCi := 0xFFFFFFFC, rspPi := 0xFFFFFFFE }, 31, 5, [], by decide⟩,
   ⟨idle.setBox 31 { Mailbox.reset with rspPi := 1, rspCi := 0xFFFFFFFF }, 31, 1, by decide⟩,
   ⟨idle.setBox 31 { Mailbox.reset with rspPi := 1, rspCi := 0xFFFFFFFF }, 31, 2, by decide⟩,
   ⟨idle.setBox 31 { Mailbox.reset with err := true }, 31, 0x80000000, by decide⟩,
   ⟨idle.setBox 31 { Mailbox.reset with err := true }, 31, 0x7FFFFFFF, by decide⟩,
   ⟨perstLow, 31, 1, [], by decide⟩⟩

theorem witness_PolestarSteps :
    (∃ (s : State) (d : Int), d % 1024 = 0 ∧ 0 ≤ s.now + d ∧ s.now + d < 2 ^ 64 * tqPerSec) ∧
    (∃ (s : State) (time : FullTime), s.admits (.timeSet time) = true ∧ time.ok = true ∧ time.fns = 0 ∧ s.anySlave = false ∧ s.isReady readyTimebase = true ∧ (s.now ≤ time.tq ∨ (s.anyRunning = false ∧ s.gateOpen = false))) ∧
    (∃ (s : State) (time : FullTime), s.admits (.timeSet time) = true ∧ time.ok = true ∧ time.fns = 0 ∧ s.anySlave = false ∧ s.isReady readyTimebase = true ∧ (s.now ≤ time.tq ∨ (s.anyRunning = false ∧ s.gateOpen = false))) ∧
    (∃ (s : State), s.admits .timeStepAccept = true ∧ s.net.stepRefused = true ∧ s.tb.source ≠ .holdover ∧ s.stepAllowed s.acceptStep = true) ∧
    (∃ (s : State) (o : Int) (os : List Int), s.net.offsets = o :: os ∧ 0 ≤ s.now % (2 ^ 48 * tqPerSec) + roundAway (-(roundDiv (os.foldl (· + ·) (0 + o)) (os.length + 1))) 1024 * 1024 ∧ s.now % (2 ^ 48 * tqPerSec) + roundAway (-(roundDiv (os.foldl (· + ·) (0 + o)) (os.length + 1))) 1024 * 1024 < 2 ^ 48 * tqPerSec) ∧
    (∃ (s : State) (v : Nat), s.admits (.timeSetSecHi v) = true ∧ v ≤ 65535 ∧ s.dev.run ≠ .readyIdle) ∧
    (∃ (s : State) (v : Nat), s.admits (.timeSetSecHi v) = true ∧ v ≤ 65535 ∧ s.dev.run = .readyIdle ∧ (s.tb.sec.toNat / 2 ^ 48 ≤ v ∨ (s.anyRunning = false ∧ s.gateOpen = false))) ∧
    (∃ (s : State) (v : Nat), s.admits (.timeSetSecHi v) = true ∧ v ≤ 65535 ∧ s.dev.run = .readyIdle ∧ (s.tb.sec.toNat / 2 ^ 48 ≤ v ∨ (s.anyRunning = false ∧ s.gateOpen = false))) ∧
    (∃ (s : State) (v : Nat), s.admits (.timeSetSecHi v) = true ∧ v < s.tb.sec.toNat / 2 ^ 48 ∧ (s.anyRunning = true ∨ s.gateOpen = true)) :=
  ⟨⟨idle, -1000 * tqPerSec, by decide⟩,
   ⟨idle, FullTime.ofTq (999 * tqPerSec), by decide⟩,
   ⟨ranging, FullTime.ofTq (1000 * tqPerSec), by decide⟩,
   ⟨{ idle with net := { idle.net with stepRefused := true, offsets := [-2048000, -2048000, -2048000, -2048000] } }, by decide⟩,
   ⟨{ idle with net := { idle.net with stepRefused := true, offsets := [-2048000, -1024001] } }, -2048000, [-1024001], by decide⟩,
   ⟨{ idle with dev := { idle.dev with run := .ranging } }, 65535, by decide⟩,
   ⟨idle, 1, by decide⟩,
   ⟨idle, 0, by decide⟩,
   ⟨{ ranging with dev := { ranging.dev with run := .readyIdle }, tb := { ranging.tb with sec := 2 ^ 48 } }, 0, by decide⟩⟩

theorem witness_TimePins :
    (∃ (s : State) (n : Nat) (cfg : AlarmCfg), s.admits (.alarmSet n cfg) = true ∧ n ≤ 15 ∧ cfg.time.ok = true ∧ cfg.time.onTq = true ∧ (cfg.period = 0 ∨ (1024000 ≤ cfg.period ∧ cfg.period ≤ 1099511627775)) ∧ cfg.enable ≤ 1 ∧ cfg.epochHold ≤ 1 ∧ (cfg.enable = 1 → s.now ≤ cfg.time.tq)) ∧
    (∃ (s : State) (n : Nat), s.admits (.alarmCancel n) = true ∧ n ≤ 15) ∧
    (∃ (s : State) (n : Nat), n ≤ 15 ∧ (s.alarm n).armed = true ∧ s.isReady readyTimebase = true ∧ s.reached ((s.alarm n).cfg.time.tq + ((s.alarm n).next : Int) * (s.alarm n).cfg.period) = true) ∧
    (∃ (s : State) (n : Nat), n ≤ 15 ∧ s.reached ((s.alarm n).cfg.time.tq + ((s.alarm n).next : Int) * (s.alarm n).cfg.period) = false) ∧
    (∃ (s : State) (v : Nat), s.endpointUp = true ∧ v % 2 = 1) ∧
    (∃ (_s : State) (v : Nat), v % 2 = 0) ∧
    (∃ (s : State), s.tb.snap.pending = true ∧ s.tb.ns ≤ 999999999) ∧
    (∃ (s : State) (cfg : SyncCfg), s.admits (.syncConfig cfg) = true ∧ s.tb.sync.pending = none ∧ cfg.mode ≤ 2 ∧ cfg.g0.ok = true ∧ cfg.g0.onTq = true ∧ 1 ≤ cfg.period ∧ cfg.period ≤ 1000 ∧ cfg.cableDelay ≤ 4294967295 ∧ 1 ≤ cfg.avg ∧ cfg.avg ≤ 256) ∧
    (∃ (s : State) (o : Int) (os : List Int), s.admits .syncResult = true ∧ s.tb.sync.pending = none ∧ s.tb.sync.offsets.take s.tb.sync.cfg.avg = o :: os) ∧
    (∃ (s : State), s.admits .syncResult = true ∧ s.tb.sync.pending = none ∧ s.tb.sync.offsets.take s.tb.sync.cfg.avg = []) ∧
    (∃ (s : State), s.tb.sync.pending = none ∧ s.tb.sync.cfg.mode = 1 ∧ s.tb.sync.repeats.head?.any s.reached = false ∧ s.reached (syncGrid s.tb.sync.cfg s.tb.sync.nextPulse) = true) ∧
    (∃ (s : State) (r : Tq) (rs : List Tq), s.tb.sync.pending = none ∧ s.tb.sync.repeats = r :: rs ∧ s.reached r = true) ∧
    (∃ (s : State), s.tb.sync.pending = none ∧ s.tb.sync.cfg.mode ≠ 1 ∧ s.reached (syncGrid s.tb.sync.cfg s.tb.sync.nextCheck + 10240000) = true) ∧
    (∃ (s : State), s.tb.sync.pending = none ∧ s.tb.sync.cfg.mode ≠ 1 ∧ s.reached (syncGrid s.tb.sync.cfg s.tb.sync.nextCheck + 10240000) = true) :=
  ⟨⟨idle, 15, { time := FullTime.ofTq (1000 * tqPerSec), period := 1024000, enable := 1, epochHold := 1 }, by decide⟩,
   ⟨idle.setAlarm 15 (alarmAt 0 0), 15, by decide⟩,
   ⟨idle.setAlarm 15 (alarmAt (1000 * tqPerSec + 1023) 0), 15, by decide⟩,
   ⟨idle.setAlarm 15 (alarmAt (1000 * tqPerSec + 1024) 0), 15, by decide⟩,
   ⟨idle, 1, by decide⟩,
   ⟨idle, 0xFFFFFFFE, by decide⟩,
   ⟨{ idle with tb := { idle.tb with ns := 999999999, snap := { idle.tb.snap with pending := true } } }, by decide⟩,
   ⟨idle, { mode := 2, g0 := FullTime.zero, period := 1000, cableDelay := 4294967295, avg := 256 }, by decide⟩,
   ⟨{ idle with tb := { idle.tb with sync := { idle.tb.sync with offsets := [-3, 4] } } }, -3, [4], by decide⟩,
   ⟨idle, by decide⟩,
   ⟨{ idle with tb := { idle.tb with sync := { idle.tb.sync with cfg := { idle.tb.sync.cfg with mode := 1 } } } }, by decide⟩,
   ⟨{ idle with tb := { idle.tb with sync := { idle.tb.sync with cfg := { idle.tb.sync.cfg with mode := 2 }, repeats := [1000 * tqPerSec + 1023, 1000 * tqPerSec + 30000] } } }, 1000 * tqPerSec + 1023, [1000 * tqPerSec + 30000], by decide⟩,
   ⟨{ idle with tb := { idle.tb with sync := { idle.tb.sync with nextCheck := 7, stamps := [syncGrid idle.tb.sync.cfg 7] } } }, by decide⟩,
   ⟨{ idle with tb := { idle.tb with sync := { idle.tb.sync with nextCheck := 7 } } }, by decide⟩⟩

theorem witness_PllCommands :
    (∃ (s : State) (cfg : PllCfg), s.admits (.pllConfig cfg) = true ∧ pllRanges cfg = true ∧ cfg.dt = s.pll.cfg.dt) ∧
    (∃ (s : State) (cfg : PllCfg), s.admitsWait (.pllConfig cfg) = true ∧ pllRanges cfg = true ∧ cfg.dt ≠ s.pll.cfg.dt ∧ s.dev.run ≠ .boot ∧ s.dev.run ≠ .selfTest ∧ s.pll.anyUsable = true ∧ s.pll.relocking = false ∧ s.pll.forced = none ∧ s.ranging = false ∧ s.anyRunning = false) ∧
    (∃ (s : State) (cfg : PllRefCfg), s.admits (.pllRefConfig cfg) = true ∧ refRanges cfg = true ∧ s.refChanges cfg = false) ∧
    (∃ (s : State) (cfg : PllRefCfg), s.admitsWait (.pllRefConfig cfg) = true ∧ refRanges cfg = true ∧ s.refChanges cfg = true ∧ s.dev.run ≠ .boot ∧ s.dev.run ≠ .selfTest ∧ (s.refFields cfg).planRef (.ref s.pll.refInUse (refFreq cfg s.pll.refInUse) (refDiv cfg s.pll.refInUse)) = true ∧ s.pll.relocking = false ∧ s.pll.forced = none ∧ s.ranging = false ∧ s.anyRunning = false) ∧
    (∃ (s : State), s.admitsWait .pllRecal = true ∧ s.dev.run ≠ .boot ∧ s.dev.run ≠ .selfTest ∧ s.pll.anyUsable = true ∧ s.pll.relocking = false ∧ s.pll.forced = none ∧ s.ranging = false ∧ s.anyRunning = false) ∧
    (∃ (s : State), s.admitsWait .pllRecal = true ∧ s.pll.anyUsable = true ∧ s.pll.relocking = false ∧ s.pll.forced = none ∧ s.ranging = true ∧ s.pll.cfg.force ≠ 0 ∧ s.anyRunning = true) ∧
    (∃ (s : State) (e : Nat) (h : HopEntry), s.admitsWait (.pllHop e) = true ∧ e ≤ 15 ∧ s.hop e = some h ∧ s.dev.run ≠ .boot ∧ s.dev.run ≠ .selfTest ∧ s.planRef (.hop e) = true ∧ s.pll.relocking = false ∧ s.pll.forced = none ∧ s.ranging = false ∧ s.anyRunning = false) ∧
    (∃ (s : State), s.admits (.pllSyncArm 1) = true ∧ s.tb.sync.pending = none ∧ s.tb.sync.cfg.mode ≠ 1 ∧ (s.pll.run = .startup ∨ s.pll.run = .test ∨ s.pll.run = .recovery)) ∧
    (∃ (s : State), s.admits (.pllSyncArm 0) = true ∧ s.tb.sync.pending = none) ∧
    (∃ (s : State), s.admits (.pllTestMode 1) = true ∧ (s.dev.run = .readyIdle ∨ s.dev.run = .nadir) ∧ s.pll.armed = false) ∧
    (∃ (s : State), s.admits (.pllTestMode 0) = true ∧ (s.dev.run = .readyIdle ∨ s.dev.run = .nadir) ∧ s.pll.run = .test ∧ s.pll.armed = false) ∧
    (∃ (s : State) (e : Nat), s.admits (.pllTestMode e) = true ∧ e ≤ 1 ∧ s.pll.armed = true) ∧
    (∃ (s : State), s.admits .pllCountersClear = true) ∧
    (∃ (s : State) (k : Nat) (cfg : CkoCfg), s.admits (.ckoConfig k cfg) = true ∧ k ≤ 11 ∧ ckoRanges cfg = true ∧ tooFast s.pll.cfg.dt cfg = false ∧ ((s.cko k).cfg.enable ≠ 1 ∨ ckoDiffers (s.cko k).cfg (takenFields cfg (s.cko k).cfg) = false)) ∧
    (∃ (s : State) (e : Nat), s.admits (.pllHopStore e true) = true ∧ e ≤ 15 ∧ s.pll.locked = true ∧ s.isReady readyRetention = true) :=
  ⟨⟨idle, { idle.pll.cfg with loopBw := 3, ditherSeed := 16777215 }, by decide⟩,
   ⟨refsOk, { refsOk.pll.cfg with dt := 12 }, by decide⟩,
   ⟨idle, { idle.pll.refCfg with refMode := 3, revertHold := 60 }, by decide⟩,
   ⟨refsOk, { refsOk.pll.refCfg with refaRdiv := 2 }, by decide⟩,
   ⟨refsOk, by decide⟩,
   ⟨forcing, by decide⟩,
   ⟨refsOk.setHop 15 (some { dt := 9, ref := 0, freq := 25000000, rdiv := 1, band := 5, temp := 200 }), 15, { dt := 9, ref := 0, freq := 25000000, rdiv := 1, band := 5, temp := 200 }, by decide⟩,
   ⟨{ idle with pll := { idle.pll with run := .test } }, by decide⟩,
   ⟨{ idle with pll := { idle.pll with armed := true } }, by decide⟩,
   ⟨idle, by decide⟩,
   ⟨{ idle with pll := { idle.pll with run := .test } }, by decide⟩,
   ⟨{ idle with pll := { idle.pll with armed := true } }, 1, by decide⟩,
   ⟨{ idle with pll := { idle.pll with unlocks := 7 } }, by decide⟩,
   ⟨idle, 11, { mode := 1, enable := 1, fmt := 3, swing := 7, pol := 1, div := 65536, phase := 65535, ldiv := 1024, ldelay := 255 }, by decide⟩,
   ⟨idle, 15, by decide⟩⟩

theorem witness_PllEvents :
    (∃ (s : State), s.pll.refCfg.refMode = 2 ∧ s.pll.refInUse = 1 ∧ s.pll.refA.valid = true ∧ s.pll.refA.validSince + s.pll.refCfg.revertHold * 1000000000 ≤ s.clock ∧ s.pll.locked = true) ∧
    (∃ (s : State) (cause : UnlockCause), s.pll.locked = true ∧ (cause = .noReference → s.pll.anyUsable = false)) ∧
    (∃ (s : State) (r : Int), s.pll.locked = false ∧ s.pll.reacquiring = true ∧ r.natAbs ≤ 4) :=
  ⟨⟨{ refsOk with clock := 10000000000, pll := { refsOk.pll with refInUse := 1 } }, by decide⟩,
   ⟨({ ranging with pll := { ranging.pll with ckos := [(0, { Cko.reset with gated := false })] } } : State), .noReference, by decide⟩,
   ⟨{ refsOk with pll := { refsOk.pll with locked := false, run := .relock, reacquiring := true } }, -4, by decide⟩⟩

theorem witness_NetworkCommands :
    (∃ (s : State) (cfg : PtpCfg), s.admits (.ptpConfig cfg) = true ∧ ptpRanges cfg = true ∧ ptpMoves s.net.ptp cfg = false) ∧
    (∃ (s : State) (_o : Int) (cfg : PtpCfg), s.net.newPtp = some cfg) ∧
    (∃ (s : State) (cfg : PtpCfg), s.admits (.ptpConfig cfg) = true ∧ ptpRanges cfg = true ∧ ptpMoves s.net.ptp cfg = true ∧ s.anyRunning = false) ∧
    (∃ (s : State) (n : Nat) (cfg : PtpPortCfg), s.admits (.ptpPortConfig n cfg) = true ∧ n ≤ 2 ∧ ptpPortRanges cfg = true ∧ s.resetting 2 n = false) ∧
    (∃ (s : State) (n : Nat), (s.port n).newCfg = none) ∧
    (∃ (s : State) (n : Nat) (cfg : PtpPortCfg), (s.port n).newCfg = some cfg ∧ cfg.ptpEn = (s.port n).cfg.ptpEn) ∧
    (∃ (s : State) (n : Nat) (cfg : PtpPortCfg), n ≤ 2 ∧ (s.port n).newCfg = some cfg ∧ cfg.ptpEn ≠ (s.port n).cfg.ptpEn) ∧
    (∃ (s : State) (n : Nat) (cfg : PtpPortCfg), n ≤ 2 ∧ (s.port n).newCfg = some cfg ∧ cfg.ptpEn ≠ (s.port n).cfg.ptpEn ∧ (∀ k, k ≤ 2 → k ≠ n → (s.port k).best = none)) ∧
    (∃ (s : State) (cfg : BridgeCfg) (flush : Nat), s.admits (.bridgeConfig cfg flush) = true ∧ 10 ≤ cfg.ageTime ∧ cfg.ageTime ≤ 3600 ∧ cfg.learn ≤ 7 ∧ flush ≤ 1) ∧
    (∃ (s : State) (cfg : NetCfg), s.admits (.netConfig cfg) = true ∧ netRanges cfg = true ∧ (cfg.mtu ≠ s.net.net.mtu → s.mtuBreaks cfg.mtu = false) ∧ (cfg.ipAddr ≠ s.net.net.ipAddr ∨ cfg.vlanId ≠ s.net.net.vlanId → s.smiurnOn = false)) :=
  ⟨⟨idle, { idle.net.ptp with domain := 0, stepThresh := 102400, servoBw := 2 }, by decide⟩,
   ⟨{ idle with net := { idle.net with newPtp := some { idle.net.ptp with priority1 := 3 } } }, 100, { idle.net.ptp with priority1 := 3 }, by decide⟩,
   ⟨idle, { idle.net.ptp with role := 1 }, by decide⟩,
   ⟨idle, 2, { Port.reset.cfg with asym := -1048576, announceTimeout := 10 }, by decide⟩,
   ⟨idle, 2, by decide⟩,
   ⟨idle.setPort 2 { Port.reset with newCfg := some { Port.reset.cfg with asym := 1 } }, 2, { Port.reset.cfg with asym := 1 }, by decide⟩,
   ⟨idle.setPort 2 { Port.reset with run := .slave, newCfg := some { Port.reset.cfg with ptpEn := 0 } }, 2, { Port.reset.cfg with ptpEn := 0 }, by decide⟩,
   ⟨idle.setPort 2 { Port.reset with run := .slave, newCfg := some { Port.reset.cfg with ptpEn := 0 } }, 2, { Port.reset.cfg with ptpEn := 0 }, by decide⟩,
   ⟨{ idle with net := { idle.net with macs := [(5, { port := 1, seen := 0 })] } }, { ageTime := 3600, learn := 7 }, 1, by decide⟩,
   ⟨idle, { idle.net.net with ipAddr := 4294967295, netmask := 30, mtu := 9000, mbxUdpBase := 65528 }, by decide⟩⟩

theorem witness_NetworkEvents :
    (∃ (s : State) (n : Nat) (udp : Bool) (a : AnnounceMsg), n ≤ 2 ∧ s.ptpOn n = true ∧ s.speaks ⟨s.net.ptp.domain, udp, none, .announce a⟩ = true ∧ s.net.ptp.role = 0 ∧ a.steps < 255 ∧ (∀ k, k ≤ 2 → (s.port k).best = none) ∧ s.net.master ≠ some a.master) ∧
    (∃ (s : State) (n : Nat) (_udp : Bool) (a : AnnounceMsg) (b : AnnounceMsg), n ≤ 2 ∧ (s.port n).best = some b ∧ b.sender ≠ a.sender ∧ lexLt (announceRank a n) (announceRank b n) = false) ∧
    (∃ (s : State) (n : Nat) (_udp : Bool) (t1 : Int) (t2 : Int) (t3 : Int) (t4 : Int) (c1 : Int) (c2 : Int) (o : Int) (d : Int), n ≤ 2 ∧ s.ptpOn n = true ∧ s.net.ptp.profile = 0 ∧ (s.port n).newCfg = none ∧ (s.port n).run = .slave ∧ d = (s.port n).pathDelay t1 t2 t3 t4 (c1 + c2) ∧ o = (s.port n).offset t1 t2 c1 d ∧ s.net.newPtp = none ∧ o.natAbs < s.net.ptp.stepThresh ∧ s.net.stepRefused = false ∧ s.tb.source ≠ .holdover) ∧
    (∃ (s : State) (n : Nat) (_udp : Bool) (t1 : Int) (t2 : Int) (t3 : Int) (t4 : Int) (c1 : Int) (c2 : Int) (o : Int) (d : Int), n ≤ 2 ∧ s.ptpOn n = true ∧ s.net.ptp.profile = 0 ∧ (s.port n).newCfg = none ∧ (s.port n).run = .slave ∧ d = (s.port n).pathDelay t1 t2 t3 t4 (c1 + c2) ∧ o = (s.port n).offset t1 t2 c1 d ∧ s.net.newPtp = none ∧ s.net.ptp.stepThresh ≤ o.natAbs) ∧
    (∃ (s : State) (n : Nat) (_udp : Bool) (t1 : Int) (t2 : Int) (t3 : Int) (t4 : Int) (c1 : Int) (c2 : Int) (o : Int) (d : Int), n ≤ 2 ∧ s.ptpOn n = true ∧ s.net.ptp.profile = 0 ∧ (s.port n).newCfg = none ∧ (s.port n).run = .slave ∧ d = (s.port n).pathDelay t1 t2 t3 t4 (c1 + c2) ∧ o = (s.port n).offset t1 t2 c1 d ∧ s.net.newPtp = none ∧ s.net.ptp.stepThresh ≤ o.natAbs) ∧
    (∃ (s : State) (n : Nat) (t1 : Int) (t2 : Int) (c : Int) (o : Int), n ≤ 2 ∧ s.ptpOn n = true ∧ s.net.ptp.profile ≠ 0 ∧ (s.port n).newCfg = none ∧ (s.port n).run = .slave ∧ o = (s.port n).offset t1 t2 c (s.port n).meanDelay) ∧
    (∃ (s : State) (n : Nat) (_sent : Int) (_received : Int) (_c : Int), n ≤ 2 ∧ s.ptpOn n = true ∧ s.net.ptp.profile ≠ 0 ∧ (s.port n).newCfg = none) ∧
    (∃ (s : State) (n : Nat) (_q : Nat) (_udp : Bool) (_received : Int) (_c : Int), n ≤ 2 ∧ s.ptpOn n = true ∧ s.net.ptp.profile = 0 ∧ (s.port n).newCfg = none ∧ (s.port n).run = .master) ∧
    (∃ (s : State) (n : Nat) (udp : Bool) (a : AnnounceMsg), n ≤ 2 ∧ s.ptpOn n = true ∧ s.speaks ⟨s.net.ptp.domain, udp, none, .announce a⟩ = true ∧ s.net.ptp.role = 1 ∧ a.steps < 255 ∧ (s.port n).best = none) ∧
    (∃ (s : State) (n : Nat) (_ok : Bool), n ≤ 2 ∧ s.ptpOn n = true ∧ s.net.ptp.profile = 2) ∧
    (∃ (s : State) (n : Nat) (f : PtpFrame), n ≤ 2 ∧ (s.ptpOn n = false ∨ s.speaks f = false) ∧ (s.port n).newCfg = none) ∧
    (∃ (s : State) (n : Nat) (f : PtpFrame), n ≤ 2 ∧ (s.ptpOn n = false ∨ s.speaks f = false) ∧ (s.port n).newCfg = none) ∧
    (∃ (s : State) (n : Nat), n ≤ 2 ∧ (s.port n).run = .slave ∧ s.net.ptp.role = 0 ∧ (s.port n).cfg.ptpEn = 1 ∧ (∀ k, k ≤ 2 → k ≠ n → (s.port k).best = none) ∧ (s.port n).lastAnnounce + (s.port n).cfg.announceTimeout * logInterval (s.port n).cfg.logAnnounce ≤ s.clock) ∧
    (∃ (s : State) (n : Nat) (k : Nat) (b : AnnounceMsg), n ≤ 2 ∧ k ≤ 2 ∧ k ≠ n ∧ (s.port n).run = .slave ∧ s.net.ptp.role = 0 ∧ (s.port k).cfg.ptpEn = 1 ∧ (s.port k).best = some b ∧ (∀ j, j ≤ 2 → j ≠ n → j ≠ k → (s.port j).best = none) ∧ (s.port n).lastAnnounce + (s.port n).cfg.announceTimeout * logInterval (s.port n).cfg.logAnnounce ≤ s.clock) ∧
    (∃ (s : State) (n : Nat) (b : AnnounceMsg), n ≤ 2 ∧ (s.port n).run ≠ .slave ∧ (s.port n).best = some b ∧ (s.port n).lastAnnounce + (s.port n).cfg.announceTimeout * logInterval (s.port n).cfg.logAnnounce ≤ s.clock) ∧
    (∃ (s : State), s.net.ptp.role = 1 ∧ s.net.clockClass ≠ 7 ∧ s.net.lastPps + 2000000000 ≤ s.clock) ∧
    (∃ (s : State), s.net.ptp.role = 1 ∧ s.net.clockClass ≠ 7 ∧ s.net.lastPps + 2000000000 ≤ s.clock) ∧
    (∃ (s : State) (n : Nat), n ≤ 2 ∧ s.ptpOn n = true ∧ (s.port n).run = .master ∧ (s.port n).lastSent.2.1 + logInterval (s.port n).cfg.logAnnounce ≤ s.clock ∧ s.ownLeaves n (tagQueue (s.ownTag s.net.net.ptpPcp)) = true) ∧
    (∃ (s : State) (n : Nat), n ≤ 2 ∧ s.ptpOn n = true ∧ (s.port n).run = .master ∧ (s.port n).newCfg = none ∧ (s.net.ptp.profile = 2 → (s.port n).oneStepUnsupported = false ∧ (s.net.master = none ∨ s.net.heard ≠ none)) ∧ (s.port n).lastSent.1 + logInterval (s.port n).cfg.logSync ≤ s.clock ∧ s.ownLeaves n 0 = true) ∧
    (∃ (s : State) (n : Nat), n ≤ 2 ∧ s.ptpOn n = true ∧ (s.port n).run = .slave ∧ s.net.ptp.profile = 0 ∧ (s.port n).newCfg = none ∧ s.ownLeaves n 0 = true) ∧
    (∃ (s : State) (n : Nat), n ≤ 2 ∧ s.ptpOn n = true ∧ s.net.ptp.profile ≠ 0 ∧ (s.port n).newCfg = none ∧ (s.port n).lastSent.2.2 + logInterval (s.port n).cfg.logPdelay ≤ s.clock ∧ s.ownLeaves n 0 = true) ∧
    (∃ (s : State) (_n : Nat) (_m : PtpMessage), s.isReady readyTimebase = false) ∧
    (∃ (s : State) (n : Nat) (f : NetFrame), n ≤ 2 ∧ s.net.bridgePassed = true ∧ s.net.bridgeFault = false ∧ (s.port n).blockLock = true ∧ 9018 < f.length) ∧
    (∃ (s : State) (n : Nat) (f : NetFrame), n ≤ 2 ∧ s.net.bridgePassed = true ∧ s.net.bridgeFault = false ∧ (s.port n).blockLock = true ∧ f.length ≤ 9018 ∧ f.kind ≠ .arpForUs ∧ (∀ k, k ≤ 2 → (s.port k).newCfg = none) ∧ (f.kind = .delayReq → s.net.ptp.profile ≠ 1 ∨ (s.port n).cfg.ptpEn ≠ 1) ∧ s.consumes n f = false ∧ (∀ k, k ≤ 2 → (s.port k).hasRoom f = true)) ∧
    (∃ (s : State) (n : Nat) (f : NetFrame), n ≤ 2 ∧ s.net.bridgePassed = true ∧ s.net.bridgeFault = false ∧ (s.port n).blockLock = true ∧ f.length ≤ 9018 ∧ f.kind ≠ .arpForUs ∧ (∀ k, k ≤ 2 → (s.port k).newCfg = none) ∧ (f.kind = .delayReq → s.net.ptp.profile ≠ 1 ∨ (s.port n).cfg.ptpEn ≠ 1) ∧ s.consumes n f = false ∧ (∀ k, k ≤ 2 → (s.port k).hasRoom f = true)) ∧
    (∃ (s : State) (_n : Nat) (k : Nat) (f : NetFrame), k ≤ 2 ∧ (s.port k).hasRoom f = false) ∧
    (∃ (p : Port) (x : Queued), p.nextOut = some x) ∧
    (∃ (s : State) (k : Nat) (x : Queued), s.pending = [] ∧ k ≤ 2 ∧ s.bridgeWorks = true ∧ (s.port k).blockLock = true ∧ (∀ j, j ≤ 2 → (s.port j).newCfg = none) ∧ (s.port k).nextOut = some x ∧ s.tb.pendingSecHi = none) ∧
    (∃ (s : State) (n : Nat) (f : NetFrame), n ≤ 2 ∧ s.net.bridgePassed = true ∧ s.net.bridgeFault = false ∧ (s.port n).blockLock = true ∧ f.length ≤ 9018 ∧ f.kind ≠ .arpForUs ∧ f.kind ≠ .delayReq ∧ (s.port n).newCfg = none ∧ s.consumes n f = true) ∧
    (∃ (s : State) (n : Nat) (f : NetFrame), n ≤ 2 ∧ s.net.bridgePassed = true ∧ s.net.bridgeFault = false ∧ (s.port n).blockLock = true ∧ f.length ≤ 9018 ∧ f.kind ≠ .arpForUs ∧ f.kind ≠ .delayReq ∧ (s.port n).newCfg = none ∧ s.consumes n f = true) ∧
    (∃ (s : State) (mac : Nat) (e : MacEntry), (mac, e) ∈ s.net.macs ∧ e.seen + s.net.bridge.ageTime * 1000000000 ≤ s.clock) ∧
    (∃ (s : State) (n : Nat) (k : Nat) (f : NetFrame), f.kind = .sync ∧ (s.port n).cfg.ptpEn ≠ 0 ∧ (s.port k).cfg.ptpEn ≠ 0 ∧ s.net.ptp.profile = 0) ∧
    (∃ (_s : State) (n : Nat) (_up : Bool), n ≤ 2) :=
  ⟨⟨ported 2 id, 2, true, { priority1 := 128, clockClass := 6, accuracy := 0x21, variance := 0, priority2 := 128, master := 77, steps := 254, sender := 77 }, by decide⟩,
   ⟨ported 2 (fun p => { p with best := some { priority1 := 128, clockClass := 6, accuracy := 0x21, variance := 0, priority2 := 128, master := 77, steps := 254, sender := 77 } }), 2, true, { priority1 := 128, clockClass := 6, accuracy := 0x21, variance := 0, priority2 := 128, master := 77, steps := 254, sender := 78 }, { priority1 := 128, clockClass := 6, accuracy := 0x21, variance := 0, priority2 := 128, master := 77, steps := 254, sender := 77 }, by decide⟩,
   ⟨ported 2 (fun p => { p with run := .slave }), 2, true, (1000 * tqPerSec) + 1023900 + -1, 1000 * tqPerSec, 1000 * tqPerSec + 6400, 1000 * tqPerSec + 6500 + 1023999, 0, 0, -1023999, 100, by decide⟩,
   ⟨ported 2 (fun p => { p with run := .slave }), 2, true, (1000 * tqPerSec) + 1023900 + 0, 1000 * tqPerSec, 1000 * tqPerSec + 6400, 1000 * tqPerSec + 6500 + 1024000, 0, 0, -1024000, 100, by decide⟩,
   ⟨({ ported 2 (fun p => { p with run := .slave }) with net := { (ported 2 (fun p => { p with run := .slave })).net with bigRun := -2 } } : State), 2, true, (1000 * tqPerSec) + 1023900 + 0, 1000 * tqPerSec, 1000 * tqPerSec + 6400, 1000 * tqPerSec + 6500 + 1024000, 0, 0, -1024000, 100, by decide⟩,
   ⟨({ ported 2 (fun p => { p with run := .slave }) with net := { (ported 2 (fun p => { p with run := .slave })).net with ptp := { idle.net.ptp with profile := 1 } } } : State), 2, 1000 * tqPerSec, 1000 * tqPerSec + 64, 0, 64, by decide⟩,
   ⟨({ ported 2 (id) with net := { (ported 2 (id)).net with ptp := { idle.net.ptp with profile := 1 } } } : State), 2, 1000 * tqPerSec, 1000 * tqPerSec + 12800, 6400, by decide⟩,
   ⟨ported 2 (fun p => { p with run := .master }), 2, 9, true, 1000 * tqPerSec, 0, by decide⟩,
   ⟨({ ported 2 id with net := { (ported 2 id).net with ptp := { idle.net.ptp with role := 1 } } } : State), 2, true, { priority1 := 128, clockClass := 6, accuracy := 0x21, variance := 0, priority2 := 128, master := 77, steps := 254, sender := 77 }, by decide⟩,
   ⟨({ ported 2 (id) with net := { (ported 2 (id)).net with ptp := { idle.net.ptp with profile := 2 } } } : State), 2, true, by decide⟩,
   ⟨ported 2 (fun p => { p with cfg := { p.cfg with ptpEn := 0 } }), 2, ⟨0, false, none, .pdelayReq 0 0⟩, by decide⟩,
   ⟨({ ported 2 (id) with net := { (ported 2 (id)).net with ptp := { idle.net.ptp with profile := 2 } } } : State), 2, ⟨0, true, none, .pdelayReq 0 0⟩, by decide⟩,
   ⟨({ ported 2 (fun p => { p with run := .slave }) with clock := 3000000000, tb := { idle.tb with source := .locked } } : State), 2, by decide⟩,
   ⟨({ (ported 2 (fun p => { p with run := .slave })).setPort 1 { Port.reset with best := some { priority1 := 128, clockClass := 6, accuracy := 0x21, variance := 0, priority2 := 128, master := 77, steps := 254, sender := 77 } } with clock := 3000000000, tb := { idle.tb with source := .locked } } : State), 2, 1, { priority1 := 128, clockClass := 6, accuracy := 0x21, variance := 0, priority2 := 128, master := 77, steps := 254, sender := 77 }, by decide⟩,
   ⟨({ ported 2 (fun p => { p with best := some { priority1 := 128, clockClass := 6, accuracy := 0x21, variance := 0, priority2 := 128, master := 77, steps := 254, sender := 77 } }) with clock := 3000000000 } : State), 2, { priority1 := 128, clockClass := 6, accuracy := 0x21, variance := 0, priority2 := 128, master := 77, steps := 254, sender := 77 }, by decide⟩,
   ⟨{ idle with clock := 2000000000, net := { idle.net with ptp := { idle.net.ptp with role := 1 }, clockClass := 6 } }, by decide⟩,
   ⟨{ idle with clock := 2000000000, net := { idle.net with ptp := { idle.net.ptp with role := 1 } } }, by decide⟩,
   ⟨ported 2 (fun p => { p with run := .master }), 2, by decide⟩,
   ⟨ported 2 (fun p => { p with run := .master }), 2, by decide⟩,
   ⟨ported 2 (fun p => { p with run := .slave }), 2, by decide⟩,
   ⟨({ ported 2 id with net := { (ported 2 id).net with ptp := { idle.net.ptp with profile := 1 } } } : State), 2, by decide⟩,
   ⟨devAs (fun d => { d with ready := 0 }), 2, .sync, by decide⟩,
   ⟨ported 2 id, 2, { netFrame with length := 9019 }, by decide⟩,
   ⟨ported 2 id, 2, { netFrame with length := 9018 }, by simp [State.consumes, netFrame]; decide⟩,
   ⟨({ ported 2 (fun p => { p with cfg := { p.cfg with ptpEn := 0 } }) with net := { (ported 2 (fun p => { p with cfg := { p.cfg with ptpEn := 0 } })).net with ptp := { idle.net.ptp with profile := 1 } } } : State), 2, { netFrame with kind := .delayReq }, by simp [State.consumes, netFrame]; decide⟩,
   ⟨({ idle with net := { idle.net with ports := [(2, { Port.reset with queue := List.replicate (Config.egressRoom + 1) (.forwarded netFrame 0) })] } } : State), 0, 2, netFrame, by decide, by simp [State.port, Tab.get, Port.hasRoom, List.countP_replicate, Queued.number]⟩,
   ⟨{ Port.reset with queue := [.forwarded { netFrame with dst := 7 } 0, .forwarded { netFrame with dst := 7, kind := .ptpEvent } 1] }, .forwarded { netFrame with dst := 7, kind := .ptpEvent } 1, by decide⟩,
   ⟨ported 2 (fun p => { p with queue := [.forwarded { netFrame with dst := 7 } 0, .forwarded { netFrame with dst := 7, kind := .ptpEvent } 1] }), 2, .forwarded { netFrame with dst := 7, kind := .ptpEvent } 1, by decide⟩,
   ⟨ported 2 id, 2, { netFrame with dst := Config.mac.toNat }, by simp [State.consumes, netFrame]; decide⟩,
   ⟨ported 2 id, 2, { netFrame with kind := .ptpEvent }, by simp [State.consumes, netFrame]; decide⟩,
   ⟨({ idle with clock := 300000000000, net := { idle.net with macs := [(5, { port := 1, seen := 0 }), (6, { port := 1, seen := 0 })] } } : State), 5, { port := 1, seen := 0 }, by decide⟩,
   ⟨idle, 2, 1, { netFrame with kind := .sync }, by decide⟩,
   ⟨ported 2 (fun p => { p with blockLock := false }), 2, true, by decide⟩⟩

theorem witness_EncodersAndEstimators :
    (∃ (s : State) (e : Nat) (cfg : AngleCfg), s.admits (.angleConfig e cfg) = true ∧ e ≤ 1 ∧ cfg.edgeUse ≤ 1 ∧ cfg.window ∈ [4, 8, 16, 32, 64] ∧ 1 ≤ cfg.minSpeed ∧ cfg.minSpeed ≤ 1048575 ∧ 1024 ≤ cfg.edgeTimeout ∧ cfg.edgeTimeout ≤ 1024000000 ∧ s.estUsed e = false ∧ (s.estimator e).valid = false) ∧
    (∃ (s : State) (e : Nat) (cfg : AngleCfg), s.admits (.angleConfig e cfg) = true ∧ e ≤ 1 ∧ cfg.edgeUse ≤ 1 ∧ cfg.window ∈ [4, 8, 16, 32, 64] ∧ 1 ≤ cfg.minSpeed ∧ cfg.minSpeed ≤ 1048575 ∧ 1024 ≤ cfg.edgeTimeout ∧ cfg.edgeTimeout ≤ 1024000000 ∧ s.estUsed e = false ∧ (s.estimator e).valid = true) ∧
    (∃ (s : State) (e : Nat) (n : Nat) (ms : List Nat), s.admits (.meridianSet e n ms) = true ∧ e ≤ 1 ∧ 1 ≤ n ∧ n ≤ 16 ∧ ms.length = n ∧ (∀ m ∈ ms, m ≤ 4294967295) ∧ strictlyRising ms = true ∧ s.estUsed e = false) ∧
    (∃ (s : State) (m : Nat) (cfg : MarkCfg), s.admits (.angleMarkSet m cfg) = true ∧ m ≤ 7 ∧ cfg.encoder ≤ 1 ∧ cfg.mode ≤ 1 ∧ cfg.enable ≤ 1 ∧ cfg.angle ≤ 4294967295) ∧
    (∃ (s : State) (e : Nat) (held : Nat) (isB : Bool) (level : Bool) (tBall : Tq), e ≤ 1 ∧ (s.encCfg e).enable ≠ 0 ∧ (if isB then (s.encoder e).b else (s.encoder e).a) ≠ level ∧ s.heard tBall = true ∧ held < filterNs (s.encCfg e).filter) ∧
    (∃ (s : State) (e : Nat) (held : Nat) (isB : Bool) (level : Bool) (tBall : Tq), e ≤ 1 ∧ (s.encCfg e).enable ≠ 0 ∧ (if isB then (s.encoder e).b else (s.encoder e).a) ≠ level ∧ s.heard tBall = true ∧ filterNs (s.encCfg e).filter ≤ held) ∧
    (∃ (s : State) (e : Nat) (_held : Nat) (_isB : Bool) (_level : Bool) (tBall : Tq), e ≤ 1 ∧ ((s.encCfg e).enable = 0 ∨ s.ballsActed = false) ∧ s.reached tBall = true) ∧
    (∃ (s : State) (e : Nat) (tBall : Tq), e ≤ 1 ∧ (s.encCfg e).enable = 1 ∧ ((s.encCfg e).indexState = 4 ∨ (s.encCfg e).indexState = (s.encoder e).abState) ∧ s.heard tBall = true ∧ (s.estimator e).indexSeen = false) ∧
    (∃ (s : State) (e : Nat) (tBall : Tq), e ≤ 1 ∧ (s.encCfg e).enable = 1 ∧ ((s.encCfg e).indexState = 4 ∨ (s.encCfg e).indexState = (s.encoder e).abState) ∧ s.heard tBall = true ∧ (s.estimator e).indexSeen = true ∧ ((s.encoder e).count - roundDiv (s.encoder e).count ((s.encCfg e).cpr : Int) * ((s.encCfg e).cpr : Int)).natAbs ≤ (s.encCfg e).indexTol) ∧
    (∃ (s : State) (e : Nat) (tBall : Tq), e ≤ 1 ∧ (s.encCfg e).enable = 1 ∧ ((s.encCfg e).indexState = 4 ∨ (s.encCfg e).indexState = (s.encoder e).abState) ∧ s.heard tBall = true ∧ (s.estimator e).indexSeen = true ∧ (s.encCfg e).indexTol < ((s.encoder e).count - roundDiv (s.encoder e).count ((s.encCfg e).cpr : Int) * ((s.encCfg e).cpr : Int)).natAbs) ∧
    (∃ (s : State) (e : Nat), e ≤ 1 ∧ (s.estimator e).valid = true ∧ s.estValid e = false) ∧
    (∃ (s : State) (m : Nat) (p : Int) (t' : Int), m ≤ 7 ∧ (s.mark m).cfg.enable ≠ 0 ∧ s.estValid (s.mark m).cfg.encoder = true ∧ (s.mark m).next = some p ∧ (s.estimator (s.mark m).cfg.encoder).resample p = some t' ∧ s.reached t' = true) ∧
    (∃ (s : State) (m : Nat) (p : Int) (t' : Int), m ≤ 7 ∧ (s.mark m).cfg.enable ≠ 0 ∧ s.estValid (s.mark m).cfg.encoder = true ∧ (s.mark m).next = some p ∧ (s.estimator (s.mark m).cfg.encoder).resample p = none ∧ (s.estimator (s.mark m).cfg.encoder).timeAt 0 p = some t' ∧ s.reached t' = true) ∧
    (∃ (s : State) (m : Nat) (p : Int) (e : AngleEdge) (rest : List AngleEdge), m ≤ 7 ∧ (s.mark m).cfg.enable = 1 ∧ s.estValid (s.mark m).cfg.encoder = false ∧ (s.mark m).next = some p ∧ (s.estimator (s.mark m).cfg.encoder).edges = e :: rest ∧ p ≤ e.u) :=
  ⟨⟨idle, 1, { edgeUse := 1, window := 64, minSpeed := 1048575, edgeTimeout := 1024000000 }, by decide⟩,
   ⟨turning 1, 1, { edgeUse := 1, window := 4, minSpeed := 1, edgeTimeout := 1024 }, by decide⟩,
   ⟨idle, 1, 16, (List.range 16).map (· * 268435456), by decide⟩,
   ⟨turning 1, 7, { encoder := 1, mode := 1, enable := 1, angle := 4294967295 }, by decide⟩,
   ⟨turning 0, 1, 4, false, true, 1000 * tqPerSec, by decide⟩,
   ⟨turning 0, 1, 5, true, true, 1000 * tqPerSec, by decide⟩,
   ⟨idle, 1, 5, true, true, 1000 * tqPerSec, by decide⟩,
   ⟨(turning 0).setEncoder 1 { Encoder.reset with count := 77 }, 1, 1000 * tqPerSec, by decide⟩,
   ⟨(turning 1).setEncoder 1 { Encoder.reset with count := 4098 }, 1, 1000 * tqPerSec, by decide⟩,
   ⟨(turning 1).setEncoder 1 { Encoder.reset with count := 4099 }, 1, 1000 * tqPerSec, by decide⟩,
   ⟨(turning 0).setEstimator 1 { turningEst with cfg := { turningEst.cfg with edgeTimeout := 204800 } }, 1, by decide⟩,
   ⟨(turning 1).setMark 7 { cfg := { encoder := 1, mode := 0, enable := 1, angle := 18874368 }, next := some 18874368, missed := 0 }, 7, 18874368, 1000 * tqPerSec, by decide⟩,
   ⟨(({ idle with sv := { idle.sv with active := encodersOn } } : State).setEstimator 1 { turningEst with edges := turningEst.edges.map fun e => { e with t := e.t + 204800 - 1024 } }).setMark 7 { cfg := { encoder := 1, mode := 0, enable := 1, angle := 16777216 }, next := some 16777216, missed := 0 }, 7, 16777216, 1000 * tqPerSec - 1024, by decide⟩,
   ⟨(idle.setEstimator 1 { turningEst with valid := false }).setMark 7 { cfg := { encoder := 1, mode := 0, enable := 1, angle := 16777216 }, next := some 16777216, missed := 0 }, 7, 16777216, turningEst.edges.headD { t := 0, count := 0, u := 0 }, turningEst.edges.tail, by decide⟩⟩

theorem witness_MotorCommands :
    (∃ (s : State) (cfg : MotorCfg), s.admits (.motorConfig cfg) = true ∧ motorCfgOk cfg = true ∧ (s.motor.run = .stopped ∨ s.motor.run = .fault)) ∧
    (∃ (s : State) (dir : Nat) (target : Nat), s.admits (.motorRun 1 dir target) = true ∧ dir ≤ 1 ∧ target ≤ 1048575 ∧ target ≤ s.motor.cfg.speedFull ∧ (s.sv.run = .normal ∨ s.sv.run = .twilight) ∧ s.dev.run ≠ .nadir ∧ s.dev.warm = false ∧ (s.encCfg s.motor.cfg.encoder).enable ≠ 0 ∧ s.motor.run = .stopped ∧ s.dev.noImage = false) ∧
    (∃ (s : State) (dir : Nat) (target : Nat), s.admits (.motorRun 1 dir target) = true ∧ dir ≤ 1 ∧ dir = s.motor.mdir ∧ target ≤ 1048575 ∧ target ≤ s.motor.cfg.speedFull ∧ (s.sv.run = .normal ∨ s.sv.run = .twilight) ∧ s.dev.run ≠ .nadir ∧ s.dev.warm = false ∧ (s.encCfg s.motor.cfg.encoder).enable ≠ 0 ∧ s.motor.run = .fault) ∧
    (∃ (s : State) (dir : Nat) (target : Nat), s.admits (.motorRun 2 dir target) = true ∧ dir ≤ 1 ∧ target ≤ 1048575 ∧ target ≤ s.motor.cfg.speedFull ∧ (s.sv.run = .normal ∨ s.sv.run = .twilight) ∧ s.dev.run ≠ .nadir ∧ s.dev.warm = false ∧ (s.encCfg s.motor.cfg.encoder).enable ≠ 0 ∧ (s.motor.run = .stopped ∨ dir = s.motor.mdir ∧ (s.motor.run = .stopping ∨ s.motor.run = .fault))) ∧
    (∃ (s : State) (dir : Nat) (target : Nat), s.admits (.motorRun 2 dir target) = true ∧ dir ≤ 1 ∧ target ≤ 1048575 ∧ target ≤ s.motor.cfg.speedFull ∧ (s.sv.run = .normal ∨ s.sv.run = .twilight) ∧ s.dev.run ≠ .nadir ∧ s.dev.warm = false ∧ (s.encCfg s.motor.cfg.encoder).enable ≠ 0 ∧ (s.motor.run = .stopped ∨ dir = s.motor.mdir ∧ (s.motor.run = .stopping ∨ s.motor.run = .fault))) ∧
    (∃ (s : State) (dir : Nat) (target : Nat), s.admits (.motorRun 0 dir target) = true ∧ dir ≤ 1 ∧ target ≤ 1048575 ∧ target ≤ s.motor.cfg.speedFull ∧ (s.sv.run = .normal ∨ s.sv.run = .twilight) ∧ s.dev.run ≠ .nadir ∧ s.dev.warm = false ∧ (s.encCfg s.motor.cfg.encoder).enable ≠ 0 ∧ (s.motor.run = .stopped ∨ dir = s.motor.mdir ∧ (s.motor.run = .stopping ∨ s.motor.run = .fault ∧ s.motor.mfltN = false))) ∧
    (∃ (s : State) (dir : Nat) (target : Nat), s.admits (.motorRun 0 dir target) = true ∧ dir ≤ 1 ∧ dir = s.motor.mdir ∧ target ≤ 1048575 ∧ target ≤ s.motor.cfg.speedFull ∧ (s.sv.run = .normal ∨ s.sv.run = .twilight) ∧ s.dev.run ≠ .nadir ∧ s.dev.warm = false ∧ (s.encCfg s.motor.cfg.encoder).enable ≠ 0 ∧ s.motor.run = .fault ∧ s.motor.mfltN = true) ∧
    (∃ (s : State) (action : Nat) (dir : Nat) (target : Nat), s.admits (.motorRun action dir target) = true ∧ action ≤ 2 ∧ dir ≤ 1 ∧ target ≤ 1048575 ∧ target ≤ s.motor.cfg.speedFull ∧ (s.sv.run = .normal ∨ s.sv.run = .twilight) ∧ s.dev.run ≠ .nadir ∧ s.dev.warm = false ∧ (s.encCfg s.motor.cfg.encoder).enable ≠ 0 ∧ s.motor.run ≠ .stopped ∧ dir ≠ s.motor.mdir) ∧
    (∃ (s : State) (dir : Nat) (target : Nat), s.admits (.motorRun 2 dir target) = true ∧ dir = s.motor.mdir ∧ dir ≤ 1 ∧ target ≤ 1048575 ∧ target ≤ s.motor.cfg.speedFull ∧ (s.sv.run = .normal ∨ s.sv.run = .twilight) ∧ s.dev.run ≠ .nadir ∧ s.dev.warm = false ∧ (s.encCfg s.motor.cfg.encoder).enable ≠ 0 ∧ (s.motor.run = .starting ∨ s.motor.run = .running)) ∧
    (∃ (s : State) (dir : Nat) (target : Nat), s.admits (.motorRun 0 dir target) = true ∧ dir = s.motor.mdir ∧ dir ≤ 1 ∧ target ≤ 1048575 ∧ target ≤ s.motor.cfg.speedFull ∧ (s.sv.run = .normal ∨ s.sv.run = .twilight) ∧ s.dev.run ≠ .nadir ∧ s.dev.warm = false ∧ (s.encCfg s.motor.cfg.encoder).enable ≠ 0 ∧ (s.motor.run = .starting ∨ s.motor.run = .running)) ∧
    (∃ (s : State) (action : Nat) (dir : Nat) (target : Nat), s.admits (.motorRun action dir target) = true ∧ action ≤ 2 ∧ dir ≤ 1 ∧ target ≤ 1048575 ∧ target ≤ s.motor.cfg.speedFull ∧ (s.sv.run = .normal ∨ s.sv.run = .twilight) ∧ s.dev.run ≠ .nadir ∧ s.dev.warm = true) ∧
    (∃ (s : State), s.admits .motorCountersClear = true) ∧
    (∃ (s : State) (action : Nat) (dir : Nat) (target : Nat), s.runs (.motorRun action dir target) = true ∧ s.dev.fwRunning = true ∧ action ≤ 2 ∧ dir ≤ 1 ∧ target ≤ 1048575 ∧ target ≤ s.motor.cfg.speedFull ∧ ((s.sv.run ≠ .normal ∧ s.sv.run ≠ .twilight) ∨ s.dev.run = .nadir)) :=
  ⟨⟨idle, { idle.motor.cfg with pwmFreq := 100000, speedFull := 1048575, speedTol := 100 }, by decide⟩,
   ⟨driven id, 1, 1048575, by decide⟩,
   ⟨driven (fun m => { m with run := .fault }), 0, 1048575, by decide⟩,
   ⟨driven id, 1, 1048575, by decide⟩,
   ⟨driven (fun m => { m with run := .fault }), 0, 0, by decide⟩,
   ⟨driven (fun m => { m with run := .stopping }), 0, 0, by decide⟩,
   ⟨driven (fun m => { m with run := .fault, mfltN := true }), 0, 0, by decide⟩,
   ⟨driven (fun m => { m with run := .running }), 2, 1, 0, by decide⟩,
   ⟨driven fun m => { m with run := .running, atSpeed := true }, 0, 7, by decide⟩,
   ⟨driven fun m => { m with run := .running, atSpeed := true }, 0, 7, by decide⟩,
   ⟨({ driven id with dev := { idle.dev with warm := true } } : State), 0, 0, 1048575, by decide⟩,
   ⟨{ idle with motor := { idle.motor with faults := 7 } }, by decide⟩,
   ⟨lockout, 0, 0, 0, by decide⟩⟩

theorem witness_MotorEvents :
    (∃ (s : State), s.motorServed = true ∧ s.ballsActed = true ∧ s.motor.run ≠ .fault) ∧
    (∃ (s : State), s.motorServed = true ∧ s.motor.mrdy = true ∧ s.motor.run ≠ .stopped ∧ s.motor.run ≠ .fault) ∧
    (∃ (s : State), s.motor.mrdy = false) ∧
    (∃ (s : State), s.motorServed = true ∧ s.motor.run = .starting ∧ s.motor.mrdySeen = false ∧ s.motor.startedAt + s.motor.cfg.readyTimeout * 1000000 ≤ s.clock) ∧
    (∃ (s : State) (since : Nat), s.motor.inTolSince = some since ∧ s.motorServed = true ∧ (s.motor.run = .starting ∨ s.motor.run = .running) ∧ s.inTolerance = true ∧ since + s.motor.cfg.settleTime * 1000000 ≤ s.clock) ∧
    (∃ (s : State), s.motorServed = true ∧ s.motor.run = .stopping ∧ (s.svEnc s.motor.cfg.encoder).lastEdge + 100000000 ≤ s.clock) ∧
    (∃ (s : State), s.motorServed = true ∧ s.dev.run ≠ .nadir ∧ s.motor.cfg.control = 0 ∧ s.motor.run = .running ∧ s.motor.refAt + 1000000 ≤ s.clock ∧ s.motor.reference < 1000 * s.motor.target) ∧
    (∃ (s : State), s.clock < s.motor.refAt + 1000000) :=
  ⟨⟨driven fun m => { m with run := .running }, by decide⟩,
   ⟨driven fun m => { m with run := .running, mrdy := true }, by decide⟩,
   ⟨driven fun m => { m with run := .starting }, by decide⟩,
   ⟨{ driven (fun m => { m with run := .starting }) with clock := 10000000000 }, by decide⟩,
   ⟨{ driven (fun m => { m with run := .starting, inTolSince := some 0 }) with clock := 500000000 }, 0, by decide⟩,
   ⟨{ driven (fun m => { m with run := .stopping }) with clock := 100000000 }, by decide⟩,
   ⟨driven fun m => { m with run := .running, reference := 624999999 }, by decide⟩,
   ⟨driven fun m => { m with refAt := 2000000000 }, by decide⟩⟩

theorem witness_SafetyConfiguration :
    (∃ (s : State) (c : SvCfg), s.admitsDual (.svConfig c) = true ∧ svCfgOk c = true ∧ s.safetyLocked = false) ∧
    (∃ (s : State) (c : SvCfg), s.admitsDual (.svConfig c) = true ∧ svCfgOk c = true ∧ s.safetyLocked = false) ∧
    (∃ (s : State) (c : SvCfg), s.admitsDual (.svConfig c) = true ∧ svCfgOk c = true ∧ s.safetyLocked = false) ∧
    (∃ (s : State) (i : Nat) (c : SvInputCfg), s.admitsDual (.svInputConfig i c) = true ∧ i ≤ 3 ∧ svInputCfgOk c = true ∧ s.safetyLocked = false) ∧
    (∃ (s : State) (k : Nat) (c : LimitSet), s.admitsDual (.svLimitSet k c) = true ∧ k ≤ 1 ∧ limitSetOk c = true ∧ s.safetyLocked = false) ∧
    (∃ (s : State) (first : Nat) (count : Nat) (ws : List Nat), s.admitsDual (.svRowWeight first count ws) = true ∧ 1 ≤ count ∧ first + count ≤ 64 ∧ ws.length = count ∧ (∀ w ∈ ws, w ≤ 255) ∧ s.safetyLocked = false) ∧
    (∃ (s : State) (k : Nat) (w : Nat) (c : SlpWindow), s.admitsDual (.svSlpWindow k w c) = true ∧ k ≤ 1 ∧ w ≤ 15 ∧ slpWindowOk c = true ∧ s.safetyLocked = false) ∧
    (∃ (s : State), s.admitsDual (.svCommit true) = true ∧ safetyCfgOk s.sv.staged = true ∧ s.safetyLocked = false ∧ s.isReady readyRetention = true) ∧
    (∃ (s : State) (e : Nat) (c : EncCfg), s.admitsDual (.encConfig e c true) = true ∧ e ≤ 1 ∧ encCfgOk c = true ∧ s.ranging = false ∧ s.isReady readyRetention = true ∧ s.isReady readySafety = true ∧ s.sv.run ≠ .nadir) ∧
    (∃ (s : State) (c : Nat) (key : Nat), s.admitsDual (.evchKeylock c 1 key true) = true ∧ c ≤ 255 ∧ key ≤ 65535 ∧ s.sv.active.keylocks.find? (fun p => decide (p.1 = c)) = none ∧ s.isReady readyRetention = true ∧ s.isReady readySafety = true) ∧
    (∃ (s : State) (c : Nat) (key : Nat), s.admitsDual (.evchKeylock c 0 key true) = true ∧ c ≤ 255 ∧ key ≤ 65535 ∧ (s.dev.run = .readyIdle ∨ s.dev.run = .eclipse) ∧ s.sv.active.keylocks.find? (fun p => decide (p.1 = c)) = some (c, key) ∧ s.isReady readyRetention = true ∧ s.isReady readySafety = true) ∧
    (∃ (s : State) (c : Nat) (key : Nat) (v : Bool), s.admitsDual (.evchKeylock c 0 key v) = true ∧ c ≤ 255 ∧ key ≤ 65535 ∧ (s.dev.run = .readyIdle ∨ s.dev.run = .eclipse) ∧ s.sv.active.keylocks.find? (fun p => decide (p.1 = c)) = none ∧ s.isReady readySafety = true) :=
  ⟨⟨paired (.svConfig { SvCfg.reset with speedSrc := 2, rampTime := 60000 }) idle, { SvCfg.reset with speedSrc := 2, rampTime := 60000 }, by decide⟩,
   ⟨solo (.svConfig SvCfg.reset) idle, SvCfg.reset, by decide⟩,
   ⟨idle, SvCfg.reset, by decide⟩,
   ⟨paired (.svInputConfig 3 { function := 3, mode := 1, discTime := 500, restart := 0 }) idle, 3, { function := 3, mode := 1, discTime := 500, restart := 0 }, by decide⟩,
   ⟨paired (.svLimitSet 1 { slsLow := 0, slsHigh := 1, sectors := 64, budgetWin := 1000, budget := 4294967295 }) idle, 1, { slsLow := 0, slsHigh := 1, sectors := 64, budgetWin := 1000, budget := 4294967295 }, by decide⟩,
   ⟨paired (.svRowWeight 63 1 [255]) idle, 63, 1, [255], by decide⟩,
   ⟨paired (.svSlpWindow 1 15 { enable := 1, start := 65535, stop := 0 }) idle, 1, 15, { enable := 1, start := 65535, stop := 0 }, by decide⟩,
   ⟨paired (.svCommit true) ({ idle with sv := { idle.sv with staged := encodersOn } }), by decide⟩,
   ⟨paired (.encConfig 1 { EncCfg.reset with enable := 1, cpr := 32768, filter := 3 } true) idle, 1, { EncCfg.reset with enable := 1, cpr := 32768, filter := 3 }, by decide⟩,
   ⟨paired (.evchKeylock 255 1 65535 true) idle, 255, 65535, by decide⟩,
   ⟨paired (.evchKeylock 255 0 65535 true) ({ idle with sv := { idle.sv with active := { SafetyCfg.reset with keylocks := [(255, 65535)] } } }), 255, 65535, by decide⟩,
   ⟨paired (.evchKeylock 255 0 65535 true) idle, 255, 65535, true, by decide⟩⟩

theorem witness_SafeStopsAndInputs :
    (∃ (s : State), s.admits .svSafeStop = true) ∧
    (∃ (s : State), s.ranging = true ∧ (s.sv.run = .normal ∨ s.sv.run = .twilight)) ∧
    (∃ (s : State), s.ranging = false ∧ (s.sv.run = .normal ∨ s.sv.run = .twilight)) ∧
    (∃ (s : State), s.sv.run ≠ .normal ∧ s.sv.run ≠ .twilight) ∧
    (∃ (s : State), s.admits .svCountersClear = true) ∧
    (∃ (s : State) (_l : SafeLevels) (t : Nat), s.sv.sampleAt = some t ∧ s.clock < t + samplePeriod) ∧
    (∃ (s : State) (_l : SafeLevels), s.sv.run ≠ .init ∧ s.ballsActed = false ∧ s.since s.sv.sampleAt samplePeriod = true) ∧
    (∃ (s : State) (_l : SafeLevels), s.sv.run ≠ .init ∧ s.ballsActed = true ∧ s.since s.sv.sampleAt samplePeriod = true) ∧
    (∃ (s : State) (l : SafeLevels), s.sv.run = .init ∧ s.dev.rstLow = false ∧ s.since s.sv.sampleAt samplePeriod = true ∧ (s.sampleReset l.srstA l.srstB).sv.resetReady = false) ∧
    (∃ (s : State) (l : SafeLevels), s.sv.run = .init ∧ s.dev.rstLow = false ∧ s.since s.sv.sampleAt samplePeriod = true ∧ (s.sampleReset l.srstA l.srstB).sv.resetReady = true) ∧
    (∃ (s : State), s.sv.resetReady = true ∧ s.sv.run = .init) ∧
    (∃ (s : State) (i : Nat), i ≤ 3 ∧ (s.svInputCfg i).discTime * 100 ≤ (s.safeInput i).disagree ∧ (s.safeInput i).faultLatched = false) ∧
    (∃ (s : State), s.sv.resetReady = true ∧ s.sv.run = .lockout ∧ s.clearInputs.anyDemanding = false ∧ s.clearInputs.anyPersists = false ∧ s.sv.awaitsCommit = false ∧ s.dev.pfail = false) ∧
    (∃ (s : State), s.sv.resetReady = true ∧ s.sv.run = .lockout ∧ (s.clearInputs.anyDemanding = true ∨ s.clearInputs.anyPersists = true ∨ s.sv.awaitsCommit = true ∨ s.dev.pfail = true)) :=
  ⟨⟨{ ranging with motor := { idle.motor with run := .running } }, by decide⟩,
   ⟨{ ranging with motor := { idle.motor with run := .running }, sv := { ranging.sv with sto := true, torqueAsked := true } }, by decide⟩,
   ⟨{ idle with sv := { idle.sv with sto := true, torqueAsked := true } }, by decide⟩,
   ⟨lockout, by decide⟩,
   ⟨idle.setSafeInput 3 { SafeInput.reset with discFaults := 4 }, by decide⟩,
   ⟨{ svAs idle (fun v => { v with sampleAt := some 0 }) with clock := 9799 }, { sinA := [], sinB := [], srstA := true, srstB := true }, 0, by decide⟩,
   ⟨{ idle with sv := { idle.sv with sampleAt := some 0 }, dev := { idle.dev with run := .selfTest, coldDone := false } }, { sinA := [], sinB := [], srstA := true, srstB := false }, by decide⟩,
   ⟨{ svAs idle (fun v => { v with sampleAt := some 0 }) with clock := 9800 }, { sinA := [true, true, true, true], sinB := [true, true, true, false], srstA := false, srstB := false }, by decide⟩,
   ⟨{ idle with sv := Supervisor.reset }, { sinA := [], sinB := [], srstA := true, srstB := false }, by decide⟩,
   ⟨{ idle with sv := { Supervisor.reset with srsta := { level := true, run := 20000, rise := some 5, lowOk := true, fell := false, highRun := 0 }, srstb := { level := true, run := 20000, rise := some 5, lowOk := true, fell := false, highRun := 0 } } }, { sinA := [], sinB := [], srstA := false, srstB := false }, by decide⟩,
   ⟨{ idle with sv := { Supervisor.reset with resetReady := true } }, by decide⟩,
   ⟨idle.setSafeInput 3 { SafeInput.reset with disagree := 2000 }, 3, by decide⟩,
   ⟨{ lockout with sv := { lockout.sv with active := encodersOn, resetReady := true, faults := [.stoReadback 0] } }, by decide⟩,
   ⟨{ lockout with sv := { lockout.sv with active := encodersOn, resetReady := true, faults := [.stoReadback 0], standing := [.stoReadback 0] } }, by decide⟩⟩

theorem witness_SupervisorTimers :
    (∃ (s : State) (t : Nat), s.sv.windowAt = some t ∧ s.clock < t + windowPeriod) ∧
    (∃ (s : State), s.sv.run ≠ .init ∧ s.since s.sv.windowAt windowPeriod = true) ∧
    (∃ (s : State), 10 ≤ s.sv.agreeRun) ∧
    (∃ (s : State), s.sv.run = .dusk ∧ s.standing = true) ∧
    (∃ (s : State) (since : Nat) (v : Int), s.sv.run = .dusk ∧ s.sv.dusk = some (since, v) ∧ since + s.sv.active.sv.rampTime * 1000000 ≤ s.clock) ∧
    (∃ (s : State), s.sv.run = .twilight ∧ s.sv.twilightFrom + s.sv.active.sv.twilightTime * 1000000000 ≤ s.clock) ∧
    (∃ (s : State), s.sv.run ≠ .init ∧ s.sv.budgetStart + s.sv.budgetWin * 1000000 ≤ s.clock) ∧
    (∃ (s : State), s.clock * 100 < s.sv.budgetStart * 100 + s.sv.budgetWin * 1000000 * 98) ∧
    (∃ (s : State) (k : Nat), s.countEmitted.sectorCount k < s.countEmitted.budget) ∧
    (∃ (s : State), s.svSector ≤ 63 ∧ s.countEmitted.budget ≤ s.countEmitted.sectorCount s.svSector) :=
  ⟨⟨{ svAs idle (fun v => { v with windowAt := some 0 }) with clock := 979999 }, 0, by decide⟩,
   ⟨{ (turning 0).setSvEnc 1 { SvEncoder.reset with window := 7, count := 7 } with clock := 980000 }, by decide⟩,
   ⟨svAs ranging fun v => { v with agreeRun := 10 }, by decide⟩,
   ⟨{ svAs ranging (fun v => { v with run := .dusk, active := encodersOn, sto := true, torqueAsked := true }) with clock := 100000000 }, by decide⟩,
   ⟨{ svAs ranging (fun v => { v with run := .dusk, sto := true, torqueAsked := true, dusk := some (0, 256) }) with clock := 5000000000 }, 0, 256, by decide⟩,
   ⟨{ svAs ranging (fun v => { v with run := .twilight }) with clock := 60000000000 }, by decide⟩,
   ⟨{ svAs ranging (fun v => { v with sectorCounts := [(31, 7)] }) with clock := 1000000000 }, by decide⟩,
   ⟨svAs idle fun v => { v with budgetStart := 2000000000, budgetWin := 1 }, by decide⟩,
   ⟨svAs idle (fun v => { v with active := { SafetyCfg.reset with limits := [(0, { LimitSet.reset with budget := 9 })] } }), 31, by decide⟩,
   ⟨svAs (turning 0) fun v => { v with active := { v.active with limits := [(0, { LimitSet.reset with budget := 1 })] }, sectorCounts := [(0, 1)] }, by decide⟩⟩

theorem witness_SupervisorFaults :
    (∃ (s : State) (n : Nat) (c : SvFaultCause), n ≤ 1 ∧ (c = .stoReadback n ∨ c = .darkReadback n ∨ c = .sstReadback n) ∧ s.ranging = true ∧ s.sv.run = .normal ∧ s.sv.faults.contains (faultOf c) = false) ∧
    (∃ (s : State) (n : Nat) (c : SvFaultCause), n ≤ 1 ∧ (c = .stoReadback n ∨ c = .darkReadback n ∨ c = .sstReadback n) ∧ s.ranging = true ∧ s.sv.run = .twilight ∧ s.sv.faults.contains (faultOf c) = false) ∧
    (∃ (s : State) (c : SvFaultCause), (c = .coreMismatch ∨ c = .oscillator ∨ c = .supplyMonitor) ∧ ((s.ranging = true ∧ (s.sv.run = .normal ∨ s.sv.run = .twilight)) ∨ s.sv.run = .dusk)) ∧
    (∃ (s : State) (c : SvFaultCause), (c = .coreMismatch ∨ c = .oscillator ∨ c = .supplyMonitor) ∧ ((s.ranging = true ∧ (s.sv.run = .normal ∨ s.sv.run = .twilight)) ∨ s.sv.run = .dusk)) ∧
    (∃ (_s : State) (n : Nat) (c : SvFaultCause), n ≤ 1 ∧ c = .sstReadback n) ∧
    (∃ (_s : State) (c : SvFaultCause), c.lineOk = true ∧ (∀ n, n ≤ 1 → c ≠ .sstReadback n)) ∧
    (∃ (s : State) (_e : Nat) (_b : Bool), s.ballsActed = false) ∧
    (∃ (s : State) (e : Nat), e ≤ 1 ∧ (s.encCfg e).enable ≠ 0 ∧ s.ballsActed = true) ∧
    (∃ (s : State) (e : Nat), e ≤ 1 ∧ (s.encCfg e).enable ≠ 0 ∧ s.ballsActed = true) ∧
    (∃ (s : State) (e : Nat), e ≤ 1 ∧ (s.svEnc e).pairOpen = true ∧ (s.svEnc e).pairAt + 10000000 ≤ s.clock) ∧
    (∃ (s : State) (e : Nat), e ≤ 1 ∧ (s.svEnc e).countError = true ∧ (s.svEnc e).countFailed = false ∧ (s.svEnc e).countErrorAt + 10000000 ≤ s.clock) :=
  ⟨⟨ranging, 1, .darkReadback 1, by decide⟩,
   ⟨svAs ranging fun v => { v with run := .twilight, faults := [.sstReadback 0] }, 1, .sstReadback 1, by decide⟩,
   ⟨{ svAs ranging (fun v => { v with run := .dusk, sto := true, torqueAsked := true }) with dev := { ranging.dev with run := .boot, warm := true } }, .supplyMonitor, by decide⟩,
   ⟨ranging, .coreMismatch, by decide⟩,
   ⟨svAs idle (fun v => { v with standing := [.sstReadback 1] }), 1, .sstReadback 1, by decide⟩,
   ⟨svAs ranging fun v => { v with standing := [.oscillator] }, .oscillator, by decide⟩,
   ⟨devAs (fun d => { d with run := .selfTest, coldDone := false }), 1, true, by decide⟩,
   ⟨turning 1, 1, by decide⟩,
   ⟨turning 1, 1, by decide⟩,
   ⟨{ (turning 1).setSvEnc 1 { SvEncoder.reset with pairOpen := true } with clock := 10000000 }, 1, by decide⟩,
   ⟨{ (turning 1).setSvEnc 1 { SvEncoder.reset with countError := true } with clock := 10000000 }, 1, by decide⟩⟩

theorem witness_CalibrationCommands :
    (∃ (s : State) (c : CalCfg), s.admits (.calConfig c) = true ∧ calCfgOk c = true ∧ (s.ranging = true → c.refOut = s.cal.cfg.refOut ∧ c.refCh = s.cal.cfg.refCh) ∧ c.auto % 4 = 3 ∧ s.cal.track = none) ∧
    (∃ (s : State) (c : CalCfg), s.admits (.calConfig c) = true ∧ calCfgOk c = true ∧ (s.ranging = true → c.refOut = s.cal.cfg.refOut ∧ c.refCh = s.cal.cfg.refCh)) ∧
    (∃ (s : State) (function : Nat) (force : Nat) (first : Nat) (count : Nat), s.admits (.calRun function force first count) = true ∧ function ≤ 2 ∧ force ≤ 1 ∧ (function = 0 → 1 ≤ count ∧ first + count ≤ 576) ∧ (function = 2 → 1 ≤ count ∧ first + count ≤ 96) ∧ (function = 1 → first = 0 ∧ count = 0) ∧ s.pll.locked = true ∧ s.runUnready function first count = false) ∧
    (∃ (s : State) (function : Nat) (force : Nat) (first : Nat) (count : Nat), s.admits (.calRun function force first count) = true ∧ function ≤ 2 ∧ force ≤ 1 ∧ (function = 0 → 1 ≤ count ∧ first + count ≤ 576) ∧ (function = 2 → 1 ≤ count ∧ first + count ≤ 96) ∧ (function = 1 → first = 0 ∧ count = 0) ∧ s.pll.locked = true ∧ s.runUnready function first count = false) ∧
    (∃ (s : State) (function : Nat) (force : Nat) (first : Nat) (count : Nat), s.admits (.calRun function force first count) = true ∧ function ≤ 2 ∧ force ≤ 1 ∧ (function = 0 → 1 ≤ count ∧ first + count ≤ 576) ∧ (function = 2 → 1 ≤ count ∧ first + count ≤ 96) ∧ (function = 1 → first = 0 ∧ count = 0) ∧ s.pll.locked = true ∧ s.runUnready function first count = false) ∧
    (∃ (s : State) (force : Nat), s.admits (.calRun 3 force 0 0) = true ∧ force ≤ 1 ∧ s.dev.bist = false ∧ s.dev.run = .readyIdle ∧ s.anyRunning = false ∧ s.pll.locked = true ∧ s.banksIdle = true) ∧
    (∃ (s : State) (force : Nat), s.admits (.calRun 3 force 0 0) = true ∧ force ≤ 1 ∧ s.dev.bist = false ∧ s.ranging = false ∧ s.anyRunning = false ∧ s.pll.locked = true ∧ s.banksIdle = false) ∧
    (∃ (s : State), s.admits (.calRun 4 1 0 0) = true ∧ s.ranging = true ∧ s.dev.run ≠ .boot ∧ s.dev.run ≠ .selfTest ∧ s.pll.anyUsable = true ∧ s.pll.relocking = false ∧ s.pll.forced = none ∧ s.pll.locked = true ∧ s.anyRunning = true) ∧
    (∃ (s : State) (force : Nat), s.admits (.calRun 4 force 0 0) = true ∧ force ≤ 1 ∧ s.dev.run = .readyIdle ∧ s.pll.anyUsable = true ∧ s.pll.relocking = false ∧ s.pll.forced = none ∧ s.pll.locked = true ∧ s.anyRunning = false) ∧
    (∃ (s : State) (force : Nat), s.admits (.calRun 4 force 0 0) = true ∧ force ≤ 1 ∧ s.dev.run = .eclipse ∧ s.pll.anyUsable = true ∧ s.pll.relocking = false ∧ s.pll.forced = none ∧ s.pll.locked = true) ∧
    (∃ (s : State) (force : Nat), s.admits (.calRun 4 force 0 0) = true ∧ force ≤ 1 ∧ (s.dev.run = .boot ∨ s.dev.run = .selfTest ∨ s.pll.anyUsable = false) ∧ (s.ranging = false ∨ force = 1)) ∧
    (∃ (s : State) (o : Nat) (k : Nat) (temp : Int) (len : Nat) (src : Nat) (vs : List Int), s.admits (.calSetWrite o k temp len src (some vs)) = true ∧ (o = 1 ∨ o = 2 ∨ o = 3 ∨ o = 5) ∧ k ≤ 7 ∧ k ≤ (s.calWork o).length ∧ len = 2 * calItems o ∧ vs.length = calItems o ∧ (∀ v ∈ vs, -32768 ≤ v ∧ v ≤ 32767) ∧ s.dmaOk = true ∧ tempsRise (putSet (s.calWork o) k { temp := temp, vals := valsOf vs }) = true) ∧
    (∃ (s : State) (k : Nat) (temp : Int) (len : Nat) (src : Nat) (data : Option (List Int)), s.admits (.calSetWrite 4 k temp len src data) = true) ∧
    (∃ (s : State) (o : Nat) (k : Nat) (temp : Int) (len : Nat) (src : Nat) (data : Option (List Int)), s.admits (.calSetWrite o k temp len src data) = true ∧ (o = 1 ∨ o = 2 ∨ o = 3 ∨ o = 5) ∧ len ≠ 2 * calItems o) ∧
    (∃ (s : State) (o : Nat) (k : Nat) (dst : Nat) (x : CalSet), s.admits (.calSetRead o k dst) = true ∧ (o = 1 ∨ o = 2 ∨ o = 3 ∨ o = 5) ∧ (s.calWork o)[k]? = some x ∧ s.canShow dst (blockOf ((List.range (calItems o)).map fun i => fS16 (x.item i))).length = true) ∧
    (∃ (s : State) (mode : Nat) (k : Nat) (first : Nat) (count : Nat) (range : Nat) (steps : Nat), s.admitsWait (.calTarget mode k first count range steps) = true ∧ mode ≤ 1 ∧ k ≤ 7 ∧ k < (s.calWork 5).length ∧ 1 ≤ count ∧ first + count ≤ 512 ∧ 1 ≤ steps ∧ (∀ c ∈ numbers first count, s.watchedNow c = true)) ∧
    (∃ (s : State) (k : Nat) (shots : Nat) (rows : BitVec 64), s.admitsWait (.calStaLearn k shots rows) = true ∧ k ≤ 7 ∧ k < (s.calWork 5).length ∧ 1 ≤ shots ∧ rows ≠ 0 ∧ (∀ r ∈ rowsOf rows, s.staOfRow r ≠ none)) ∧
    (∃ (s : State) (o : Nat), s.admits (.calStore o true) = true ∧ (o = 1 ∨ o = 2 ∨ o = 3 ∨ o = 5) ∧ s.isReady readyRetention = true) :=
  ⟨⟨idle, { CalCfg.reset with deltaT := 16, auto := 3, enginePeriod := 3600, refOut := [120, 121, 122, 123, 124, 125, 126, 127] }, by decide⟩,
   ⟨(idle.setCalRunState 0 { CalRunState.reset with scheduled := [575] }), { CalCfg.reset with deltaT := 16, auto := 0, enginePeriod := 3600, refOut := [120, 121, 122, 123, 124, 125, 126, 127] }, by decide⟩,
   ⟨idle, 0, 1, 575, 1, by decide⟩,
   ⟨idle, 1, 0, 0, 0, by decide⟩,
   ⟨idle, 2, 0, 0, 96, by decide⟩,
   ⟨idle, 1, by decide⟩,
   ⟨(idle.setBank 1023 fillingBank), 1, by decide⟩,
   ⟨{ ranging with pll := refsOk.pll }, by decide⟩,
   ⟨refsOk, 1, by decide⟩,
   ⟨{ refsOk with dev := { idle.dev with run := .eclipse } }, 0, by decide⟩,
   ⟨idle, 0, by decide⟩,
   ⟨idle, 3, 0, -320, 16, 4096, [-32768, 32767, 0, 0, 0, 0, 0, 1], by decide⟩,
   ⟨idle, 575, 200, 5, 0, none, by decide⟩,
   ⟨idle, 5, 7, 200, 5, 0, none, by decide⟩,
   ⟨idle, 3, 0, 4096, CalSet.zero25, by decide⟩,
   ⟨ranging.setChan 511 chanOn, 1, 0, 511, 1, 0, 1, by decide⟩,
   ⟨{ ranging with tx := { ranging.tx with stas := [(63, { StaCfg.reset with row := 63 })] } }, 0, 1, 1 <<< 63, by decide⟩,
   ⟨idle, 5, by decide⟩⟩

theorem witness_CalibrationValues :
    (∃ (_i : Nat) (t : Int) (a : CalSet) (_l : List CalSet), t ≤ a.temp) ∧
    (∃ (_i : Nat) (t : Int) (l : List CalSet) (a : CalSet), tempsRise (l ++ [a]) = true ∧ a.temp ≤ t) ∧
    (∃ (_i : Nat) (l : List CalSet) (r : List CalSet) (a : CalSet), tempsRise (l ++ a :: r) = true) ∧
    (∃ (_i : Nat) (t : Int) (l : List CalSet) (r : List CalSet) (a : CalSet) (b : CalSet), tempsRise (l ++ a :: b :: r) = true ∧ a.temp ≤ t ∧ t < b.temp) ∧
    (∃ (_n : Int) (d : Int), 0 < d) :=
  ⟨⟨0, 200, CalSet.zero25, [], by decide⟩,
   ⟨0, 200, [{ temp := 199, vals := [] }], CalSet.zero25, by decide⟩,
   ⟨0, [{ temp := 199, vals := [] }], [{ temp := 201, vals := [] }], { temp := 200, vals := [(0, 5)] }, by decide⟩,
   ⟨1, 15, [], [], { temp := 10, vals := [(1, -7)] }, { temp := 20, vals := [(1, 8)] }, by decide⟩,
   ⟨-7, 2, by decide⟩⟩

theorem witness_CalibrationRuns :
    (∃ (s : State) (rs : List Int), rs.length = 16 ∧ s.dev.rstLow = false ∧ s.dev.fwRunning = false) ∧
    (∃ (s : State) (rs : List Int), rs.length = 16 ∧ s.dev.rstLow = false ∧ s.dev.fwRunning = true ∧ (∀ r ∈ rs, r < 1040) ∧ (s.dev.run = .readyIdle → ∀ k ∈ [(3 : Nat), 4], (s.calRunState k).scheduled = [] ∧ (s.calRunState k).done = false)) ∧
    (∃ (s : State) (rs : List Int), rs.length = 16 ∧ s.dev.rstLow = false ∧ s.dev.fwRunning = true ∧ s.cal.hot = false ∧ (∃ r ∈ rs, 1080 ≤ r) ∧ (s.dev.run = .readyIdle → ∀ k ∈ [(3 : Nat), 4], (s.calRunState k).scheduled = [] ∧ (s.calRunState k).done = false)) ∧
    (∃ (s : State) (k : Nat), k ≤ 4 ∧ (s.calRunState k).done = true ∧ 8 * s.cal.cfg.deltaT < (s.dieTemp - (s.calRunState k).reading 0).natAbs) ∧
    (∃ (s : State) (i : Nat) (hs : List (List Nat)) (ts : List VernierTables), i < 576 ∧ s.dev.fwRunning = true ∧ i ∈ (s.calRunState 0).scheduled ∧ runPasses hs = true ∧ ts = hs.map tablesOf) ∧
    (∃ (s : State) (i : Nat) (hs : List (List Nat)) (ts : List VernierTables), i < 576 ∧ s.dev.fwRunning = true ∧ i ∈ (s.calRunState 0).scheduled ∧ runPasses hs = true ∧ ts = hs.map tablesOf) ∧
    (∃ (s : State) (i : Nat) (hs : List (List Nat)), i < 576 ∧ s.dev.fwRunning = true ∧ i ∈ (s.calRunState 0).scheduled ∧ runPasses hs = false) ∧
    (∃ (s : State) (i : Nat) (_hs : List (List Nat)) (_a : Tq) (_b : Tq), i < 512 ∧ s.dev.fwRunning = true ∧ i ∈ (s.calRunState 0).scheduled) ∧
    (∃ (s : State) (k : Nat) (w : Nat) (d : Nat), k ≤ 15 ∧ (512 ≤ w ∧ w ≤ 32768) ∧ (1024 ≤ d ∧ d ≤ 1024000000) ∧ s.dev.fwRunning = true ∧ s.tracks = true ∧ k ∈ (s.calRunState 1).scheduled ∧ s.cal.track = none) ∧
    (∃ (s : State) (k : Nat) (w : Nat) (d : Nat) (o : Nat) (m : Int), k ≤ 15 ∧ (512 ≤ w ∧ w ≤ 32768) ∧ (1024 ≤ d ∧ d ≤ 1024000000) ∧ o ≤ 127 ∧ s.dev.fwRunning = true ∧ s.tracks = true ∧ k ∈ (s.calRunState 1).scheduled ∧ s.cal.track = some { sensor := k, todo := [], outM := [(o, m)], inM := [] } ∧ (∀ l < 8, s.laneTracks l = false)) ∧
    (∃ (s : State) (k : Nat) (w : Nat) (d : Nat) (o : Nat) (m : Int), k ≤ 15 ∧ (512 ≤ w ∧ w ≤ 32768) ∧ (1024 ≤ d ∧ d ≤ 1024000000) ∧ o ≤ 127 ∧ s.dev.fwRunning = true ∧ s.tracks = true ∧ k ∈ (s.calRunState 1).scheduled ∧ s.cal.track = some { sensor := k, todo := [], outM := [(o, m)], inM := [] } ∧ (∀ l < 8, s.laneTracks l = false)) ∧
    (∃ (s : State) (k : Nat) (w : Nat) (d : Nat) (c : Nat) (m : Int) (x : Int), k ≤ 15 ∧ (512 ≤ w ∧ w ≤ 32768) ∧ (1024 ≤ d ∧ d ≤ 1024000000) ∧ c ≤ 511 ∧ s.dev.fwRunning = true ∧ s.tracks = true ∧ k ∈ (s.calRunState 1).scheduled ∧ s.cal.track = some { sensor := k, todo := [], outM := [], inM := [(c, m)] } ∧ (∀ l < 8, s.laneTracks l = false) ∧ x = m - Tab.get 0 (s.calForce calIn) (576 + c) - Tab.get 0 s.cal.outCorr (s.cal.cfg.refOut.getD (c / 64) 0)) ∧
    (∃ (s : State) (k : Nat) (w : Nat) (d : Nat) (c : Nat) (m : Int) (x : Int), k ≤ 15 ∧ (512 ≤ w ∧ w ≤ 32768) ∧ (1024 ≤ d ∧ d ≤ 1024000000) ∧ c ≤ 511 ∧ s.dev.fwRunning = true ∧ s.tracks = true ∧ k ∈ (s.calRunState 1).scheduled ∧ s.cal.track = some { sensor := k, todo := [], outM := [], inM := [(c, m)] } ∧ (∀ l < 8, s.laneTracks l = false) ∧ x = m - Tab.get 0 (s.calForce calIn) (576 + c) - Tab.get 0 s.cal.outCorr (s.cal.cfg.refOut.getD (c / 64) 0)) ∧
    (∃ (s : State) (r : BistResult), s.dev.bist = true ∧ s.dev.fwRunning = true ∧ r.bufferOk = true) ∧
    (∃ (s : State) (r : BistResult), s.dev.bist = true ∧ s.dev.fwRunning = true ∧ r.bufferOk = false) :=
  ⟨⟨devAs fun d => { d with fwRunning := false }, List.replicate 16 1100, by decide⟩,
   ⟨idle, List.replicate 16 1039, by decide⟩,
   ⟨idle, List.replicate 15 0 ++ [1080], by decide⟩,
   ⟨idle.setCalRunState 4 { CalRunState.reset with done := true, readings := [(0, -400)] }, 4, by decide⟩,
   ⟨(idle.setCalRunState 0 { CalRunState.reset with scheduled := [575] }), 575, List.replicate 4 (List.replicate 256 512), _, by decide +kernel, by decide +kernel, by decide +kernel, by decide +kernel, rfl⟩,
   ⟨(idle.setCalRunState 0 { CalRunState.reset with scheduled := [0] }), 0, List.replicate 4 (List.replicate 256 512), _, by decide +kernel, by decide +kernel, by decide +kernel, by decide +kernel, rfl⟩,
   ⟨(idle.setCalRunState 0 { CalRunState.reset with scheduled := [575] }), 575, [[1]], by decide⟩,
   ⟨(gated 511).setCalRunState 0 { CalRunState.reset with scheduled := [511] }, 511, [[1]], 1000 * tqPerSec, 1000 * tqPerSec + 4096, by decide⟩,
   ⟨idle.setCalRunState 1 { CalRunState.reset with scheduled := [15] }, 15, 512, 1024, by decide⟩,
   ⟨({ idle with cal := { idle.cal with track := some { sensor := 15, todo := [], outM := [(127, -64)], inM := [] } } } : State).setCalRunState 1 { CalRunState.reset with scheduled := [15] }, 15, 512, 1024000000, 127, -64, by decide⟩,
   ⟨({ idle with cal := { idle.cal with track := some { sensor := 15, todo := [], outM := [(127, 65)], inM := [] } } } : State).setCalRunState 1 { CalRunState.reset with scheduled := [15] }, 15, 32768, 1024, 127, 65, by decide⟩,
   ⟨({ idle with cal := { idle.cal with track := some { sensor := 7, todo := [], outM := [], inM := [(511, 64)] } } } : State).setCalRunState 1 { CalRunState.reset with scheduled := [7] }, 7, 4096, 1024000, 511, 64, 64, by decide⟩,
   ⟨({ idle with cal := { idle.cal with track := some { sensor := 7, todo := [], outM := [], inM := [(511, -65)] } } } : State).setCalRunState 1 { CalRunState.reset with scheduled := [7] }, 7, 4096, 1024000, 511, -65, -65, by decide⟩,
   ⟨bisting, { channels := [511], pools := [510], engines := [95], bufferOk := true }, by decide⟩,
   ⟨bisting, { channels := [], pools := [], engines := [], bufferOk := false }, by decide⟩⟩

theorem witness_Resets :
    (∃ (s : State), s.dev.rstLow = false) ∧
    (∃ (s : State), s.dev.rstLow = false) ∧
    (∃ (s : State) (k : Nat), s.dev.rstLow = false ∧ s.dev.fwRunning = false ∧ s.dev.needsCold = false ∧ s.dev.run = .boot ∧ s.dev.noImage = false ∧ s.dev.retesting = false ∧ s.dev.passed = [] ∧ s.fw.choose (Config.loadFails s.fresh) = some k) ∧
    (∃ (s : State), s.dev.rstLow = false ∧ s.dev.fwRunning = false ∧ s.dev.needsCold = false ∧ s.dev.noImage = false ∧ s.fw.choose (Config.loadFails s.fresh) = none) ∧
    (∃ (s : State), (s.dev.rstLow = true ∨ s.dev.fwRunning = true ∨ s.dev.needsCold = true ∨ s.dev.noImage = true)) ∧
    (∃ (s : State), s.regs.pcie.perst = true ∧ s.dev.rstLow = false ∧ s.regs.pcie.linkUp = false) ∧
    (∃ (s : State) (force : Nat), s.admits (.warmReset force) = true ∧ force ≤ 1 ∧ (s.ranging = true → force = 1)) ∧
    (∃ (s : State) (force : Nat), s.admits (.warmReset force) = true ∧ force ≤ 1 ∧ (s.ranging = true → force = 1)) ∧
    (∃ (s : State), s.dev.rstLow = false ∧ s.dev.fwRunning = true ∧ s.dev.watchdogs = []) ∧
    (∃ (s : State) (a : Nat) (b : Nat), s.dev.rstLow = false ∧ s.dev.fwRunning = true ∧ s.dev.watchdogs = [a, b] ∧ s.clock ≤ a + 1000000000 ∧ s.clock ≤ b + 1000000000) :=
  ⟨⟨ranging, by decide⟩,
   ⟨ranging, by decide⟩,
   ⟨({ (devAs fun d => { d with fwRunning := false, warm := true, run := .boot }) with fw := { idle.fw with slotB := idle.fw.slotA } } : State), if Config.loadFails idle.fresh then 1 else 0, by decide, by decide, by decide, by decide, by decide, by decide, by decide, (show ∀ b : Bool, ({ idle.fw with slotB := idle.fw.slotA } : Firmware).choose b = some (if b then 1 else 0) by decide) _⟩,
   ⟨{ idle with fw := { idle.fw with slotA := ImageSlot.empty, slotB := ImageSlot.empty }, dev := { idle.dev with fwRunning := false } }, by decide, by decide, by decide, by decide, (show ∀ b : Bool, ({ idle.fw with slotA := ImageSlot.empty, slotB := ImageSlot.empty } : Firmware).choose b = none by decide) _⟩,
   ⟨{ idle with fw := { idle.fw with slotA := ImageSlot.empty } }, by decide⟩,
   ⟨{ idle with regs := { idle.regs with pcie := { idle.regs.pcie with linkUp := false } } }, by decide⟩,
   ⟨ranging, 1, by decide⟩,
   ⟨idle, 0, by decide⟩,
   ⟨ranging, by decide⟩,
   ⟨{ devAs (fun d => { d with watchdogs := [0, 0] }) with clock := 1000000000 }, 0, 0, by decide⟩⟩

theorem witness_SelfTests :
    (∃ (s : State) (t : SelfTest), isDeviceTest t = true ∧ s.testUnderWay t = true) ∧
    (∃ (s : State) (t : SelfTest), isDeviceTest t = true ∧ s.testUnderWay t = true ∧ s.dev.retesting = false ∧ s.dev.run = .nadir) ∧
    (∃ (s : State), s.sv.run = .init ∧ s.dev.rstLow = false ∧ SelfTest.processor ∉ s.dev.passed) ∧
    (∃ (s : State), s.sv.run = .init ∧ s.dev.rstLow = false) ∧
    (∃ (s : State) (k : Nat) (_pass : Bool) (_rs : List (Nat × Nat)), k ≤ 7 ∧ s.dev.fwRunning = true ∧ s.groupUnderTest k = true ∧ s.dev.retesting = false ∧ s.dev.run = .readyIdle) ∧
    (∃ (s : State) (k : Nat) (_pass : Bool) (_rs : List (Nat × Nat)), k ≤ 7 ∧ s.dev.fwRunning = true ∧ s.groupUnderTest k = true ∧ s.dev.retesting = false ∧ s.dev.run = .readyIdle) ∧
    (∃ (s : State), s.dev.fwRunning = true ∧ s.dev.retesting = false ∧ SelfTest.processor ∈ s.dev.passed) ∧
    (∃ (s : State) (t : SelfTest) (_pass : Bool) (_rs : List (Nat × Nat)), s.dev.retesting = true ∧ s.inTurn t = false) ∧
    (∃ (s : State), s.admits .retest = true ∧ (s.dev.run = .readyIdle ∨ s.dev.run = .nadir) ∧ s.dev.bist = true) ∧
    (∃ (s : State), s.admits .retest = true ∧ (s.dev.run = .readyIdle ∨ s.dev.run = .nadir) ∧ s.dev.bist = false) ∧
    (∃ (s : State) (k : Nat), s.admits (.funcReset 0 k) = true ∧ k ≤ 7 ∧ s.blockInUse 0 k = false ∧ s.dev.bist = false) ∧
    (∃ (s : State) (k : Nat), s.admits (.funcReset 0 k) = true ∧ k ≤ 7 ∧ s.dev.bist = true) ∧
    (∃ (s : State) (k : Nat), s.admits (.funcReset 1 k) = true ∧ k ≤ 7 ∧ s.blockInUse 1 k = false) ∧
    (∃ (s : State) (k : Nat), s.admits (.funcReset 2 k) = true ∧ k ≤ 2 ∧ s.blockInUse 2 k = false) :=
  ⟨⟨devAs (fun d => { d with run := .selfTest }), .fabric, by decide⟩,
   ⟨devAs (fun d => { d with coldDone := false, run := .nadir, passed := [.processor] }), .programMemory, by decide⟩,
   ⟨{ State.reset with dev := { State.reset.dev with rstLow := false } }, by decide⟩,
   ⟨{ State.reset with dev := { State.reset.dev with rstLow := false } }, by decide⟩,
   ⟨devAs (fun d => { d with ready := 0x7FFFFFF ^^^ (1 <<< (readyHg 7)) }), 7, true, List.replicate 256 (256, 512), by decide⟩,
   ⟨devAs (fun d => { d with ready := 0x7FFFFFF ^^^ (1 <<< (readyHg 7)) }), 7, false, [], by decide⟩,
   ⟨devAs fun d => { d with passed := [.processor] }, by decide⟩,
   ⟨devAs (fun d => { d with retesting := true }), .engine 3, true, [], by decide +kernel⟩,
   ⟨bisting, by decide⟩,
   ⟨idle, by decide⟩,
   ⟨(idle.setChan 511 { chanOn with gates := [gateAt 0] }).setInput 511 { InputState.reset with path := [stampAt 0] }, 7, by decide⟩,
   ⟨bisting, 7, by decide⟩,
   ⟨idle.setSeq 7 { playing with run := .stopped, rd := 3, cond := true }, 7, by decide⟩,
   ⟨ported 2 (fun p => { p with queue := [.forwarded { netFrame with dst := 7 } 0] }), 2, by decide⟩⟩

theorem witness_PowerAndSupply :
    (∃ (s : State), s.dev.pfail = false ∧ s.dev.rstLow = false) ∧
    (∃ (s : State) (_w : Bool), s.dev.derived = false) ∧
    (∃ (s : State) (n : _), s.dev.derived = true ∧ n ∈ s.commitStreams) ∧
    (∃ (s : State), s.dev.rstLow = false ∧ s.dev.pfail = false) ∧
    (∃ (s : State) (_r : List Bool), (s.dev.rstLow = true ∨ s.dev.pfail = true)) ∧
    (∃ (s : State), s.dev.pfail = true ∧ s.elapsed s.dev.pfailAt 10 100 = true) ∧
    (∃ (s : State), s.dev.pfail = false) ∧
    (∃ (s : State) (_id : Nat) (_baud : Nat), s.dev.pfail = true ∧ s.dev.pfailAt + 80000 ≤ s.clock) ∧
    (∃ (s : State) (m : Int) (d : Nat), s.dev.rstLow = false ∧ d ≤ 3 ∧ -1000 ≤ m ∧ m ≤ 32766) ∧
    (∃ (s : State) (_x : Option Nat), s.ballsOff = true) ∧
    (∃ (s : State) (x : Nat), s.dev.fwRunning = true ∧ s.ballsOff = false ∧ s.regs.pmbus.fault = false ∧ s.regs.pmbus.tries = 0 ∧ s.pmbusFree = true ∧ s.lowestMargin < 100 ∧ s.regs.pmbus.vReq + s.regs.pmbus.cfg.step ≤ s.regs.pmbus.cfg.voutMax ∧ s.regs.pmbus.cfg.voutMin ≤ s.regs.pmbus.vReq + s.regs.pmbus.cfg.step ∧ 1 ≤ s.regs.pmbus.cfg.step ∧ x ≤ s.regs.pmbus.vReq + s.regs.pmbus.cfg.step + 15 ∧ s.regs.pmbus.vReq + s.regs.pmbus.cfg.step ≤ x + 15) ∧
    (∃ (s : State), s.dev.fwRunning = true ∧ s.ballsOff = false ∧ s.regs.pmbus.fault = false ∧ 1 ≤ s.regs.pmbus.tries ∧ s.regs.pmbus.tries ≤ 2 ∧ s.pmbusFree = true) ∧
    (∃ (s : State), s.dev.fwRunning = true ∧ 3 ≤ s.regs.pmbus.tries ∧ s.regs.pmbus.fault = false) :=
  ⟨⟨idle, by decide⟩,
   ⟨devAs (fun d => { d with derived := false }), true, by decide⟩,
   ⟨ranging, 0, by decide⟩,
   ⟨ranging, by decide⟩,
   ⟨State.reset, [], by decide⟩,
   ⟨{ devAs (fun d => { d with pfail := true }) with clock := 10000000 }, by decide⟩,
   ⟨idle, by decide⟩,
   ⟨{ devAs (fun d => { d with pfail := true, pfailAt := 0 }) with clock := 80000 }, 511, 115200, by decide⟩,
   ⟨idle, -1000, 3, by decide⟩,
   ⟨State.reset, some 740, by decide⟩,
   ⟨(idle.setPace 3 { margin := 99, low := 99 }), 740, by decide⟩,
   ⟨{ idle with regs := { idle.regs with pmbus := { idle.regs.pmbus with tries := 2 } } }, by decide⟩,
   ⟨{ idle with regs := { idle.regs with pmbus := { idle.regs.pmbus with tries := 3 } } }, by decide⟩⟩

theorem witness_SystemCommands :
    (∃ (s : State), s.admits .sysInfo = true) ∧
    (∃ (s : State) (id : Nat), s.admits (.deviceIdSet id true) = true ∧ id ≤ 511 ∧ s.ranging = false ∧ s.isReady readyRetention = true) ∧
    (∃ (s : State) (c : PmbusCfg), s.admits (.pmbusConfig c) = true ∧ pmbusRanges c = true) ∧
    (∃ (s : State), s.admits .pmbusStatus = true) ∧
    (∃ (s : State) (baud : Nat), s.admits (.uartConfig baud) = true ∧ baud ∈ [115200, 921600, 3000000]) ∧
    (∃ (s : State) (length : Nat), s.admits (.fwUpdateBegin length) = true ∧ length ≤ Config.imageSlotSize ∧ s.fw.update = none) ∧
    (∃ (s : State) (u : Update), s.fw.update = some u) ∧
    (∃ (s : State) (u : Update) (data : List Byte), s.admits (.fwUpdateWrite u.written data) = true ∧ s.fw.update = some u ∧ u.erased = true ∧ u.written + data.length ≤ u.length) ∧
    (∃ (s : State) (u : Update) (raise : Nat), s.admits (.fwUpdateCommit raise) = true ∧ raise ≤ 1 ∧ s.fw.update = some u ∧ u.slot ≤ 1) ∧
    (∃ (s : State) (raise : Nat), s.admits (.fwUpdateCommit raise) = true ∧ (∀ u, s.fw.update = some u → s.fw.verifies u = false)) :=
  ⟨⟨idle, by decide⟩,
   ⟨idle, 511, by decide⟩,
   ⟨idle, { addr := 0x77, voutMin := 600, voutMax := 850, step := 25 }, by decide⟩,
   ⟨idle, by decide⟩,
   ⟨idle, 3000000, by decide⟩,
   ⟨idle, 0, by decide⟩,
   ⟨updating { slot := 1, length := 4, written := 0, erased := false }, { slot := 1, length := 4, written := 0, erased := false }, by decide⟩,
   ⟨updating { slot := 1, length := 4, written := 0, erased := true }, { slot := 1, length := 4, written := 0, erased := true }, [1, 2, 3, 4], by decide⟩,
   ⟨updating { slot := 1, length := 4, written := 4, erased := true }, { slot := 1, length := 4, written := 4, erased := true }, 1, by decide⟩,
   ⟨idle, 1, by decide⟩⟩

theorem witness_DebugUnlock :
    (∃ (s : State) (cert : List Byte), s.admits (.debugUnlock cert) = true ∧ (s.dev.run = .readyIdle ∨ s.dev.run = .nadir)) ∧
    (∃ (s : State) (cert : List Byte), s.admits (.debugUnlock cert) = true ∧ s.dev.run ≠ .readyIdle ∧ s.dev.run ≠ .nadir) ∧
    (∃ (s : State), s.dev.jtagUnlocked = true) :=
  ⟨⟨idle, [], by decide⟩,
   ⟨ranging, [], by decide⟩,
   ⟨devAs (fun d => { d with jtagUnlocked := true }), by decide⟩⟩

theorem witness_MailboxTraffic :
    (∃ (s : State) (m : Nat) (port : Nat) (ip : Nat) (_udp : Nat) (via : Via) (f : Frame) (bs : List Byte), embOf s.net.net port = some m ∧ via.port ≤ 2 ∧ s.embListens m via ip = true ∧ bs.length = (if frameDma f then f.payloadLen else 0) ∧ (s.box (32 + m)).queue.length < 8) ∧
    (∃ (s : State) (m : Nat) (port : Nat) (ip : Nat) (_udp : Nat) (via : Via) (f : Frame) (bs : List Byte), embOf s.net.net port = some m ∧ via.port ≤ 2 ∧ s.embListens m via ip = true ∧ (bs.length ≠ (if frameDma f then f.payloadLen else 0) ∨ 8 ≤ (s.box (32 + m)).queue.length)) ∧
    (∃ (s : State) (m : Nat) (port : Nat) (ip : Nat) (_udp : Nat) (via : Via) (f : Frame) (bs : List Byte), embOf s.net.net port = some m ∧ via.port ≤ 2 ∧ s.embListens m via ip = true ∧ (bs.length ≠ (if frameDma f then f.payloadLen else 0) ∨ 8 ≤ (s.box (32 + m)).queue.length)) ∧
    (∃ (s : State) (m : Nat) (port : Nat) (ip : Nat) (_udp : Nat) (via : Via) (_f : Frame) (_bs : List Byte), embOf s.net.net port = some m ∧ s.embListens m via ip = false) ∧
    (∃ (s : State) (port : Nat) (_ip : Nat) (_udp : Nat) (_via : Via) (_f : Frame) (_bs : List Byte), (port < s.net.net.mbxUdpBase ∨ s.net.net.mbxUdpBase + 7 < port)) ∧
    (∃ (_s : State) (m : Nat), m ≤ 7) ∧
    (∃ (s : State) (f : Frame) (bs : List Byte), s.dev.rstLow = false ∧ s.mbx.uartFrom ≤ s.uartBegan bs ∧ s.mbx.uartFree ≤ s.uartBegan bs ∧ bs.length = (if frameDma f then f.payloadLen else 0) ∧ (s.box 40).busy = false ∧ (s.box 40).queue = []) ∧
    (∃ (s : State) (f : Frame) (bs : List Byte) (crc : Nat), s.dev.rstLow = false ∧ s.mbx.uartFrom ≤ s.uartBegan bs ∧ (crc ≠ crc32 (frameBytes f ++ bs) ∨ (s.box 40).busy = true ∨ s.uartBegan bs < s.mbx.uartFree)) ∧
    (∃ (s : State) (f : Frame) (bs : List Byte) (crc : Nat), s.dev.rstLow = false ∧ s.mbx.uartFrom ≤ s.uartBegan bs ∧ (crc ≠ crc32 (frameBytes f ++ bs) ∨ (s.box 40).busy = true ∨ s.uartBegan bs < s.mbx.uartFree)) ∧
    (∃ (s : State) (_f : Frame) (bs : List Byte) (_crc : Nat), s.uartBegan bs < s.mbx.uartFrom) ∧
    (∃ (s : State) (_dma : DmaOutcome), s.mbx.executing = none ∧ s.dev.pfail = false ∧ s.dev.rstLow = false ∧ s.nextMailbox = none) ∧
    (∃ (s : State) (_dma : DmaOutcome), (s.mbx.executing ≠ none ∨ s.dev.pfail = true ∨ s.dev.rstLow = true)) ∧
    (∃ (s : State) (dma : DmaOutcome) (n : Nat), s.mbx.executing = none ∧ s.dev.pfail = false ∧ s.dev.rstLow = false ∧ s.nextMailbox = some n ∧ s.dmaOk = true ∧ dma.payload ≠ none ∧ (s.box n).journaled (s.nextCommand n dma).1.frame.token = none ∧ s.frameStatus (s.nextCommand n dma).1 (s.nextCommand n dma).2 = .ok ∧ (isDual (s.nextCommand n dma).1.frame.opcode = false ∨ s.mbx.held = none)) ∧
    (∃ (s : State) (dma : DmaOutcome) (n : Nat) (st : Status), s.mbx.executing = none ∧ s.dev.pfail = false ∧ s.dev.rstLow = false ∧ s.nextMailbox = some n ∧ s.dmaOk = true ∧ dma.payload ≠ none ∧ (s.box n).journaled (s.nextCommand n dma).1.frame.token = none ∧ s.frameStatus (s.nextCommand n dma).1 (s.nextCommand n dma).2 = st ∧ st ≠ .ok) ∧
    (∃ (s : State) (dma : DmaOutcome) (n : Nat) (j : JournalEntry), s.mbx.executing = none ∧ s.dev.pfail = false ∧ s.dev.rstLow = false ∧ s.nextMailbox = some n ∧ s.dmaOk = true ∧ dma.payload ≠ none ∧ (s.box n).journaled (s.nextCommand n dma).1.frame.token = some j ∧ j.opcode = (s.nextCommand n dma).1.frame.opcode ∧ j.payloadCrc = (s.nextCommand n dma).1.frame.payloadCrc) ∧
    (∃ (s : State) (dma : DmaOutcome) (n : Nat) (h : Taken) (since : Nat), s.mbx.executing = none ∧ s.dev.pfail = false ∧ s.dev.rstLow = false ∧ s.nextMailbox = some n ∧ s.dmaOk = true ∧ dma.payload ≠ none ∧ (s.box n).journaled (s.nextCommand n dma).1.frame.token = none ∧ s.frameStatus (s.nextCommand n dma).1 (s.nextCommand n dma).2 = .ok ∧ isDual (s.nextCommand n dma).1.frame.opcode = true ∧ s.mbx.held = some (h, since) ∧ s.elapsed since 1000 100 = false) ∧
    (∃ (s : State) (dma : DmaOutcome) (n : Nat) (h : Taken) (since : Nat), s.mbx.executing = none ∧ s.dev.pfail = false ∧ s.dev.rstLow = false ∧ s.nextMailbox = some n ∧ s.dmaOk = true ∧ dma.payload ≠ none ∧ (s.box n).journaled (s.nextCommand n dma).1.frame.token = none ∧ s.frameStatus (s.nextCommand n dma).1 (s.nextCommand n dma).2 = .ok ∧ isDual (s.nextCommand n dma).1.frame.opcode = true ∧ s.mbx.held = some (h, since) ∧ s.elapsed since 1000 100 = false) ∧
    (∃ (s : State) (n : Nat) (back : Bool), s.mbx.executing = none ∧ s.dev.pfail = false ∧ s.dev.rstLow = false ∧ s.nextMailbox = some n ∧ n < 32 ∧ s.dmaOk = true ∧ frameDma (s.nextCommand n ⟨none, back⟩).1.frame = true ∧ (s.nextCommand n ⟨none, back⟩).1.frame.payloadLen ≤ 16777216 ∧ (s.box n).journaled (s.nextCommand n ⟨none, back⟩).1.frame.token = none) ∧
    (∃ (s : State) (q : Taken) (since : Nat), s.mbx.held = some (q, since) ∧ s.elapsed since 1000 98 = true) ∧
    (∃ (s : State) (q : Taken) (since : Nat), s.mbx.held = some (q, since)) :=
  ⟨⟨addressed, 7, idle.net.net.mbxUdpBase + 7, 0xFF00000A, 5, via, frameOf 1 1, [], by decide⟩,
   ⟨addressed, 7, idle.net.net.mbxUdpBase + 7, 0xFF00000A, 5, via, frameOf 1 1, [0], by decide⟩,
   ⟨addressed.setBox 39 { Mailbox.reset with queue := List.replicate 8 (takenOf 39 1 1) }, 7, idle.net.net.mbxUdpBase + 7, 0xFF00000A, 5, via, frameOf 1 1, [], by decide⟩,
   ⟨addressed, 0, idle.net.net.mbxUdpBase, 0xFF00000A, 5, via, frameOf 1 1, [], by decide⟩,
   ⟨addressed, idle.net.net.mbxUdpBase + 8, 0xFF00000A, 5, via, frameOf 1 1, [], by decide⟩,
   ⟨idle, 7, by decide⟩,
   ⟨idle, frameOf 1 1, [], by decide⟩,
   ⟨idle, frameOf 1 1, [], Nat.succ (crc32 (frameBytes (frameOf 1 1) ++ [])), rfl, by decide, .inl (Nat.succ_ne_self (crc32 _))⟩,
   ⟨{ idle with mbx := { idle.mbx with uartFree := 2000000000 } }, frameOf 1 1, [], 0, by decide +kernel⟩,
   ⟨{ idle with mbx := { idle.mbx with uartFrom := 2000000000 } }, frameOf 1 1, [], 0, by decide⟩,
   ⟨idle, dmaRead, by decide⟩,
   ⟨{ submitted 1 1 with dev := { idle.dev with pfail := true } }, dmaRead, by decide⟩,
   ⟨submitted 1 1, dmaRead, 31, by decide⟩,
   ⟨submitted 0xFFFF 1, dmaRead, 31, .unsupported, by decide⟩,
   ⟨(submitted 1 1).modBox 31 (fun b => { b with journal := [{ token := 1, opcode := 1, payloadCrc := 0, response := responseOf (takenOf 31 1 1) .ok [] [] }] }), dmaRead, 31, { token := 1, opcode := 1, payloadCrc := 0, response := responseOf (takenOf 31 1 1) .ok [] [] }, by decide⟩,
   ⟨{ submitted 0x0835 2 with mbx := { (submitted 0x0835 2).mbx with held := some (takenOf 30 0x0835 1, 0) }, clock := 999999999 }, dmaRead, 31, takenOf 30 0x0835 1, 0, by decide⟩,
   ⟨{ submitted 0x0835 2 with mbx := { (submitted 0x0835 2).mbx with held := some (takenOf 30 0x0830 1, 0) }, clock := 999999999 }, dmaRead, 31, takenOf 30 0x0830 1, 0, by decide⟩,
   ⟨idle.setBox 31 { Mailbox.reset with cmdPi := 1, slots := [(0, some { frameOf 1 1 with flags := 1, payloadLen := 8 })] }, 31, true, by decide⟩,
   ⟨{ idle with mbx := { idle.mbx with held := some (takenOf 30 0x0835 1, 0) }, clock := 980000000 }, takenOf 30 0x0835 1, 0, by decide⟩,
   ⟨{ idle with mbx := { idle.mbx with held := some (takenOf 30 0x0835 1, 0) }, clock := 980000000 }, takenOf 30 0x0835 1, 0, by decide⟩⟩

theorem witness_RegisterWrites :
    (∃ (s : State) (k : Nat) (_v : Nat), k ≤ 63 ∧ s.endpointUp = true) ∧
    (∃ (s : State) (k : Nat) (_v : Nat), k ≤ 63 ∧ s.endpointUp = true) ∧
    (∃ (s : State) (k : Nat) (_v : Nat), k ≤ 63 ∧ s.endpointUp = true) ∧
    (∃ (s : State) (m : Nat) (j : Nat) (i : Nat) (_v : Nat), m ≤ 31 ∧ j ≤ 7 ∧ i ≤ 63 ∧ s.endpointUp = true) ∧
    (∃ (s : State) (_v : Nat), s.endpointUp = true) ∧
    (∃ (s : State) (_v : Nat), s.endpointUp = true) ∧
    (∃ (s : State) (_v : Nat), s.endpointUp = true) ∧
    (∃ (s : State) (v : Nat), s.endpointUp = true ∧ v % 2 = 1) ∧
    (∃ (_s : State) (v : Nat), v % 2 = 0) ∧
    (∃ (s : State) (_offset : Nat) (_size : Nat) (_v : Nat), s.endpointUp = false) :=
  ⟨⟨idle, 63, 0xFFFFFFFF, by decide⟩,
   ⟨{ idle with regs := { idle.regs with pcie := { idle.regs.pcie with msixPending := [(63, true)] } } }, 63, 0, by decide⟩,
   ⟨idle, 0, 1, by decide⟩,
   ⟨idle, 31, 7, 63, 255, by decide⟩,
   ⟨idle.setPace 3 { margin := 99, low := 5 }, 8, by decide⟩,
   ⟨{ idle with regs := { idle.regs with intStatus := 0x1FE } }, 0xFFFFFFFF, by decide⟩,
   ⟨{ idle with regs := { idle.regs with intStatus := 0x1FE, intMask := 0x1FE } }, 0xFFFFFFFF, by decide⟩,
   ⟨idle, 1, by decide⟩,
   ⟨idle, 2, by decide⟩,
   ⟨perstLow, 0x7000, 4, 1, by decide⟩⟩

theorem witness_DeviceCounters :
    (∃ (s : State) (_v : Nat), s.endpointUp = true) ∧
    (∃ (s : State) (_offset : Nat) (_size : Nat) (_v : Nat), s.endpointUp = false) ∧
    (∃ (s : State) (_offset : Nat) (_size : Nat) (_v : Nat), s.endpointUp = true) ∧
    (∃ (c : Count), c < 2 ^ 32 - 1) :=
  ⟨⟨{ idle with regs := { idle.regs with pfailWarnings := 7, badAccess := 8 } }, 8, by decide⟩,
   ⟨perstLow, 0x7000, 4, 1, by decide⟩,
   ⟨idle, 0x2002, 2, 0, by decide⟩,
   ⟨4294967294, by decide⟩⟩

theorem witness_StatusCommands :
    (∃ (s : State) (o : Nat) (dst : Nat) (fs : List Fld), s.admits (.outStatus o dst) = true ∧ o ≤ 135 ∧ fs = [fFlags [(s.out o).fOverrun, (s.out o).fLate, (s.out o).fLateExec, (s.out o).fConflict], fU32 (s.out o).overrun, fU32 (s.out o).late, fU32 (s.out o).lateExec, fU32 (s.out o).conflict, fU32 (s.out o).darkened, fU32 (s.out o).refStop, fU32 (s.out o).holdoverEdges, fU32 (s.out o).bursts] ++ (if (s.out o).cfg.cls = 0 then [fU32 (s.row (s.out o).cfg.row).missing, fU32 (s.row (s.out o).cfg.row).unexpected, fU32 (s.row (s.out o).cfg.row).overwidth] else []) ++ [fU8 (s.out o).cfg.enable, fU8 (s.out o).cfg.cls, fU8 (s.out o).fmt] ∧ s.canShow dst (blockOf fs).length = true) ∧
    (∃ (s : State) (n : Nat) (dst : Nat) (fs : List Fld), s.admits (.seqStatus n dst) = true ∧ n ≤ 7 ∧ fs = [fU8 (s.seq n).run.code, fU16 (s.seq n).entry, fU64 ((s.seq n).k - 1).toNat, fU32 (s.seq n).step.index, fU16 (s.seq n).rd, fU16 (s.seq n).wr, fFlags [(s.seq n).fUnderrun, (s.seq n).pushErr, (s.seq n).fJumpOverrun, (s.seq n).fCondOverrun]] ++ (s.seq n).counters.fields ∧ s.canShow dst (blockOf fs).length = true) ∧
    (∃ (s : State) (i : Nat) (dst : Nat), s.admits (.inputStatus i dst) = true ∧ i ≤ 584 ∧ s.canShow dst (blockOf (s.inputFields i)).length = true) ∧
    (∃ (s : State) (c : Nat) (dst : Nat) (fs : List Fld), s.admits (.gateStatus c dst) = true ∧ c ≤ 511 ∧ fs = [fU8 (s.chan c).row, fU8 (s.chan c).queues.length, fU16 (s.chan c).poolUsed, fU16 (s.chan c).poolHigh, fU32 (s.chan c).opened, fU32 (s.chan c).refused, fU32 (s.chan c).droppedHits, fU32 (s.chan c).multiAssigned, fU32 (s.chan c).gatesCut, fU32 (s.tap (c / 64)).tapLost] ∧ s.canShow dst (blockOf fs).length = true) ∧
    (∃ (s : State) (c : Nat) (dst : Nat) (fs : List Fld), s.admits (.histStatus c dst) = true ∧ c ≤ 511 ∧ fs = [fU8 (s.histChan c).nextBank, fU8 (s.bank (2 * c)).state.code, fU8 (s.bank (2 * c + 1)).state.code, fU32 (s.histChan c).rejected, fU32 (s.histChan c).matchedFull, fU32 (s.histChan c).matchedWeak, fU32 (s.histChan c).nbRejected, fU32 (s.histChan c).outOfWindow, fU32 (s.histChan c).matchLost, fU32 (s.histChan c).darkMatches, fU32 (s.histChan c).satBins, fU32 (s.histChan c).parityAcc, fU32 (s.histChan c).recomputedBins, fU32 (s.histChan c).erasedBlocks] ∧ s.canShow dst (blockOf fs).length = true) ∧
    (∃ (s : State) (c : Nat) (b : Nat) (dst : Nat), s.admits (.histRead c b dst) = true ∧ c ≤ 511 ∧ b ≤ 1 ∧ (s.dev.run = .readyIdle ∨ (s.bank (2 * c + b)).state = .held) ∧ s.canShow dst (s.histBytes c b).length = true) ∧
    (∃ (s : State) (e : Nat) (dst : Nat) (fs : List Fld), s.admits (.angleStatus e dst) = true ∧ e ≤ 1 ∧ fs = [fBool (s.estValid e), fU32 (s.estimator e).speed, fU8 ((s.estimator e).facetOf ((s.estimator e).angleAt s.now)), fS64 (((s.estimator e).edges.head?.map (·.u)).getD 0), fT (FullTime.ofTq (((s.estimator e).edges.head?.map (·.t)).getD 0)), fU32 (min countMax (s.estimator e).residMax), fU32 (s.estimator e).countCorrections, fU32 (s.estimator e).invalidEpisodes] ++ (List.range 8).map (fun k => fU32 (s.mark k).missed) ∧ s.canShow dst (blockOf fs).length = true) ∧
    (∃ (s : State) (first : Nat) (count : Nat) (dst : Nat) (fs : List Fld), s.admits (.engineStatus first count dst) = true ∧ 1 ≤ count ∧ first + count ≤ 96 ∧ fs = (numbers first count).flatMap (fun e => (s.engine e).fields) ++ [fU8 s.enginesReady, fU16 s.eng.queue.length, fU16 s.jobsInFlight, fU32 s.eng.pool.recomputes, fU32 s.eng.pool.notMeasuredEngine, fU32 s.eng.pool.truncatedSearch, fU32 s.eng.pool.outOfRange, fU32 s.eng.pool.noReturn] ∧ s.canShow dst (blockOf fs).length = true) ∧
    (∃ (s : State) (n : Nat) (dst : Nat) (fs : List Fld), s.admits (.streamStatus n dst) = true ∧ n ≤ 63 ∧ fs = [fU64 (s.stream n).nextIssue, fU64 (s.stream n).nextRelease, fU16 (s.stream n).committed.length, fU16 (s.stream n).reserved, fU16 (s.stream n).used, fU32 (s.stream n).results, fU32 (s.stream n).records, fU32 (s.stream n).skipRecords, fU32 (s.stream n).notMeasured, fU32 (s.stream n).batches] ∧ s.canShow dst (blockOf fs).length = true) ∧
    (∃ (s : State) (n : Nat) (dst : Nat) (fs : List Fld), s.admits (.ringStatus n dst) = true ∧ n ≤ 63 ∧ fs = [fU8 (s.stream n).ring.cfg.enable, fU32 (s.stream n).ring.pi.toNat, fU32 (s.stream n).ring.ci.toNat, fU8 (s.stream n).ring.unconfirmed.length, fBool (s.stream n).ring.reconPending, fBool (s.stream n).ring.ciErr, fU32 (s.stream n).ring.written, fU32 (s.stream n).ring.rewritten, fU32 (s.stream n).ring.reconciliations, fU32 (s.stream n).ring.reconcileFail] ∧ s.canShow dst (blockOf fs).length = true) ∧
    (∃ (s : State) (first : Nat) (count : Nat) (dst : Nat), s.admits (.evchStatus first count dst) = true ∧ 1 ≤ count ∧ first + count ≤ 256 ∧ s.canShow dst (blockOf ((numbers first count).flatMap s.evchFields)).length = true) ∧
    (∃ (s : State) (dst : Nat) (fs : List Fld), s.admits (.motorStatus dst) = true ∧ fs = [fU8 s.motor.run.code, fBool s.motor.atSpeed, fU16 s.motor.d, fU32 (s.motor.reference / 1000), fU32 s.motor.target, fU8 s.motor.mdir, fBool s.motor.mrdy, fBool s.motor.mfltN, fBool s.sv.sto] ++ ([0, 1].flatMap fun e => [fU16 ((s.encoder e).count % ((s.encCfg e).cpr : Int)).toNat, fBool (!(s.encoder e).forward), fU32 (s.estimator e).speed, fU32 (s.encoder e).edges, fU32 (s.encoder e).filtered, fU32 (s.encoder e).countErrors]) ++ [fU32 s.motor.faults, fU32 s.motor.readyTimeouts] ∧ s.canShow dst (blockOf fs).length = true) ∧
    (∃ (s : State) (dst : Nat) (fs : List Fld), s.admits (.svStatus dst) = true ∧ fs = [fU8 s.sv.run.code, s.faultFlags .single, s.faultFlags .demand, s.faultFlags .stop, fBool s.sv.emissionFault, fBool s.sv.permit, s.withdrawing, fBool s.sv.setB] ++ (List.range 4).flatMap (fun i => [fBool (s.safeInput i).a, fBool (s.safeInput i).b, fBool (s.safeInput i).faultLatched]) ++ [0, 1].flatMap (fun e => [fS32 (s.svEnc e).lastWindow, fBool (s.encFailed e)]) ++ (List.range s.limitSet.sectors).map (fun k => fU32 (min countMax (s.countEmitted.sectorCount k))) ++ [fU16 s.twilightLeft, s.safetyCrc] ++ (List.range 4).map (fun i => fU32 (s.safeInput i).discFaults) ++ [fU32 s.sv.counters.twilightEntries, fU32 s.sv.counters.safeStops, fU32 s.sv.counters.stopFaults, fU32 s.sv.counters.rampViolations] ++ (List.range s.limitSet.sectors).map (fun k => fU32 (Tab.get 0 s.sv.counters.budgetDark k)) ++ [fU32 s.sv.counters.slsLowDark, fU32 s.sv.counters.resetsAccepted, fU32 s.sv.counters.resetsRejected] ∧ s.canShow dst (blockOf fs).length = true) ∧
    (∃ (s : State) (dst : Nat) (fs : List Fld), s.admits (.calStatus dst) = true ∧ fs = (numbers 1 7).flatMap s.calObjectFields ++ (List.range 5).flatMap (fun k => [fS16 (s.calRunState k).lastReading, fT (FullTime.ofTq (s.calRunState k).lastTime)]) ++ ((List.range 16).map fun k => fS16 (s.sensor k)) ++ [fU32 s.cal.nlFail, fU32 s.cal.driftLimit, fU32 s.cal.storeFail] ∧ s.canShow dst (blockOf fs).length = true) ∧
    (∃ (s : State) (dst : Nat) (fs : List Fld), s.admits (.pllStatus dst) = true ∧ fs = [fU8 s.pll.run.code, fU8 s.pll.refInUse, fBool s.pll.refA.valid, fS32 (s.pll.refA.ppm s.pll.refCfg.refaFreq (Config.unmeasured s.fresh)), fBool s.pll.refB.valid, fS32 (s.pll.refB.ppm s.pll.refCfg.refbFreq (Config.unmeasured (s.fresh + 1))), fU8 s.pll.cfg.dt, fU8 s.pll.band.toNat, fU64 s.nEffNow, fT (FullTime.ofTq (s.pll.syncOrigin.getD 0)), fBool s.pll.syncOrigin.isSome, fS8 s.pll.residual, fU32 s.pll.unlocks, fU32 s.pll.refSwitches, fU32 s.pll.hopsDone, fU32 s.pll.hopSearched, fU32 s.pll.searches] ∧ s.canShow dst (blockOf fs).length = true) ∧
    (∃ (s : State) (dst : Nat) (m : Int) (fs : List Fld), s.admits (.ptpStatus dst) = true ∧ (∀ k : Nat, s.net.master = some k → m = (k : Int)) ∧ (s.net.master = none → m = Config.unmeasured s.fresh) ∧ fs = (List.range 3).flatMap s.ptpPortFields ++ [(Kind.u64, Val.num m), fS64 (meanOffset s.net.offsets (Config.unmeasured (s.fresh + 1))), fS32 s.rateNow, fBool s.net.stepRefused, fU8 s.tb.source.code, fU32 s.net.outliers, fU32 s.net.refusedSteps, fU32 s.net.masterChanges, fU32 s.net.delayReqDropped] ∧ s.canShow dst (blockOf fs).length = true) ∧
    (∃ (s : State) (dst : Nat) (fs : List Fld), s.admits (.bridgeStatus dst) = true ∧ fs = [fU16 s.net.macs.length, fBool !s.bypassLow, fBool s.net.bridgeFault] ++ (List.range 3).flatMap (fun n => [fU32 (s.port n).forwarded, fU32 (s.port n).discarded, fU32 (s.port n).learnFull]) ∧ s.canShow dst (blockOf fs).length = true) ∧
    (∃ (s : State) (dst : Nat) (fs : List Fld), s.admits (.selftestStatus dst) = true ∧ fs = [fU8 s.dev.testRun.code, fU8 ((s.dev.failing.map testRow).getD 0xFF)] ++ allTests.map s.testResult ++ s.bistFields ∧ s.canShow dst (blockOf fs).length = true) ∧
    (∃ (s : State) (m : Nat) (dst : Nat) (fs : List Fld), s.admits (.mbxStatus m dst) = true ∧ m ≤ 40 ∧ fs = [fU32 (s.box m).cmdPi.toNat, fU32 (s.box m).rspCi.toNat, fU32 (s.box m).rspPi.toNat, fBool (s.pairWait m), fU32 (s.box m).commands, fU32 (s.box m).replays, fU32 (s.box m).dropped, fU32 (s.box m).integrityErrors, fU32 (s.box m).pairDenied] ∧ s.canShow dst (blockOf fs).length = true) ∧
    (∃ (s : State) (dst : Nat) (fs : List Fld), s.admits (.fwStatus dst) = true ∧ fs = s.fw.slotA.fields s.fw.minSec ++ s.fw.slotB.fields s.fw.minSec ++ [fU8 (s.fw.running.getD 0xFF), fU32 ((s.fw.update.map (·.written)).getD 0)] ∧ s.canShow dst (blockOf fs).length = true) ∧
    (∃ (s : State), s.admits .timeStatus = true) :=
  ⟨⟨idle, 135, 0, _, by decide, by decide, rfl, by decide⟩,
   ⟨idle, 7, 0, _, by decide, by decide, rfl, by decide⟩,
   ⟨idle, 584, 0, by decide⟩,
   ⟨idle, 511, 0, _, by decide, by decide, rfl, by decide⟩,
   ⟨idle, 511, 0, _, by decide, by decide, rfl, by decide⟩,
   ⟨idle, 511, 1, 0, by decide⟩,
   ⟨turning 1, 1, 0, _, by decide, by decide, rfl, by decide⟩,
   ⟨idle, 0, 96, 0, _, by decide, by decide, by decide, rfl, by decide⟩,
   ⟨idle, 63, 0, _, by decide, by decide, rfl, by decide⟩,
   ⟨idle, 63, 0, _, by decide, by decide, rfl, by decide⟩,
   ⟨idle, 0, 256, 0, by decide⟩,
   ⟨idle, 0, _, by decide, rfl, by decide⟩,
   ⟨idle, 0, _, by decide, rfl, by decide⟩,
   ⟨idle, 0, _, by decide, rfl, by decide⟩,
   ⟨idle, 0, _, by decide, rfl, by decide⟩,
   ⟨{ idle with net := { idle.net with master := some 5 } }, 0, 5, _, by decide, by decide, by decide, rfl, by decide⟩,
   ⟨idle, 0, _, by decide, rfl, by decide⟩,
   ⟨idle, 0, _, by decide, rfl, by decide⟩,
   ⟨idle, 40, 0, _, by decide, by decide, rfl, by decide⟩,
   ⟨idle, 0, _, by decide, rfl, by decide⟩,
   ⟨idle, by decide⟩⟩

end Sys2Proof.Tests
end

/-! SUPPORT. What the operations do to the time base: all but those that step Polestar, count, or reset the device leave its
nanoseconds as they stand, and most leave the whole of it. `tb_f` says that `f` leaves the time base as it is, `ns_f` that
it leaves the nanoseconds. An equation that holds by definition is given as `(rfl)`: `simp` then takes it as an equation
like the others, and can meet the hypothesis of `tb_each` and `tb_foldl` with it. -/

namespace Sys2Proof.Machine

/-! ### Branches and runs over a list -/

@[simp] theorem State.tb_ite (c : Prop) [Decidable c] (s t : State) :
    (if c then s else t).tb = if c then s.tb else t.tb := apply_ite State.tb c s t

/-- What no application of `f` changes, a fold does not change. -/
theorem State.foldl_field {α β : Type} (g : State → β) (f : State → α → State) (hf : ∀ s a, g (f s a) = g s)
    (l : List α) (s : State) : g (l.foldl f s) = g s := by
  induction l generalizing s with
  | nil => rfl
  | cons a l ih => rw [List.foldl_cons, ih, hf]

@[simp] theorem State.tb_foldl {α : Type} (f : State → α → State) (hf : ∀ s a, (f s a).tb = s.tb) (l : List α)
    (s : State) : (l.foldl f s).tb = s.tb := State.foldl_field State.tb f hf l s

@[simp] theorem State.tb_each (f : State → Nat → State) (hf : ∀ s k, (f s k).tb = s.tb) (ks : List Nat) (s : State) :
    (s.each ks f).tb = s.tb := s.each_field State.tb f ks hf

@[simp] theorem State.ns_each (f : State → Nat → State) (hf : ∀ s k, (f s k).tb.ns = s.tb.ns) (ks : List Nat)
    (s : State) : (s.each ks f).tb.ns = s.tb.ns := s.each_field (fun s => s.tb.ns) f ks hf

/-! ### Units -/

@[simp] theorem State.ns_setAlarm (s : State) (k : Nat) (v : Alarm) : (s.setAlarm k v).tb.ns = s.tb.ns := (rfl)
@[simp] theorem State.ns_modTrg (s : State) (k : Nat) (f : Trg → Trg) : (s.modTrg k f).tb.ns = s.tb.ns := (rfl)
@[simp] theorem State.tb_modOut (s : State) (k : Nat) (f : OutState → OutState) : (s.modOut k f).tb = s.tb := (rfl)
@[simp] theorem State.tb_modRow (s : State) (k : Nat) (f : RowState → RowState) : (s.modRow k f).tb = s.tb := (rfl)

@[simp] theorem State.tb_modShot (s : State) (k : Nat) (f : Option Shot → Option Shot) : (s.modShot k f).tb = s.tb :=
  (rfl)

@[simp] theorem State.tb_modLane (s : State) (k : Nat) (f : List TestJob → List TestJob) : (s.modLane k f).tb = s.tb :=
  (rfl)

@[simp] theorem State.tb_modSeq (s : State) (k : Nat) (f : SeqState → SeqState) : (s.modSeq k f).tb = s.tb := (rfl)

@[simp] theorem State.tb_modEncoder (s : State) (k : Nat) (f : Encoder → Encoder) : (s.modEncoder k f).tb = s.tb :=
  (rfl)

@[simp] theorem State.tb_modEstimator (s : State) (k : Nat) (f : Estimator → Estimator) :
    (s.modEstimator k f).tb = s.tb := (rfl)

@[simp] theorem State.tb_modMark (s : State) (k : Nat) (f : AngleMark → AngleMark) : (s.modMark k f).tb = s.tb := (rfl)
@[simp] theorem State.tb_modChan (s : State) (k : Nat) (f : Channel → Channel) : (s.modChan k f).tb = s.tb := (rfl)
@[simp] theorem State.tb_modSta (s : State) (k : Nat) (f : StaState → StaState) : (s.modSta k f).tb = s.tb := (rfl)

@[simp] theorem State.tb_modInput (s : State) (k : Nat) (f : InputState → InputState) : (s.modInput k f).tb = s.tb :=
  (rfl)

@[simp] theorem State.tb_modTap (s : State) (k : Nat) (f : Tap → Tap) : (s.modTap k f).tb = s.tb := (rfl)
@[simp] theorem State.tb_modBank (s : State) (k : Nat) (f : Bank → Bank) : (s.modBank k f).tb = s.tb := (rfl)

@[simp] theorem State.tb_modHistChan (s : State) (k : Nat) (f : HistChannel → HistChannel) :
    (s.modHistChan k f).tb = s.tb := (rfl)

@[simp] theorem State.tb_modEngine (s : State) (k : Nat) (f : Engine → Engine) : (s.modEngine k f).tb = s.tb := (rfl)
@[simp] theorem State.tb_modStream (s : State) (k : Nat) (f : Stream → Stream) : (s.modStream k f).tb = s.tb := (rfl)
@[simp] theorem State.tb_modEvch (s : State) (k : Nat) (f : EvChannel → EvChannel) : (s.modEvch k f).tb = s.tb := (rfl)
@[simp] theorem State.tb_modHev (s : State) (k : Nat) (f : Hev → Hev) : (s.modHev k f).tb = s.tb := (rfl)
@[simp] theorem State.tb_modCko (s : State) (k : Nat) (f : Cko → Cko) : (s.modCko k f).tb = s.tb := (rfl)
@[simp] theorem State.tb_modPort (s : State) (k : Nat) (f : Port → Port) : (s.modPort k f).tb = s.tb := (rfl)

@[simp] theorem State.tb_modSafeInput (s : State) (k : Nat) (f : SafeInput → SafeInput) :
    (s.modSafeInput k f).tb = s.tb := (rfl)

@[simp] theorem State.tb_modSvEnc (s : State) (k : Nat) (f : SvEncoder → SvEncoder) : (s.modSvEnc k f).tb = s.tb :=
  (rfl)

@[simp] theorem State.tb_modSectorCount (s : State) (k : Nat) (f : Nat → Nat) : (s.modSectorCount k f).tb = s.tb :=
  (rfl)

@[simp] theorem State.tb_modCalStore (s : State) (k : Nat) (f : CalStore → CalStore) : (s.modCalStore k f).tb = s.tb :=
  (rfl)

@[simp] theorem State.tb_modCalWork (s : State) (k : Nat) (f : List CalSet → List CalSet) :
    (s.modCalWork k f).tb = s.tb := (rfl)

@[simp] theorem State.tb_modCalRunState (s : State) (k : Nat) (f : CalRunState → CalRunState) :
    (s.modCalRunState k f).tb = s.tb := (rfl)

@[simp] theorem State.tb_modPace (s : State) (k : Nat) (f : Pace → Pace) : (s.modPace k f).tb = s.tb := (rfl)
@[simp] theorem State.tb_modBox (s : State) (k : Nat) (f : Mailbox → Mailbox) : (s.modBox k f).tb = s.tb := (rfl)

/-! ### Interrupts and reads -/

@[simp] theorem State.tb_setPending (s : State) (v : Nat) (w : Bool) : (s.setPending v w).tb = s.tb := (rfl)
@[simp] theorem State.tb_flushVector (s : State) (v : Nat) : (s.flushVector v).tb = s.tb := by simp [State.flushVector]
@[simp] theorem State.tb_readError (s : State) : s.readError.tb = s.tb := (rfl)

/-! ### Answers (R351, R355 to R361) -/

@[simp] theorem State.tb_sendOwn (s : State) (port pcp : Nat) (b : OwnBody) : (s.sendOwn port pcp b).tb = s.tb := (rfl)

@[simp] theorem State.tb_deliver (s : State) (t : Taken) (r : Response) : (s.deliver t r).tb = s.tb := by
  unfold State.deliver
  (repeat' split) <;> simp

@[simp] theorem State.tb_conclude (s : State) (t : Taken) (r : Response) : (s.conclude t r).tb = s.tb := by
  simp [State.conclude]

@[simp] theorem State.tb_sendBlock (s : State) (t : Taken) (dst : Option Nat) (st : Status) (block : List Byte) :
    (s.sendBlock t dst st block).1.tb = s.tb := by
  unfold State.sendBlock
  (repeat' split) <;> simp

@[simp] theorem State.tb_answerBare (s : State) (op : Nat) (st : Status) (ret : List Fld) (block : List Byte) :
    (s.answerBare op st ret block).tb = s.tb := (rfl)

@[simp] theorem State.tb_answerTaken (s : State) (t : Taken) (dst : Option Nat) (st : Status) (ret : List Fld)
    (block : List Byte) : (s.answerTaken t dst st ret block).tb = s.tb := by simp [State.answerTaken]

@[simp] theorem State.tb_answerWaiting (s : State) (k : WaitKey) (st : Status) (ret : List Fld) :
    (s.answerWaiting k st ret).tb = s.tb := by
  unfold State.answerWaiting
  refine State.tb_foldl _ (fun s w => ?_) _ _
  split <;> simp

@[simp] theorem State.tb_answerAllBusy (s : State) : s.answerAllBusy.tb = s.tb := by
  unfold State.answerAllBusy
  refine State.tb_foldl _ (fun s w => ?_) _ _
  split <;> simp

@[simp] theorem State.tb_release (s : State) : s.release.tb = s.tb := (rfl)
@[simp] theorem State.tb_denyPair (s : State) (t : Taken) : (s.denyPair t).tb = s.tb := by simp [State.denyPair]
@[simp] theorem State.tb_holdFirst (s : State) (t : Taken) : (s.holdFirst t).tb = s.tb := by simp [State.holdFirst]

/-! ### READY and the supervisor -/

@[simp] theorem State.tb_refreshFs (s : State) : s.refreshFs.tb = s.tb := by simp [State.refreshFs]

@[simp] theorem State.tb_stopSequencers (s : State) (why : Reasons) : (s.stopSequencers why).tb = s.tb := by
  simp [State.stopSequencers]

@[simp] theorem State.tb_enterEclipse (s : State) : s.enterEclipse.tb = s.tb := by simp [State.enterEclipse]
@[simp] theorem State.tb_enterDusk (s : State) : s.enterDusk.tb = s.tb := by simp [State.enterDusk]
@[simp] theorem State.tb_enterTwilight (s : State) : s.enterTwilight.tb = s.tb := by simp [State.enterTwilight]
@[simp] theorem State.tb_safeStop (s : State) : s.safeStop.tb = s.tb := by simp [State.safeStop]
@[simp] theorem State.tb_eclipseAtOnce (s : State) : s.eclipseAtOnce.tb = s.tb := by simp [State.eclipseAtOnce]
@[simp] theorem State.tb_warnSupervisor (s : State) : s.warnSupervisor.tb = s.tb := by simp [State.warnSupervisor]
@[simp] theorem State.tb_latch (s : State) (f : SvFault) : (s.latch f).tb = s.tb := by simp [State.latch]

@[simp] theorem State.tb_svFault (s : State) (f : SvFault) : (s.svFault f).tb = s.tb := by
  unfold State.svFault
  split <;> simp

@[simp] theorem State.tb_encoderFault (s : State) (e : Nat) (anew : Bool) : (s.encoderFault e anew).tb = s.tb := by
  simp [State.encoderFault]

@[simp] theorem State.tb_countEmission (s : State) (r n : Nat) : (s.countEmission r n).tb = s.tb := by
  simp [State.countEmission]

@[simp] theorem State.tb_countOutput (s : State) (o : Nat) : (s.countOutput o).tb = s.tb := by
  unfold State.countOutput
  split <;> simp

@[simp] theorem State.tb_countEmitted (s : State) : s.countEmitted.tb = s.tb := by simp [State.countEmitted]

/-! ### Outputs: entries and bursts -/

@[simp] theorem State.tb_answerEntry (s : State) (o : Nat) (e : Entry) (outcome lateness : Nat) :
    (s.answerEntry o e outcome lateness).tb = s.tb := by
  unfold State.answerEntry
  (repeat' split) <;> simp

@[simp] theorem State.tb_arrive (s : State) (o : Nat) (e : Entry) : (s.arrive o e).1.tb = s.tb := by
  unfold State.arrive
  dsimp only
  (repeat' split) <;> simp

@[simp] theorem State.tb_arriveAll (s : State) (es : List (Nat × Entry)) : (s.arriveAll es).tb = s.tb := by
  simp [State.arriveAll]

@[simp] theorem State.tb_logPulses (s : State) (o : Nat) (b : Burst) (ps : List (Nat × Tq × Tq)) :
    (s.logPulses o b ps).tb = s.tb := by
  refine State.tb_foldl _ (fun s x => ?_) ps s
  rfl

@[simp] theorem State.tb_modShot' (s : State) (k : Option Nat) (f : Shot → Shot) : (s.modShot' k f).tb = s.tb := by
  unfold State.modShot'
  split <;> simp

@[simp] theorem State.tb_endBurst (s : State) (o : Nat) (b : Burst) (limit : Tq) :
    (s.endBurst o b limit).tb = s.tb := by
  simp [State.endBurst]

@[simp] theorem State.tb_closeWindows (s : State) (b : Burst) (limit : Tq) : (s.closeWindows b limit).tb = s.tb := (rfl)
@[simp] theorem State.tb_yieldTests (s : State) (o : Nat) (b : Burst) : (s.yieldTests o b).tb = s.tb := (rfl)

@[simp] theorem State.tb_loadBurst (s : State) (o : Nat) (b : Burst) : (s.loadBurst o b).tb = s.tb := by
  simp [State.loadBurst]

@[simp] theorem State.tb_takeEntry (s : State) (o : Nat) (e : Entry) : (s.takeEntry o e).tb = s.tb := by
  unfold State.takeEntry
  dsimp only
  split <;> simp

@[simp] theorem State.tb_stopOutput (s : State) (counts : Bool) (o : Nat) : (s.stopOutput counts o).tb = s.tb := by
  unfold State.stopOutput
  dsimp only
  split <;> simp

@[simp] theorem State.tb_stopFiring (s : State) (counts : Bool) : (s.stopFiring counts).tb = s.tb := by
  simp [State.stopFiring]

/-! ### Program memory -/

@[simp] theorem State.tb_writeProgram (s : State) (a : Nat) (bs : List Byte) : (s.writeProgram a bs).tb = s.tb := (rfl)

/-! ### Outputs: commands -/

@[simp] theorem State.tb_holdInactive (s : State) (o : Nat) : (s.holdInactive o).tb = s.tb := by
  unfold State.holdInactive
  split <;> simp

@[simp] theorem State.tb_clearOutput (s : State) (o : Nat) : (s.clearOutput o).tb = s.tb := by simp [State.clearOutput]

@[simp] theorem State.tb_fireBurst (s : State) (o : Nat) (b : Burst) : (s.fireBurst o b).tb = s.tb := by
  simp [State.fireBurst]

/-! ### Test pulses -/

@[simp] theorem State.tb_markInjected (s : State) (b : Blanking) : (s.markInjected b).tb = s.tb := (rfl)
@[simp] theorem State.tb_keepBlanked (s : State) (b : Blanking) : (s.keepBlanked b).tb = s.tb := (rfl)

@[simp] theorem State.tb_finishTest (s : State) (lane : Nat) (j : TestJob) (status : Nat) (measured : Int) :
    (s.finishTest lane j status measured).tb = s.tb := by
  unfold State.finishTest
  (repeat' split) <;> simp

@[simp] theorem State.tb_dropTests (s : State) : s.dropTests.tb = s.tb := by simp [State.dropTests]

/-! ### The loop -/

/-! ### Polestar -/

@[simp] theorem State.ns_stepAlarm (s : State) (t : Tq) (n : Nat) : (s.stepAlarm t n).tb.ns = s.tb.ns := by
  unfold State.stepAlarm
  dsimp only
  (repeat' split) <;> simp

@[simp] theorem State.ns_settleSync (s : State) : s.settleSync.tb.ns = s.tb.ns := by
  unfold State.settleSync
  (repeat' split) <;> simp

@[simp] theorem State.tb_startBist (s : State) : s.startBist.tb = s.tb := by simp [State.startBist]
@[simp] theorem State.ns_pulseSynco (s : State) (t : Tq) : (s.pulseSynco t).tb.ns = s.tb.ns := (rfl)

/-! ### Results and records -/

@[simp] theorem State.tb_commitWith (s : State) (also : List Nat) (warning : Bool) :
    (s.commitWith also warning).tb = s.tb := by simp [State.commitWith]

@[simp] theorem State.tb_commitJournal (s : State) (warning : Bool) : (s.commitJournal warning).tb = s.tb := by
  simp [State.commitJournal]

@[simp] theorem State.tb_commitResult (s : State) (n : Nat) (r : Result) : (s.commitResult n r).tb = s.tb := (rfl)

@[simp] theorem State.tb_issueSpecial (s : State) (n : Nat) (mk : Nat → Result) : (s.issueSpecial n mk).tb = s.tb := by
  simp [State.issueSpecial]

@[simp] theorem State.tb_closeSkip (s : State) (n : Nat) : (s.closeSkip n).tb = s.tb := by
  unfold State.closeSkip
  split <;> simp

@[simp] theorem State.tb_joinSkip (s : State) (n : Nat) (r : SkipRun) : (s.joinSkip n r).tb = s.tb := by
  unfold State.joinSkip
  dsimp only
  split <;> simp

@[simp] theorem State.tb_reserve (s : State) (n k : Nat) : (s.reserve n k).tb = s.tb := (rfl)
@[simp] theorem State.tb_unreserve (s : State) (n k : Nat) : (s.unreserve n k).tb = s.tb := (rfl)
@[simp] theorem State.tb_useSlots (s : State) (n reserved used : Nat) : (s.useSlots n reserved used).tb = s.tb := (rfl)
@[simp] theorem State.tb_deliverBatch (s : State) (n : Nat) (b : Batch) : (s.deliverBatch n b).tb = s.tb := (rfl)

/-! ### Estimators and marks -/

@[simp] theorem State.tb_disturbStep (s : State) (n : Nat) : (s.disturbStep n).tb = s.tb := by simp [State.disturbStep]

@[simp] theorem State.tb_missMarks (s : State) (enc : Nat) (u : Int) : (s.missMarks enc u).tb = s.tb := by
  refine State.tb_each _ (fun s k => ?_) _ _
  dsimp only
  (repeat' split) <;> rfl

@[simp] theorem State.tb_estLost (s : State) (enc : Nat) : (s.estLost enc).tb = s.tb := by simp [State.estLost]
@[simp] theorem State.tb_darkenDue (s : State) (enc : Nat) : (s.darkenDue enc).tb = s.tb := by simp [State.darkenDue]
@[simp] theorem State.tb_estGained (s : State) (enc : Nat) : (s.estGained enc).tb = s.tb := by simp [State.estGained]

@[simp] theorem State.tb_settleEst (s : State) (enc : Nat) (was : Bool) : (s.settleEst enc was).tb = s.tb := by
  simp [State.settleEst]

@[simp] theorem State.tb_estRestart (s : State) (enc : Nat) : (s.estRestart enc).tb = s.tb := by simp [State.estRestart]

@[simp] theorem State.tb_usableEdge (s : State) (enc : Nat) (x : AngleEdge) : (s.usableEdge enc x).tb = s.tb := by
  simp [State.usableEdge]

@[simp] theorem State.tb_countError (s : State) (enc : Nat) : (s.countError enc).tb = s.tb := by simp [State.countError]
@[simp] theorem State.tb_correctCount (s : State) (enc : Nat) (c : Int) : (s.correctCount enc c).tb = s.tb := (rfl)

/-! ### Angle commands -/

@[simp] theorem State.tb_countEdge (s : State) (enc : Nat) (isB level : Bool) (tBall : Tq) :
    (s.countEdge enc isB level tBall).tb = s.tb := by simp [State.countEdge]

@[simp] theorem State.tb_rearmMarks (s : State) (enc : Nat) : (s.rearmMarks enc).tb = s.tb := by simp [State.rearmMarks]
@[simp] theorem State.tb_indexEdge (s : State) (enc : Nat) : (s.indexEdge enc).tb = s.tb := by simp [State.indexEdge]

/-! ### Gates -/

@[simp] theorem State.tb_modDesc (s : State) (bank : Option Nat) (f : Descriptor → Descriptor) :
    (s.modDesc bank f).tb = s.tb := by
  unfold State.modDesc
  split <;> simp

@[simp] theorem State.tb_armGate (s : State) (c : Nat) (g : Gate) : (s.armGate c g).tb = s.tb := by
  unfold State.armGate
  dsimp only
  split <;> simp

@[simp] theorem State.tb_dropGates (s : State) (shot : Nat) : (s.dropGates shot).tb = s.tb := by simp [State.dropGates]

@[simp] theorem State.tb_settleShot (s : State) (shot : Option Nat) : (s.settleShot shot).tb = s.tb := by
  unfold State.settleShot
  (repeat' split) <;> simp

@[simp] theorem State.tb_removeGate (s : State) (c : Nat) (g : Gate) : (s.removeGate c g).tb = s.tb := by
  simp [State.removeGate]

@[simp] theorem State.tb_notOpened (s : State) (c : Nat) (g : Gate) : (s.notOpened c g).tb = s.tb := by
  simp [State.notOpened]

@[simp] theorem State.tb_unlockGates (s : State) : s.unlockGates.tb = s.tb := by simp [State.unlockGates]
@[simp] theorem State.tb_finishBanks (s : State) (n : Nat) : (s.finishBanks n).tb = s.tb := by simp [State.finishBanks]
@[simp] theorem State.tb_cutGate (s : State) (c : Nat) (g : Gate) : (s.cutGate c g).tb = s.tb := by simp [State.cutGate]

@[simp] theorem State.tb_cutBanks (s : State) (n : Nat) : (s.cutBanks n).tb = s.tb := by
  refine State.tb_each _ (fun s b => ?_) _ _
  dsimp only
  split <;> simp

/-! ### The PLL: lock and references -/

@[simp] theorem State.tb_refreshRefs (s : State) : s.refreshRefs.tb = s.tb := (rfl)
@[simp] theorem State.ns_correct (s : State) (o : Int) : (s.correct o).tb.ns = s.tb.ns := (rfl)

@[simp] theorem State.ns_correctBy (s : State) (o : Int) : (s.correctBy o).tb.ns = s.tb.ns := by
  unfold State.correctBy
  split <;> simp

@[simp] theorem State.ns_switchRef (s : State) (k : Nat) : (s.switchRef k).tb.ns = s.tb.ns := by
  unfold State.switchRef
  dsimp only
  split <;> simp

@[simp] theorem State.ns_beginAttempt (s : State) : s.beginAttempt.tb.ns = s.tb.ns := by
  unfold State.beginAttempt
  dsimp only
  (repeat' split) <;> simp

@[simp] theorem State.ns_restartAttempt (s : State) : s.restartAttempt.tb.ns = s.tb.ns := by simp [State.restartAttempt]

@[simp] theorem State.ns_checkRef (s : State) : s.checkRef.tb.ns = s.tb.ns := by
  unfold State.checkRef
  dsimp only
  (repeat' split) <;> simp

@[simp] theorem State.tb_gateClocks (s : State) : s.gateClocks.tb = s.tb := by simp [State.gateClocks]
@[simp] theorem State.tb_loadClocks (s : State) (o : Tq) : (s.loadClocks o).tb = s.tb := by simp [State.loadClocks]

@[simp] theorem State.tb_endReset (s : State) : s.endReset.tb = s.tb := by
  unfold State.endReset
  split <;> simp

@[simp] theorem State.tb_dropCals (s : State) : s.dropCals.tb = s.tb := (rfl)
@[simp] theorem State.ns_loseLock (s : State) : s.loseLock.tb.ns = s.tb.ns := by simp [State.loseLock]

@[simp] theorem State.ns_unlockFor (s : State) : s.unlockFor.tb.ns = s.tb.ns := by
  unfold State.unlockFor
  split <;> simp

@[simp] theorem State.ns_performPll (s : State) (r : PllRequest) : (s.performPll r).tb.ns = s.tb.ns := by
  simp [State.performPll]

@[simp] theorem State.tb_awaitLock (s : State) : s.awaitLock.tb = s.tb := (rfl)

@[simp] theorem State.ns_runForced (s : State) : s.runForced.tb.ns = s.tb.ns := by
  unfold State.runForced
  (repeat' split) <;> simp

/-! ### Slots and steps -/

@[simp] theorem State.tb_finishStep (s : State) (n : Nat) : (s.finishStep n).tb = s.tb := by simp [State.finishStep]

@[simp] theorem State.tb_finishRun (s : State) (n : Nat) (f : Frozen) : (s.finishRun n f).tb = s.tb := by
  simp [State.finishRun]

@[simp] theorem State.tb_takeBank (s : State) (n c : Nat) (st : Step) : (s.takeBank n c st).tb = s.tb := (rfl)

@[simp] theorem State.tb_beginStep (s : State) (n : Nat) (g : ListEntry) (index : Nat) (t : Tq) (x : Int)
    (ok due : Bool) : (s.beginStep n g index t x ok due).tb = s.tb := by simp [State.beginStep]

@[simp] theorem State.tb_decide_ (s : State) (n i : Nat) (g : ListEntry) : (s.decide_ n i g).tb = s.tb := by
  unfold State.decide_
  dsimp only
  split <;> simp

@[simp] theorem State.tb_playGranule (s : State) (n i : Nat) (g : ListEntry) (ok : Bool) (x : Int) (t : Tq) :
    (s.playGranule n i g ok x t).tb = s.tb := by simp [State.playGranule]

@[simp] theorem State.tb_darkGranule (s : State) (n : Nat) (t : Tq) : (s.darkGranule n t).tb = s.tb := (rfl)

@[simp] theorem State.tb_enterStep (s : State) (n i index : Nat) (x : Int) (t : Tq) (due resumed : Bool) :
    (s.enterStep n i index x t due resumed).tb = s.tb := by simp [State.enterStep]

@[simp] theorem State.tb_frozenBoundary (s : State) (n : Nat) (f : Frozen) (x : Int) (t : Tq) (due : Bool) :
    (s.frozenBoundary n f x t due).tb = s.tb := by simp [State.frozenBoundary]

@[simp] theorem State.tb_fireRow (s : State) (n r : Nat) (k : Int) (t : Tq) : (s.fireRow n r k t).1.tb = s.tb := by
  simp [State.fireRow]

@[simp] theorem State.tb_fireSlot (s : State) (n : Nat) (k : Int) (t : Tq) : (s.fireSlot n k t).tb = s.tb := by
  have fired (rows : List Nat) (p : State × List (Nat × Entry)) :
      (rows.foldl (fun p row => ((p.1.fireRow n row k t).1, p.2 ++ (p.1.fireRow n row k t).2)) p).1.tb = p.1.tb := by
    induction rows generalizing p with
    | nil => rfl
    | cons r rows ih => rw [List.foldl_cons, ih]; exact State.tb_fireRow ..
  simp [State.fireSlot, fired]

@[simp] theorem State.tb_playSlot (s : State) (n : Nat) (t : Tq) (due : Bool) : (s.playSlot n t due).tb = s.tb := by
  simp [State.playSlot]

/-! ### Sequencer commands -/

@[simp] theorem State.tb_addCommitted (s : State) (first count : Nat) : (s.addCommitted first count).tb = s.tb := (rfl)

@[simp] theorem State.tb_startSeq (s : State) (n mode facet : Nat) (time : Tq) :
    (s.startSeq n mode facet time).tb = s.tb := (rfl)

@[simp] theorem State.tb_doorbell (s : State) (seq count : Nat) : (s.doorbell seq count).tb = s.tb := (rfl)

@[simp] theorem State.tb_clearPushErr (s : State) (seq value : Nat) : (s.clearPushErr seq value).tb = s.tb := by
  simp [State.clearPushErr]

/-! ### Stamps -/

@[simp] theorem State.tb_modConv (s : State) (i k : Nat) (f : Converter → Converter) : (s.modConv i k f).tb = s.tb :=
  (rfl)

@[simp] theorem State.tb_lostEdge (s : State) (i : Nat) : (s.lostEdge i).tb = s.tb := (rfl)
@[simp] theorem State.tb_loseRaw (s : State) (i : Nat) : (s.loseRaw i).tb = s.tb := by simp [State.loseRaw]
@[simp] theorem State.tb_pairLost (s : State) (i : Nat) : (s.pairLost i).tb = s.tb := (rfl)
@[simp] theorem State.tb_intoPath (s : State) (i : Nat) (p : PathStamp) : (s.intoPath i p).tb = s.tb := (rfl)

@[simp] theorem State.tb_exportRaw (s : State) (n : Nat) (r : RawStamp) : (s.exportRaw n r).tb = s.tb := by
  simp [State.exportRaw]

@[simp] theorem State.tb_drainRaw (i n : Nat) (s : State) : (State.drainRaw i n s).tb = s.tb := by
  induction n generalizing s with
  | zero => rfl
  | succ n ih =>
    unfold State.drainRaw
    (repeat' split) <;> simp [ih]

@[simp] theorem State.tb_drainAllRaw (s : State) : s.drainAllRaw.tb = s.tb :=
  State.tb_each _ (fun _ i => State.tb_drainRaw i _ _) _ s

@[simp] theorem State.tb_deliverRaw (s : State) (i : Nat) (p : PathStamp) : (s.deliverRaw i p).tb = s.tb := by
  unfold State.deliverRaw
  dsimp only
  split
  · simp
  · rw [State.tb_drainRaw, State.tb_setInput]

@[simp] theorem State.tb_tapExport (s : State) (c st : Nat) (p : PathStamp) (t : Tq) (before : Bool) :
    (s.tapExport c st p t before).tb = s.tb := by simp [State.tapExport]

@[simp] theorem State.tb_enterGates (s : State) (c : Nat) (p : PathStamp) : (s.enterGates c p).tb = s.tb := by
  unfold State.enterGates
  dsimp only
  refine (State.tb_foldl _ (fun s g => ?_) _ _).trans ?_
  · split <;> simp
  · split <;> simp

@[simp] theorem State.tb_dropStamp (s : State) (c : Nat) (p : PathStamp) : (s.dropStamp c p).tb = s.tb := by
  simp [State.dropStamp]

@[simp] theorem State.tb_popPath (s : State) (i : Nat) : (s.popPath i).tb = s.tb := (rfl)

@[simp] theorem State.tb_timeoutStamp (s : State) (i : Nat) (p : PathStamp) : (s.timeoutStamp i p).tb = s.tb := by
  simp [State.timeoutStamp]

@[simp] theorem State.tb_timeoutStamps (i n : Nat) (s : State) : (State.timeoutStamps i n s).tb = s.tb := by
  induction n generalizing s with
  | zero => rfl
  | succ n ih =>
    unfold State.timeoutStamps
    (repeat' split) <;> simp [ih]

@[simp] theorem State.tb_deliverStamp (s : State) (i : Nat) (p : PathStamp) : (s.deliverStamp i p).tb = s.tb := by
  simp [State.deliverStamp]

@[simp] theorem State.tb_convertHit (s : State) (c : Nat) (falling : Bool) (tBall : Tq) (phase n : Nat) :
    (s.convertHit c falling tBall phase n).tb = s.tb := by
  unfold State.convertHit
  dsimp only
  split <;> simp

@[simp] theorem State.tb_hitEdge (s : State) (c : Nat) (falling : Bool) (tBall : Tq) (phase n : Nat) :
    (s.hitEdge c falling tBall phase n).tb = s.tb := by simp [State.hitEdge]

/-! ### Input commands -/

@[simp] theorem State.tb_configureHit (s : State) (c : Nat) (cfg : HitCfg) : (s.configureHit c cfg).tb = s.tb := (rfl)
@[simp] theorem State.tb_configureSta (s : State) (cfg : StaInCfg) (k : Nat) : (s.configureSta cfg k).tb = s.tb := (rfl)

@[simp] theorem State.ns_clearInput (s : State) (i : Nat) : (s.clearInput i).tb.ns = s.tb.ns := by
  unfold State.clearInput
  (repeat' split) <;> simp

@[simp] theorem State.tb_clearGates (s : State) (c : Nat) : (s.clearGates c).tb = s.tb := (rfl)

@[simp] theorem State.tb_bindRaw (s : State) (n : Nat) (ins : List Nat) : (s.bindRaw n ins).tb = s.tb := by
  simp [State.bindRaw]

@[simp] theorem State.tb_armTap (s : State) (profile stream : Nat) (t : Tq) (c : Nat) :
    (s.armTap profile stream t c).tb = s.tb := by simp [State.armTap]

/-! ### Converters -/

@[simp] theorem State.tb_decideCal (s : State) (c : Nat) (g : Gate) : (s.decideCal c g).tb = s.tb := by
  simp [State.decideCal]

@[simp] theorem State.tb_nextTurn (s : State) (i : Nat) : (s.nextTurn i).tb = s.tb := by
  unfold State.nextTurn
  (repeat' split) <;> simp

@[simp] theorem State.tb_calDone (s : State) (i k m1 m2 : Nat) : (s.calDone i k m1 m2).tb = s.tb := by
  simp [State.calDone]

@[simp] theorem State.tb_roll (s : State) (c k : Nat) : (s.roll c k).tb = s.tb := (rfl)

@[simp] theorem State.tb_applyTables (s : State) (i : Nat) : (s.applyTables i).tb = s.tb := by
  unfold State.applyTables
  split <;> simp

@[simp] theorem State.tb_openGate (s : State) (c : Nat) (g : Gate) : (s.openGate c g).tb = s.tb := by
  simp [State.openGate]

/-! ### Matches and banks -/

@[simp] theorem State.tb_markMulti (s : State) (bank : Option Nat) : (s.markMulti bank).tb = s.tb := by
  simp [State.markMulti]

@[simp] theorem State.tb_accumulate (s : State) (c b : Nat) (tau : Int) (full multi : Bool) :
    (s.accumulate c b tau full multi).1.tb = s.tb := by
  unfold State.accumulate
  dsimp only
  split <;> simp

@[simp] theorem State.tb_keepMatch (s : State) (c : Nat) (g : Gate) (i : Nat) (m : Match) :
    (s.keepMatch c g i m).tb = s.tb := by
  unfold State.keepMatch
  split <;> simp

@[simp] theorem State.tb_settleMatch (s : State) (c id i : Nat) : (s.settleMatch c id i).tb = s.tb := by
  unfold State.settleMatch
  (repeat' split) <;> simp

@[simp] theorem State.tb_settleMatches (s : State) (c : Nat) (g : Gate) : (s.settleMatches c g).tb = s.tb := by
  simp [State.settleMatches]

@[simp] theorem State.tb_acceptMatch (s : State) (c : Nat) (g : Gate) (h : List (Nat × Word)) :
    (s.acceptMatch c g h).tb = s.tb := by simp [State.acceptMatch]

@[simp] theorem State.tb_decideWord (s : State) (c : Nat) (g : Gate) (w : Word) (rest : List Word) :
    (s.decideWord c g w rest).tb = s.tb := by simp [State.decideWord]

@[simp] theorem State.tb_markHead (s : State) (c : Nat) : (s.markHead c).tb = s.tb := by
  unfold State.markHead
  (repeat' split) <;> simp

@[simp] theorem State.tb_drainGate (s : State) (c : Nat) (g : Gate) : (s.drainGate c g).tb = s.tb := by
  simp [State.drainGate]

@[simp] theorem State.tb_testMatch (s : State) (c : Nat) (g : Gate) (i : Nat) : (s.testMatch c g i).tb = s.tb := by
  unfold State.testMatch
  (repeat' split) <;> simp

/-! ### Calibration objects -/

@[simp] theorem State.tb_setItem (s : State) (o k i : Nat) (v : Int) : (s.setItem o k i v).tb = s.tb := (rfl)

@[simp] theorem State.tb_ensureSet (s : State) (k : Nat) (temp : Int) : (s.ensureSet k temp).tb = s.tb := by
  simp [State.ensureSet]

theorem State.tb_concludeRun {s t : State} (h : t.tb = s.tb) (k : WaitKey) : (s.concludeRun t k).tb = s.tb := by
  unfold State.concludeRun
  split <;> simp [h]

@[simp] theorem State.tb_finishLearn (s : State) (l : StaLearn) : (s.finishLearn l).tb = s.tb := by
  refine (State.tb_concludeRun ?_ _).trans rfl
  simp

@[simp] theorem State.tb_learnShot (s : State) (r : Nat) (d : Int) : (s.learnShot r d).tb = s.tb := by
  simp [State.learnShot]

@[simp] theorem State.tb_finishTarget (s : State) (t : TargetRun) : (s.finishTarget t).tb = s.tb := by
  unfold State.finishTarget
  dsimp only
  split
  · simp
  · refine (State.tb_concludeRun ?_ _).trans rfl
    simp

@[simp] theorem State.tb_targetJob (s : State) (c : Nat) (time : Tq) (tof : Option (Int × Bool)) :
    (s.targetJob c time tof).tb = s.tb := by simp [State.targetJob]

/-! ### Start inputs, triggers and SYNC -/

@[simp] theorem State.tb_reportEmission (s : State) (r : Nat) (unexpected : Bool) (t : Tq) :
    (s.reportEmission r unexpected t).tb = s.tb := by simp [State.reportEmission]

@[simp] theorem State.tb_staRise (s : State) (k r : Nat) (t : Tq) : (s.staRise k r t).tb = s.tb := by
  unfold State.staRise
  split <;> simp

@[simp] theorem State.tb_staFall (s : State) (k : Nat) (t : Tq) : (s.staFall k t).tb = s.tb := by
  unfold State.staFall
  split <;> simp

@[simp] theorem State.tb_staStamp (s : State) (k : Nat) (rising : Bool) (t : Tq) :
    (s.staStamp k rising t).tb = s.tb := by
  simp [State.staStamp]

@[simp] theorem State.tb_staEdge (s : State) (k : Nat) (falling : Bool) (tBall : Tq) (phase n : Nat) :
    (s.staEdge k falling tBall phase n).tb = s.tb := by
  unfold State.staEdge
  dsimp only
  split <;> simp

@[simp] theorem State.tb_missPulse (s : State) (r : Nat) (w : MatchWin) : (s.missPulse r w).tb = s.tb := by
  simp [State.missPulse]

@[simp] theorem State.tb_chooseRef (s : State) (x : Shot) (dark : Bool) : (s.chooseRef x dark).1.tb = s.tb := by
  unfold State.chooseRef
  dsimp only
  (repeat' split) <;> simp

@[simp] theorem State.tb_fixReference (s : State) (k : Nat) (x : Shot) : (s.fixReference k x).tb = s.tb := by
  simp [State.fixReference]

/-! ### Histogram commands -/

@[simp] theorem State.tb_endHold (s : State) (c : Nat) : (s.endHold c).tb = s.tb := by
  unfold State.endHold
  split <;> simp

@[simp] theorem State.tb_clearHist (s : State) (c : Nat) : (s.clearHist c).tb = s.tb := (rfl)

/-! ### Engines -/

@[simp] theorem State.tb_refreshEngines (s : State) : s.refreshEngines.tb = s.tb := by simp [State.refreshEngines]
@[simp] theorem State.tb_endBank (s : State) (j : Job) : (s.endBank j).tb = s.tb := by simp [State.endBank]

@[simp] theorem State.tb_commitJob (s : State) (j : Job) (kind : ResultKind) (recs : List Rec)
    (tof : Option (Int × Bool)) : (s.commitJob j kind recs tof).tb = s.tb := by simp [State.commitJob]

@[simp] theorem State.tb_notMeasured (s : State) (j : Job) (why : NotMeasured) : (s.notMeasured j why).tb = s.tb := by
  simp [State.notMeasured]

@[simp] theorem State.tb_leaveBank (s : State) (b : Nat) : (s.leaveBank b).tb = s.tb := by simp [State.leaveBank]

@[simp] theorem State.tb_closeBank (s : State) (b : Nat) (st : BankStep) : (s.closeBank b st).tb = s.tb := by
  unfold State.closeBank
  dsimp only
  split <;> simp

@[simp] theorem State.tb_startJob (s : State) (e : Nat) (j : Job) (rest : List Job) : (s.startJob e j rest).tb = s.tb :=
  (rfl)

@[simp] theorem State.tb_countRun (s : State) (e : Nat) (j : Job) (r : KernelRun) : (s.countRun e j r).tb = s.tb :=
  (rfl)

@[simp] theorem State.tb_finishJob (s : State) (e : Nat) (j : Job) : (s.finishJob e j).tb = s.tb := by
  simp [State.finishJob]

@[simp] theorem State.tb_engineFault (s : State) (e : Nat) (j : Job) (why : FaultCause) :
    (s.engineFault e j why).tb = s.tb := by simp [State.engineFault]

@[simp] theorem State.tb_idleFault (s : State) (e : Nat) : (s.idleFault e).tb = s.tb := by simp [State.idleFault]

@[simp] theorem State.tb_endTest (s : State) (e : Nat) (pass : Bool) : (s.endTest e pass).tb = s.tb := by
  simp [State.endTest]

@[simp] theorem State.tb_beginTest (s : State) (e : Nat) : (s.beginTest e).tb = s.tb := by simp [State.beginTest]

@[simp] theorem State.tb_dropTest (s : State) (w : WaitKey × Option Taken) : (s.dropTest w).tb = s.tb := by
  unfold State.dropTest
  split <;> simp

@[simp] theorem State.tb_turnAway (s : State) : s.turnAway.tb = s.tb := by simp [State.turnAway]

/-! ### Rings -/

@[simp] theorem State.tb_modRing (s : State) (n : Nat) (f : Ring → Ring) : (s.modRing n f).tb = s.tb := (rfl)
@[simp] theorem State.tb_writeSlot (s : State) (n : Nat) (b : Batch) : (s.writeSlot n b).tb = s.tb := (rfl)
@[simp] theorem State.tb_writePi (s : State) (n next : Nat) : (s.writePi n next).tb = s.tb := (rfl)

@[simp] theorem State.tb_confirmBatches (s : State) (n k : Nat) : (s.confirmBatches n k).tb = s.tb := by
  simp [State.confirmBatches]

@[simp] theorem State.tb_reconcileRing (s : State) (n k : Nat) : (s.reconcileRing n k).tb = s.tb := by
  simp [State.reconcileRing]

@[simp] theorem State.tb_reconcile (s : State) (reads : List (Option Bool)) : (s.reconcile reads).tb = s.tb := by
  unfold State.reconcile
  split <;> simp

@[simp] theorem State.tb_suspendRings (s : State) : s.suspendRings.tb = s.tb := by simp [State.suspendRings]
@[simp] theorem State.tb_enableMaster (s : State) : s.enableMaster.tb = s.tb := by simp [State.enableMaster]
@[simp] theorem State.tb_refreshPcie (s : State) : s.refreshPcie.tb = s.tb := by simp [State.refreshPcie]

@[simp] theorem State.tb_hostLinkReset (s : State) (kind : LinkReset) : (s.hostLinkReset kind).tb = s.tb := by
  simp [State.hostLinkReset]

@[simp] theorem State.tb_unmask (s : State) (vector : Nat) : (s.unmask vector).tb = s.tb := by simp [State.unmask]

@[simp] theorem State.tb_writeMsix (s : State) (vector word : Nat) (value : BitVec 32) :
    (s.writeMsix vector word value).tb = s.tb := by simp [State.writeMsix]

/-! ### Event fabric -/

@[simp] theorem State.tb_fireChannel (s : State) (c : Nat) : (s.fireChannel c).tb = s.tb := by simp [State.fireChannel]

@[simp] theorem State.tb_writeEvchFire (s : State) (value : Nat) : (s.writeEvchFire value).tb = s.tb := by
  simp [State.writeEvchFire]

@[simp] theorem State.tb_emptyPlaces (s : State) : s.emptyPlaces.tb = s.tb := (rfl)

@[simp] theorem State.tb_hevEvent (s : State) (n : Nat) (p : Nat × Event) : (s.hevEvent n p).tb = s.tb := by
  simp [State.hevEvent]

@[simp] theorem State.tb_arriveAt (s : State) (i : Nat) (es : Wave) : (s.arriveAt i es).tb = s.tb := by
  simp [State.arriveAt]

/-! ### Stores -/

@[simp] theorem State.tb_storeObject (s : State) (id : Nat) (p : CalPayload) (verified : Bool) :
    (s.storeObject id p verified).tb = s.tb := by simp [State.storeObject]

@[simp] theorem State.tb_scanStores (s : State) : s.scanStores.tb = s.tb := by simp [State.scanStores]

/-! ### The PLL: commands -/

@[simp] theorem State.ns_changePlan (s : State) (r : PllRequest) : (s.changePlan r).tb.ns = s.tb.ns := by
  unfold State.changePlan
  split <;> simp

@[simp] theorem State.tb_pllFields (s : State) (cfg : PllCfg) : (s.pllFields cfg).tb = s.tb := (rfl)
@[simp] theorem State.tb_refFields (s : State) (cfg : PllRefCfg) : (s.refFields cfg).tb = s.tb := (rfl)
@[simp] theorem State.tb_searchBand (s : State) : s.searchBand.tb = s.tb := (rfl)

@[simp] theorem State.tb_chooseBand (s : State) : s.chooseBand.tb = s.tb := by
  unfold State.chooseBand
  (repeat' split) <;> simp

@[simp] theorem State.tb_renewCals (s : State) : s.renewCals.tb = s.tb := by simp [State.renewCals]
@[simp] theorem State.tb_noteRecal (s : State) : s.noteRecal.tb = s.tb := by simp [State.noteRecal]

@[simp] theorem State.ns_lockPll (s : State) (residual : Int) : (s.lockPll residual).tb.ns = s.tb.ns := by
  simp [State.lockPll]

@[simp] theorem State.tb_syncReset (s : State) (t : Tq) : (s.syncReset t).tb = s.tb := by simp [State.syncReset]

/-! ### Network -/

@[simp] theorem State.tb_refreshPort (s : State) (n : Nat) : (s.refreshPort n).tb = s.tb := by simp [State.refreshPort]
@[simp] theorem State.tb_refreshPorts (s : State) : s.refreshPorts.tb = s.tb := by simp [State.refreshPorts]
@[simp] theorem State.ns_holdRate (s : State) : s.holdRate.tb.ns = s.tb.ns := (rfl)
@[simp] theorem State.ns_loseControl (s : State) : s.loseControl.tb.ns = s.tb.ns := (rfl)
@[simp] theorem State.ns_restartPtp (s : State) : s.restartPtp.tb.ns = s.tb.ns := (rfl)

@[simp] theorem State.tb_selectMaster (s : State) (n : Nat) (a : AnnounceMsg) : (s.selectMaster n a).tb = s.tb := by
  simp [State.selectMaster]

@[simp] theorem State.tb_selectBest (s : State) : s.selectBest.tb = s.tb := by
  unfold State.selectBest
  (repeat' split) <;> simp

@[simp] theorem State.ns_loseMaster (s : State) : s.loseMaster.tb.ns = s.tb.ns := (rfl)

@[simp] theorem State.ns_adoptPort (s : State) (n : Nat) (c : PtpPortCfg) : (s.adoptPort n c).tb.ns = s.tb.ns := by
  unfold State.adoptPort
  dsimp only
  (repeat' split) <;> simp

@[simp] theorem State.ns_stampOn (s : State) (n : Nat) : (s.stampOn n).tb.ns = s.tb.ns := by
  unfold State.stampOn
  split <;> simp

@[simp] theorem State.ns_largeOffset (s : State) (o : Int) : (s.largeOffset o).tb.ns = s.tb.ns := by
  unfold State.largeOffset
  dsimp only
  split <;> simp

@[simp] theorem State.ns_applyOffset (s : State) (o : Int) : (s.applyOffset o).tb.ns = s.tb.ns := by
  unfold State.applyOffset
  dsimp only
  split <;> simp

@[simp] theorem State.tb_adoptPtp (s : State) : s.adoptPtp.tb = s.tb := by
  unfold State.adoptPtp
  split <;> simp

@[simp] theorem State.ns_servo (s : State) (o : Int) : (s.servo o).tb.ns = s.tb.ns := by
  unfold State.servo
  dsimp only
  (repeat' split) <;> simp

@[simp] theorem State.tb_announced (s : State) (n : Nat) (a : AnnounceMsg) : (s.announced n a).tb = s.tb := by
  simp [State.announced]

@[simp] theorem State.tb_hear (s : State) (o : Int) : (s.hear o).tb = s.tb := by simp [State.hear]

@[simp] theorem State.ns_ptpFrame (s : State) (n : Nat) (b : PtpBody) : (s.ptpFrame n b).tb.ns = s.tb.ns := by
  unfold State.ptpFrame
  dsimp only
  (repeat' split) <;> simp

@[simp] theorem State.tb_learn (s : State) (n mac : Nat) : (s.learn n mac).tb = s.tb := by simp [State.learn]

@[simp] theorem State.tb_enqueue (n : Nat) (f : NetFrame) (s : State) (k : Nat) : (State.enqueue n f s k).tb = s.tb :=
  (rfl)

@[simp] theorem State.tb_forward (s : State) (n : Nat) (f : NetFrame) : (s.forward n f).tb = s.tb := by
  simp [State.forward]

@[simp] theorem State.ns_sendFrame (s : State) (k : Nat) : (s.sendFrame k).tb.ns = s.tb.ns := by
  unfold State.sendFrame
  (repeat' split) <;> simp

@[simp] theorem State.ns_bridgeFrame (s : State) (n : Nat) (f : NetFrame) : (s.bridgeFrame n f).tb.ns = s.tb.ns := by
  unfold State.bridgeFrame
  split <;> simp

@[simp] theorem State.ns_pps (s : State) (t : Tq) : (s.pps t).tb.ns = s.tb.ns := by simp [State.pps]

@[simp] theorem State.ns_trgStamp (s : State) (n : Nat) (falling : Bool) (tBall t : Tq) :
    (s.trgStamp n falling tBall t).tb.ns = s.tb.ns := by
  unfold State.trgStamp
  dsimp only
  split <;> simp

/-! ### Motor -/

@[simp] theorem State.tb_updateReference (s : State) : s.updateReference.tb = s.tb := (rfl)
@[simp] theorem State.tb_watchSpeed (s : State) : s.watchSpeed.tb = s.tb := (rfl)
@[simp] theorem State.tb_motorFault (s : State) : s.motorFault.tb = s.tb := by simp [State.motorFault]
@[simp] theorem State.tb_motorStop (s : State) : s.motorStop.tb = s.tb := by simp [State.motorStop]
@[simp] theorem State.tb_resumeMotor (s : State) : s.resumeMotor.tb = s.tb := by simp [State.resumeMotor]

/-! ### Motor commands -/

@[simp] theorem State.tb_motorStart (s : State) (target : Nat) : (s.motorStart target).tb = s.tb := by
  unfold State.motorStart
  split <;> simp

@[simp] theorem State.tb_motorSetSpeed (s : State) (target : Nat) : (s.motorSetSpeed target).tb = s.tb := by
  simp [State.motorSetSpeed]

@[simp] theorem State.tb_motorHalt (s : State) : s.motorHalt.tb = s.tb := by
  unfold State.motorHalt
  split <;> simp

/-! ### Supervisor: inputs, windows and changes -/

@[simp] theorem State.tb_noteReadback (s old : State) : (s.noteReadback old).tb = s.tb := by simp [State.noteReadback]

@[simp] theorem State.tb_sampleReset (s : State) (a b : Bool) : (s.sampleReset a b).tb = s.tb := by
  simp [State.sampleReset]

@[simp] theorem State.tb_countSample (s : State) : s.countSample.tb = s.tb := (rfl)
@[simp] theorem State.tb_svSample (s : State) (l : SafeLevels) : (s.svSample l).tb = s.tb := by simp [State.svSample]
@[simp] theorem State.tb_checkEncoders (s : State) : s.checkEncoders.tb = s.tb := by simp [State.checkEncoders]
@[simp] theorem State.tb_clearInputs (s : State) : s.clearInputs.tb = s.tb := by simp [State.clearInputs]
@[simp] theorem State.tb_countReset (s : State) (accepted : Bool) : (s.countReset accepted).tb = s.tb := (rfl)
@[simp] theorem State.tb_watchAgreement (s : State) : s.watchAgreement.tb = s.tb := (rfl)
@[simp] theorem State.tb_chooseSet (s : State) : s.chooseSet.tb = s.tb := by simp [State.chooseSet]

@[simp] theorem State.tb_checkDusk (s : State) : s.checkDusk.tb = s.tb := by
  unfold State.checkDusk
  split <;> simp

@[simp] theorem State.tb_checkSpeed (s : State) : s.checkSpeed.tb = s.tb := by simp [State.checkSpeed]
@[simp] theorem State.tb_closeSpeedWindow (s : State) : s.closeSpeedWindow.tb = s.tb := by simp [State.closeSpeedWindow]
@[simp] theorem State.tb_reconfigure (s : State) (f : SafetyCfg → SafetyCfg) : (s.reconfigure f).tb = s.tb := (rfl)

/-! ### Runs of calibration -/

@[simp] theorem State.tb_refreshCal (s : State) : s.refreshCal.tb = s.tb := by
  refine State.tb_each _ (fun s o => ?_) _ s
  rfl

@[simp] theorem State.tb_scheduleIdle (s : State) (k : Nat) : (s.scheduleIdle k).tb = s.tb := by
  simp [State.scheduleIdle]

@[simp] theorem State.ns_startIdle (s : State) : s.startIdle.tb.ns = s.tb.ns := by
  unfold State.startIdle
  dsimp only
  split <;> simp

@[simp] theorem State.tb_scheduleRuns (s : State) : s.scheduleRuns.tb = s.tb := by simp [State.scheduleRuns]
@[simp] theorem State.tb_watchHeat (s : State) : s.watchHeat.tb = s.tb := by simp [State.watchHeat]

@[simp] theorem State.tb_newVernier (s : State) (i : Nat) (ts : List VernierTables) :
    (s.newVernier i ts).tb = s.tb := by
  simp [State.newVernier]

@[simp] theorem State.tb_nlFailed (s : State) (i : Nat) : (s.nlFailed i).tb = s.tb := (rfl)

@[simp] theorem State.tb_correctSkew (s : State) (isOut : Bool) (u : Nat) (d : Int) :
    (s.correctSkew isOut u d).tb = s.tb := by simp [State.correctSkew]

@[simp] theorem State.tb_trackOut (s : State) (p : Nat × Int) : (s.trackOut p).tb = s.tb := by simp [State.trackOut]
@[simp] theorem State.tb_trackIn (s : State) (p : Nat × Int) : (s.trackIn p).tb = s.tb := by simp [State.trackIn]

@[simp] theorem State.tb_feedUnit (width deadline : Nat) (p : State × List SkewUnit) (u : SkewUnit) :
    (State.feedUnit width deadline p u).1.tb = p.1.tb := by
  obtain ⟨s, later⟩ := p
  unfold State.feedUnit
  dsimp only
  (repeat' split) <;> simp

@[simp] theorem State.tb_feedTrack (s : State) (width deadline : Nat) (r : SkewRun) :
    (s.feedTrack width deadline r).tb = s.tb := by
  have fed (us : List SkewUnit) (p : State × List SkewUnit) :
      (us.foldl (State.feedUnit width deadline) p).1.tb = p.1.tb := by
    induction us generalizing p with
    | nil => rfl
    | cons u us ih => rw [List.foldl_cons, ih, State.tb_feedUnit]
  exact fed _ _

@[simp] theorem State.tb_beginTrack (s : State) (sensor width deadline : Nat) :
    (s.beginTrack sensor width deadline).tb = s.tb := by simp [State.beginTrack]

@[simp] theorem State.tb_endTrack (s : State) (r : SkewRun) : (s.endTrack r).tb = s.tb := by simp [State.endTrack]

@[simp] theorem State.tb_stopTrack (s : State) : s.stopTrack.tb = s.tb := by
  unfold State.stopTrack
  split <;> simp

@[simp] theorem State.tb_stopAuto (s : State) : s.stopAuto.tb = s.tb := by simp [State.stopAuto]

/-! ### Calibration commands -/

@[simp] theorem State.ns_askRun (s : State) (function first count : Nat) :
    (s.askRun function first count).tb.ns = s.tb.ns := by
  unfold State.askRun
  (repeat' split) <;> simp

@[simp] theorem State.tb_noteSetRead (s : State) (c : Instr) (object len : Nat) (data : Option (List Int)) :
    (s.noteSetRead c object len data).tb = s.tb := by simp [State.noteSetRead]

/-! ### Resets -/

@[simp] theorem State.tb_cutStore (s : State) : s.cutStore.tb = s.tb := by
  unfold State.cutStore
  split <;> simp

@[simp] theorem State.tb_readMode (s : State) : s.readMode.tb = s.tb := by simp [State.readMode]

@[simp] theorem State.tb_quietOutput (s : State) (o : Nat) : (s.quietOutput o).tb = s.tb := by
  unfold State.quietOutput
  split <;> simp

@[simp] theorem State.tb_enterNadir (s : State) : s.enterNadir.tb = s.tb := by simp [State.enterNadir]

@[simp] theorem State.ns_retestStep (s : State) : s.retestStep.tb.ns = s.tb.ns := by
  unfold State.retestStep
  (repeat' split) <;> simp

@[simp] theorem State.tb_noteTest (s : State) (t : SelfTest) (pass : Bool) : (s.noteTest t pass).tb = s.tb := (rfl)
@[simp] theorem State.tb_startSupervisor (s : State) : s.startSupervisor.tb = s.tb := by simp [State.startSupervisor]

@[simp] theorem State.tb_testFailed (s : State) (t : SelfTest) : (s.testFailed t).tb = s.tb := by
  simp [State.testFailed]

@[simp] theorem State.tb_denyHeld (s : State) : s.denyHeld.tb = s.tb := by
  unfold State.denyHeld
  split <;> simp

@[simp] theorem State.tb_dropQueued (s : State) : s.dropQueued.tb = s.tb := by simp [State.dropQueued]
@[simp] theorem State.tb_dropWork (s : State) : s.dropWork.tb = s.tb := by simp [State.dropWork]

@[simp] theorem State.tb_dropTaken (s : State) : s.dropTaken.tb = s.tb := by
  unfold State.dropTaken
  split <;> simp

@[simp] theorem State.tb_warmReset (s : State) : s.warmReset.tb = s.tb := by simp [State.warmReset]
@[simp] theorem State.tb_issueLost (s : State) (p : Nat × Rec) : (s.issueLost p).tb = s.tb := by simp [State.issueLost]
@[simp] theorem State.tb_deriveLost (s : State) : s.deriveLost.tb = s.tb := by simp [State.deriveLost]

@[simp] theorem State.tb_readFlash (s : State) (fails : Bool) : (s.readFlash fails).tb = s.tb := by
  refine State.tb_foldl _ (fun s k => ?_) _ _
  rfl

@[simp] theorem State.tb_stayInBoot (s : State) : s.stayInBoot.tb = s.tb := by simp [State.stayInBoot]
@[simp] theorem State.tb_scheduleMissing (s : State) : s.scheduleMissing.tb = s.tb := by simp [State.scheduleMissing]
@[simp] theorem State.tb_firstStart (s : State) : s.firstStart.tb = s.tb := by simp [State.firstStart]

/-! ### Tests and function resets -/

@[simp] theorem State.ns_startTimebase (s : State) : s.startTimebase.tb.ns = s.tb.ns := by
  unfold State.startTimebase
  split <;> simp

@[simp] theorem State.ns_testReadies (s : State) (t : SelfTest) : (s.testReadies t).tb.ns = s.tb.ns := by
  unfold State.testReadies
  split <;> simp

@[simp] theorem State.tb_lockstepMismatch (s : State) : s.lockstepMismatch.tb = s.tb := by simp [State.lockstepMismatch]

@[simp] theorem State.tb_functionFailed (s : State) (t : SelfTest) : (s.functionFailed t).tb = s.tb := by
  simp [State.functionFailed]

@[simp] theorem State.tb_endFuncReset (s : State) (b k : Nat) : (s.endFuncReset b k).tb = s.tb := (rfl)
@[simp] theorem State.tb_beginFuncReset (s : State) (b k : Nat) : (s.beginFuncReset b k).tb = s.tb := (rfl)

@[simp] theorem State.tb_firstConverter (k : Nat) (s : State) (n : Nat) (m : Nat × Nat) :
    (State.firstConverter k s n m).tb = s.tb := by simp [State.firstConverter]

@[simp] theorem State.tb_firstCalibration (s : State) (k : Nat) (readings : List (Nat × Nat)) :
    (s.firstCalibration k readings).tb = s.tb := by simp [State.firstCalibration]

@[simp] theorem State.tb_countDiscards (s : State) (c : Nat) : (s.countDiscards c).tb = s.tb := by
  simp [State.countDiscards]

@[simp] theorem State.tb_resetChannel (s : State) (c : Nat) : (s.resetChannel c).tb = s.tb := by
  unfold State.resetChannel
  dsimp only
  split <;> simp

@[simp] theorem State.tb_resetGroup (s : State) (k : Nat) : (s.resetGroup k).tb = s.tb := by simp [State.resetGroup]
@[simp] theorem State.tb_resetSeq (s : State) (n : Nat) : (s.resetSeq n).tb = s.tb := by simp [State.resetSeq]

@[simp] theorem State.ns_resetPort (s : State) (n : Nat) : (s.resetPort n).tb.ns = s.tb.ns := by
  unfold State.resetPort
  split <;> simp

@[simp] theorem State.tb_bistChannel (bad : List Nat) (s : State) (c : Nat) : (State.bistChannel bad s c).tb = s.tb :=
  (rfl)

@[simp] theorem State.tb_staleBanks (s : State) : s.staleBanks.tb = s.tb := by simp [State.staleBanks]
@[simp] theorem State.tb_bistEngine (s : State) (e : Nat) : (s.bistEngine e).tb = s.tb := (rfl)
@[simp] theorem State.tb_bistDone (s : State) (r : BistResult) : (s.bistDone r).tb = s.tb := by simp [State.bistDone]

/-! ### System -/

@[simp] theorem State.tb_commitImage (s : State) (u : Update) (raiseMin : Nat) : (s.commitImage u raiseMin).tb = s.tb :=
  (rfl)

/-! ### Supply -/

@[simp] theorem State.tb_refreshPace (s : State) : s.refreshPace.tb = s.tb := by simp [State.refreshPace]

/-! ### Power warning -/

@[simp] theorem State.tb_finalRead (s : State) (p : Nat × Bool) : (s.finalRead p).tb = s.tb := by
  unfold State.finalRead
  dsimp only
  (repeat' split) <;> simp

@[simp] theorem State.tb_joinKept (s : State) (n : Nat) : (s.joinKept n).tb = s.tb := (rfl)

@[simp] theorem State.tb_dropBank (s : State) (p : Nat × BankStep × Nat) : (s.dropBank p).tb = s.tb := by
  simp [State.dropBank]

/-! ### Mailboxes -/

@[simp] theorem State.tb_dropIn (s : State) (n : Nat) : (s.dropIn n).tb = s.tb := (rfl)

@[simp] theorem State.tb_embReceive (s : State) (m : Nat) (via : Via) (srcIp srcPort : Nat) (frame : Frame)
    (payload : List Byte) : (s.embReceive m via srcIp srcPort frame payload).tb = s.tb := by simp [State.embReceive]

@[simp] theorem State.tb_replay (s : State) (t : Taken) (j : JournalEntry) : (s.replay t j).tb = s.tb := by
  simp [State.replay]

@[simp] theorem State.tb_execute (s : State) (t : Taken) (p : Option Taken) : (s.execute t p).tb = s.tb := (rfl)

@[simp] theorem State.tb_takeDual (s : State) (t : Taken) : (s.takeDual t).tb = s.tb := by
  unfold State.takeDual
  split <;> simp

@[simp] theorem State.tb_takeNew (s : State) (t : Taken) (p : Option (List Byte)) : (s.takeNew t p).tb = s.tb := by
  unfold State.takeNew
  split <;> simp

@[simp] theorem State.tb_takeFrom (s : State) (n : Nat) (dma : DmaOutcome) : (s.takeFrom n dma).tb = s.tb := by
  unfold State.takeFrom
  dsimp only
  split <;> simp

@[simp] theorem State.tb_noteRead (s : State) (n : Nat) (dma : DmaOutcome) : (s.noteRead n dma).tb = s.tb := by
  simp [State.noteRead]

/-! ### Registers -/

@[simp] theorem State.tb_writeSlotByte (s : State) (a : Nat) (b : Byte) : (s.writeSlotByte a b).tb = s.tb := by
  simp [State.writeSlotByte]

end Sys2Proof.Machine

/-! SUPPORT. What a row does to the nanoseconds: a row of a mailbox command does what its body does, and all but the fourteen
rows of `inTime_exec` leave them as they stand. -/

namespace Sys2Proof.Machine

/-! ### What a row answers -/

/-- What a row answers leaves Polestar's nanoseconds as they stand in `s`. -/
def KeepsNs (s : State) (o : Out) : Prop := ∀ t, o = .next t → t.tb.ns = s.tb.ns

@[simp] theorem keepsNs_next (s t : State) : KeepsNs s (.next t) ↔ t.tb.ns = s.tb.ns := by
  simp [KeepsNs]

@[simp] theorem keepsNs_ite (s : State) (c : Prop) [Decidable c] (a b : Out) :
    KeepsNs s (if c then a else b) ↔ if c then KeepsNs s a else KeepsNs s b := by
  split <;> rfl

theorem keepsNs_hostWrite (f : State → Out) (s : State) (hf : ∀ s, KeepsNs s (f s)) : KeepsNs s (hostWrite f s) := by
  unfold hostWrite
  split
  · exact hf s
  · simp

/-- The state that an answer gives, before the response leaves. -/
def Answer.state : Answer → State
  | .done s _ _ _ => s
  | .waits s _ => s

@[simp] theorem Answer.state_done (s : State) (st : Status) (ret : List Fld) (blk : List Byte) :
    (Answer.done s st ret blk).state = s := (rfl)

@[simp] theorem Answer.state_waits (s : State) (k : WaitKey) : (Answer.waits s k).state = s := (rfl)

@[simp] theorem Body.state_plain (cs : List (Bool × Status)) (s : State) : (Body.plain cs s).run.state = s := (rfl)

@[simp] theorem Body.state_returns (cs : List (Bool × Status)) (s : State) (ret : List Fld) :
    (Body.returns cs s ret).run.state = s := (rfl)

@[simp] theorem Body.state_block (cs : List (Bool × Status)) (s : State) (d : Nat) (fs : List Fld) :
    (Body.block cs s d fs).run.state = s := (rfl)

@[simp] theorem Body.run_gives (cs : List (Bool × Status)) (a : Answer) : (Body.gives cs a).run = a := (rfl)

/-- `o` is a next state whose time base is that of `s`, or the one that the body `b` gives on a state with the time base
of `s`: what a row of a mailbox command can do to the time base. -/
def RowTime (b : State → Body) (s : State) (o : Out) : Prop :=
  ∃ t, o = .next t ∧ (t.tb = s.tb ∨ ∃ u : State, u.tb = s.tb ∧ t.tb = (b u).run.state.tb)

theorem State.tb_runBare (s : State) (c : Instr) (b : Body) :
    (s.runBare c b).tb = s.tb ∨ (s.runBare c b).tb = b.run.state.tb := by
  unfold State.runBare
  split
  · split
    next h => exact .inr (by simp [h])
    next h => exact .inr (by simp [h])
  · exact .inl (by simp)

theorem State.tb_runTaken (s : State) (c : Instr) (t : Taken) (p : Option Taken) (b : Body) :
    (s.runTaken c t p b).tb = s.tb ∨ (s.runTaken c t p b).tb = b.run.state.tb := by
  unfold State.runTaken
  dsimp only
  split
  · split
    next h => exact .inr (by cases p <;> simp [h])
    next h =>
      split
      · exact .inl (by cases p <;> simp)
      · exact .inr (by simp [h])
  · exact .inl (by cases p <;> simp)

theorem rowTime_cmdRow (c : Instr) (b : State → Body) (s : State) : RowTime b s (cmdRow c b s) := by
  unfold cmdRow
  split
  · split
    · exact ⟨_, rfl, (s.tb_runBare c (b s)).imp_right fun h => ⟨s, rfl, h⟩⟩
    · exact ⟨_, rfl, (s.release.tb_runTaken c _ _ (b s.release)).imp_right fun h => ⟨s.release, rfl, h⟩⟩
  · exact ⟨s, rfl, .inl rfl⟩

theorem rowTime_dualRow (c : Instr) (b : State → Body) (s : State) : RowTime b s (dualRow c b s) := by
  unfold dualRow
  split
  · split
    · split
      · exact ⟨_, rfl, .inl (by simp)⟩
      · exact ⟨_, rfl, (s.release.tb_runTaken c _ _ (b s.release)).imp_right fun h => ⟨s.release, rfl, h⟩⟩
    · exact rowTime_cmdRow c b s
    · split <;> exact ⟨_, rfl, .inl (by simp)⟩
  · exact ⟨s, rfl, .inl rfl⟩

theorem RowTime.keepsNs {b : State → Body} {s : State} {o : Out} (h : RowTime b s o)
    (hb : ∀ u, (b u).run.state.tb.ns = u.tb.ns) : KeepsNs s o := by
  obtain ⟨t, rfl, e | ⟨u, hu, e⟩⟩ := h
  · rw [keepsNs_next, e]
  · rw [keepsNs_next, e, hb, hu]

theorem keepsNs_cmdRow {c : Instr} {b : State → Body} {s : State} (hb : ∀ u, (b u).run.state.tb.ns = u.tb.ns) :
    KeepsNs s (cmdRow c b s) := (rowTime_cmdRow c b s).keepsNs hb

theorem keepsNs_dualRow {c : Instr} {b : State → Body} {s : State} (hb : ∀ u, (b u).run.state.tb.ns = u.tb.ns) :
    KeepsNs s (dualRow c b s) := (rowTime_dualRow c b s).keepsNs hb

@[simp] theorem State.tb_storeDeviceId (s : State) (id : Nat) (verified : Bool) :
    (s.storeDeviceId id verified).state.tb = s.tb := by
  unfold State.storeDeviceId
  split <;> rfl

/-- A store changes the time base only as what follows it does. -/
theorem State.tb_storing (s : State) (id : Nat) (p : CalPayload) (verified : Bool) (good : State → State × List Fld)
    (hg : ∀ s, (good s).1.tb = s.tb) : (s.storing id p verified good).state.tb = s.tb := by
  unfold State.storing
  dsimp only
  split <;> simp [hg]

/-! ### Outputs: commands -/

@[simp] theorem keepsNs_execOutConfig (output : Nat) (cfg : OutCfg) (s : State) :
    KeepsNs s (execOutConfig output cfg s) := keepsNs_cmdRow fun u => by simp

@[simp] theorem keepsNs_execOutFormat (output fmt swing : Nat) (s : State) :
    KeepsNs s (execOutFormat output fmt swing s) := keepsNs_cmdRow fun u => by simp

@[simp] theorem keepsNs_execFormatTakesEffect (output : Nat) (s : State) :
    KeepsNs s (execFormatTakesEffect output s) := by
  simp [execFormatTakesEffect]

@[simp] theorem keepsNs_execOutSchedule (output n w : Nat) (time : FullTime) (offsets : List Nat) (s : State) :
    KeepsNs s (execOutSchedule output n w time offsets s) := keepsNs_cmdRow fun u => by dsimp only; split <;> simp

@[simp] theorem keepsNs_execOutStatus (output dst : Nat) (s : State) : KeepsNs s (execOutStatus output dst s) :=
  keepsNs_cmdRow fun _ => rfl

@[simp] theorem keepsNs_execOutCountersClear (first count : Nat) (s : State) :
    KeepsNs s (execOutCountersClear first count s) := keepsNs_cmdRow fun u => by simp

@[simp] theorem keepsNs_execStaConfig (sta : Nat) (cfg : StaCfg) (s : State) : KeepsNs s (execStaConfig sta cfg s) :=
  keepsNs_cmdRow fun _ => rfl

@[simp] theorem keepsNs_execCodeProfileSet (profile : Nat) (cfg : CodeProfile) (s : State) :
    KeepsNs s (execCodeProfileSet profile cfg s) := keepsNs_cmdRow fun _ => rfl

@[simp] theorem keepsNs_execEdgeGeneratorTake (output : Nat) (s : State) :
    KeepsNs s (execEdgeGeneratorTake output s) := by
  unfold execEdgeGeneratorTake
  dsimp only
  (repeat' split) <;> simp

@[simp] theorem keepsNs_execBurstFired (output : Nat) (s : State) : KeepsNs s (execBurstFired output s) := by
  unfold execBurstFired
  (repeat' split) <;> simp

@[simp] theorem keepsNs_execBurstComplete (output : Nat) (s : State) : KeepsNs s (execBurstComplete output s) := by
  unfold execBurstComplete
  (repeat' split) <;> simp

/-! ### Test pulses -/

@[simp] theorem keepsNs_execTestConfig (output : Nat) (cfg : TestCfg) (s : State) :
    KeepsNs s (execTestConfig output cfg s) := keepsNs_cmdRow fun _ => rfl

@[simp] theorem keepsNs_execTestPulseRequest (req : TestReq) (s : State) : KeepsNs s (execTestPulseRequest req s) :=
  keepsNs_cmdRow fun _ => rfl

@[simp] theorem keepsNs_execTestResultRead (testId : Nat) (s : State) : KeepsNs s (execTestResultRead testId s) :=
  keepsNs_cmdRow fun _ => rfl

@[simp] theorem keepsNs_execTestPulsePlace (lane : Nat) (s : State) : KeepsNs s (execTestPulsePlace lane s) := by
  unfold execTestPulsePlace
  (repeat' split) <;> simp

@[simp] theorem keepsNs_execTestPulseResult (lane : Nat) (stamp : Option Tq) (s : State) :
    KeepsNs s (execTestPulseResult lane stamp s) := by
  unfold execTestPulseResult
  (repeat' split) <;> simp

@[simp] theorem keepsNs_execTestPulseDeadline (lane : Nat) (s : State) : KeepsNs s (execTestPulseDeadline lane s) := by
  unfold execTestPulseDeadline
  (repeat' split) <;> simp

/-! ### Polestar -/

@[simp] theorem keepsNs_execTimeStatus (s : State) : KeepsNs s (execTimeStatus s) := keepsNs_cmdRow fun _ => rfl

@[simp] theorem keepsNs_execSnapshotCapture (s : State) : KeepsNs s (execSnapshotCapture s) := by
  simp [execSnapshotCapture]

@[simp] theorem keepsNs_execAlarmSet (alarm : Nat) (cfg : AlarmCfg) (s : State) :
    KeepsNs s (execAlarmSet alarm cfg s) := keepsNs_cmdRow fun _ => rfl

@[simp] theorem keepsNs_execAlarmCancel (alarm : Nat) (s : State) : KeepsNs s (execAlarmCancel alarm s) :=
  keepsNs_cmdRow fun _ => rfl

@[simp] theorem keepsNs_execAlarmInstance (alarm : Nat) (s : State) : KeepsNs s (execAlarmInstance alarm s) := by
  simp [execAlarmInstance]

@[simp] theorem keepsNs_execSyncConfig (cfg : SyncCfg) (s : State) : KeepsNs s (execSyncConfig cfg s) :=
  keepsNs_cmdRow fun u => by simp

@[simp] theorem keepsNs_execSyncResult (s : State) : KeepsNs s (execSyncResult s) :=
  keepsNs_cmdRow fun u => by dsimp only; split <;> simp

@[simp] theorem keepsNs_execSyncoPulse (s : State) : KeepsNs s (execSyncoPulse s) := by
  unfold execSyncoPulse
  dsimp only
  split <;> simp

@[simp] theorem keepsNs_execSyncMissing (s : State) : KeepsNs s (execSyncMissing s) := by simp [execSyncMissing]

/-! ### Angle commands -/

@[simp] theorem keepsNs_execAngleConfig (encoder : Nat) (cfg : AngleCfg) (s : State) :
    KeepsNs s (execAngleConfig encoder cfg s) := keepsNs_cmdRow fun u => by simp

@[simp] theorem keepsNs_execMeridianSet (encoder facets : Nat) (meridians : List Nat) (s : State) :
    KeepsNs s (execMeridianSet encoder facets meridians s) := keepsNs_cmdRow fun _ => rfl

@[simp] theorem keepsNs_execAngleMarkSet (mark : Nat) (cfg : MarkCfg) (s : State) :
    KeepsNs s (execAngleMarkSet mark cfg s) := keepsNs_cmdRow fun _ => rfl

@[simp] theorem keepsNs_execAngleStatus (encoder dst : Nat) (s : State) : KeepsNs s (execAngleStatus encoder dst s) :=
  keepsNs_cmdRow fun _ => rfl

@[simp] theorem keepsNs_execEncoderEdge (encoder : Nat) (isB level : Bool) (tBall : Tq) (heldNs : Nat) (s : State) :
    KeepsNs s (execEncoderEdge encoder isB level tBall heldNs s) := by simp [execEncoderEdge]

@[simp] theorem keepsNs_execEncoderIndexEdge (encoder : Nat) (tBall : Tq) (s : State) :
    KeepsNs s (execEncoderIndexEdge encoder tBall s) := by simp [execEncoderIndexEdge]

@[simp] theorem keepsNs_execEstimatorTimeout (encoder : Nat) (s : State) :
    KeepsNs s (execEstimatorTimeout encoder s) := by
  simp [execEstimatorTimeout]

@[simp] theorem keepsNs_execAngleMarkCrossing (mark : Nat) (s : State) : KeepsNs s (execAngleMarkCrossing mark s) := by
  unfold execAngleMarkCrossing
  dsimp only
  (repeat' split) <;> simp

/-! ### Sequencer commands -/

@[simp] theorem keepsNs_execSeqConfig (seq : Nat) (cfg : SeqCfg) (s : State) : KeepsNs s (execSeqConfig seq cfg s) :=
  keepsNs_cmdRow fun u => by simp

@[simp] theorem keepsNs_execProgWrite (first count src : Nat) (data : Option (List Byte)) (s : State) :
    KeepsNs s (execProgWrite first count src data s) := keepsNs_cmdRow fun _ => rfl

@[simp] theorem keepsNs_execProgCommit (first count : Nat) (s : State) : KeepsNs s (execProgCommit first count s) :=
  keepsNs_cmdRow fun u => by split <;> simp

@[simp] theorem keepsNs_execProgramMemoryWrite (offset : Nat) (data : List Byte) (s : State) :
    KeepsNs s (execProgramMemoryWrite offset data s) := keepsNs_hostWrite _ s fun u => by simp

@[simp] theorem keepsNs_execSeqStart (seq mode facet : Nat) (time : FullTime) (s : State) :
    KeepsNs s (execSeqStart seq mode facet time s) := keepsNs_cmdRow fun u => by dsimp only; split <;> simp

@[simp] theorem keepsNs_execSeqStop (seq mode : Nat) (s : State) : KeepsNs s (execSeqStop seq mode s) :=
  keepsNs_cmdRow fun u => by split <;> simp

@[simp] theorem keepsNs_execSeqJump (seq target : Nat) (s : State) : KeepsNs s (execSeqJump seq target s) :=
  keepsNs_cmdRow fun _ => rfl

@[simp] theorem keepsNs_execSeqStatus (seq dst : Nat) (s : State) : KeepsNs s (execSeqStatus seq dst s) :=
  keepsNs_cmdRow fun _ => rfl

@[simp] theorem keepsNs_execSeqCountersClear (seq : Nat) (s : State) : KeepsNs s (execSeqCountersClear seq s) :=
  keepsNs_cmdRow fun _ => rfl

@[simp] theorem keepsNs_execSeqStreamPush (seq count : Nat) (s : State) : KeepsNs s (execSeqStreamPush seq count s) :=
  keepsNs_cmdRow fun _ => rfl

@[simp] theorem keepsNs_execSeqPush (seq value : Nat) (s : State) : KeepsNs s (execSeqPush seq value s) :=
  keepsNs_hostWrite _ s fun u => by simp

@[simp] theorem keepsNs_execStreamPushErrClear (seq value : Nat) (s : State) :
    KeepsNs s (execStreamPushErrClear seq value s) := keepsNs_hostWrite _ s fun u => by simp

@[simp] theorem keepsNs_execSeqGridSet (seq : Nat) (g0 : FullTime) (trim : Int) (s : State) :
    KeepsNs s (execSeqGridSet seq g0 trim s) := keepsNs_cmdRow fun _ => rfl

/-! ### Stamps -/

@[simp] theorem keepsNs_execStampDelivery (input : Nat) (s : State) : KeepsNs s (execStampDelivery input s) := by
  unfold execStampDelivery
  (repeat' split) <;> simp

@[simp] theorem keepsNs_execStampTimeout (input : Nat) (s : State) : KeepsNs s (execStampTimeout input s) := by
  unfold execStampTimeout
  (repeat' split) <;> simp

@[simp] theorem keepsNs_execHitEdge (channel : Nat) (falling : Bool) (tBall : Tq) (phase n : Nat) (s : State) :
    KeepsNs s (execHitEdge channel falling tBall phase n s) := by simp [execHitEdge]

/-! ### Input commands -/

@[simp] theorem keepsNs_execHitConfig (first count : Nat) (cfg : HitCfg) (s : State) :
    KeepsNs s (execHitConfig first count cfg s) := keepsNs_cmdRow fun u => by simp

@[simp] theorem keepsNs_execTrgConfig (trg edges : Nat) (s : State) : KeepsNs s (execTrgConfig trg edges s) :=
  keepsNs_cmdRow fun _ => rfl

@[simp] theorem keepsNs_execStaInputConfig (first count : Nat) (cfg : StaInCfg) (s : State) :
    KeepsNs s (execStaInputConfig first count cfg s) := keepsNs_cmdRow fun u => by simp

@[simp] theorem keepsNs_execInputStatus (input dst : Nat) (s : State) : KeepsNs s (execInputStatus input dst s) :=
  keepsNs_cmdRow fun _ => rfl

@[simp] theorem keepsNs_execInputCountersClear (first count : Nat) (s : State) :
    KeepsNs s (execInputCountersClear first count s) := keepsNs_cmdRow fun u => by simp

@[simp] theorem keepsNs_execGateProfileSet (profile : Nat) (cfg : GateProfile) (s : State) :
    KeepsNs s (execGateProfileSet profile cfg s) := keepsNs_cmdRow fun _ => rfl

@[simp] theorem keepsNs_execChannelRowSet (first count row : Nat) (s : State) :
    KeepsNs s (execChannelRowSet first count row s) := keepsNs_cmdRow fun u => by simp

@[simp] theorem keepsNs_execGateStatus (channel dst : Nat) (s : State) : KeepsNs s (execGateStatus channel dst s) :=
  keepsNs_cmdRow fun _ => rfl

@[simp] theorem keepsNs_execGateCountersClear (first count : Nat) (s : State) :
    KeepsNs s (execGateCountersClear first count s) := keepsNs_cmdRow fun u => by simp

@[simp] theorem keepsNs_execRawExportSet (stream : Nat) (inputs : List Nat) (s : State) :
    KeepsNs s (execRawExportSet stream inputs s) := keepsNs_cmdRow fun u => by simp

@[simp] theorem keepsNs_execGateTapSet (group tapChannel tapStream monChannel : Nat) (s : State) :
    KeepsNs s (execGateTapSet group tapChannel tapStream monChannel s) := keepsNs_cmdRow fun _ => rfl

@[simp] theorem keepsNs_execGateArm (first count profile stream : Nat) (tOpen : FullTime) (s : State) :
    KeepsNs s (execGateArm first count profile stream tOpen s) := keepsNs_cmdRow fun u => by simp

/-! ### Converters -/

@[simp] theorem keepsNs_execGateCalDecision (channel gate : Nat) (s : State) :
    KeepsNs s (execGateCalDecision channel gate s) := by
  unfold execGateCalDecision
  (repeat' split) <;> simp

@[simp] theorem keepsNs_execConverterCalDone (input conv m1 m2 : Nat) (s : State) :
    KeepsNs s (execConverterCalDone input conv m1 m2 s) := by simp [execConverterCalDone]

@[simp] theorem keepsNs_execRollingCalDue (channel : Nat) (s : State) : KeepsNs s (execRollingCalDue channel s) := by
  unfold execRollingCalDue
  (repeat' split) <;> simp

@[simp] theorem keepsNs_execGateOpen (channel gate : Nat) (s : State) : KeepsNs s (execGateOpen channel gate s) := by
  unfold execGateOpen
  (repeat' split) <;> simp

/-! ### Matches and banks -/

@[simp] theorem keepsNs_execMatchDecision (channel gate : Nat) (s : State) :
    KeepsNs s (execMatchDecision channel gate s) := by
  unfold execMatchDecision
  (repeat' split) <;> simp

@[simp] theorem keepsNs_execGateDrain (channel gate : Nat) (s : State) : KeepsNs s (execGateDrain channel gate s) := by
  unfold execGateDrain
  (repeat' split) <;> simp

@[simp] theorem keepsNs_execNeighbourTest (channel gate : Nat) (s : State) :
    KeepsNs s (execNeighbourTest channel gate s) := by
  unfold execNeighbourTest
  (repeat' split) <;> simp

/-! ### Start inputs, triggers and SYNC -/

@[simp] theorem keepsNs_execStaEdge (sta : Nat) (falling : Bool) (tBall : Tq) (phase n : Nat) (s : State) :
    KeepsNs s (execStaEdge sta falling tBall phase n s) := by simp [execStaEdge]

@[simp] theorem keepsNs_execStaWindowClose (row : Nat) (s : State) : KeepsNs s (execStaWindowClose row s) := by
  unfold execStaWindowClose
  (repeat' split) <;> simp

@[simp] theorem keepsNs_execEmissionReferenceFixed (shot : Nat) (s : State) :
    KeepsNs s (execEmissionReferenceFixed shot s) := by
  unfold execEmissionReferenceFixed
  split <;> simp

/-! ### Histogram commands -/

@[simp] theorem keepsNs_execMatchProfileSet (profile : Nat) (cfg : MatchProfile) (s : State) :
    KeepsNs s (execMatchProfileSet profile cfg s) := keepsNs_cmdRow fun _ => rfl

@[simp] theorem keepsNs_execHistStatus (channel dst : Nat) (s : State) : KeepsNs s (execHistStatus channel dst s) :=
  keepsNs_cmdRow fun _ => rfl

@[simp] theorem keepsNs_execHistRead (channel bank dst : Nat) (s : State) :
    KeepsNs s (execHistRead channel bank dst s) := keepsNs_cmdRow fun _ => rfl

@[simp] theorem keepsNs_execHistHold (channel mode : Nat) (s : State) : KeepsNs s (execHistHold channel mode s) :=
  keepsNs_cmdRow fun u => by simp

@[simp] theorem keepsNs_execHistCountersClear (first count : Nat) (s : State) :
    KeepsNs s (execHistCountersClear first count s) := keepsNs_cmdRow fun u => by simp

/-! ### Engine commands -/

@[simp] theorem keepsNs_execStreamConfig (stream : Nat) (cfg : StreamCfg) (s : State) :
    KeepsNs s (execStreamConfig stream cfg s) := keepsNs_cmdRow fun _ => rfl

@[simp] theorem keepsNs_execKernelConfig (stream : Nat) (cfg : KernelCfg) (s : State) :
    KeepsNs s (execKernelConfig stream cfg s) := keepsNs_cmdRow fun _ => rfl

@[simp] theorem keepsNs_execEngineStatus (first count dst : Nat) (s : State) :
    KeepsNs s (execEngineStatus first count dst s) := keepsNs_cmdRow fun _ => rfl

@[simp] theorem keepsNs_execStreamStatus (stream dst : Nat) (s : State) : KeepsNs s (execStreamStatus stream dst s) :=
  keepsNs_cmdRow fun _ => rfl

@[simp] theorem keepsNs_execEngineCountersClear (s : State) : KeepsNs s (execEngineCountersClear s) :=
  keepsNs_cmdRow fun _ => rfl

@[simp] theorem keepsNs_execEngineRetest (engine : Nat) (s : State) : KeepsNs s (execEngineRetest engine s) :=
  keepsNs_cmdRow fun u => by simp

@[simp] theorem keepsNs_execBankClose (channel bank : Nat) (s : State) : KeepsNs s (execBankClose channel bank s) := by
  unfold execBankClose
  dsimp only
  (repeat' split) <;> simp

@[simp] theorem keepsNs_execIssueLimitCommit (stream : Nat) (s : State) :
    KeepsNs s (execIssueLimitCommit stream s) := by
  simp [execIssueLimitCommit]

@[simp] theorem keepsNs_execEngineJobStart (engine : Nat) (s : State) : KeepsNs s (execEngineJobStart engine s) := by
  unfold execEngineJobStart
  (repeat' split) <;> simp

@[simp] theorem keepsNs_execEngineJobDone (engine : Nat) (s : State) : KeepsNs s (execEngineJobDone engine s) := by
  unfold execEngineJobDone
  (repeat' split) <;> simp

@[simp] theorem keepsNs_execEngineFault (engine : Nat) (cause : EngineFault) (s : State) :
    KeepsNs s (execEngineFault engine cause s) := by
  unfold execEngineFault
  (repeat' split) <;> simp

@[simp] theorem keepsNs_execJobTimeout (engine : Nat) (s : State) : KeepsNs s (execJobTimeout engine s) := by
  unfold execJobTimeout
  (repeat' split) <;> simp

@[simp] theorem keepsNs_execEngineSelftestDone (engine : Nat) (pass : Bool) (s : State) :
    KeepsNs s (execEngineSelftestDone engine pass s) := by simp [execEngineSelftestDone]

@[simp] theorem keepsNs_execEngineSelftestDue (engine : Nat) (s : State) :
    KeepsNs s (execEngineSelftestDue engine s) := by
  simp [execEngineSelftestDue]

@[simp] theorem keepsNs_execNoEngineInServiceTimeout (s : State) : KeepsNs s (execNoEngineInServiceTimeout s) := by
  unfold execNoEngineInServiceTimeout
  split <;> simp

@[simp] theorem keepsNs_execBatchTimeout (stream : Nat) (s : State) : KeepsNs s (execBatchTimeout stream s) := by
  unfold execBatchTimeout
  (repeat' split) <;> simp

/-! ### Rings -/

@[simp] theorem keepsNs_execRingBatchWrite (stream : Nat) (s : State) : KeepsNs s (execRingBatchWrite stream s) := by
  unfold execRingBatchWrite
  dsimp only
  (repeat' split) <;> simp

@[simp] theorem keepsNs_execRingInterrupt (stream : Nat) (s : State) : KeepsNs s (execRingInterrupt stream s) := by
  simp [execRingInterrupt]

@[simp] theorem keepsNs_execConfirmationRead (stream : Nat) (s : State) :
    KeepsNs s (execConfirmationRead stream s) := by
  unfold execConfirmationRead
  dsimp only
  (repeat' split) <;> simp

@[simp] theorem keepsNs_execBatchConfirmed (stream : Nat) (ok : Bool) (s : State) :
    KeepsNs s (execBatchConfirmed stream ok s) := by
  unfold execBatchConfirmed
  (repeat' split) <;> simp

@[simp] theorem keepsNs_execRingReconciliation (reads : List (Option Bool)) (s : State) :
    KeepsNs s (execRingReconciliation reads s) := by simp [execRingReconciliation]

@[simp] theorem keepsNs_execRingResume (reads : List (Option Bool)) (s : State) : KeepsNs s (execRingResume reads s) :=
  keepsNs_cmdRow fun u => by split <;> simp

@[simp] theorem keepsNs_execHostLinkReset (kind : LinkReset) (s : State) : KeepsNs s (execHostLinkReset kind s) := by
  simp [execHostLinkReset]

@[simp] theorem keepsNs_execMsixUnmask (vector : Nat) (s : State) : KeepsNs s (execMsixUnmask vector s) :=
  keepsNs_hostWrite _ s fun u => by simp

@[simp] theorem keepsNs_execRingCi (stream value : Nat) (s : State) : KeepsNs s (execRingCi stream value s) :=
  keepsNs_hostWrite _ s fun u => by simp

@[simp] theorem keepsNs_execCiErrClear (stream value : Nat) (s : State) : KeepsNs s (execCiErrClear stream value s) :=
  keepsNs_hostWrite _ s fun u => by simp

@[simp] theorem keepsNs_execRingConfig (stream : Nat) (cfg : RingCfg) (s : State) :
    KeepsNs s (execRingConfig stream cfg s) := keepsNs_cmdRow fun _ => rfl

@[simp] theorem keepsNs_execRingStatus (stream dst : Nat) (s : State) : KeepsNs s (execRingStatus stream dst s) :=
  keepsNs_cmdRow fun _ => rfl

@[simp] theorem keepsNs_execStreamUdpSet (stream : Nat) (cfg : UdpCfg) (s : State) :
    KeepsNs s (execStreamUdpSet stream cfg s) := keepsNs_cmdRow fun _ => rfl

@[simp] theorem keepsNs_execSmiurnSend (stream : Nat) (s : State) : KeepsNs s (execSmiurnSend stream s) := by
  unfold execSmiurnSend
  dsimp only
  (repeat' split) <;> simp

/-! ### Event fabric -/

@[simp] theorem keepsNs_execEvchConfig (channel source : Nat) (s : State) :
    KeepsNs s (execEvchConfig channel source s) := keepsNs_cmdRow fun _ => rfl

@[simp] theorem keepsNs_execEvchSubscribe (consumer slot channel enable : Nat) (s : State) :
    KeepsNs s (execEvchSubscribe consumer slot channel enable s) := keepsNs_cmdRow fun _ => rfl

@[simp] theorem keepsNs_execEvchLock (channel : Nat) (s : State) : KeepsNs s (execEvchLock channel s) :=
  keepsNs_cmdRow fun _ => rfl

@[simp] theorem keepsNs_execEvchStatus (first count dst : Nat) (s : State) :
    KeepsNs s (execEvchStatus first count dst s) := keepsNs_cmdRow fun _ => rfl

@[simp] theorem keepsNs_execEvchCountersClear (first count : Nat) (s : State) :
    KeepsNs s (execEvchCountersClear first count s) := keepsNs_cmdRow fun u => by simp

@[simp] theorem keepsNs_execEvchFire (value : Nat) (s : State) : KeepsNs s (execEvchFire value s) :=
  keepsNs_hostWrite _ s fun u => by simp

@[simp] theorem keepsNs_execFireRejectedClear (value : Nat) (s : State) : KeepsNs s (execFireRejectedClear value s) :=
  keepsNs_hostWrite _ s fun u => by simp

@[simp] theorem keepsNs_execDeliveryWave (s : State) : KeepsNs s (execDeliveryWave s) := by
  unfold execDeliveryWave
  split
  · simp
  · refine (keepsNs_next _ _).mpr (congrArg TimeBase.ns ((State.tb_foldl _ (fun s c => ?_) _ _).trans rfl))
    split <;> simp

@[simp] theorem keepsNs_execHevValidClear (n value : Nat) (s : State) : KeepsNs s (execHevValidClear n value s) :=
  keepsNs_hostWrite _ s fun u => by simp

@[simp] theorem keepsNs_execHevOverrunClear (n value : Nat) (s : State) : KeepsNs s (execHevOverrunClear n value s) :=
  keepsNs_hostWrite _ s fun u => by simp

/-! ### The PLL: commands -/

@[simp] theorem keepsNs_execPllConfig (cfg : PllCfg) (s : State) : KeepsNs s (execPllConfig cfg s) :=
  keepsNs_cmdRow fun u => by split <;> simp

@[simp] theorem keepsNs_execPllRefConfig (cfg : PllRefCfg) (s : State) : KeepsNs s (execPllRefConfig cfg s) :=
  keepsNs_cmdRow fun u => by split <;> simp

@[simp] theorem keepsNs_execPllRecal (s : State) : KeepsNs s (execPllRecal s) := keepsNs_cmdRow fun u => by simp

@[simp] theorem keepsNs_execPllHop (entry : Nat) (s : State) : KeepsNs s (execPllHop entry s) :=
  keepsNs_cmdRow fun u => by simp

@[simp] theorem keepsNs_execPllHopStore (entry : Nat) (verified : Bool) (s : State) :
    KeepsNs s (execPllHopStore entry verified s) := keepsNs_cmdRow fun u => by
    dsimp only
    rw [Body.run_gives, u.tb_storing _ _ _ _ fun _ => rfl]

@[simp] theorem keepsNs_execPllSyncArm (arm : Nat) (s : State) : KeepsNs s (execPllSyncArm arm s) :=
  keepsNs_cmdRow fun u => by simp

@[simp] theorem keepsNs_execPllTestMode (enable : Nat) (s : State) : KeepsNs s (execPllTestMode enable s) :=
  keepsNs_cmdRow fun u => by simp

@[simp] theorem keepsNs_execPllStatus (dst : Nat) (s : State) : KeepsNs s (execPllStatus dst s) :=
  keepsNs_cmdRow fun _ => rfl

@[simp] theorem keepsNs_execPllCountersClear (s : State) : KeepsNs s (execPllCountersClear s) :=
  keepsNs_cmdRow fun _ => rfl

@[simp] theorem keepsNs_execCkoConfig (cko : Nat) (cfg : CkoCfg) (s : State) : KeepsNs s (execCkoConfig cko cfg s) :=
  keepsNs_cmdRow fun _ => rfl

@[simp] theorem keepsNs_execRefMeasurementWindow (hzA hzB : Nat) (s : State) :
    KeepsNs s (execRefMeasurementWindow hzA hzB s) := by simp [execRefMeasurementWindow]

@[simp] theorem keepsNs_execRefEdgeGap (ref : Nat) (s : State) : KeepsNs s (execRefEdgeGap ref s) := by
  simp [execRefEdgeGap]

@[simp] theorem keepsNs_execRevertHoldExpiry (s : State) : KeepsNs s (execRevertHoldExpiry s) := by
  simp [execRevertHoldExpiry]

@[simp] theorem keepsNs_execPllUnlock (cause : UnlockCause) (s : State) : KeepsNs s (execPllUnlock cause s) := by
  simp [execPllUnlock]

@[simp] theorem keepsNs_execPllLock (residual : Int) (s : State) : KeepsNs s (execPllLock residual s) := by
  simp [execPllLock]

@[simp] theorem keepsNs_execSynciEdge (tBall : Tq) (s : State) : KeepsNs s (execSynciEdge tBall s) := by
  simp [execSynciEdge]

/-! ### Network -/

@[simp] theorem keepsNs_execPhyLinkChange (port : Nat) (up : Bool) (s : State) :
    KeepsNs s (execPhyLinkChange port up s) := by simp [execPhyLinkChange]

@[simp] theorem keepsNs_execPtpConfig (cfg : PtpCfg) (s : State) : KeepsNs s (execPtpConfig cfg s) :=
  keepsNs_cmdRow fun u => by dsimp only; split <;> simp

@[simp] theorem keepsNs_execPtpPortConfig (port : Nat) (cfg : PtpPortCfg) (s : State) :
    KeepsNs s (execPtpPortConfig port cfg s) := keepsNs_cmdRow fun _ => rfl

@[simp] theorem keepsNs_execPtpFrameReceived (port : Nat) (frame : PtpFrame) (s : State) :
    KeepsNs s (execPtpFrameReceived port frame s) := by
  unfold execPtpFrameReceived
  (repeat' split) <;> simp

@[simp] theorem keepsNs_execAnnounceTimeout (port : Nat) (s : State) : KeepsNs s (execAnnounceTimeout port s) := by
  unfold execAnnounceTimeout
  dsimp only
  (repeat' split) <;> simp

@[simp] theorem keepsNs_execPpsTimeout (s : State) : KeepsNs s (execPpsTimeout s) := by simp [execPpsTimeout]

@[simp] theorem keepsNs_execPtpMessageTransmit (port : Nat) (message : PtpMessage) (s : State) :
    KeepsNs s (execPtpMessageTransmit port message s) := by
  unfold execPtpMessageTransmit
  (repeat' split) <;> simp

@[simp] theorem keepsNs_execPtpStatus (dst : Nat) (s : State) : KeepsNs s (execPtpStatus dst s) :=
  keepsNs_cmdRow fun _ => rfl

@[simp] theorem keepsNs_execBridgeStatus (dst : Nat) (s : State) : KeepsNs s (execBridgeStatus dst s) :=
  keepsNs_cmdRow fun _ => rfl

@[simp] theorem keepsNs_execBridgeConfig (cfg : BridgeCfg) (flush : Nat) (s : State) :
    KeepsNs s (execBridgeConfig cfg flush s) := keepsNs_cmdRow fun _ => rfl

@[simp] theorem keepsNs_execBridgeFrameReceived (port : Nat) (frame : NetFrame) (s : State) :
    KeepsNs s (execBridgeFrameReceived port frame s) := by simp [execBridgeFrameReceived]

@[simp] theorem keepsNs_execMacEntryAgeing (mac : Nat) (s : State) : KeepsNs s (execMacEntryAgeing mac s) := by
  simp [execMacEntryAgeing]

@[simp] theorem keepsNs_execBridgeFault (s : State) : KeepsNs s (execBridgeFault s) := by simp [execBridgeFault]

@[simp] theorem keepsNs_execNetConfig (cfg : NetCfg) (s : State) : KeepsNs s (execNetConfig cfg s) :=
  keepsNs_cmdRow fun _ => rfl

@[simp] theorem keepsNs_execTrgEdge (trg : Nat) (falling : Bool) (tBall : Tq) (s : State) :
    KeepsNs s (execTrgEdge trg falling tBall s) := by simp [execTrgEdge]

/-! ### Motor commands -/

@[simp] theorem keepsNs_execMotorConfig (cfg : MotorCfg) (s : State) : KeepsNs s (execMotorConfig cfg s) :=
  keepsNs_cmdRow fun _ => rfl

@[simp] theorem keepsNs_execMotorRun (action dir target : Nat) (s : State) :
    KeepsNs s (execMotorRun action dir target s) := keepsNs_cmdRow fun u => by simp

@[simp] theorem keepsNs_execMotorStatus (dst : Nat) (s : State) : KeepsNs s (execMotorStatus dst s) :=
  keepsNs_cmdRow fun _ => rfl

@[simp] theorem keepsNs_execMotorCountersClear (s : State) : KeepsNs s (execMotorCountersClear s) :=
  keepsNs_cmdRow fun _ => rfl

@[simp] theorem keepsNs_execMfltNFault (level : Bool) (s : State) : KeepsNs s (execMfltNFault level s) := by
  simp [execMfltNFault]

@[simp] theorem keepsNs_execMrdyChange (level : Bool) (s : State) : KeepsNs s (execMrdyChange level s) := by
  simp [execMrdyChange]

@[simp] theorem keepsNs_execReadyTimeout (s : State) : KeepsNs s (execReadyTimeout s) := by simp [execReadyTimeout]

@[simp] theorem keepsNs_execAtSpeed (s : State) : KeepsNs s (execAtSpeed s) := by
  unfold execAtSpeed
  split <;> simp

@[simp] theorem keepsNs_execMotorStopped (s : State) : KeepsNs s (execMotorStopped s) := by simp [execMotorStopped]

@[simp] theorem keepsNs_execMotorRefUpdate (s : State) : KeepsNs s (execMotorRefUpdate s) := by
  simp [execMotorRefUpdate]

/-! ### Supervisor commands -/

@[simp] theorem keepsNs_execEvchKeylock (channel action key : Nat) (verified : Bool) (s : State) :
    KeepsNs s (execEvchKeylock channel action key verified s) := keepsNs_dualRow fun u => by
    simp only [Body.run_gives]
    split
    · rfl
    · rw [u.tb_storing _ _ _ _ fun s => State.tb_reconfigure ..]

@[simp] theorem keepsNs_execSvConfig (cfg : SvCfg) (s : State) : KeepsNs s (execSvConfig cfg s) :=
  keepsNs_dualRow fun _ => rfl

@[simp] theorem keepsNs_execSvInputConfig (input : Nat) (cfg : SvInputCfg) (s : State) :
    KeepsNs s (execSvInputConfig input cfg s) := keepsNs_dualRow fun _ => rfl

@[simp] theorem keepsNs_execSvLimitSet (set : Nat) (cfg : LimitSet) (s : State) :
    KeepsNs s (execSvLimitSet set cfg s) := keepsNs_dualRow fun _ => rfl

@[simp] theorem keepsNs_execSvRowWeight (first count : Nat) (weights : List Nat) (s : State) :
    KeepsNs s (execSvRowWeight first count weights s) := keepsNs_dualRow fun _ => rfl

@[simp] theorem keepsNs_execSvSlpWindow (set window : Nat) (cfg : SlpWindow) (s : State) :
    KeepsNs s (execSvSlpWindow set window cfg s) := keepsNs_dualRow fun _ => rfl

@[simp] theorem keepsNs_execSvStatus (dst : Nat) (s : State) : KeepsNs s (execSvStatus dst s) :=
  keepsNs_cmdRow fun u => by simp

@[simp] theorem keepsNs_execSvSafeStop (s : State) : KeepsNs s (execSvSafeStop s) := keepsNs_cmdRow fun u => by simp

@[simp] theorem keepsNs_execSvCountersClear (s : State) : KeepsNs s (execSvCountersClear s) :=
  keepsNs_cmdRow fun _ => rfl

@[simp] theorem keepsNs_execSvSampleTick (levels : SafeLevels) (s : State) : KeepsNs s (execSvSampleTick levels s) := by
  simp [execSvSampleTick]

@[simp] theorem keepsNs_execDiscrepancyFault (input : Nat) (s : State) : KeepsNs s (execDiscrepancyFault input s) := by
  simp [execDiscrepancyFault]

@[simp] theorem keepsNs_execSpeedWindow (s : State) : KeepsNs s (execSpeedWindow s) := by simp [execSpeedWindow]

@[simp] theorem keepsNs_execAgreementFault (s : State) : KeepsNs s (execAgreementFault s) := by
  simp [execAgreementFault]

@[simp] theorem keepsNs_execStandstill (s : State) : KeepsNs s (execStandstill s) := by simp [execStandstill]

@[simp] theorem keepsNs_execRampTimeExpiry (s : State) : KeepsNs s (execRampTimeExpiry s) := by
  unfold execRampTimeExpiry
  split <;> simp

@[simp] theorem keepsNs_execTwilightTimeout (s : State) : KeepsNs s (execTwilightTimeout s) := by
  simp [execTwilightTimeout]

@[simp] theorem keepsNs_execBudgetWindowEnd (s : State) : KeepsNs s (execBudgetWindowEnd s) := by
  simp [execBudgetWindowEnd]

@[simp] theorem keepsNs_execSectorBudgetReached (sector : Nat) (s : State) :
    KeepsNs s (execSectorBudgetReached sector s) := by simp [execSectorBudgetReached]

@[simp] theorem keepsNs_execSupervisorFault (finding : SvFinding) (s : State) :
    KeepsNs s (execSupervisorFault finding s) := by simp [execSupervisorFault]

@[simp] theorem keepsNs_execEncoderPairFault (receiver : PairReceiver) (s : State) :
    KeepsNs s (execEncoderPairFault receiver s) := by simp [execEncoderPairFault]

@[simp] theorem keepsNs_execEncoderPairRestored (encoder : Nat) (s : State) :
    KeepsNs s (execEncoderPairRestored encoder s) := by simp [execEncoderPairRestored]

@[simp] theorem keepsNs_execCountErrorNotCleared (encoder : Nat) (s : State) :
    KeepsNs s (execCountErrorNotCleared encoder s) := by simp [execCountErrorNotCleared]

/-! ### Calibration commands -/

@[simp] theorem keepsNs_execCalConfig (cfg : CalCfg) (s : State) : KeepsNs s (execCalConfig cfg s) :=
  keepsNs_cmdRow fun u => by simp

@[simp] theorem keepsNs_execCalRun (function force first count : Nat) (s : State) :
    KeepsNs s (execCalRun function force first count s) := keepsNs_cmdRow fun u => by simp

@[simp] theorem keepsNs_execCalStatus (dst : Nat) (s : State) : KeepsNs s (execCalStatus dst s) :=
  keepsNs_cmdRow fun _ => rfl

@[simp] theorem keepsNs_execCalSetWrite (object set : Nat) (temp : Int) (len src : Nat) (data : Option (List Int))
    (s : State) : KeepsNs s (execCalSetWrite object set temp len src data s) := by
  intro t e
  unfold execCalSetWrite at e
  rw [keepsNs_cmdRow (fun _ => rfl) t e, State.tb_noteSetRead]

@[simp] theorem keepsNs_execCalSetRead (object set dst : Nat) (s : State) :
    KeepsNs s (execCalSetRead object set dst s) := keepsNs_cmdRow fun _ => rfl

@[simp] theorem keepsNs_execCalTarget (mode set first count range steps : Nat) (s : State) :
    KeepsNs s (execCalTarget mode set first count range steps s) := keepsNs_cmdRow fun _ => rfl

@[simp] theorem keepsNs_execCalStaLearn (set shots : Nat) (rows : BitVec 64) (s : State) :
    KeepsNs s (execCalStaLearn set shots rows s) := keepsNs_cmdRow fun _ => rfl

@[simp] theorem keepsNs_execCalStore (object : Nat) (verified : Bool) (s : State) :
    KeepsNs s (execCalStore object verified s) := keepsNs_cmdRow fun u => by
    dsimp only
    rw [Body.run_gives, u.tb_storing _ _ _ _ fun _ => rfl]

@[simp] theorem keepsNs_execTemperatureUpdate (readings : List Int) (s : State) :
    KeepsNs s (execTemperatureUpdate readings s) := by
  have taken : (((List.range 16).zip readings).foldl (fun s p => s.setSensor p.1 p.2) s).tb = s.tb := by
    refine State.tb_foldl _ (fun s p => ?_) _ s
    rfl
  unfold execTemperatureUpdate
  split
  · simp
  · dsimp only
    split <;> simp [taken]

@[simp] theorem keepsNs_execNonlinearityRun (input : Nat) (counts : List (List Nat)) (result : NonlinearityResult)
    (s : State) : KeepsNs s (execNonlinearityRun input counts result s) := by
  unfold execNonlinearityRun
  (repeat' split) <;> simp

@[simp] theorem keepsNs_execSkewTracking (sensor width deadline : Nat) (s : State) :
    KeepsNs s (execSkewTracking sensor width deadline s) := by
  unfold execSkewTracking
  (repeat' split) <;> simp

/-! ### Tests and function resets -/

@[simp] theorem keepsNs_execRstNRise (s : State) : KeepsNs s (execRstNRise s) := by simp [execRstNRise]

@[simp] theorem keepsNs_execPciePerst (level : Bool) (s : State) : KeepsNs s (execPciePerst level s) := by
  simp [execPciePerst]

@[simp] theorem keepsNs_execPcieLinkUp (s : State) : KeepsNs s (execPcieLinkUp s) := by simp [execPcieLinkUp]
@[simp] theorem keepsNs_execRetest (s : State) : KeepsNs s (execRetest s) := keepsNs_cmdRow fun _ => rfl

@[simp] theorem keepsNs_execSelftestStatus (dst : Nat) (s : State) : KeepsNs s (execSelftestStatus dst s) :=
  keepsNs_cmdRow fun _ => rfl

@[simp] theorem keepsNs_execWarmReset (force : Nat) (s : State) : KeepsNs s (execWarmReset force s) :=
  keepsNs_cmdRow fun u => by simp

@[simp] theorem keepsNs_execWatchdogExpiry (s : State) : KeepsNs s (execWatchdogExpiry s) := by
  simp [execWatchdogExpiry]

@[simp] theorem keepsNs_execFuncReset (block index : Nat) (s : State) : KeepsNs s (execFuncReset block index s) :=
  keepsNs_cmdRow fun u => by
    simp only [Body.state_plain]
    (repeat' split) <;> simp

@[simp] theorem keepsNs_execWholeMemoryBist (result : BistResult) (s : State) :
    KeepsNs s (execWholeMemoryBist result s) := by simp [execWholeMemoryBist]

/-! ### System -/

@[simp] theorem keepsNs_execSysInfo (s : State) : KeepsNs s (execSysInfo s) := keepsNs_cmdRow fun _ => rfl

@[simp] theorem keepsNs_execDeviceIdSet (id : Nat) (verified : Bool) (s : State) :
    KeepsNs s (execDeviceIdSet id verified s) := keepsNs_cmdRow fun u => by simp

@[simp] theorem keepsNs_execUartConfig (baud : Nat) (s : State) : KeepsNs s (execUartConfig baud s) :=
  keepsNs_cmdRow fun _ => rfl

@[simp] theorem keepsNs_execMbxStatus (mailbox dst : Nat) (s : State) : KeepsNs s (execMbxStatus mailbox dst s) :=
  keepsNs_cmdRow fun _ => rfl

@[simp] theorem keepsNs_execFwUpdateBegin (length : Nat) (s : State) : KeepsNs s (execFwUpdateBegin length s) :=
  keepsNs_cmdRow fun _ => rfl

@[simp] theorem keepsNs_execFwSlotEraseDone (s : State) : KeepsNs s (execFwSlotEraseDone s) := by
  simp [execFwSlotEraseDone]

@[simp] theorem keepsNs_execFwUpdateWrite (offset : Nat) (data : List Byte) (s : State) :
    KeepsNs s (execFwUpdateWrite offset data s) := keepsNs_cmdRow fun u => by split <;> simp

@[simp] theorem keepsNs_execFwUpdateCommit (raiseMin : Nat) (s : State) : KeepsNs s (execFwUpdateCommit raiseMin s) :=
  keepsNs_cmdRow fun u => by split <;> simp

@[simp] theorem keepsNs_execFwStatus (dst : Nat) (s : State) : KeepsNs s (execFwStatus dst s) :=
  keepsNs_cmdRow fun _ => rfl

@[simp] theorem keepsNs_execDebugUnlock (certificate : List Byte) (s : State) :
    KeepsNs s (execDebugUnlock certificate s) := keepsNs_cmdRow fun u => by simp

/-! ### Supply -/

@[simp] theorem keepsNs_execPaceWindow (margins : List (Option Int)) (s : State) :
    KeepsNs s (execPaceWindow margins s) := by simp [execPaceWindow]

@[simp] theorem keepsNs_execPmbusConfig (cfg : PmbusCfg) (s : State) : KeepsNs s (execPmbusConfig cfg s) :=
  keepsNs_cmdRow fun u => by simp

@[simp] theorem keepsNs_execPmbusStatus (s : State) : KeepsNs s (execPmbusStatus s) := keepsNs_cmdRow fun _ => rfl

@[simp] theorem keepsNs_execVddaAdjust (readMv : Option Nat) (s : State) : KeepsNs s (execVddaAdjust readMv s) := by
  unfold execVddaAdjust
  (repeat' split) <;> simp

@[simp] theorem keepsNs_execPmbusFault (s : State) : KeepsNs s (execPmbusFault s) := by simp [execPmbusFault]

/-! ### Power warning -/

@[simp] theorem keepsNs_execPeriodicJournalCommit (s : State) : KeepsNs s (execPeriodicJournalCommit s) := by
  simp [execPeriodicJournalCommit]

@[simp] theorem keepsNs_execPfailWarning (finalReads : List Bool) (s : State) :
    KeepsNs s (execPfailWarning finalReads s) := by simp [execPfailWarning]

@[simp] theorem keepsNs_execPfailRelease (s : State) : KeepsNs s (execPfailRelease s) := by simp [execPfailRelease]

/-! ### Mailboxes -/

@[simp] theorem keepsNs_execCmdPi (mailbox value : Nat) (frames : List Frame) (s : State) :
    KeepsNs s (execCmdPi mailbox value frames s) := keepsNs_hostWrite _ s fun u => by simp

@[simp] theorem keepsNs_execRspCi (mailbox value : Nat) (s : State) : KeepsNs s (execRspCi mailbox value s) :=
  keepsNs_hostWrite _ s fun u => by simp

@[simp] theorem keepsNs_execMbErrClear (mailbox value : Nat) (s : State) : KeepsNs s (execMbErrClear mailbox value s) :=
  keepsNs_hostWrite _ s fun u => by simp

@[simp] theorem keepsNs_execEmbDatagram (udpPort : Nat) (via : Via) (srcIp srcPort : Nat) (frame : Frame)
    (payload : List Byte) (s : State) : KeepsNs s (execEmbDatagram udpPort via srcIp srcPort frame payload s) := by
  unfold execEmbDatagram
  split <;> simp

@[simp] theorem keepsNs_execUartPacket (frame : Frame) (payload : List Byte) (crc : Nat) (s : State) :
    KeepsNs s (execUartPacket frame payload crc s) := by simp [execUartPacket]

@[simp] theorem keepsNs_execUartGapTimeout (s : State) : KeepsNs s (execUartGapTimeout s) := by
  simp [execUartGapTimeout]

@[simp] theorem keepsNs_execCommandTake (dma : DmaOutcome) (s : State) : KeepsNs s (execCommandTake dma s) := by
  unfold execCommandTake
  (repeat' split) <;> simp

@[simp] theorem keepsNs_execDualSubmissionTimeout (s : State) : KeepsNs s (execDualSubmissionTimeout s) := by
  unfold execDualSubmissionTimeout
  split <;> simp

/-! ### Registers -/

@[simp] theorem keepsNs_execRegisterWrite (offset size value : Nat) (s : State) :
    KeepsNs s (execRegisterWrite offset size value s) := keepsNs_hostWrite _ s fun u => by simp

@[simp] theorem keepsNs_execSnapTrigger (value : Nat) (s : State) : KeepsNs s (execSnapTrigger value s) :=
  keepsNs_hostWrite _ s fun u => by simp

@[simp] theorem keepsNs_execPaceLowClear (value : Nat) (s : State) : KeepsNs s (execPaceLowClear value s) :=
  keepsNs_hostWrite _ s fun u => by simp

@[simp] theorem keepsNs_execCountersClear (value : Nat) (s : State) : KeepsNs s (execCountersClear value s) :=
  keepsNs_hostWrite _ s fun u => by simp

@[simp] theorem keepsNs_execIntStatusClear (value : Nat) (s : State) : KeepsNs s (execIntStatusClear value s) :=
  keepsNs_hostWrite _ s fun u => by simp

@[simp] theorem keepsNs_execIntMaskWrite (value : Nat) (s : State) : KeepsNs s (execIntMaskWrite value s) :=
  keepsNs_hostWrite _ s fun u => by simp

end Sys2Proof.Machine

/-! O4. Polestar's nanoseconds stay within one second (R4). -/

namespace Sys2Proof.Machine

/-! ### Counting, steps and Ready-idle -/

theorem State.timeInv.of_ns {s t : State} (h : s.timeInv) (e : t.tb.ns = s.tb.ns) : t.timeInv := by
  unfold State.timeInv
  rwa [e]

theorem State.timeInv.ite {c : Prop} [Decidable c] {s t : State} (hs : s.timeInv) (ht : t.timeInv) :
    (if c then s else t).timeInv := by
  split
  · exact hs
  · exact ht

theorem ns_ofTq_le (t : Int) : (FullTime.ofTq t).ns.toNat ≤ 999999999 := by
  have h0 : 0 ≤ t % tqPerSec := Int.emod_nonneg t (by decide)
  have h1 : t % tqPerSec < 1024000000000 := Int.emod_lt_of_pos t (by decide)
  simp only [FullTime.ofTq, BitVec.toNat_ofInt]
  omega

theorem State.timeInv_polestarStep (s : State) (d : Int) : (s.polestarStep d).timeInv := by
  simp only [State.timeInv, State.polestarStep, State.tb_publish, State.ns_each, State.ns_stepAlarm, implies_true]
  exact ns_ofTq_le _

theorem State.timeInv_setSecHi (s : State) (v : BitVec 16) : (s.setSecHi v).timeInv := State.timeInv_polestarStep ..

theorem State.timeInv_count (s : State) : s.count.timeInv := by
  unfold State.count State.timeInv
  dsimp only
  split
  · exact ‹s.tb.ns < 999999999›
  · exact Nat.zero_le _

theorem State.timeInv.applySecHi {s : State} (h : s.timeInv) : s.applySecHi.timeInv := by
  unfold State.applySecHi
  split
  · exact h
  · exact .ite (s.timeInv_setSecHi _) h

theorem State.timeInv.tick {s : State} (h : s.timeInv) : s.tick.timeInv := by
  have counted := s.runLoop.timeInv_count
  exact .ite h (.ite counted.applySecHi counted)

theorem State.timeInv.cycle {s : State} (h : s.timeInv) : s.cycle.timeInv := by
  have sent : (s.each (List.range 3) State.sendFrame).timeInv := h.of_ns (by simp)
  exact sent.tick.of_ns (by simp [State.cycle])

theorem State.timeInv.enterReadyIdle {s : State} (h : s.timeInv) : s.enterReadyIdle.timeInv := by
  have idle : ({ s with dev := { s.dev with run := .readyIdle, classLocked := false } } : State).timeInv := h
  exact idle.applySecHi.of_ns (by simp [State.enterReadyIdle])

/-! ### Sequencers that stop or are issued -/

theorem State.timeInv.leaveRanging {s : State} (h : s.timeInv) : s.leaveRanging.timeInv := by
  have locked : (if s.sv.run = .twilight then s.svGo .lockout else s).timeInv := h.of_ns (by simp)
  exact .ite h (.ite locked locked.enterReadyIdle)

theorem State.timeInv.afterStop {s : State} (h : s.timeInv) : s.afterStop.timeInv :=
  h.leaveRanging.of_ns (by simp [State.afterStop])

theorem State.timeInv.stopSeq {s : State} (h : s.timeInv) (n : Nat) (why : Option Reasons) : (s.stopSeq n why).timeInv := by
  unfold State.stopSeq
  refine State.timeInv.afterStop (h.of_ns ?_)
  simp only [State.tb_answerWaiting, State.tb_modSeq, State.tb_closeSkip]
  (repeat' split) <;> simp

theorem State.timeInv.haltSeq {s : State} (h : s.timeInv) (n : Nat) (t : Tq) : (s.haltSeq n t).timeInv :=
  State.timeInv.stopSeq (h.of_ns (by simp)) n none

theorem State.timeInv.plainBoundary {s : State} (h : s.timeInv) (n : Nat) (x : Int) (t : Tq) (due : Bool) :
    (s.plainBoundary n x t due).timeInv := by
  refine .ite (h.haltSeq n t) (h.of_ns ?_)
  dsimp only
  split <;> simp

theorem State.timeInv.boundary {s : State} (h : s.timeInv) (n : Nat) (x : Int) (t : Tq) (due : Bool) :
    (s.boundary n x t due).timeInv := by
  unfold State.boundary
  split
  · exact h.stopSeq n _
  · exact h.of_ns (by simp)
  · exact h.plainBoundary n x t due

/-- A slot that is played where its sequencer still runs. -/
theorem State.timeInv.playSlot {s : State} (h : s.timeInv) (n : Nat) (t : Tq) (due : Bool) :
    (if (s.seq n).running then s.playSlot n t due else s).timeInv := .ite (h.of_ns (by simp)) h

theorem State.timeInv.issueSlot {s : State} (h : s.timeInv) (n : Nat) : (s.issueSlot n).timeInv := by
  unfold State.issueSlot
  dsimp only
  split
  · refine .ite h (.ite (.ite (h.stopSeq n none) h) ?_)
    split
    · exact h.stopSeq n _
    · exact h
  · refine .ite h (State.timeInv.playSlot (.ite (State.timeInv.boundary ?_ ..) ?_) ..)
    · exact h.of_ns (by simp)
    · exact h.of_ns (by simp)

/-! ### The supervisor -/

theorem State.timeInv.enterLockout {s : State} (h : s.timeInv) : s.enterLockout.timeInv := by
  have idle : (if s.dev.run = .eclipse then s.enterReadyIdle else s).timeInv := .ite h.enterReadyIdle h
  exact idle.of_ns (by simp [State.enterLockout])

theorem State.timeInv.safetyReset {s : State} (h : s.timeInv) : s.safetyReset.timeInv := by
  have rejected : (s.countReset false).timeInv := h.of_ns (by simp)
  have cleared : ({ s.clearInputs with sv := { s.clearInputs.sv with faults := [] } } : State).timeInv := h.of_ns (by simp)
  refine .ite (.ite rejected ?_) (.ite (h.of_ns (by simp)) rejected)
  simp only [State.timeInv, State.tb_countReset, State.tb_svGo]
  exact State.timeInv.ite cleared.enterReadyIdle cleared

/-! ### Tests of a start -/

theorem State.timeInv.finishRetest {s : State} (h : s.timeInv) : s.finishRetest.timeInv := by
  refine .ite (State.timeInv.enterReadyIdle (h.of_ns ?_)) (h.of_ns ?_) <;> simp

theorem State.timeInv.resume {s : State} (h : s.timeInv) : s.resume.timeInv := by
  unfold State.resume
  simp only [State.timeInv, State.tb_refreshFs, State.tb_refreshPcie, State.tb_resumeMotor]
  refine State.timeInv.ite ?_ (.ite ?_ (.ite ?_ (State.timeInv.enterReadyIdle ?_)))
  all_goals exact h.of_ns (by simp)

theorem State.timeInv.testsDone {s : State} (h : s.timeInv) : s.testsDone.timeInv := by
  have read : ({ s with dev := { s.dev with coldDone := true, testRun := .passed } } : State).readMode.timeInv :=
    h.of_ns (by simp)
  have again : s.retestStep.timeInv := h.of_ns (by simp)
  exact .ite (.ite h.finishRetest again) (.ite (.ite read.resume (read.enterReadyIdle.of_ns (by simp))) h)

/-- A function's test that has its result. -/
theorem State.timeInv.functionResult {s : State} (h : s.timeInv) (t : SelfTest) (pass : Bool) :
    (if pass then (s.noteTest t true).testsDone else s.functionFailed t).timeInv :=
  .ite (State.timeInv.testsDone (h.of_ns (by simp))) (h.of_ns (by simp))

theorem State.timeInv.functionTest {s : State} (h : s.timeInv) (t : SelfTest) (pass : Bool) (readings : List (Nat × Nat)) :
    (s.functionTest t pass readings).timeInv := by
  refine .ite h ?_
  dsimp only
  split
  case _ e => exact .ite (State.timeInv.functionResult (h.of_ns (by simp)) ..) h
  case _ => exact .ite h (.ite (h.of_ns (by simp)) (.ite (State.timeInv.testsDone (h.of_ns (by simp))) h))
  case _ k =>
    exact .ite (.ite (State.timeInv.testsDone (h.of_ns (by simp))) (h.of_ns (by simp))) h
  case _ n => exact .ite (State.timeInv.functionResult (h.of_ns (by simp)) ..) h
  case _ => exact .ite (State.timeInv.functionResult (h.of_ns (by simp)) ..) h
  case _ => exact h

theorem State.timeInv.startFirmware {s : State} (h : s.timeInv) (k : Nat) : (s.startFirmware k).timeInv := by
  unfold State.startFirmware
  simp only [State.timeInv, State.tb_refreshDark]
  exact State.timeInv.testsDone (h.of_ns (by simp))

theorem State.timeInv_coldReset (s : State) (marker : Bool) : (s.coldReset marker).timeInv := by
  unfold State.coldReset State.timeInv
  rw [State.tb_refreshCal]
  exact Nat.zero_le _

/-- Every next state that a row answers has Polestar's nanoseconds within one second. -/
def InTime (o : Out) : Prop := ∀ t, o = .next t → t.timeInv

theorem State.timeInv.next {t : State} (h : t.timeInv) : InTime (.next t) := by
  intro u e
  cases e
  exact h

theorem InTime.ite {c : Prop} [Decidable c] {a b : Out} (ha : InTime a) (hb : InTime b) : InTime (if c then a else b) := by
  split
  · exact ha
  · exact hb

/-- A row that leaves the nanoseconds as they stand. -/
theorem State.timeInv.of_keepsNs {s : State} (h : s.timeInv) {o : Out} (k : KeepsNs s o) : InTime o :=
  fun t e => h.of_ns (k t e)

/-- A row whose body keeps the nanoseconds within one second. -/
theorem RowTime.inTime {b : State → Body} {s : State} {o : Out} (r : RowTime b s o) (h : s.timeInv)
    (hb : ∀ u, u.timeInv → (b u).run.state.timeInv) : InTime o := by
  obtain ⟨t, rfl, e | ⟨u, hu, e⟩⟩ := r
  · exact State.timeInv.next (h.of_ns (by rw [e]))
  · exact State.timeInv.next (State.timeInv.of_ns (hb u (h.of_ns (by rw [hu]))) (by rw [e]))

/-- A store keeps the nanoseconds within one second where what follows it does. -/
theorem State.timeInv.storing {s : State} (h : s.timeInv) (id : Nat) (p : CalPayload) (verified : Bool)
    (good : State → State × List Fld) (hg : ∀ u : State, u.timeInv → (good u).1.timeInv) :
    (s.storing id p verified good).state.timeInv := by
  have stored : (s.storeObject id p verified).timeInv := h.of_ns (by simp)
  unfold State.storing
  dsimp only
  split
  · exact hg _ stored
  · exact stored

/-! ### The rows that move Polestar -/

theorem inTime_execSecCarry {s : State} (h : s.timeInv) : InTime (execSecCarry s) := .ite h.tick.next h.next

theorem inTime_execTimeSet {s : State} (h : s.timeInv) (time : FullTime) : InTime (execTimeSet time s) := by
  refine (rowTime_cmdRow ..).inTime h fun u _ => ?_
  simp only [Body.state_returns]
  exact u.timeInv_polestarStep _

theorem inTime_execTimeSetSecHi {s : State} (h : s.timeInv) (v : Nat) : InTime (execTimeSetSecHi v s) := by
  refine (rowTime_cmdRow ..).inTime h fun u hu => ?_
  have waiting : ({ u with tb := { u.tb with pendingSecHi := some (BitVec.ofNat 16 v) } } : State).timeInv := hu
  exact .ite waiting.applySecHi waiting

theorem inTime_execTimeStepAccept {s : State} (h : s.timeInv) : InTime (execTimeStepAccept s) := by
  refine (rowTime_cmdRow ..).inTime h fun u _ => ?_
  simp only [Body.state_returns]
  exact u.draw.timeInv_polestarStep _

/-! ### The rows that may enter Ready-idle, where a waiting SEC[63:48] takes effect -/

theorem inTime_execSlotIssue {s : State} (h : s.timeInv) (n : Nat) : InTime (execSlotIssue n s) :=
  .ite h.next (.ite (h.issueSlot n).next h.next)

theorem inTime_execEncConfig {s : State} (h : s.timeInv) (e : Nat) (cfg : EncCfg) (verified : Bool) :
    InTime (execEncConfig e cfg verified s) := by
  refine (rowTime_dualRow ..).inTime h fun u hu => ?_
  simp only [Body.run_gives]
  refine hu.storing _ _ _ _ fun v hv => ?_
  simp only [State.timeInv, State.tb_refreshPermit, State.tb_checkEncoders]
  refine State.timeInv.ite (hv.of_ns ?_) (State.timeInv.enterLockout (hv.of_ns ?_)) <;> simp

theorem inTime_execSvCommit {s : State} (h : s.timeInv) (verified : Bool) : InTime (execSvCommit verified s) := by
  refine (rowTime_dualRow ..).inTime h fun u hu => ?_
  simp only [Body.run_gives]
  refine hu.storing _ _ _ _ fun v hv => ?_
  simp only [State.timeInv, State.tb_refreshPermit, State.tb_checkEncoders]
  exact State.timeInv.enterLockout (hv.of_ns (by simp))

theorem inTime_execSafetyReset {s : State} (h : s.timeInv) : InTime (execSafetyReset s) :=
  .ite h.safetyReset.next h.next

theorem inTime_execFirmwareStart {s : State} (h : s.timeInv) : InTime (execFirmwareStart s) := by
  refine .ite h.next ?_
  dsimp only
  split
  · exact State.timeInv.next (h.of_ns (by simp))
  · exact (State.timeInv.startFirmware (h.of_ns (by simp)) _).next

theorem inTime_execDeviceTestComplete {s : State} (h : s.timeInv) (test : SelfTest) (pass : Bool) :
    InTime (execDeviceTestComplete test pass s) := by
  refine .ite (State.timeInv.next (.ite (State.timeInv.testsDone (h.of_ns ?_)) (h.of_ns ?_)))
    (.ite (State.timeInv.next (h.of_ns ?_)) h.next) <;> simp

theorem inTime_execSvSelftestComplete {s : State} (h : s.timeInv) (pass : Bool) :
    InTime (execSvSelftestComplete pass s) := by
  have failed : (s.testFailed .supervisor).timeInv := h.of_ns (by simp)
  refine .ite (.ite (State.timeInv.testsDone (h.of_ns ?_)).next failed.next)
    (.ite (.ite (State.timeInv.testsDone (h.of_ns ?_)).next failed.next) h.next) <;> simp

theorem inTime_execFunctionTestComplete {s : State} (h : s.timeInv) (test : SelfTest) (r : FunctionResult) :
    InTime (execFunctionTestComplete test r s) := .ite (h.functionTest ..).next h.next

/-! ### The rows that reset the device -/

theorem inTime_execRstNFall {s : State} (h : s.timeInv) : InTime (execRstNFall s) :=
  .ite h.next (s.timeInv_coldReset true).next

theorem inTime_execSupplyOutOfRange {s : State} (h : s.timeInv) : InTime (execSupplyOutOfRange s) :=
  .ite h.next (s.timeInv_coldReset false).next

/-! ### Every row, and every step -/

theorem inTime_exec {s : State} (h : s.timeInv) (c : Instr) : InTime (exec c s) := by
  cases c
  case secCarry => exact inTime_execSecCarry h
  case timeSet time => exact inTime_execTimeSet h time
  case timeSetSecHi v => exact inTime_execTimeSetSecHi h v
  case timeStepAccept => exact inTime_execTimeStepAccept h
  case slotIssue n => exact inTime_execSlotIssue h n
  case encConfig e cfg verified => exact inTime_execEncConfig h e cfg verified
  case svCommit verified => exact inTime_execSvCommit h verified
  case safetyReset => exact inTime_execSafetyReset h
  case firmwareStart => exact inTime_execFirmwareStart h
  case deviceTestComplete test pass => exact inTime_execDeviceTestComplete h test pass
  case svSelftestComplete pass => exact inTime_execSvSelftestComplete h pass
  case functionTestComplete test r => exact inTime_execFunctionTestComplete h test r
  case rstNFall => exact inTime_execRstNFall h
  case supplyOutOfRange => exact inTime_execSupplyOutOfRange h
  all_goals exact h.of_keepsNs (by simp [exec])

/-- Settles O4: an empty queue lets one cycle pass, and every row either leaves the nanoseconds as they stand, or sets them
by a step of Polestar or a reset. -/
theorem everyStepKeepsTime : Obligations.EveryStepKeepsTime := by
  unfold Obligations.EveryStepKeepsTime
  intro s t h e
  unfold step at e
  split at e
  · cases e
    exact h.cycle
  · have queued (q : List Instr) : (s.withQueue q).timeInv := h
    exact inTime_exec (queued _) _ t e

end Sys2Proof.Machine

/-! O35. Doorbells of the host (R105, R331, R349, R427, R428, R439). -/

namespace Sys2Proof.Machine

/-! ## Doorbells of the host (R105, R331, R349, R427, R428)

One equation per register: what a write does to an endpoint out of reset. -/

theorem hostWrite_up {s : State} (h : s.endpointUp = true) (f : State → Out) : hostWrite f s = f s := if_pos h

theorem hostWrite_down {s : State} (h : s.endpointUp = false) (f : State → Out) : hostWrite f s = .next s := by
  simp [hostWrite, h]

theorem execSeqPush_up {s : State} (hu : s.endpointUp = true) {n : Nat} (hn : n ≤ 7) (v : Nat) :
    execSeqPush n v s = .next (s.setSeq n (if (s.seq n).ringFree < v % 65536 then { s.seq n with pushErr := true }
      else (s.seq n).push (v % 65536))) := by
  rw [execSeqPush, hostWrite_up hu, if_neg (Nat.not_lt.mpr hn), State.doorbell, State.modSeq_eq]

theorem execStreamPushErrClear_up {s : State} (hu : s.endpointUp = true) {n : Nat} (hn : n ≤ 7) (v : Nat) :
    execStreamPushErrClear n v s =
      if v / 2 ^ 31 % 2 = 1 then .next (s.setSeq n { s.seq n with pushErr := false }) else .next s := by
  rw [execStreamPushErrClear, hostWrite_up hu, if_neg (Nat.not_lt.mpr hn), State.clearPushErr, State.modSeq_eq]
  exact apply_ite Host.Outcome.next ..

theorem execRingCi_up {s : State} (hu : s.endpointUp = true) {n : Nat} (hn : n ≤ 63) (v : Nat) :
    execRingCi n v s =
      if countDiff (BitVec.ofNat 32 v) (s.stream n).ring.ci ≤ countDiff (s.stream n).ring.pi (s.stream n).ring.ci then
        .next (s.modStream n fun x => { x with ring := { x.ring with ci := BitVec.ofNat 32 v } })
      else .next ((s.modStream n fun x => { x with ring := { x.ring with ciErr := true } }).cause 7) := by
  rw [execRingCi, hostWrite_up hu, if_neg (Nat.not_lt.mpr hn)]
  rfl

theorem execCiErrClear_up {s : State} (hu : s.endpointUp = true) {n : Nat} (hn : n ≤ 63) (v : Nat) :
    execCiErrClear n v s =
      if v / 2 ^ 31 % 2 = 1 then .next (s.modStream n fun x => { x with ring := { x.ring with ciErr := false } })
      else .next s := by
  rw [execCiErrClear, hostWrite_up hu, if_neg (Nat.not_lt.mpr hn)]
  rfl

theorem execHevValidClear_up {s : State} (hu : s.endpointUp = true) {n : Nat} (hn : n ≤ 15) (v : Nat) :
    execHevValidClear n v s =
      if v / 2 ^ 31 % 2 = 1 then .next (s.setHev n { s.hev n with valid := false }) else .next s := by
  rw [execHevValidClear, hostWrite_up hu, if_neg (Nat.not_lt.mpr hn), State.modHev_eq]

theorem execHevOverrunClear_up {s : State} (hu : s.endpointUp = true) {n : Nat} (hn : n ≤ 15) (v : Nat) :
    execHevOverrunClear n v s = .next (s.setHev n { s.hev n with
      overrun := (BitVec.ofNat 32 (s.hev n).overrun &&& ~~~BitVec.ofNat 32 v).toNat }) := by
  rw [execHevOverrunClear, hostWrite_up hu, if_neg (Nat.not_lt.mpr hn), State.modHev_eq]
  rfl

theorem execCmdPi_up {s : State} (hu : s.endpointUp = true) {m : Nat} (hm : m ≤ 31) (v : Nat) (fs : List Frame) :
    execCmdPi m v fs s =
      if countDiff (s.box m).cmdPi (s.box m).rspCi ≤ countDiff (BitVec.ofNat 32 v) (s.box m).rspCi ∧
          countDiff (BitVec.ofNat 32 v) (s.box m).rspCi ≤ 8 then
        .next (s.setBox m { s.box m with
          cmdPi := BitVec.ofNat 32 v
          slots := writeSlots (s.box m).slots (s.box m).cmdPi.toNat (fs.take 8) })
      else .next (s.setBox m { s.box m with
        err := true, slots := writeSlots (s.box m).slots (s.box m).cmdPi.toNat (fs.take 8) }) := by
  rw [execCmdPi, hostWrite_up hu, if_neg (Nat.not_lt.mpr hm)]

theorem execRspCi_up {s : State} (hu : s.endpointUp = true) {m : Nat} (hm : m ≤ 31) (v : Nat) :
    execRspCi m v s =
      if countDiff (BitVec.ofNat 32 v) (s.box m).rspCi ≤ countDiff (s.box m).rspPi (s.box m).rspCi then
        .next (s.setBox m { s.box m with rspCi := BitVec.ofNat 32 v })
      else .next (s.setBox m { s.box m with err := true }) := by
  rw [execRspCi, hostWrite_up hu, if_neg (Nat.not_lt.mpr hm)]

theorem execMbErrClear_up {s : State} (hu : s.endpointUp = true) {m : Nat} (hm : m ≤ 31) (v : Nat) :
    execMbErrClear m v s =
      if v / 2 ^ 31 % 2 = 1 then .next (s.setBox m { s.box m with err := false }) else .next s := by
  rw [execMbErrClear, hostWrite_up hu, if_neg (Nat.not_lt.mpr hm), State.modBox_eq]

/-- A push into a ring of at least one entry advances WR by COUNT (R105). -/
theorem SeqState.push_of_pos {q : SeqState} (h : 0 < q.cfg.streamLen) (count : Nat) :
    q.push count = { q with wr := (q.wr + count) % q.cfg.streamLen } := if_neg (Nat.ne_of_gt h)

/-- W1C with all ones leaves nothing (R10). -/
theorem and_not_ofNat_of_all_ones (x : BitVec 32) {v : Nat} (h : v % 2 ^ 32 = 0xFFFFFFFF) :
    (x &&& ~~~BitVec.ofNat 32 v).toNat = 0 := by
  have hv : BitVec.ofNat 32 v = BitVec.allOnes 32 := BitVec.eq_of_toNat_eq (by rw [BitVec.toNat_ofNat, h]; rfl)
  simp [hv]

/-! ### A write with bit 31 clear leaves a W1C flag as it is, whatever the state of the endpoint -/

theorem hostWrite_of_idle {f : State → Out} {s : State} (h : f s = .next s) : hostWrite f s = .next s := by
  rw [hostWrite, h, ite_self]

theorem execCiErrClear_zero {s : State} {n v : Nat} (hv : v / 2 ^ 31 % 2 = 0) : execCiErrClear n v s = .next s := by
  refine hostWrite_of_idle ?_
  rw [if_neg (show ¬ v / 2 ^ 31 % 2 = 1 by omega), ite_self]

theorem execHevValidClear_zero {s : State} {n v : Nat} (hv : v / 2 ^ 31 % 2 = 0) :
    execHevValidClear n v s = .next s := by
  refine hostWrite_of_idle ?_
  rw [if_neg (show ¬ v / 2 ^ 31 % 2 = 1 by omega), ite_self]

theorem execMbErrClear_zero {s : State} {m v : Nat} (hv : v / 2 ^ 31 % 2 = 0) : execMbErrClear m v s = .next s := by
  refine hostWrite_of_idle ?_
  rw [if_neg (show ¬ v / 2 ^ 31 % 2 = 1 by omega), ite_self]

/-! ### None reaches an endpoint in reset (R439) -/

theorem execRingCi_down {s : State} (h : s.endpointUp = false) (n v : Nat) : execRingCi n v s = .next s :=
  hostWrite_down h _

theorem execCiErrClear_down {s : State} (h : s.endpointUp = false) (n v : Nat) : execCiErrClear n v s = .next s :=
  hostWrite_down h _

theorem execHevValidClear_down {s : State} (h : s.endpointUp = false) (n v : Nat) : execHevValidClear n v s = .next s :=
  hostWrite_down h _

theorem execHevOverrunClear_down {s : State} (h : s.endpointUp = false) (n v : Nat) :
    execHevOverrunClear n v s = .next s := hostWrite_down h _

theorem execCmdPi_down {s : State} (h : s.endpointUp = false) (m v : Nat) (fs : List Frame) :
    execCmdPi m v fs s = .next s := hostWrite_down h _

theorem execRspCi_down {s : State} (h : s.endpointUp = false) (m v : Nat) : execRspCi m v s = .next s :=
  hostWrite_down h _

theorem execMbErrClear_down {s : State} (h : s.endpointUp = false) (m v : Nat) : execMbErrClear m v s = .next s :=
  hostWrite_down h _

/-- Settles O35: each clause is the equation of its register, in the case that its premises choose. -/
theorem doorbells : Obligations.Doorbells := by
  unfold Obligations.Doorbells
  refine ⟨?seqPushFits, ?seqPushIgnored, ?pushErrClear, ?pushErrKept, ?ringCi, ?ringCiIgnored, ?ciErrClear, ?ciErrKept,
    ?ringDown, ?hevValidClear, ?hevValidKept, ?hevOverrunClear, ?hevOverrunZero, ?hevDown, ?cmdPi, ?cmdPiIgnored, ?rspCi,
    ?rspCiIgnored, ?mbErrClear, ?mbErrKept, ?boxDown⟩
  case seqPushFits =>
    intro s n v hu hn hfree hlen
    exact (execSeqPush_up hu hn v).trans (by rw [if_neg (Nat.not_lt.mpr hfree), SeqState.push_of_pos hlen])
  case seqPushIgnored => exact fun s n v hu hn h => (execSeqPush_up hu hn v).trans (by rw [if_pos h])
  case pushErrClear => exact fun s n v hu hn h => (execStreamPushErrClear_up hu hn v).trans (if_pos h)
  case pushErrKept => exact fun s n v hu hn h => (execStreamPushErrClear_up hu hn v).trans (if_neg (by omega))
  case ringCi => exact fun s n v hu hn h => (execRingCi_up hu hn v).trans (if_pos h)
  case ringCiIgnored => exact fun s n v hu hn h => (execRingCi_up hu hn v).trans (if_neg (Nat.not_le.mpr h))
  case ciErrClear => exact fun s n v hu hn h => (execCiErrClear_up hu hn v).trans (if_pos h)
  case ciErrKept => exact fun s n v _ h => execCiErrClear_zero h
  case ringDown => exact fun s n v hd => ⟨execRingCi_down hd n v, execCiErrClear_down hd n v⟩
  case hevValidClear => exact fun s n v hu hn h => (execHevValidClear_up hu hn v).trans (if_pos h)
  case hevValidKept => exact fun s n v _ h => execHevValidClear_zero h
  case hevOverrunClear => exact fun s n v hu hn => execHevOverrunClear_up hu hn v
  case hevOverrunZero =>
    intro s n v hu hn h
    exact (execHevOverrunClear_up hu hn v).trans (by rw [and_not_ofNat_of_all_ones _ h])
  case hevDown => exact fun s n v hd => ⟨execHevValidClear_down hd n v, execHevOverrunClear_down hd n v⟩
  case cmdPi => exact fun s m v fs hm hu hlo hhi => (execCmdPi_up hu hm v fs).trans (if_pos ⟨hlo, hhi⟩)
  case cmdPiIgnored => exact fun s m v fs hm hu h => (execCmdPi_up hu hm v fs).trans (if_neg (by omega))
  case rspCi => exact fun s m v hm hu h => (execRspCi_up hu hm v).trans (if_pos h)
  case rspCiIgnored => exact fun s m v hm hu h => (execRspCi_up hu hm v).trans (if_neg (Nat.not_le.mpr h))
  case mbErrClear => exact fun s m v hm hu h => (execMbErrClear_up hu hm v).trans (if_pos h)
  case mbErrKept => exact fun s m v h => execMbErrClear_zero h
  case boxDown => exact fun s m v fs hd => ⟨execCmdPi_down hd m v fs, execRspCi_down hd m v, execMbErrClear_down hd m v⟩

end Sys2Proof.Machine

/-! O17. SEQ_START and SEQ_STOP (R22, R103, R104, R293, R298, R378). -/

namespace Sys2Proof.Machine

/-- No outcome stronger than `st` applies, and `st` does: it is the verdict. -/
theorem verdict_safetyDenied {cs : List (Bool × Status)} (h : (true, Status.safetyDenied) ∈ cs)
    (hs : ∀ c ∈ cs, c.1 = true → c.2 ≠ .integrity ∧ c.2 ≠ .unsupported ∧ c.2 ≠ .badArg) : verdict cs = .safetyDenied := by
  have none_of (st : Status) (hst : st = .integrity ∨ st = .unsupported ∨ st = .badArg) :
      (cs.any fun c => c.1 && decide (c.2 = st)) = false := by
    rw [List.any_eq_false]
    intro c hc hc'
    obtain ⟨h1, h2⟩ : c.1 = true ∧ c.2 = st := by simpa using hc'
    have := hs c hc h1
    grind
  have some_of : (cs.any fun c => c.1 && decide (c.2 = Status.safetyDenied)) = true :=
    List.any_eq_true.mpr ⟨_, h, rfl⟩
  simp [verdict, Status.order, List.find?, none_of, some_of]

/-- A command that may run and whose checks give an error is answered with it, and does nothing else. -/
theorem cmdRow_refused (c : Instr) (b : State → Body) (s : State) (st : Status) (he : exec c s = cmdRow c b s)
    (hr : s.runs c = true) (hd : (b s.release).dst = none) (hst : st ≠ .integrity) (hok : st ≠ .ok)
    (hc : s.release.checkBody c none (b s.release) = st) : completes c s s st [] := by
  rcases hx : s.mbx.executing with _ | ⟨t, p⟩
  · have hs : s.release = s := by unfold State.release; rw [← hx]
    rw [hs] at hd hc
    simp only [State.runs, hx, Bool.not_eq_true'] at hr
    refine ⟨s.answerBare (opcodeOf c) st [] [], ?_, rfl, ?_⟩
    · rw [he, cmdRow_bare c b s hx hr, State.runBare, hc]
      cases st
      case ok => exact absurd rfl hok
      all_goals rfl
    · simp [answered, hx, State.answerBare]
  · simp only [State.runs, hx, Bool.and_eq_true, Option.isNone_iff_eq_none, Bool.not_eq_true'] at hr
    obtain ⟨⟨rfl, hi⟩, hp⟩ := hr
    have hc' : s.release.checkBody c (some t) (b s.release) = st := by
      rw [← hc]; simp [State.checkBody, blockChecks, hd]
    refine ⟨s.release.answerTaken t none st [] [], ?_, State.core_answerTaken _ _ _ _ _ _ (.inl rfl), ?_⟩
    · rw [he, cmdRow_taken c b s t none hx hi hp, State.runTaken, hc']
      cases st
      case ok => exact absurd rfl hok
      all_goals rfl
    · simp only [answered, hx]; exact State.journal_answerTaken _ _ _ _ hst

/-- The next state of a command that waits matters only up to the answer, what waits already being the same. -/
theorem waitsFor_of_core {c : Instr} {s s' s'' : State} {k : WaitKey} (h : waitsFor c s s' k) (e : s'.core = s''.core)
    (hw : s'.mbx.waiting = s''.mbx.waiting) : waitsFor c s s'' k := by
  obtain ⟨t, ht, w, hwait, hcore⟩ := h
  exact ⟨t, ht, w, hw ▸ hwait, hw ▸ hcore.trans e⟩

/-- The outcomes of SEQ_START with their conditions (R103). -/
def State.startChecks (s : State) (n mode facet : Nat) (time : FullTime) : List (Bool × Status) :=
  [(s.startBad n mode facet time, .badArg),
   (!s.sv.permit || decide (s.sv.run = .dusk) || decide (s.sv.run = .eclipse) || decide (s.dev.run = .eclipse), .safetyDenied),
   (!s.fsReady n || s.startUnfed (s.seq n), .notReady),
   ((s.seq n).running || (s.stream (s.seq n).cfg.resultStream).lostWaits || s.pll.armed || s.resetting 1 n, .busy),
   (decide (mode = 1 ∧ time.tq < s.now + startLead), .late)]

/-- What SEQ_START does once its checks have passed. -/
def State.startRun (s : State) (n mode facet : Nat) (time : FullTime) : Answer :=
  let r := s.startAt (s.seq n) mode facet (tqUp time)
  if (s.seq n).cfg.domain = 1 then
    .done (s.startSeq n mode facet (tqUp time)) .ok (startRet (r.1.position r.2 + (s.seq n).trim) r.2) []
  else .waits (s.startSeq n mode facet (tqUp time)) (.seqStart n)

theorem exec_seqStart (n mode facet : Nat) (time : FullTime) (s : State) : exec (.seqStart n mode facet time) s =
    cmdRow (.seqStart n mode facet time) (fun s => .gives (s.startChecks n mode facet time) (s.startRun n mode facet time)) s :=
  rfl

/-- What SEQ_STOP does once its checks have passed. -/
def State.stopRun (s : State) (n mode : Nat) : Answer :=
  if (s.seq n).running then .waits (s.modSeq n fun q => q.askStop mode) (.seqStop n) else .done s .ok [] []

theorem exec_seqStop (n mode : Nat) (s : State) : exec (.seqStop n mode) s =
    cmdRow (.seqStop n mode) (fun s => .gives [(badSeq n || decide (2 < mode), .badArg)] (s.stopRun n mode)) s := rfl

theorem seqStop_checks_pass {n mode : Nat} (hn : n ≤ 7) (hm : mode ≤ 2) :
    ∀ x ∈ [(badSeq n || decide (2 < mode), Status.badArg)], x.1 = false := by
  simp [badSeq, hn, hm]

/-- SEQ_START has an outcome of its own in Nadir (R395): the state of the device forbids it in Boot only. -/
theorem State.stateForbids_seqStart (s : State) (n mode facet : Nat) (time : FullTime) :
    s.stateForbids (.seqStart n mode facet time) = !s.dev.fwRunning := by
  have hop : opcodeOf (.seqStart n mode facet time) = 0x0404 := rfl
  simp [State.stateForbids, hop, within]

/-- Settles O17: SEQ_START is a row whose checks all fail under the premises of the first clause, and of whose checks the
denial is the strongest that applies under those of the second; SEQ_STOP is a row that waits where the sequencer runs. -/
theorem sequencerRuns : Obligations.SequencerRuns := by
  unfold Obligations.SequencerRuns
  refine ⟨?start, ?denied, ?stops, ?stopped⟩
  case start =>
    intro s n mode facet time ha hbad hp hd he hde hfs hfed hrun hlost harm hres hlate
    have hchecks : ∀ x ∈ s.release.startChecks n mode facet time, x.1 = false := by
      change ∀ x ∈ s.startChecks n mode facet time, x.1 = false
      have hl : ¬ (mode = 1 ∧ time.tq < s.now + startLead) := fun h => absurd (hlate h.1) (Int.not_le.mpr h.2)
      simp [State.startChecks, hbad, hp, hd, he, hde, hfs, hfed, hrun, hlost, harm, hres, hl]
    refine ⟨(s.seq n).started (s.startAt (s.seq n) mode facet (tqUp time)).1
      (s.startAt (s.seq n) mode facet (tqUp time)).2, rfl, rfl, rfl, rfl, rfl, rfl, rfl, rfl, rfl, rfl, ?_, ?_⟩
    · exact fun hdom => completes_row (exec_seqStart ..) ha rfl (if_pos hdom) (by simp) rfl hchecks
    · intro hdom hpf
      have hw : s.admitsWait (.seqStart n mode facet time) = true := by simp [State.admitsWait, ha, hpf]
      exact waitsFor_of_core (waitsFor_row (exec_seqStart ..) hw rfl (if_neg hdom) hchecks) rfl rfl
  case denied =>
    intro s n mode facet time hr hfw hbad hdeny
    refine cmdRow_refused _ _ s _ (exec_seqStart ..) hr rfl (by simp) (by simp) ?_
    have hf : s.release.stateForbids (.seqStart n mode facet time) = false := by
      rw [State.stateForbids_seqStart]
      change (!s.dev.fwRunning) = false
      rw [hfw]; rfl
    have hbad' : s.release.startBad n mode facet time = false := hbad
    refine verdict_safetyDenied ?_ ?_
    · have hd : (!s.sv.permit || decide (s.sv.run = .dusk) || decide (s.sv.run = .eclipse) ||
          decide (s.dev.run = .eclipse)) = true := by simpa [or_assoc] using hdeny
      exact List.mem_cons_of_mem _ (List.mem_cons_of_mem _ (by rw [← hd]; exact List.mem_cons_self))
    · simp [Body.gives, State.startChecks, blockChecks, hf, hbad']
  case stops =>
    intro s n mode ha hn hm hrun
    exact waitsFor_of_core (waitsFor_row (exec_seqStop ..) ha rfl (if_pos hrun) (seqStop_checks_pass hn hm)) rfl rfl
  case stopped =>
    intro s n mode ha hn hm hrun
    exact completes_row (exec_seqStop ..) ha rfl (if_neg (Bool.eq_false_iff.mp hrun)) (by simp) rfl
      (seqStop_checks_pass hn hm)

end Sys2Proof.Machine

/-! SUPPORT. The ports of the bridge, and what PTP does to them: one equation per operation of network time (R254 to R263). -/

namespace Sys2Proof.Machine

variable {s : State} {n : Nat}

/-! ## The ports as a table -/

/-- The state with another table of ports. -/
def State.withPorts (s : State) (ps : Tab Port) : State := { s with net := { s.net with ports := ps } }

@[simp] theorem State.port_withPorts_ports (s : State) (k : Nat) : (s.withPorts s.net.ports).port k = s.port k := rfl

@[simp] theorem State.withPorts_withPorts (s : State) (ps qs : Tab Port) : (s.withPorts ps).withPorts qs = s.withPorts qs := rfl

/-- A change of one port as a change of the table. -/
theorem State.modPort_withPorts (s : State) (ps : Tab Port) (k : Nat) (f : Port → Port) :
    ∃ qs, (s.withPorts ps).modPort k f = s.withPorts qs ∧ (s.withPorts qs).port k = f ((s.withPorts ps).port k) ∧
      ∀ j, j ≠ k → (s.withPorts qs).port j = (s.withPorts ps).port j :=
  ⟨Tab.put Port.reset ps k (f ((s.withPorts ps).port k)), rfl, State.port_setPort_self (s.withPorts ps) ..,
    fun _ h => State.port_setPort_ne (s.withPorts ps) _ _ _ h⟩

/-- A change of every port, each by what its own settings and those of the whole device say, as a change of the table. -/
theorem State.each_modPort (s : State) (f : State → Nat → Port → Port)
    (hf : ∀ ps k, (s.withPorts ps).port k = s.port k → f (s.withPorts ps) k = f s k) :
    ∃ ps, (s.each (List.range 3) fun s k => s.modPort k (f s k)) = s.withPorts ps ∧
      (∀ k, k ≤ 2 → (s.withPorts ps).port k = f s k (s.port k)) ∧ ∀ k, 2 < k → (s.withPorts ps).port k = s.port k := by
  obtain ⟨ps, e0, h0, n0⟩ := s.modPort_withPorts s.net.ports 0 (f s 0)
  obtain ⟨qs, e1, h1, n1⟩ := s.modPort_withPorts ps 1 (f (s.withPorts ps) 1)
  obtain ⟨rs, e2, h2, n2⟩ := s.modPort_withPorts qs 2 (f (s.withPorts qs) 2)
  have p1 : (s.withPorts ps).port 1 = s.port 1 := n0 1 (by decide)
  have p2 : (s.withPorts qs).port 2 = s.port 2 := (n1 2 (by decide)).trans (n0 2 (by decide))
  refine ⟨rs, ?_, fun k hk => ?_, fun k hk => ?_⟩
  · rw [← e2, ← e1, ← e0]; rfl
  · obtain rfl | rfl | rfl : k = 0 ∨ k = 1 ∨ k = 2 := by omega
    · rw [n2 0 (by decide), n1 0 (by decide), h0]; rfl
    · rw [n2 1 (by decide), h1, p1, hf ps 1 p1]
    · rw [h2, p2, hf qs 2 p2]
  · rw [n2 k (by omega), n1 k (by omega), n0 k (by omega)]; rfl

/-! ## The best master (R254, R263) -/

theorem State.bestPort_none (h : ∀ k, k ≤ 2 → (s.port k).best = none) : s.bestPort = none := by
  simp [State.bestPort, List.range, List.range.loop, h]

/-- The one port that has heard a clock has the best. -/
theorem State.bestPort_of_only {a : AnnounceMsg} (hn : n ≤ 2) (hen : (s.port n).cfg.ptpEn ≠ 0)
    (ha : (s.port n).best = some a) (h : ∀ k, k ≤ 2 → k ≠ n → (s.port k).best = none) : s.bestPort = some (n, a) := by
  obtain rfl | rfl | rfl : n = 0 ∨ n = 1 ∨ n = 2 := by omega
  · simp [State.bestPort, List.range, List.range.loop, h 1, h 2, ha, hen]
  · simp [State.bestPort, List.range, List.range.loop, h 0, h 2, ha, hen]
  · simp [State.bestPort, List.range, List.range.loop, h 0, h 1, ha, hen]

/-- The state once the master of Announce `a` is selected on port `n`, but for the states of the ports. -/
def State.newMaster (s : State) (n : Nat) (a : AnnounceMsg) : State :=
  if s.net.master = some a.master ∧ (s.port n).run = .slave then s
  else { s with net := { s.net with
    master := some a.master, heard := none, offsets := [], bigRun := 0, smallRun := 0
    masterChanges := s.net.masterChanges.inc } }

theorem State.newMaster_of_ne {a : AnnounceMsg} (h : s.net.master ≠ some a.master) : s.newMaster n a = { s with net := { s.net with
    master := some a.master, heard := none, offsets := [], bigRun := 0, smallRun := 0
    masterChanges := s.net.masterChanges.inc } } := if_neg fun h' => h h'.1

theorem State.newMaster_cases (s : State) (n : Nat) (a : AnnounceMsg) : s.newMaster n a = s ∨
    s.newMaster n a = { s with net := { s.net with
      master := some a.master, heard := none, offsets := [], bigRun := 0, smallRun := 0
      masterChanges := s.net.masterChanges.inc } } := by
  unfold State.newMaster; split <;> simp

@[simp] theorem State.port_newMaster (s : State) (n : Nat) (a : AnnounceMsg) (k : Nat) :
    (s.newMaster n a).port k = s.port k := by
  obtain h | h := s.newMaster_cases n a <;> rw [h]; rfl

/-- The state that a port takes where the master of Announce `a` is selected on port `n`. -/
def State.runBeside (s : State) (n : Nat) (a : AnnounceMsg) (k : Nat) : PtpRun :=
  if (s.port k).cfg.ptpEn = 0 then .disabled else if k = n then .slave else s.besideSlave a k

theorem State.selectMaster_eq (s : State) (n : Nat) (a : AnnounceMsg) :
    ∃ ps, s.selectMaster n a = (s.newMaster n a).withPorts ps ∧
      ∀ k, k ≤ 2 → ((s.newMaster n a).withPorts ps).port k = { s.port k with run := s.runBeside n a k } := by
  obtain ⟨ps, he, hp, -⟩ := (s.newMaster n a).each_modPort (fun s k p =>
    { p with run := if p.cfg.ptpEn = 0 then .disabled else if k = n then .slave else s.besideSlave a k })
    (by
      intro ps k h
      have : ((s.newMaster n a).withPorts ps).besideSlave a k = (s.newMaster n a).besideSlave a k := by
        unfold State.besideSlave; rw [h]; rfl
      simp only [this])
  refine ⟨ps, he, fun k hk => (hp k hk).trans ?_⟩
  have : (s.newMaster n a).besideSlave a k = s.besideSlave a k := by
    unfold State.besideSlave
    rw [State.port_newMaster]
    obtain h | h := s.newMaster_cases n a <;> rw [h]
  rw [State.port_newMaster, this]; rfl

/-- The state of a grandmaster's port (R254). -/
def State.runGrand (s : State) (k : Nat) : PtpRun :=
  if (s.port k).cfg.ptpEn = 0 then .disabled else if s.outranked k then .passive else .master

theorem State.selectBest_slave {b : AnnounceMsg} (hr : s.net.ptp.role = 0) (h : s.bestPort = some (n, b)) :
    s.selectBest = s.selectMaster n b := by
  rw [State.selectBest, if_pos hr, h]

theorem State.selectBest_alone (hr : s.net.ptp.role = 0) (h : s.bestPort = none) : s.selectBest = s := by
  rw [State.selectBest, if_pos hr, h]

theorem State.selectBest_grand (hr : s.net.ptp.role = 1) : ∃ ps, s.selectBest = s.withPorts ps ∧
    ∀ k, k ≤ 2 → (s.withPorts ps).port k = { s.port k with run := s.runGrand k } := by
  obtain ⟨ps, he, hp, -⟩ := s.each_modPort (fun s k p =>
    { p with run := if p.cfg.ptpEn = 0 then .disabled else if s.outranked k then .passive else .master })
    (by
      intro ps k h
      have : (s.withPorts ps).outranked k = s.outranked k := by
        unfold State.outranked; rw [h]; rfl
      simp only [this])
  refine ⟨ps, ?_, fun k hk => hp k hk⟩
  rw [State.selectBest, if_neg (by omega), if_pos hr]
  exact he

/-- What the best master clock algorithm changes: the master with what is measured of it, and the states of the ports. -/
theorem State.selectBest_frame (s : State) : ({ s.selectBest with net := s.net } : State) = s ∧
    s.selectBest.net.clockClass = s.net.clockClass ∧ s.selectBest.net.control = s.net.control ∧
    ∀ k, k ≤ 2 → ∃ r, s.selectBest.port k = { s.port k with run := r } := by
  by_cases hr : s.net.ptp.role = 0
  · rcases hb : s.bestPort with _ | ⟨n, b⟩
    · rw [State.selectBest_alone hr hb]
      exact ⟨rfl, rfl, rfl, fun k _ => ⟨_, rfl⟩⟩
    · rw [State.selectBest_slave hr hb]
      obtain ⟨ps, he, hp⟩ := s.selectMaster_eq n b
      rw [he]
      refine ⟨?_, ?_, ?_, fun k hk => ⟨_, hp k hk⟩⟩ <;> obtain h | h := s.newMaster_cases n b <;> rw [h] <;> rfl
  · by_cases hg : s.net.ptp.role = 1
    · obtain ⟨ps, he, hp⟩ := State.selectBest_grand hg
      rw [he]
      exact ⟨rfl, rfl, rfl, fun k hk => ⟨_, hp k hk⟩⟩
    · rw [State.selectBest, if_neg hr, if_neg hg]
      exact ⟨rfl, rfl, rfl, fun k _ => ⟨_, rfl⟩⟩

theorem State.best_selectBest (s : State) {k : Nat} (hk : k ≤ 2) : (s.selectBest.port k).best = (s.port k).best := by
  obtain ⟨-, -, -, h⟩ := s.selectBest_frame
  obtain ⟨r, h⟩ := h k hk
  rw [h]

/-! ## Losing the master (R261, R263) -/

/-- The state without a master, but for the states of the ports. -/
def State.masterless (s : State) : State := { s.loseControl with net := { s.loseControl.net with master := none, heard := none } }

theorem State.loseMaster_eq (s : State) : ∃ ps, s.loseMaster = s.masterless.withPorts ps ∧
    ∀ k, k ≤ 2 → (s.masterless.withPorts ps).port k =
      { s.port k with run := rolePort s.net.ptp.role (s.port k).cfg.ptpEn } := by
  obtain ⟨ps, he, hp, -⟩ := s.masterless.each_modPort (fun s k p => { p with run := rolePort s.net.ptp.role p.cfg.ptpEn })
    (fun ps k _ => rfl)
  exact ⟨ps, he, hp⟩

theorem State.source_loseControl (s : State) : s.loseControl.tb.source ≠ .locked := by
  change (if s.tb.source = .locked then TbSource.free else s.tb.source) ≠ .locked
  split
  · simp
  · assumption

end Sys2Proof.Machine

/-! SUPPORT. PTP frames and PTP's timers: one equation per row and message (R254, R256 to R263). -/

namespace Sys2Proof.Machine

variable {s : State} {n : Nat}

/-! ## Frames -/

theorem State.stampOn_none (h : (s.port n).newCfg = none) : s.stampOn n = s := by
  rw [State.stampOn, h]

/-- A change of a port's settings leaves the READY bits as they are. -/
theorem State.isReady_stampOn (s : State) (n k : Nat) : (s.stampOn n).isReady k = s.isReady k := by
  have hl (u : State) : u.loseMaster.dev = u.dev := by
    obtain ⟨ps, he, -⟩ := u.loseMaster_eq
    rw [he]; rfl
  have hb (u : State) : u.selectBest.dev = u.dev := (congrArg State.dev u.selectBest_frame.1 :)
  have : (s.stampOn n).dev = s.dev := by
    unfold State.stampOn State.adoptPort
    dsimp only
    split
    · rfl
    · split
      · rw [hb]; split
        · rw [hl]; rfl
        · rfl
      · rfl
  rw [State.isReady, this]; rfl

/-- A message of the device's domain with no tag is heard, but by UDP in gPTP. -/
theorem State.speaks_plain (s : State) {udp : Bool} (b : PtpBody) (h : udp = false ∨ s.net.ptp.profile ≠ 2) :
    s.speaks ⟨s.net.ptp.domain, udp, none, b⟩ = true := by
  obtain h | h := h <;> simp [State.speaks, h]

/-- A message that is heard does what it says, where no settings of its port wait. -/
theorem exec_ptpFrameReceived {f : PtpFrame} (hn : n ≤ 2) (hon : s.ptpOn n = true) (hsp : s.speaks f = true)
    (h : ptpIsEvent f.body = false ∨ (s.port n).newCfg = none) :
    exec (.ptpFrameReceived n f) s = .next (s.ptpFrame n f.body) := by
  have hst : (if ptpIsEvent f.body then s.stampOn n else s) = s := by
    obtain h | h := h
    · rw [h]; rfl
    · rw [State.stampOn_none h, ite_self]
  change execPtpFrameReceived n f s = _
  unfold execPtpFrameReceived
  rw [if_neg (by omega)]
  dsimp only
  rw [hst, hon, hsp]; rfl

theorem exec_ptpFrameReceived_unheard {f : PtpFrame} (hn : n ≤ 2) (h : s.ptpOn n = false ∨ s.speaks f = false)
    (hc : ptpIsEvent f.body = false ∨ (s.port n).newCfg = none) : exec (.ptpFrameReceived n f) s = .next s := by
  have hst : (if ptpIsEvent f.body then s.stampOn n else s) = s := by
    obtain h | h := hc
    · rw [h]; rfl
    · rw [State.stampOn_none h, ite_self]
  change execPtpFrameReceived n f s = _
  unfold execPtpFrameReceived
  rw [if_neg (by omega)]
  dsimp only
  rw [hst]
  obtain h | h := h <;> simp [h]

/-- An Announce that a port takes is its best, and the algorithm decides anew. -/
theorem State.announced_taken {a : AnnounceMsg} (hb : (s.port n).best = none) (hs : a.steps < 255) :
    s.announced n a = (s.modPort n fun p => { p with best := some a, lastAnnounce := s.clock }).selectBest := by
  simp only [State.announced, hb]
  rw [if_neg (by simp; omega)]

theorem State.announced_worse {a b : AnnounceMsg} (hb : (s.port n).best = some b) (hs : b.sender ≠ a.sender)
    (hl : lexLt (announceRank a n) (announceRank b n) = false) : s.announced n a = s := by
  simp [State.announced, hb, hs, hl]

theorem State.ptpEn_of_ptpOn (h : s.ptpOn n = true) : (s.port n).cfg.ptpEn = 1 := by
  simp only [State.ptpOn, Bool.and_eq_true, decide_eq_true_eq] at h
  exact h.2

/-- The first Announce (R254): its master is the device's, and its port the slave. -/
theorem State.announced_first {a : AnnounceMsg} (hn : n ≤ 2) (hen : (s.port n).cfg.ptpEn = 1) (hr : s.net.ptp.role = 0)
    (hs : a.steps < 255) (hb : ∀ k, k ≤ 2 → (s.port k).best = none) (hm : s.net.master ≠ some a.master) :
    (s.announced n a).net.master = some a.master ∧ ((s.announced n a).port n).run = .slave ∧
      ((s.announced n a).port n).best = some a ∧ ((s.announced n a).port n).lastAnnounce = s.clock ∧
      (∀ k, k ≤ 2 → k ≠ n → (s.port k).cfg.ptpEn = 1 →
        ((s.announced n a).port k).run = (if s.net.ptp.profile = 2 then .master else .listening)) ∧
      (s.announced n a).net.masterChanges = s.net.masterChanges.inc ∧ (s.announced n a).net.offsets = [] ∧
      ({ s.announced n a with net := s.net } : State) = s := by
  let u := s.modPort n fun p => { p with best := some a, lastAnnounce := s.clock }
  have un : u.port n = { s.port n with best := some a, lastAnnounce := s.clock } := State.port_setPort_self ..
  have uk (k : Nat) (h : k ≠ n) : u.port k = s.port k := State.port_setPort_ne _ _ _ _ h
  have hbest : u.bestPort = some (n, a) :=
    State.bestPort_of_only hn (by simp [un, hen]) (by rw [un]) fun k hk h => by rw [uk k h, hb k hk]
  obtain ⟨ps, he, hp⟩ := u.selectMaster_eq n a
  have hu : s.announced n a = (u.newMaster n a).withPorts ps := by
    rw [State.announced_taken (hb n hn) hs, ← he]; exact State.selectBest_slave hr hbest
  have hnew := u.newMaster_of_ne (n := n) hm
  rw [hu]
  refine ⟨by rw [hnew]; rfl, ?_, ?_, ?_, fun k hk hkn hken => ?_, by rw [hnew]; rfl, by rw [hnew]; rfl, by rw [hnew]; rfl⟩
  · rw [hp n hn]; simp [State.runBeside, un, hen]
  · rw [hp n hn, un]
  · rw [hp n hn, un]
  · rw [hp k hk]
    have : (u.port k).best = none := by rw [uk k hkn, hb k hk]
    simp only [State.runBeside, uk k hkn, hken, State.besideSlave, hb k hk, if_neg hkn]
    change (if s.net.ptp.profile ≠ 2 then _ else _) = _
    by_cases hp2 : s.net.ptp.profile = 2 <;> simp [hp2]

/-- A grandmaster's port that hears its first clock (R254): passive where that is better. -/
theorem State.announced_grand {a : AnnounceMsg} (hn : n ≤ 2) (hen : (s.port n).cfg.ptpEn = 1) (hr : s.net.ptp.role = 1)
    (hs : a.steps < 255) (hb : (s.port n).best = none) :
    ((s.announced n a).port n).run = (if lexLt (announceRank a n) (announceRank s.ownAnnounce n) then .passive else .master) ∧
      ((s.announced n a).port n).best = some a ∧ (s.announced n a).net.master = s.net.master ∧
      ({ s.announced n a with net := s.net } : State) = s := by
  let u := s.modPort n fun p => { p with best := some a, lastAnnounce := s.clock }
  have un : u.port n = { s.port n with best := some a, lastAnnounce := s.clock } := State.port_setPort_self ..
  obtain ⟨ps, he, hp⟩ := State.selectBest_grand (s := u) hr
  have hu : s.announced n a = u.withPorts ps := (State.announced_taken hb hs).trans he
  rw [hu]
  refine ⟨?_, by rw [hp n hn, un], rfl, rfl⟩
  rw [hp n hn]
  simp only [State.runGrand, State.outranked, un, hen]
  rfl

/-! ## The servo (R260 to R262) -/

theorem State.adoptPtp_none (h : s.net.newPtp = none) : s.adoptPtp = s := by
  rw [State.adoptPtp, h]

/-- An offset below STEP_THRESH takes control, but in holdover and after a refused step. -/
theorem State.servo_small {o : Int} (hp : s.net.newPtp = none) (ho : o.natAbs < s.net.ptp.stepThresh)
    (hr : s.net.stepRefused = false) : s.servo o = ({ s with net := { s.net with
      offsets := o :: s.net.offsets.take 3, bigRun := 0, smallRun := s.net.smallRun + 1 } } : State).applyOffset o := by
  simp [State.servo, State.adoptPtp_none hp, Nat.not_le.mpr ho, hr]

theorem State.servo_large {o : Int} (hp : s.net.newPtp = none) (ho : s.net.ptp.stepThresh ≤ o.natAbs) :
    s.servo o = ({ s with net := { s.net with offsets := o :: s.net.offsets.take 3 } } : State).largeOffset o := by
  simp [State.servo, State.adoptPtp_none hp, ho]

/-- What the servo does with an offset that it applies outside holdover (R260). -/
theorem State.applyOffset_control (o : Int) (h : s.tb.source ≠ .holdover) :
    (s.applyOffset o).net = { s.net with control := true } ∧ (s.applyOffset o).tb.source = .locked ∧
      (s.applyOffset o).tb.sec = s.tb.sec ∧ (s.applyOffset o).tb.ns = s.tb.ns ∧ (s.applyOffset o).tb.epoch = s.tb.epoch := by
  rw [State.applyOffset, if_neg h]
  exact ⟨rfl, rfl, rfl, rfl, rfl⟩

/-- What a large offset leaves behind (R260, R262): it is counted with its sign, and Polestar stays. -/
theorem State.largeOffset_counts (s : State) (o : Int) :
    (s.largeOffset o).net.outliers = s.net.outliers.inc ∧ (s.largeOffset o).net.bigRun = signRun s.net.bigRun o ∧
      (s.largeOffset o).tb.sec = s.tb.sec ∧ (s.largeOffset o).tb.ns = s.tb.ns ∧ (s.largeOffset o).tb.epoch = s.tb.epoch := by
  unfold State.largeOffset
  dsimp only
  split
  · simp [State.holdRate]
  · exact ⟨rfl, rfl, rfl, rfl, rfl⟩

theorem State.now_of_tb {t : State} (hs : t.tb.sec = s.tb.sec) (hn : t.tb.ns = s.tb.ns) : t.now = s.now := by
  rw [State.now, hs, hn]; rfl

/-- An exchange gives the offset to the servo of a slave in E2E. -/
theorem State.ptpFrame_exchange (t1 t2 t3 t4 c1 c2 : Int) (hr : (s.port n).run = .slave) (hp : s.net.ptp.profile = 0) :
    s.ptpFrame n (.exchange t1 t2 t3 t4 c1 c2) =
      (s.setPort n { s.port n with meanDelay := (s.port n).pathDelay t1 t2 t3 t4 (c1 + c2) }).servo
        ((s.port n).offset t1 t2 c1 ((s.port n).pathDelay t1 t2 t3 t4 (c1 + c2))) := if_pos ⟨hr, hp⟩

/-! ## Timers (R254, R261, R263) -/

/-- The Announce messages of a slave's port cease: what it has heard is forgotten, and the best of the other ports counts. -/
theorem exec_announceTimeout_slave (hn : n ≤ 2) (hr : (s.port n).run = .slave)
    (ht : (s.port n).lastAnnounce + (s.port n).cfg.announceTimeout * logInterval (s.port n).cfg.logAnnounce ≤ s.clock) :
    exec (.announceTimeout n) s = .next (s.modPort n fun p => { p with best := none }).loseMaster.selectBest := by
  change execAnnounceTimeout n s = _
  unfold execAnnounceTimeout
  simp only [if_neg (show ¬ 2 < n by omega), if_pos (show ((s.port n).best.isSome = true ∨ (s.port n).run = .slave) ∧ _ from
    ⟨.inr hr, ht⟩), if_pos hr]

theorem exec_announceTimeout_other {b : AnnounceMsg} (hn : n ≤ 2) (hr : (s.port n).run ≠ .slave)
    (hb : (s.port n).best = some b)
    (ht : (s.port n).lastAnnounce + (s.port n).cfg.announceTimeout * logInterval (s.port n).cfg.logAnnounce ≤ s.clock) :
    exec (.announceTimeout n) s = .next (s.modPort n fun p => { p with best := none }).selectBest := by
  change execAnnounceTimeout n s = _
  unfold execAnnounceTimeout
  simp only [if_neg (show ¬ 2 < n by omega), if_pos (show ((s.port n).best.isSome = true ∨ (s.port n).run = .slave) ∧ _ from
    ⟨.inl (by rw [hb]; rfl), ht⟩), if_neg hr]

/-- A slave's port has lost its master: the ports as they then stand. -/
theorem State.loseMaster_forgotten (s : State) (n : Nat) :
    ∃ ps, (s.modPort n fun p => { p with best := none }).loseMaster = s.masterless.withPorts ps ∧
      (∀ k, k ≤ 2 → ((s.masterless.withPorts ps).port k).cfg = (s.port k).cfg ∧
        ((s.masterless.withPorts ps).port k).run = rolePort s.net.ptp.role (s.port k).cfg.ptpEn ∧
        ((s.masterless.withPorts ps).port k).best = if k = n then none else (s.port k).best) := by
  let u := s.modPort n fun p => { p with best := none }
  have un : u.port n = { s.port n with best := none } := State.port_setPort_self ..
  have uk (k : Nat) (h : k ≠ n) : u.port k = s.port k := State.port_setPort_ne _ _ _ _ h
  obtain ⟨ps, he, hp⟩ := u.loseMaster_eq
  refine ⟨ps, he, fun k hk => ?_⟩
  have hpk : (s.masterless.withPorts ps).port k = _ := hp k hk
  rw [hpk]
  by_cases h : k = n
  · subst h; rw [un, if_pos rfl]; exact ⟨rfl, rfl, rfl⟩
  · rw [uk k h, if_neg h]; exact ⟨rfl, rfl, rfl⟩

/-! ## Messages of the device (R254, R256 to R259, R343) -/

theorem exec_ptpMessageTransmit {m : PtpMessage} (hn : n ≤ 2) (hc : m = .announce ∨ (s.port n).newCfg = none)
    (hon : s.ptpOn n = true) (hs : s.sends (s.port n) m = true)
    (ht : ((s.port n).schedule m).2 + ((s.port n).schedule m).1 ≤ s.clock)
    (hl : s.ownLeaves n (OwnFrame.number { tag := s.ownTag s.net.net.ptpPcp, body := .ptp (s.content (s.port n) m) }) = true) :
    exec (.ptpMessageTransmit n m) s =
      .next ((s.log (.own n { tag := s.ownTag s.net.net.ptpPcp, body := .ptp (s.content (s.port n) m) })).modPort n
        fun p => p.sentAt s.clock m) := by
  have hst : (if m = .announce then s else s.stampOn n) = s := by
    obtain h | h := hc
    · rw [if_pos h]
    · rw [State.stampOn_none h, ite_self]
  change execPtpMessageTransmit n m s = _
  unfold execPtpMessageTransmit
  rw [if_neg (by omega)]
  dsimp only
  rw [hst, if_pos (by simp [hon, hs, ht, hl])]

/-- Without a time base no PTP message leaves (R393). -/
theorem exec_ptpMessageTransmit_unready (m : PtpMessage) (h : s.isReady readyTimebase = false) :
    exec (.ptpMessageTransmit n m) s = .next s := by
  have hon (u : State) (hu : u.isReady readyTimebase = false) : u.ptpOn n = false := by simp [State.ptpOn, hu]
  have hst : (if m = .announce then s else s.stampOn n).ptpOn n = false := by
    split
    · exact hon _ h
    · exact hon _ ((s.isReady_stampOn n _).trans h)
  change execPtpMessageTransmit n m s = _
  unfold execPtpMessageTransmit
  dsimp only
  rw [hst]
  simp

end Sys2Proof.Machine

/-! SUPPORT. The bridge: learning, the egress queues, what leaves a port in one cycle, and READY.PORT (R25, R257, R258, R266 to
R268, R343, R405). -/

namespace Sys2Proof.Machine

variable {s : State} {n : Nat}

/-! ## READY bits -/

theorem getLsbD_setBit {w : Nat} (x : BitVec w) (b : Nat) (v : Bool) (i : Nat) (hb : b < w) :
    (setBit x b v).getLsbD i = if i = b then v else x.getLsbD i := by
  have two : (BitVec.ofNat w (2 ^ b)).getLsbD i = (decide (i < w) && decide (b = i)) := by
    rw [BitVec.getLsbD_ofNat, Nat.testBit_two_pow]
  unfold setBit
  split
  · rw [BitVec.getLsbD_or, two]; grind
  · rw [BitVec.getLsbD_and, BitVec.getLsbD_not, two]; grind

/-- A READY bit after a bit has been set. -/
theorem State.isReady_setReady (s : State) (b : Nat) (v : Bool) (i : Nat) (hb : b < 27) :
    (s.setReady b v).isReady i = if i = b then v else s.isReady i := by
  rw [State.isReady, State.dev_setReady]
  exact getLsbD_setBit _ _ _ _ hb

/-- Block lock moves READY.PORT of its port (R25, R393). -/
theorem exec_phyLinkChange (hn : n ≤ 2) (up : Bool) :
    exec (.phyLinkChange n up) s = .next ((s.modPort n fun p => { p with blockLock := up }).refreshPort n) :=
  if_neg (by omega)

theorem State.isReady_refreshPort (s : State) {n : Nat} (hn : n ≤ 2) (i : Nat) :
    (s.refreshPort n).isReady i = if i = readyPort n then
      (s.port n).blockLock && (s.port n).testPassed && s.bridgeWorks && !(s.port n).resetting else s.isReady i :=
  State.isReady_setReady _ _ _ _ (by simp only [readyPort]; omega)

theorem State.net_refreshPort (s : State) (n : Nat) : (s.refreshPort n).net = s.net := State.net_setReady ..

/-- With a bridge that does not work no port is ready (R268, R405). -/
theorem State.isReady_refreshPorts_false (s : State) (h : s.bridgeWorks = false) {n : Nat} (hn : n ≤ 2) :
    s.refreshPorts.isReady (readyPort n) = false := by
  have step (u : State) (k i : Nat) (hu : u.bridgeWorks = false) (hk : k ≤ 2) :
      (u.refreshPort k).isReady (readyPort i) = (if i = k then false else u.isReady (readyPort i)) ∧
        (u.refreshPort k).bridgeWorks = false := by
    constructor
    · rw [State.isReady_refreshPort u hk, hu]
      simp [readyPort]
    · rw [State.bridgeWorks, State.net_refreshPort]; exact hu
  change (((s.refreshPort 0).refreshPort 1).refreshPort 2).isReady (readyPort n) = false
  have h0 := step s 0 n h (by decide)
  have h1 := step _ 1 n h0.2 (by decide)
  rw [(step _ 2 n h1.2 (by decide)).1, h1.1, h0.1]
  grind

/-! ## Learning (R266, R267) -/

/-- A source address is learned, or the full table counted: the rest of the ports and of the network stays. -/
theorem State.learn_cases (s : State) (n mac : Nat) :
    (∃ macs, s.learn n mac = { s with net := { s.net with macs := macs } }) ∨
      s.learn n mac = s.modPort n fun p => { p with learnFull := p.learnFull.inc } := by
  unfold State.learn
  dsimp only
  split
  · exact .inl ⟨_, rfl⟩
  · split
    · exact .inl ⟨_, rfl⟩
    · exact .inr rfl

theorem State.port_learn (s : State) (n mac k : Nat) :
    ∃ c, (s.learn n mac).port k = { s.port k with learnFull := c } := by
  obtain ⟨macs, h⟩ | h := s.learn_cases n mac
  · exact ⟨_, by rw [h]; rfl⟩
  · rw [h, State.modPort_eq]
    by_cases hk : k = n
    · subst hk; exact ⟨_, State.port_setPort_self ..⟩
    · exact ⟨_, State.port_setPort_ne _ _ _ _ hk⟩

theorem State.learn_frame (s : State) (n mac : Nat) : ({ s.learn n mac with net := s.net } : State) = s ∧
    (s.learn n mac).net.ptp = s.net.ptp := by
  obtain ⟨macs, h⟩ | h := s.learn_cases n mac <;> rw [h] <;> exact ⟨rfl, rfl⟩

theorem State.consumes_learn (s : State) (n mac k : Nat) (f : NetFrame) : (s.learn n mac).consumes k f = s.consumes k f := by
  obtain ⟨c, h⟩ := s.port_learn n mac k
  rw [State.consumes, h, (s.learn_frame n mac).2]
  rfl

/-! ## Forwarding (R266, R343) -/

theorem State.egress_range (s : State) (n dst : Nat) : (s.egress n dst).Nodup ∧ ∀ k ∈ s.egress n dst, k ≤ 2 := by
  have hr : ((List.range 3).filter fun k => decide (k ≠ n) && (s.port k).blockLock).Nodup := List.nodup_range.filter _
  have hm : ∀ k ∈ (List.range 3).filter fun k => decide (k ≠ n) && (s.port k).blockLock, k ≤ 2 := fun k hk => by
    have := List.mem_range.mp (List.mem_of_mem_filter hk); omega
  unfold State.egress
  dsimp only
  split
  · exact ⟨hr, hm⟩
  · split
    · exact ⟨hr.filter _, fun k hk => hm k (List.mem_of_mem_filter hk)⟩
    · exact ⟨hr, hm⟩

/-- A full egress queue discards and counts the frame. -/
theorem State.enqueue_full (n : Nat) (f : NetFrame) (s : State) (k : Nat) (h : (s.port k).hasRoom f = false) :
    State.enqueue n f s k = s.setPort k { s.port k with discarded := (s.port k).discarded.inc } := by
  simp [State.enqueue, State.modPort_eq, h]

theorem State.enqueue_room (n : Nat) (f : NetFrame) (s : State) (k : Nat) (h : (s.port k).hasRoom f = true) :
    State.enqueue n f s k = s.setPort k { s.port k with queue := (s.port k).queue ++ [.forwarded f n] } := by
  simp [State.enqueue, State.modPort_eq, h]

/-- A frame joins its queue on every port that it is for, where each has room. -/
theorem State.each_enqueue (n : Nat) (f : NetFrame) (ks : List Nat) (hnd : ks.Nodup) (s : State)
    (h : ∀ k ∈ ks, (s.port k).hasRoom f = true) :
    ∃ ps, s.each ks (State.enqueue n f) = s.withPorts ps ∧ ∀ k, (s.withPorts ps).port k =
      if k ∈ ks then { s.port k with queue := (s.port k).queue ++ [.forwarded f n] } else s.port k := by
  induction ks generalizing s with
  | nil => exact ⟨s.net.ports, rfl, fun k => rfl⟩
  | cons j t ih =>
    obtain ⟨hj, ht⟩ := List.nodup_cons.mp hnd
    let u := s.setPort j { s.port j with queue := (s.port j).queue ++ [.forwarded f n] }
    have uj : u.port j = { s.port j with queue := (s.port j).queue ++ [.forwarded f n] } := State.port_setPort_self ..
    have uk (k : Nat) (hk : k ≠ j) : u.port k = s.port k := State.port_setPort_ne _ _ _ _ hk
    have ht' (k : Nat) (hk : k ∈ t) : k ≠ j := fun e => hj (e ▸ hk)
    obtain ⟨ps, he, hp⟩ := ih ht u fun k hk => by rw [uk k (ht' k hk)]; exact h k (List.mem_cons_of_mem _ hk)
    refine ⟨ps, ?_, fun k => (hp k).trans ?_⟩
    · change (State.enqueue n f s j).each t _ = _
      rw [State.enqueue_room n f s j (h j List.mem_cons_self)]
      exact he
    · by_cases hk : k = j
      · subst hk; rw [if_neg hj, uj, if_pos List.mem_cons_self]
      · rw [uk k hk]; simp [hk]

/-- A frame is forwarded to the ports that it is for, where each has room, and counted where there is one. -/
theorem State.forward_room (s : State) (n : Nat) (f : NetFrame) (h : ∀ k, k ≤ 2 → (s.port k).hasRoom f = true) :
    (∀ k, ((s.forward n f).port k).queue =
        (s.port k).queue ++ if k ∈ s.egress n f.dst then [.forwarded f n] else []) ∧
      ((s.forward n f).port n).forwarded =
        (if s.egress n f.dst = [] then (s.port n).forwarded else (s.port n).forwarded.inc) ∧
      ({ s.forward n f with net := s.net } : State) = s := by
  obtain ⟨hnd, hle⟩ := s.egress_range n f.dst
  obtain ⟨ps, he, hp⟩ := State.each_enqueue n f _ hnd s fun k hk => h k (hle k hk)
  have htaken : ((s.egress n f.dst).any fun k => (s.port k).hasRoom f) = !(s.egress n f.dst).isEmpty := by
    cases hks : s.egress n f.dst with
    | nil => rfl
    | cons k t => simp [h k (hle k (by rw [hks]; exact List.mem_cons_self))]
  have hq (k : Nat) : ((s.withPorts ps).port k).queue =
      (s.port k).queue ++ if k ∈ s.egress n f.dst then [.forwarded f n] else [] := by
    rw [hp]; split <;> simp
  have hf (k : Nat) : ((s.withPorts ps).port k).forwarded = (s.port k).forwarded := by rw [hp]; split <;> rfl
  have hfw : s.forward n f = if s.egress n f.dst = [] then s.withPorts ps
      else (s.withPorts ps).modPort n fun p => { p with forwarded := p.forwarded.inc } := by
    unfold State.forward
    dsimp only
    rw [he, htaken]
    by_cases hks : s.egress n f.dst = [] <;> simp [hks]
  rw [hfw]
  split
  · exact ⟨hq, hf n, rfl⟩
  · refine ⟨fun k => ?_, ?_, rfl⟩
    · rw [← hq k, State.modPort_eq]
      by_cases hk : k = n
      · subst hk; rw [State.port_setPort_self]
      · rw [State.port_setPort_ne _ _ _ _ hk]
    · rw [State.modPort_eq, State.port_setPort_self, hf]

/-- A frame of legal length reaches the bridge by a port with block lock. -/
theorem exec_bridgeFrameReceived {f : NetFrame} (hn : n ≤ 2) (hp : s.net.bridgePassed = true)
    (hf : s.net.bridgeFault = false) (hl : (s.port n).blockLock = true) : exec (.bridgeFrameReceived n f) s =
      .next (if 9018 < f.length then s.modPort n fun p => { p with discarded := p.discarded.inc } else s.bridgeFrame n f) := by
  change execBridgeFrameReceived n f s = _
  unfold execBridgeFrameReceived
  rw [if_neg (by omega), if_pos (by simp [State.bridgeWorks, hp, hf, hl])]
  split <;> rfl

/-- A frame that is no ARP request for the device, and brings no settings into effect, is taken, dropped or forwarded once
its source is learned. -/
theorem State.bridgeFrame_plain {f : NetFrame} (ha : f.kind ≠ .arpForUs) (hc : (s.port n).newCfg = none)
    (hd : f.kind = .delayReq → s.net.ptp.profile ≠ 1 ∨ (s.port n).cfg.ptpEn ≠ 1) :
    s.bridgeFrame n f = if s.consumes n f then s.learn n f.src else (s.learn n f.src).forward n f := by
  obtain ⟨c, hp⟩ := s.port_learn n f.src n
  have hst : (s.learn n f.src).stampOn n = s.learn n f.src := State.stampOn_none (by rw [hp]; exact hc)
  unfold State.bridgeFrame
  dsimp only
  simp only [ha, false_and, if_false]
  rw [hst, ite_self, if_neg, State.consumes_learn]
  rintro ⟨hk, hpr, hen⟩
  rw [(s.learn_frame n f.src).2] at hpr
  rw [hp] at hen
  exact (hd hk).elim (fun h => h hpr) (fun h => h hen)

/-! ## One cycle of the ports (R343) -/

/-- The frame that leaves next is one of the queue, of the lowest queue number that waits. -/
theorem Port.nextOut_first {p : Port} {x : Queued} (h : p.nextOut = some x) :
    x ∈ p.queue ∧ ∀ y ∈ p.queue, x.number ≤ y.number := by
  have hfind (q : Nat) : (p.queue.find? fun x => decide (x.number = q)) = none ↔ ∀ y ∈ p.queue, y.number ≠ q := by
    simp [List.find?_eq_none]
  obtain ⟨qs, q, rs, hl, hx, hq⟩ := List.findSome?_eq_some_iff.mp h
  have hxq : x.number = q := by simpa using List.find?_some hx
  refine ⟨List.mem_of_find?_eq_some hx, fun y hy => ?_⟩
  by_contra hlt
  have hmem : y.number ∈ qs := by
    have : qs = List.range q := by
      have hlen := congrArg (fun l : List Nat => l[qs.length]?) hl
      have hql : qs.length < 4 := by have := congrArg List.length hl; simp at this; omega
      have : q = qs.length := by
        simp [hql] at hlen; omega
      have htake := congrArg (List.take qs.length) hl
      rw [List.take_left, List.take_range, Nat.min_eq_left (by omega)] at htake
      rw [this, htake]
    rw [this]; exact List.mem_range.mpr (by omega)
  exact (hfind _).mp (hq _ hmem) y hy rfl

end Sys2Proof.Machine

/-! SUPPORT. One cycle of the ports: what leaves by each, and what Polestar and the loop leave alone (R27, R247, R343). -/

namespace Sys2Proof.Machine

variable {s : State}

/-! ## What the ports send -/

/-- The state but for its egress queues and what has left the device, which only grows. -/
def State.AlikeButQueues (s t : State) : Prop :=
  (∃ ps l, t = { s.withPorts ps with sent := l }) ∧ s.sent ⊆ t.sent ∧ ∀ j, ∃ q, t.port j = { s.port j with queue := q }

theorem State.AlikeButQueues.refl (s : State) : s.AlikeButQueues s :=
  ⟨⟨s.net.ports, s.sent, rfl⟩, List.Subset.refl _, fun _ => ⟨_, rfl⟩⟩

theorem State.AlikeButQueues.trans {t u : State} (h : s.AlikeButQueues t) (h' : t.AlikeButQueues u) : s.AlikeButQueues u := by
  obtain ⟨⟨ps, l, rfl⟩, hs, hp⟩ := h
  obtain ⟨⟨qs, m, rfl⟩, hs', hp'⟩ := h'
  refine ⟨⟨qs, m, rfl⟩, List.Subset.trans hs hs', fun j => ?_⟩
  obtain ⟨q, hq⟩ := hp j
  obtain ⟨q', hq'⟩ := hp' j
  exact ⟨q', by rw [hq', hq]⟩

/-- What leaves with a frame does not depend on the queues. -/
theorem State.AlikeButQueues.passes {t : State} (h : s.AlikeButQueues t) (k : Nat) (x : Queued) : t.passes k x = s.passes k x := by
  obtain ⟨⟨ps, l, rfl⟩, -, hp⟩ := h
  obtain ⟨q, hk⟩ := hp k
  cases x with
  | forwarded f n =>
    obtain ⟨q', hn⟩ := hp n
    change Sent.frame k _ = Sent.frame k _
    unfold State.corrected
    rw [hk, hn]; rfl
  | own f =>
    change Sent.own k (f.leaves _ _) = _
    rw [hk]; rfl

/-- A port sends one frame, or none. -/
theorem State.sendFrame_alike (s : State) (k : Nat) (hc : (s.port k).newCfg = none) :
    s.AlikeButQueues (s.sendFrame k) ∧ ∀ j, j ≠ k → (s.sendFrame k).port j = s.port j := by
  unfold State.sendFrame
  split
  · exact ⟨.refl s, fun _ _ => rfl⟩
  · dsimp only
    rw [State.stampOn_none hc, ite_self]
    split
    · refine ⟨⟨⟨_, _, rfl⟩, List.subset_cons_self _ _, fun j => ?_⟩, fun j hj => State.port_setPort_ne _ _ _ _ hj⟩
      by_cases hj : j = k
      · subst hj; exact ⟨_, State.port_setPort_self ..⟩
      · exact ⟨_, State.port_setPort_ne _ _ _ _ hj⟩
    · exact ⟨.refl s, fun _ _ => rfl⟩

/-- A port with block lock sends the frame that leaves next. -/
theorem State.sendFrame_next {k : Nat} {x : Queued} (hc : (s.port k).newCfg = none) (hx : (s.port k).nextOut = some x)
    (hw : s.bridgeWorks = true) (hl : (s.port k).blockLock = true) :
    (s.sendFrame k).sent = s.passes k x :: s.sent ∧ ((s.sendFrame k).port k).queue = (s.port k).queue.erase x := by
  unfold State.sendFrame
  rw [hx, hw, hl]
  dsimp only
  rw [State.stampOn_none hc, ite_self]
  exact ⟨rfl, congrArg Port.queue (State.port_setPort_self ..)⟩

/-- Ports that have sent leave the others as they were. -/
theorem State.each_sendFrame (ks : List Nat) (s : State) (hc : ∀ j ∈ ks, (s.port j).newCfg = none) :
    s.AlikeButQueues (s.each ks State.sendFrame) ∧ ∀ k ∉ ks, (s.each ks State.sendFrame).port k = s.port k := by
  induction ks generalizing s with
  | nil => exact ⟨.refl s, fun _ _ => rfl⟩
  | cons j t ih =>
    obtain ⟨ha, hp⟩ := s.sendFrame_alike j (hc j List.mem_cons_self)
    obtain ⟨hat, hpt⟩ := ih (s.sendFrame j) fun i hi => by
      obtain ⟨q, hq⟩ := ha.2.2 i
      rw [hq]; exact hc i (List.mem_cons_of_mem _ hi)
    refine ⟨ha.trans hat, fun k hk => ?_⟩
    obtain ⟨hkj, hkt⟩ := List.ne_and_not_mem_of_not_mem_cons hk
    exact (hpt k hkt).trans (hp k hkj)

/-- Among the ports that send, one with block lock sends the frame that leaves next. -/
theorem State.each_sendFrame_next {k : Nat} {x : Queued} (hk : k ≤ 2) (hc : ∀ j, j ≤ 2 → (s.port j).newCfg = none)
    (hx : (s.port k).nextOut = some x) (hw : s.bridgeWorks = true) (hl : (s.port k).blockLock = true) :
    s.AlikeButQueues (s.each (List.range 3) State.sendFrame) ∧
      s.passes k x ∈ (s.each (List.range 3) State.sendFrame).sent ∧
      ((s.each (List.range 3) State.sendFrame).port k).queue = (s.port k).queue.erase x := by
  obtain ⟨as, bs, hr⟩ := List.append_of_mem (List.mem_range.mpr (show k < 3 by omega))
  have hnd : (as ++ k :: bs).Nodup := hr ▸ List.nodup_range
  have hle : ∀ j ∈ as ++ k :: bs, j ≤ 2 := fun j hj => by
    have := List.mem_range.mp (hr ▸ hj); omega
  have hka : k ∉ as := fun h => (List.nodup_append.mp hnd).2.2 k h k List.mem_cons_self rfl
  have hkb : k ∉ bs := (List.nodup_cons.mp (List.nodup_append.mp hnd).2.1).1
  let u := s.each as State.sendFrame
  obtain ⟨hau, hpu⟩ := State.each_sendFrame as s fun j hj => hc j (hle j (List.mem_append_left _ hj))
  have huc (j : Nat) (hj : j ≤ 2) : (u.port j).newCfg = none := by
    obtain ⟨q, hq⟩ := hau.2.2 j
    rw [hq]; exact hc j hj
  have huk : u.port k = s.port k := hpu k hka
  have huw : u.bridgeWorks = true := by
    obtain ⟨⟨ps, l, he⟩, -⟩ := hau
    rw [show u = _ from he]; exact hw
  obtain ⟨hsent, hqueue⟩ := State.sendFrame_next (huc k hk) (huk ▸ hx) huw (huk ▸ hl)
  obtain ⟨hav, hpv⟩ := u.sendFrame_alike k (huc k hk)
  obtain ⟨haw, hpw⟩ := State.each_sendFrame bs (u.sendFrame k) fun j hj => by
    obtain ⟨q, hq⟩ := hav.2.2 j
    rw [hq]; exact huc j (hle j (List.mem_append_right _ (List.mem_cons_of_mem _ hj)))
  have he : s.each (List.range 3) State.sendFrame = (u.sendFrame k).each bs State.sendFrame := by
    rw [hr, State.each, List.foldl_append]; rfl
  rw [he]
  refine ⟨hau.trans (hav.trans haw), haw.2.1 ?_, ?_⟩
  · rw [hsent, hau.passes]; exact List.mem_cons_self
  · rw [hpw k hkb, hqueue, huk]

/-! ## What a cycle leaves alone -/

/-- Polestar and the loop count: nothing else changes while no SEC[63:48] waits. -/
theorem State.tick_frame (h : s.tb.pendingSecHi = none) : ({ s.tick with clock := s.clock, tb := s.tb, pll := s.pll } : State) = s := by
  have hr (u : State) : ∃ p, u.runLoop = { u with pll := p } := by
    unfold State.runLoop
    dsimp only
    split
    · exact ⟨_, rfl⟩
    · exact ⟨_, rfl⟩
  have hc (u : State) : ∃ c b, u.count = { u with clock := c, tb := b } ∧ b.pendingSecHi = u.tb.pendingSecHi := by
    unfold State.count
    dsimp only
    split <;> exact ⟨_, _, rfl, rfl⟩
  obtain ⟨p, hp⟩ := hr s
  obtain ⟨c, b, hb, hn⟩ := hc s.runLoop
  have hs : s.runLoop.count.applySecHi = s.runLoop.count := by
    rw [State.applySecHi, hb, hn, hp, h]
  unfold State.tick
  dsimp only
  rw [hs, ite_self, hb, hp]
  split <;> rfl

/-- A divider reset changes the loop and the clock outputs alone. -/
theorem State.loadClocks_pll (s : State) (o : Tq) : ∃ p, s.loadClocks o = { s with pll := p } := by
  obtain ⟨p, hp⟩ : ∃ p, (s.each (List.range 12) fun s k => s.modCko k fun c =>
      if c.cfg.enable = 1 then (c.gateAt s.pll.cfg.dt s.now).ungateAt o s.pll.cfg.dt s.now else c) = { s with pll := p } :=
    s.each_keeps (fun t => ∃ p, t = { s with pll := p }) _ _ (fun t k _ h => by obtain ⟨p, rfl⟩ := h; exact ⟨_, rfl⟩)
      ⟨s.pll, rfl⟩
  exact ⟨_, by rw [State.loadClocks, hp]⟩

theorem State.endReset_frame (s : State) : ({ s.endReset with pll := s.pll } : State) = s := by
  unfold State.endReset
  split
  · rfl
  next o _ =>
    obtain ⟨p, hp⟩ := s.loadClocks_pll o
    dsimp only
    rw [hp]
    split <;> rfl

/-- A cycle, but for time and the loop, is what the ports send. -/
theorem State.cycle_frame (h : s.tb.pendingSecHi = none) (hq : s.AlikeButQueues (s.each (List.range 3) State.sendFrame)) :
    ({ s.cycle with clock := s.clock, tb := s.tb, pll := s.pll } : State) = s.each (List.range 3) State.sendFrame := by
  obtain ⟨⟨ps, l, he⟩, -⟩ := hq
  let u := s.each (List.range 3) State.sendFrame
  have hu : u = { s.withPorts ps with sent := l } := he
  have ht := State.tick_frame (s := u) (by rw [hu]; exact h)
  have hr := u.tick.endReset_frame
  change ({ u.tick.endReset with clock := s.clock, tb := s.tb, pll := s.pll } : State) = u
  calc ({ u.tick.endReset with clock := s.clock, tb := s.tb, pll := s.pll } : State)
      = { ({ u.tick.endReset with pll := u.tick.pll } : State) with clock := u.clock, tb := u.tb, pll := u.pll } := by rw [hu]; rfl
    _ = u := by rw [hr, ht]

/-- A cycle by which a port sends the frame that leaves next (R343). -/
theorem step_sends {k : Nat} {x : Queued} (hp : s.pending = []) (hk : k ≤ 2) (hw : s.bridgeWorks = true)
    (hl : (s.port k).blockLock = true) (hc : ∀ j, j ≤ 2 → (s.port j).newCfg = none) (hx : (s.port k).nextOut = some x)
    (ht : s.tb.pendingSecHi = none) :
    ∃ t, step s = .next t ∧ s.passes k x ∈ t.sent ∧ (t.port k).queue = (s.port k).queue.erase x ∧ t.tx = s.tx ∧ t.sq = s.sq ∧
      t.sv = s.sv := by
  obtain ⟨ha, hsent, hqueue⟩ := State.each_sendFrame_next hk hc hx hw hl
  have hf := State.cycle_frame ht ha
  obtain ⟨⟨ps, l, he⟩, -⟩ := ha
  have hf' := hf.trans he
  refine ⟨s.cycle, by rw [step, hp], ?_, ?_, (congrArg State.tx hf' :), (congrArg State.sq hf' :), (congrArg State.sv hf' :)⟩
  · have hs : s.cycle.sent = (s.each (List.range 3) State.sendFrame).sent := (congrArg State.sent hf :)
    rw [hs]; exact hsent
  · have : s.cycle.port k = (s.each (List.range 3) State.sendFrame).port k := (congrArg (State.port · k) hf :)
    rw [this]; exact hqueue

/-! ## The bridge's own events (R257, R258, R266 to R268) -/

theorem exec_macEntryAgeing {mac : Nat} {e : MacEntry} (h : e.seen + s.net.bridge.ageTime * 1000000000 ≤ s.clock) :
    ∃ t, exec (.macEntryAgeing mac) s = .next t ∧ (mac, e) ∉ t.net.macs ∧
      (∀ p ∈ s.net.macs, p.1 ≠ mac → p ∈ t.net.macs) ∧ ({ t with net := s.net } : State) = s :=
  ⟨_, rfl, by simp [h], fun p hp hne => by simp [hp, hne], rfl⟩

theorem State.net_refreshPorts (s : State) : s.refreshPorts.net = s.net :=
  s.each_field State.net _ _ fun u k => u.net_refreshPort k

/-- A Sync that is forwarded in E2E carries its residence time and the ASYM of its way in. -/
theorem State.passes_sync {n k : Nat} {f : NetFrame} (hf : f.kind = .sync) (hn : (s.port n).cfg.ptpEn ≠ 0)
    (hk : (s.port k).cfg.ptpEn ≠ 0) (hp : s.net.ptp.profile = 0) :
    s.passes k (.forwarded f n) = .frame k { f with correction := f.correction +
      ((s.now + 64 * f.outPhase) / 64 * 64 + (s.port k).cfg.egressLat - (f.tIn / 64 * 64 - (s.port n).cfg.ingressLat)) +
      (s.port n).cfg.asym } := by
  change Sent.frame k (s.corrected n k f) = _
  unfold State.corrected
  simp only [hn, hk, hf, hp, or_self, if_false, ne_eq, not_true_eq_false, add_zero]
  rfl

/-- PPS has ceased (R261). -/
theorem exec_ppsTimeout (hr : s.net.ptp.role = 1) (hc : s.net.clockClass ≠ 7) (ht : s.net.lastPps + 2000000000 ≤ s.clock) :
    ∃ t, exec .ppsTimeout s = .next t ∧ t.net.clockClass = 7 ∧ t.net.control = false ∧ t.now = s.now := by
  let u : State := { s.loseControl with net := { s.loseControl.net with clockClass := 7 } }
  obtain ⟨hf, hcc, hct, -⟩ := u.selectBest_frame
  refine ⟨_, if_pos ⟨hr, hc, ht⟩, hcc, hct, ?_⟩
  have htb : u.selectBest.tb = u.tb := (congrArg State.tb hf :)
  exact State.now_of_tb (by rw [htb]; rfl) (by rw [htb]; rfl)

end Sys2Proof.Machine

/-! O41: PTP messages, timers and the bridge, one lemma per group of clauses. -/

namespace Sys2Proof.Machine

variable {s : State} {n : Nat}

/-- An exchange with a small offset, outside holdover (R258, R260). -/
theorem exchange_controls {udp : Bool} {t1 t2 t3 t4 c1 c2 o d : Int} (hn : n ≤ 2) (hon : s.ptpOn n = true)
    (hp : s.net.ptp.profile = 0) (hc : (s.port n).newCfg = none) (hr : (s.port n).run = .slave)
    (hd : d = (s.port n).pathDelay t1 t2 t3 t4 (c1 + c2)) (ho : o = (s.port n).offset t1 t2 c1 d) (hnp : s.net.newPtp = none)
    (hsmall : o.natAbs < s.net.ptp.stepThresh) (href : s.net.stepRefused = false) (hhold : s.tb.source ≠ .holdover) :
    ∃ t, exec (.ptpFrameReceived n ⟨s.net.ptp.domain, udp, none, .exchange t1 t2 t3 t4 c1 c2⟩) s = .next t ∧
      (t.port n).meanDelay = d ∧ t.net.control = true ∧ t.tb.source = .locked ∧ t.net.offsets.head? = some o ∧
      t.net.bigRun = 0 ∧ t.now = s.now ∧ t.tb.epoch = s.tb.epoch := by
  let u := s.setPort n { s.port n with meanDelay := d }
  let v : State := { u with net := { u.net with offsets := o :: u.net.offsets.take 3, bigRun := 0, smallRun := u.net.smallRun + 1 } }
  have he : s.ptpFrame n (.exchange t1 t2 t3 t4 c1 c2) = v.applyOffset o := by
    rw [State.ptpFrame_exchange t1 t2 t3 t4 c1 c2 hr hp, ← hd, ← ho]
    exact State.servo_small (s := u) hnp hsmall href
  obtain ⟨hnet, hsrc, hsec, hns, hep⟩ := State.applyOffset_control (s := v) o hhold
  refine ⟨v.applyOffset o, he ▸ exec_ptpFrameReceived hn hon (s.speaks_plain _ (.inr (by omega))) (.inr hc), ?_, ?_, hsrc, ?_, ?_,
    State.now_of_tb hsec hns, hep⟩
  · rw [State.port, hnet]
    exact congrArg Port.meanDelay (State.port_setPort_self s n _)
  · exact congrArg Net.control hnet
  · exact congrArg (fun x : Net => x.offsets.head?) hnet
  · exact congrArg Net.bigRun hnet

/-- An exchange with a large offset (R260, R262). -/
theorem exchange_outlies {udp : Bool} {t1 t2 t3 t4 c1 c2 o d : Int} (hn : n ≤ 2) (hon : s.ptpOn n = true)
    (hp : s.net.ptp.profile = 0) (hc : (s.port n).newCfg = none) (hr : (s.port n).run = .slave)
    (hd : d = (s.port n).pathDelay t1 t2 t3 t4 (c1 + c2)) (ho : o = (s.port n).offset t1 t2 c1 d) (hnp : s.net.newPtp = none)
    (hlarge : s.net.ptp.stepThresh ≤ o.natAbs) :
    ∃ t, exec (.ptpFrameReceived n ⟨s.net.ptp.domain, udp, none, .exchange t1 t2 t3 t4 c1 c2⟩) s = .next t ∧
      t.net.outliers = s.net.outliers.inc ∧ t.net.bigRun = signRun s.net.bigRun o ∧ t.now = s.now ∧ t.tb.epoch = s.tb.epoch := by
  let u := s.setPort n { s.port n with meanDelay := d }
  let v : State := { u with net := { u.net with offsets := o :: u.net.offsets.take 3 } }
  have he : s.ptpFrame n (.exchange t1 t2 t3 t4 c1 c2) = v.largeOffset o := by
    rw [State.ptpFrame_exchange t1 t2 t3 t4 c1 c2 hr hp, ← hd, ← ho]
    exact State.servo_large (s := u) hnp hlarge
  obtain ⟨hcount, hsign, hsec, hns, hep⟩ := v.largeOffset_counts o
  exact ⟨v.largeOffset o, he ▸ exec_ptpFrameReceived hn hon (s.speaks_plain _ (.inr (by omega))) (.inr hc), hcount, hsign,
    State.now_of_tb hsec hns, hep⟩

/-- A Sync gives a slave's servo its offset in P2P and gPTP (R259, R260). -/
theorem exec_sync {t1 t2 c o : Int} (hn : n ≤ 2) (hon : s.ptpOn n = true) (hp : s.net.ptp.profile ≠ 0)
    (hc : (s.port n).newCfg = none) (hr : (s.port n).run = .slave) (ho : o = (s.port n).offset t1 t2 c (s.port n).meanDelay) :
    exec (.ptpFrameReceived n ⟨s.net.ptp.domain, false, none, .sync t1 t2 c⟩) s = .next
      (if s.net.ptp.profile = 2 then ({ s with net := { s.net with heard := some o } } : State).servo o else s.servo o) := by
  have he : s.ptpFrame n (.sync t1 t2 c) = (s.hear o).servo o := by rw [ho]; exact if_pos ⟨hr, hp⟩
  rw [exec_ptpFrameReceived hn hon (s.speaks_plain _ (.inl rfl)) (.inr hc), he, State.hear]
  split <;> rfl

/-- Peer delay: the link delay is taken, a request is answered (R258). -/
theorem exec_pdelay {sent received c : Int} (hn : n ≤ 2) (hon : s.ptpOn n = true) (hp : s.net.ptp.profile ≠ 0)
    (hc : (s.port n).newCfg = none) :
    exec (.ptpFrameReceived n ⟨s.net.ptp.domain, false, none, .pdelay sent received c⟩) s =
      .next (s.setPort n { s.port n with meanDelay := (s.port n).linkDelay sent received c }) ∧
    exec (.ptpFrameReceived n ⟨s.net.ptp.domain, false, none, .pdelayReq received c⟩) s = .next (s.setPort n { s.port n with
      queue := (s.port n).queue ++ [.own {
        tag := s.ownTag s.net.net.ptpPcp
        body := .ptp (.pdelayResp (received / 64 * 64 - (s.port n).cfg.ingressLat) c) }] }) := by
  have hd : s.ptpFrame n (.pdelay sent received c) = s.modPort n fun p => { p with meanDelay := p.linkDelay sent received c } :=
    if_neg hp
  have hq : s.ptpFrame n (.pdelayReq received c) =
      s.sendOwn n s.net.net.ptpPcp (.ptp (.pdelayResp ((s.port n).lineIn received) c)) := if_neg hp
  constructor
  · rw [exec_ptpFrameReceived hn hon (s.speaks_plain _ (.inl rfl)) (.inr hc), hd]; rfl
  · rw [exec_ptpFrameReceived hn hon (s.speaks_plain _ (.inl rfl)) (.inr hc), hq]; rfl

/-- A master answers a Delay_Req in E2E (R258). -/
theorem exec_delayReq {q : Nat} {udp : Bool} {received c : Int} (hn : n ≤ 2) (hon : s.ptpOn n = true)
    (hp : s.net.ptp.profile = 0) (hc : (s.port n).newCfg = none) (hr : (s.port n).run = .master) :
    exec (.ptpFrameReceived n ⟨s.net.ptp.domain, udp, none, .delayReq received q c⟩) s = .next (s.setPort n { s.port n with
      queue := (s.port n).queue ++ [.own {
        tag := s.ownTag s.net.net.ptpPcp
        body := .ptp (.delayResp s.net.ptp.domain q (received / 64 * 64 - (s.port n).cfg.ingressLat) c) }] }) := by
  have he : s.ptpFrame n (.delayReq received q c) =
      s.sendOwn n s.net.net.ptpPcp (.ptp (.delayResp s.net.ptp.domain q ((s.port n).lineIn received) c)) := if_pos ⟨hr, hp⟩
  rw [exec_ptpFrameReceived hn hon (s.speaks_plain _ (.inr (by omega))) (.inr hc), he]; rfl

/-- An Announce that is worse than the best of its port, from another sender, changes nothing (R254). -/
theorem exec_announce_worse {udp : Bool} {a b : AnnounceMsg} (hn : n ≤ 2) (hb : (s.port n).best = some b)
    (hs : b.sender ≠ a.sender) (hl : lexLt (announceRank a n) (announceRank b n) = false) :
    exec (.ptpFrameReceived n ⟨s.net.ptp.domain, udp, none, .announce a⟩) s = .next s := by
  by_cases h : s.ptpOn n = true ∧ s.speaks ⟨s.net.ptp.domain, udp, none, .announce a⟩ = true
  · rw [exec_ptpFrameReceived hn h.1 h.2 (.inl rfl)]
    exact congrArg _ (State.announced_worse hb hs hl)
  · refine exec_ptpFrameReceived_unheard hn ?_ (.inl rfl)
    rw [not_and_or, Bool.not_eq_true, Bool.not_eq_true] at h
    exact h

/-- A slave whose master has ceased, where no other port has heard a clock (R261, R263). -/
theorem announceTimeout_listens (hn : n ≤ 2) (hr : (s.port n).run = .slave) (hrole : s.net.ptp.role = 0)
    (hen : (s.port n).cfg.ptpEn = 1) (hb : ∀ k, k ≤ 2 → k ≠ n → (s.port k).best = none)
    (ht : (s.port n).lastAnnounce + (s.port n).cfg.announceTimeout * logInterval (s.port n).cfg.logAnnounce ≤ s.clock) :
    ∃ t, exec (.announceTimeout n) s = .next t ∧ (t.port n).run = .listening ∧ t.net.master = none ∧ t.net.control = false ∧
      t.tb.source ≠ .locked ∧ t.tb.servoRate = s.rateNow ∧ t.now = s.now := by
  obtain ⟨ps, he, hp⟩ := s.loseMaster_forgotten n
  have hbest : (s.masterless.withPorts ps).bestPort = none := State.bestPort_none fun k hk => by
    rw [(hp k hk).2.2]
    split
    · rfl
    · exact hb k hk ‹_›
  rw [exec_announceTimeout_slave hn hr ht, he, State.selectBest_alone (s := s.masterless.withPorts ps) hrole hbest]
  refine ⟨_, rfl, ?_, rfl, rfl, s.source_loseControl, rfl, rfl⟩
  rw [(hp n hn).2.1, hrole, hen]; rfl

/-- A slave whose master has ceased, where another port has heard a clock (R263). -/
theorem announceTimeout_moves {k : Nat} {b : AnnounceMsg} (hn : n ≤ 2) (hk : k ≤ 2) (hkn : k ≠ n) (hr : (s.port n).run = .slave)
    (hrole : s.net.ptp.role = 0) (hen : (s.port k).cfg.ptpEn = 1) (hbk : (s.port k).best = some b)
    (hb : ∀ j, j ≤ 2 → j ≠ n → j ≠ k → (s.port j).best = none)
    (ht : (s.port n).lastAnnounce + (s.port n).cfg.announceTimeout * logInterval (s.port n).cfg.logAnnounce ≤ s.clock) :
    ∃ t, exec (.announceTimeout n) s = .next t ∧ (t.port k).run = .slave ∧ t.net.master = some b.master ∧
      t.net.control = false := by
  obtain ⟨ps, he, hp⟩ := s.loseMaster_forgotten n
  let u := s.masterless.withPorts ps
  obtain ⟨hcfg, -, hbest⟩ := hp k hk
  have hken : (u.port k).cfg.ptpEn = 1 := by rw [hcfg, hen]
  have hfound : u.bestPort = some (k, b) :=
    State.bestPort_of_only hk (by omega) (by rw [hbest, if_neg hkn, hbk]) fun j hj hjk => by
      rw [(hp j hj).2.2]
      split
      · rfl
      · exact hb j hj ‹_› hjk
  obtain ⟨qs, hm, hq⟩ := u.selectMaster_eq k b
  have hnew := u.newMaster_of_ne (n := k) (a := b) (by rintro ⟨⟩)
  refine ⟨(u.newMaster k b).withPorts qs, ?_, ?_, by rw [hnew]; rfl, by rw [hnew]; rfl⟩
  · rw [exec_announceTimeout_slave hn hr ht, he, ← hm]
    exact congrArg _ (State.selectBest_slave (s := u) hrole hfound)
  · rw [hq k hk]
    simp [State.runBeside, hken]

/-- Another port forgets what it has heard (R254). -/
theorem announceTimeout_forgets {b : AnnounceMsg} (hn : n ≤ 2) (hr : (s.port n).run ≠ .slave) (hb : (s.port n).best = some b)
    (ht : (s.port n).lastAnnounce + (s.port n).cfg.announceTimeout * logInterval (s.port n).cfg.logAnnounce ≤ s.clock) :
    ∃ t, exec (.announceTimeout n) s = .next t ∧ (t.port n).best = none ∧ ({ t with net := s.net } : State) = s := by
  let u := s.modPort n fun p => { p with best := none }
  refine ⟨u.selectBest, exec_announceTimeout_other hn hr hb ht, ?_, ?_⟩
  · rw [State.best_selectBest u hn]
    exact congrArg Port.best (State.port_setPort_self s n _)
  · exact (congrArg (fun t : State => ({ t with net := s.net } : State)) u.selectBest_frame.1 :)

/-- A frame of legal length that is not the device's own is forwarded (R266, R343). -/
theorem bridgeFrame_forwards {f : NetFrame} (hn : n ≤ 2) (hb : s.net.bridgePassed = true) (hf : s.net.bridgeFault = false)
    (hl : (s.port n).blockLock = true) (hlen : f.length ≤ 9018) (ha : f.kind ≠ .arpForUs)
    (hc : ∀ k, k ≤ 2 → (s.port k).newCfg = none)
    (hd : f.kind = .delayReq → s.net.ptp.profile ≠ 1 ∨ (s.port n).cfg.ptpEn ≠ 1) (hcons : s.consumes n f = false)
    (hroom : ∀ k, k ≤ 2 → (s.port k).hasRoom f = true) :
    ∃ t, exec (.bridgeFrameReceived n f) s = .next t ∧
      (∀ k, k ≤ 2 → (t.port k).queue = (s.port k).queue ++
        if k ∈ (s.learn n f.src).egress n f.dst then [.forwarded f n] else []) ∧
      (t.port n).forwarded = (if (s.learn n f.src).egress n f.dst = [] then (s.port n).forwarded
        else (s.port n).forwarded.inc) ∧
      ({ t with net := s.net } : State) = s := by
  let u := s.learn n f.src
  have hport (k : Nat) : ∃ c, u.port k = { s.port k with learnFull := c } := s.port_learn n f.src k
  obtain ⟨hq, hfw, hframe⟩ := u.forward_room n f fun k hk => by
    obtain ⟨c, hk'⟩ := hport k
    rw [hk']; exact hroom k hk
  refine ⟨u.forward n f, ?_, fun k hk => ?_, ?_, ?_⟩
  · rw [exec_bridgeFrameReceived hn hb hf hl, if_neg (by omega), State.bridgeFrame_plain ha (hc n hn) hd, hcons]; rfl
  · obtain ⟨c, hk'⟩ := hport k
    rw [hq, hk']
  · obtain ⟨c, hn'⟩ := hport n
    rw [hfw, hn']
  · have h := congrArg (fun t : State => ({ t with net := s.net } : State)) hframe
    exact h.trans (s.learn_frame n f.src).1

/-- A frame that the device takes itself teaches its source and goes nowhere. -/
theorem bridgeFrame_taken {f : NetFrame} (hn : n ≤ 2) (hb : s.net.bridgePassed = true) (hf : s.net.bridgeFault = false)
    (hl : (s.port n).blockLock = true) (hlen : f.length ≤ 9018) (ha : f.kind ≠ .arpForUs) (hd : f.kind ≠ .delayReq)
    (hc : (s.port n).newCfg = none) (hcons : s.consumes n f = true) :
    exec (.bridgeFrameReceived n f) s = .next (s.learn n f.src) := by
  rw [exec_bridgeFrameReceived hn hb hf hl, if_neg (by omega), State.bridgeFrame_plain ha hc fun h => absurd h hd, hcons]
  rfl

/-- The bridge's fault takes the ports' readiness and nothing else of what fires or receives (R268, R405). -/
theorem exec_bridgeFault (s : State) : ∃ t, exec .bridgeFault s = .next t ∧ t.net = { s.net with bridgeFault := true } ∧
    (∀ n, n ≤ 2 → t.isReady (readyPort n) = false) ∧ t.tx = s.tx ∧ t.rx = s.rx ∧ t.sq = s.sq ∧ t.sv = s.sv := by
  let u : State := { s with net := { s.net with bridgeFault := true } }
  have hw : u.bridgeWorks = false := by simp [u, State.bridgeWorks]
  exact ⟨u.refreshPorts, rfl, u.net_refreshPorts, fun n hn => u.isReady_refreshPorts_false hw hn,
    u.each_field State.tx _ _ fun _ _ => State.tx_setReady .., u.each_field State.rx _ _ fun _ _ => State.rx_setReady ..,
    u.each_field State.sq _ _ fun _ _ => State.sq_setReady .., u.each_field State.sv _ _ fun _ _ => State.sv_setReady ..⟩

/-- Block lock and READY.PORT of a port move together (R25, R393). -/
theorem phyLinkChange_ready (hn : n ≤ 2) (up : Bool) :
    ∃ t, exec (.phyLinkChange n up) s = .next t ∧ (t.port n).blockLock = up ∧
      t.isReady (readyPort n) =
        (up && (s.port n).testPassed && s.net.bridgePassed && !s.net.bridgeFault && !(s.port n).resetting) ∧
      t.tx = s.tx ∧ t.rx = s.rx ∧ t.sv = s.sv := by
  let u := s.modPort n fun p => { p with blockLock := up }
  have hp : u.port n = { s.port n with blockLock := up } := State.port_setPort_self ..
  refine ⟨u.refreshPort n, exec_phyLinkChange hn up, ?_, ?_, State.tx_setReady .., State.rx_setReady .., State.sv_setReady ..⟩
  · rw [State.port, State.net_refreshPort]
    exact congrArg Port.blockLock hp
  · rw [State.isReady_refreshPort u hn, if_pos rfl, hp]
    simp only [State.bridgeWorks, Bool.and_assoc]
    rfl

/-- Settles O41: each clause is the equation of its row and event, with what the rules about ports, servo and bridge say of
the state that it answers. -/
theorem networkEvents : Obligations.NetworkEvents := by
  unfold Obligations.NetworkEvents
  refine ⟨?first, ?worse, ?small, ?large, ?sync, ?pdelay, ?delayReq, ?grand, ?oneStep, ?unheard, ?listens, ?moves, ?forgets,
    ?pps, ?sendAnnounce, ?sendSync, ?sendDelayReq, ?sendPdelayReq, ?unready, ?long, ?forwards, ?full, ?order, ?cycle, ?taken,
    ?ages, ?fault, ?corrects, ?link⟩
  case first =>
    intro s n udp a hn hon hsp hrole hsteps hbest hm
    exact ⟨s.announced n a, exec_ptpFrameReceived hn hon hsp (.inl rfl),
      State.announced_first hn (State.ptpEn_of_ptpOn hon) hrole hsteps hbest hm⟩
  case worse => exact fun s n udp a b hn hb hs hl => exec_announce_worse hn hb hs hl
  case small =>
    exact fun s n udp t1 t2 t3 t4 c1 c2 o d hn hon hp hc hr hd ho hnp hsmall href hhold =>
      exchange_controls hn hon hp hc hr hd ho hnp hsmall href hhold
  case large =>
    exact fun s n udp t1 t2 t3 t4 c1 c2 o d hn hon hp hc hr hd ho hnp hlarge => exchange_outlies hn hon hp hc hr hd ho hnp hlarge
  case sync => exact fun s n t1 t2 c o hn hon hp hc hr ho => exec_sync hn hon hp hc hr ho
  case pdelay => exact fun s n sent received c hn hon hp hc => exec_pdelay hn hon hp hc
  case delayReq => exact fun s n q udp received c hn hon hp hc hr => exec_delayReq hn hon hp hc hr
  case grand =>
    intro s n udp a hn hon hsp hrole hsteps hbest
    exact ⟨s.announced n a, exec_ptpFrameReceived hn hon hsp (.inl rfl),
      State.announced_grand hn (State.ptpEn_of_ptpOn hon) hrole hsteps hbest⟩
  case oneStep =>
    intro s n ok hn hon hp
    rw [exec_ptpFrameReceived hn hon (s.speaks_plain _ (.inl rfl)) (.inl rfl)]
    exact congrArg _ (if_pos hp)
  case unheard => exact fun s n f hn h hc => exec_ptpFrameReceived_unheard hn h (.inr hc)
  case listens => exact fun s n hn hr hrole hen hb ht => announceTimeout_listens hn hr hrole hen hb ht
  case moves => exact fun s n k b hn hk hkn hr hrole hen hbk hb ht => announceTimeout_moves hn hk hkn hr hrole hen hbk hb ht
  case forgets => exact fun s n b hn hr hb ht => announceTimeout_forgets hn hr hb ht
  case pps => exact fun s hr hc ht => exec_ppsTimeout hr hc ht
  case sendAnnounce =>
    intro s n hn hon hr ht hl
    exact ⟨_, exec_ptpMessageTransmit hn (.inl rfl) hon (decide_eq_true hr) ht hl, rfl,
      congrArg (·.lastSent.2.1) (State.port_setPort_self ..), rfl⟩
  case sendSync =>
    intro s n hn hon hr hc hg ht hl
    have hs : s.sends (s.port n) .sync = true := by
      by_cases hp : s.net.ptp.profile = 2
      · obtain ⟨h1, h2 | h2⟩ := hg hp
        · simp [State.sends, hr, h1, h2]
        · simp [State.sends, hr, h1, Option.isSome_iff_ne_none.mpr h2]
      · simp [State.sends, hr, hp]
    exact ⟨_, exec_ptpMessageTransmit hn (.inr hc) hon hs ht hl, rfl,
      congrArg (·.lastSent.1) (State.port_setPort_self ..), rfl⟩
  case sendDelayReq =>
    intro s n hn hon hr hp hc hl
    exact ⟨_, exec_ptpMessageTransmit hn (.inr hc) hon (decide_eq_true ⟨hr, hp⟩) (Nat.zero_le _) hl, rfl, rfl⟩
  case sendPdelayReq =>
    intro s n hn hon hp hc ht hl
    exact ⟨_, exec_ptpMessageTransmit hn (.inr hc) hon (decide_eq_true hp) ht hl, rfl,
      congrArg (·.lastSent.2.2) (State.port_setPort_self ..), rfl⟩
  case unready => exact fun s n m h => exec_ptpMessageTransmit_unready m h
  case long =>
    intro s n f hn hb hf hl hlen
    rw [exec_bridgeFrameReceived hn hb hf hl, if_pos hlen]; rfl
  case forwards =>
    exact fun s n f hn hb hf hl hlen ha hc hd hcons hroom => bridgeFrame_forwards hn hb hf hl hlen ha hc hd hcons hroom
  case full => exact fun s n k f _ h => State.enqueue_full n f s k h
  case order => exact fun p x h => Port.nextOut_first h
  case cycle => exact fun s k x hp hk hw hl hc hx ht => step_sends hp hk hw hl hc hx ht
  case taken => exact fun s n f hn hb hf hl hlen ha hd hc hcons => bridgeFrame_taken hn hb hf hl hlen ha hd hc hcons
  case ages => exact fun s mac e _ h => exec_macEntryAgeing h
  case fault => exact exec_bridgeFault
  case corrects => exact fun s n k f hf hn hk hp => State.passes_sync hf hn hk hp
  case link => exact fun s n up hn => phyLinkChange_ready hn up

end Sys2Proof.Machine

/-! SUPPORT. What the calibration stores, the power warning and the counters of the registers keep of what others do: `stores_f`
says that `f` leaves the stores of the calibration objects, `pfail_f` that it leaves the power warning as it is. -/

namespace Sys2Proof.Machine

variable (s : State)

/-! ## Stores of calibration objects (R318) -/

@[simp] theorem State.stores_ite (c : Prop) [Decidable c] (s t : State) :
    (if c then s else t).cal.stores = if c then s.cal.stores else t.cal.stores := apply_ite (fun s => s.cal.stores) c s t

@[simp] theorem State.stores_each (f : State → Nat → State) (hf : ∀ s k, (f s k).cal.stores = s.cal.stores) (ks : List Nat)
    (s : State) : (s.each ks f).cal.stores = s.cal.stores := s.each_field (fun s => s.cal.stores) f ks hf

@[simp] theorem State.stores_modOut (k : Nat) (f : OutState → OutState) : (s.modOut k f).cal.stores = s.cal.stores := (rfl)
@[simp] theorem State.stores_modSectorCount (k : Nat) (f : Nat → Nat) :
    (s.modSectorCount k f).cal.stores = s.cal.stores := (rfl)
@[simp] theorem State.stores_modChan (k : Nat) (f : Channel → Channel) : (s.modChan k f).cal.stores = s.cal.stores := (rfl)
@[simp] theorem State.stores_modEstimator (k : Nat) (f : Estimator → Estimator) :
    (s.modEstimator k f).cal.stores = s.cal.stores := (rfl)
@[simp] theorem State.stores_modSvEnc (k : Nat) (f : SvEncoder → SvEncoder) : (s.modSvEnc k f).cal.stores = s.cal.stores :=
  (rfl)
@[simp] theorem State.stores_modCalRunState (k : Nat) (f : CalRunState → CalRunState) :
    (s.modCalRunState k f).cal.stores = s.cal.stores := (rfl)
@[simp] theorem State.stores_modSeq (k : Nat) (f : SeqState → SeqState) : (s.modSeq k f).cal.stores = s.cal.stores := (rfl)

@[simp] theorem State.stores_setOut (k : Nat) (v : OutState) : (s.setOut k v).cal.stores = s.cal.stores := (rfl)
@[simp] theorem State.stores_setAlarm (k : Nat) (v : Alarm) : (s.setAlarm k v).cal.stores = s.cal.stores := (rfl)
@[simp] theorem State.stores_closeWindows (b : Burst) (limit : Tq) : (s.closeWindows b limit).cal.stores = s.cal.stores := (rfl)

@[simp] theorem State.stores_countEmitted : s.countEmitted.cal.stores = s.cal.stores := by
  refine State.stores_each _ (fun s k => ?_) _ _
  unfold State.countOutput
  split <;> simp [State.countEmission]

@[simp] theorem State.stores_refreshFs : s.refreshFs.cal.stores = s.cal.stores := by simp [State.refreshFs]

@[simp] theorem State.stores_disturbStep (n : Nat) : (s.disturbStep n).cal.stores = s.cal.stores := by
  simp [State.disturbStep]

@[simp] theorem State.stores_estRestart (enc : Nat) : (s.estRestart enc).cal.stores = s.cal.stores := by
  simp [State.estRestart, State.estLost]

@[simp] theorem State.stores_settleSync : s.settleSync.cal.stores = s.cal.stores := by
  unfold State.settleSync
  (repeat' split) <;> rfl

@[simp] theorem State.stores_stepBurst (o : Nat) (old new : Tq) (b : Burst) :
    (s.stepBurst o old new b).1.cal.stores = s.cal.stores := by
  unfold State.stepBurst
  dsimp only
  (repeat' split) <;> simp

@[simp] theorem State.stores_stepOutput (o : Nat) (old new : Tq) : (s.stepOutput o old new).cal.stores = s.cal.stores := by
  have step (u : State) (b : Option Burst) : (match b with
      | none => (u, none)
      | some b => u.stepBurst o old new b).1.cal.stores = u.cal.stores := by
    cases b <;> simp
  unfold State.stepOutput
  dsimp only
  split <;> exact (step _ _).trans (step _ _)

@[simp] theorem State.stores_stepAlarm (t : Tq) (n : Nat) : (s.stepAlarm t n).cal.stores = s.cal.stores := by
  unfold State.stepAlarm
  dsimp only
  (repeat' split) <;> simp

@[simp] theorem State.stores_polestarStep (d : Int) : (s.polestarStep d).cal.stores = s.cal.stores := by
  simp [State.polestarStep, State.stepScale, State.stepOutputs]

@[simp] theorem State.stores_applySecHi : s.applySecHi.cal.stores = s.cal.stores := by
  unfold State.applySecHi
  split <;> simp [State.setSecHi]

@[simp] theorem State.stores_enterReadyIdle : s.enterReadyIdle.cal.stores = s.cal.stores := by
  simp [State.enterReadyIdle, State.startBist]

@[simp] theorem State.stores_enterLockout : s.enterLockout.cal.stores = s.cal.stores := by simp [State.enterLockout]

@[simp] theorem State.stores_stopSequencers (why : Reasons) : (s.stopSequencers why).cal.stores = s.cal.stores := by
  simp [State.stopSequencers]

@[simp] theorem State.stores_enterDusk : s.enterDusk.cal.stores = s.cal.stores := by simp [State.enterDusk]
@[simp] theorem State.stores_enterEclipse : s.enterEclipse.cal.stores = s.cal.stores := by simp [State.enterEclipse]
@[simp] theorem State.stores_eclipseAtOnce : s.eclipseAtOnce.cal.stores = s.cal.stores := by simp [State.eclipseAtOnce]
@[simp] theorem State.stores_warnSupervisor : s.warnSupervisor.cal.stores = s.cal.stores := by simp [State.warnSupervisor]
@[simp] theorem State.stores_safeStop : s.safeStop.cal.stores = s.cal.stores := by simp [State.safeStop]

@[simp] theorem State.stores_svFault (f : SvFault) : (s.svFault f).cal.stores = s.cal.stores := by
  have latch (u : State) : (u.latch f).cal.stores = u.cal.stores := by simp [State.latch]
  unfold State.svFault
  split <;> simp [latch, State.enterTwilight]

@[simp] theorem State.stores_checkEncoders : s.checkEncoders.cal.stores = s.cal.stores := by
  simp [State.checkEncoders, State.encoderFault]

end Sys2Proof.Machine

/-! SUPPORT. The store in progress as a power warning finds it (R319, R407, R413). -/

namespace Sys2Proof.Machine

variable {s : State}

/-- The state with a power warning noted, before anything is done about it (R407). -/
def State.warned (s : State) : State :=
  { s with
    dev := { s.dev with pfail := true, pfailAt := s.clock }
    regs := { s.regs with pfailWarnings := s.regs.pfailWarnings.inc }
    fw := { s.fw with update := none }
    ret := { s.ret with periodic := s.ret.commit } }

/-- The stores as a command with body `b` leaves them, once it is taken. -/
def Body.stores (b : Body) (s : State) (c : Instr) (t : Taken) : Tab CalStore :=
  if s.checkBody c (some t) b = .ok then b.run.state.cal.stores else s.cal.stores

/-- A body that answers at once, without a block. -/
def Body.answers (b : Body) : Prop := b.dst = none ∧ ∃ s st ret, b.run = .done s st ret []

theorem State.stores_of_core {t : State} (h : t.core = s.core) : t.cal.stores = s.cal.stores :=
  (congrArg (fun s : State => s.cal.stores) h :)

theorem State.stores_answerTaken (s : State) (t : Taken) (st : Status) (ret : List Fld) :
    (s.answerTaken t none st ret []).cal.stores = s.cal.stores :=
  State.stores_of_core (s.core_answerTaken t none st ret [] (.inl rfl))

theorem State.stores_runTaken (s : State) (c : Instr) (t : Taken) (p : Option Taken) {b : Body} (hb : b.answers) :
    (s.runTaken c t p b).cal.stores = b.stores s c t := by
  obtain ⟨hd, u, st, ret, hr⟩ := hb
  unfold State.runTaken Body.stores
  rw [hr, hd]
  cases hc : s.checkBody c (some t) b <;> cases p <;> simp [State.stores_answerTaken]

theorem cmdRow_stores {c : Instr} {b : State → Body} {t : Taken} {p : Option Taken} (hx : s.mbx.executing = some (t, p))
    (hp : s.powerIdle = false) (hb : (b s.release).answers) : ∃ v, cmdRow c b s = .next v ∧
      v.cal.stores = if isCommand c t then (b s.release).stores s.release c t else s.cal.stores := by
  by_cases hc : isCommand c t = true
  · exact ⟨_, cmdRow_taken c b s t p hx hc hp, by rw [State.stores_runTaken _ _ _ _ hb, if_pos hc]⟩
  · refine ⟨s, ?_, (if_neg hc).symm⟩
    simp [cmdRow, State.rowDue, hx, hc]

/-- A first submission of a pair stores nothing (R360). -/
theorem dualRow_stores {c : Instr} {b : State → Body} {t : Taken} {p : Option Taken} (hx : s.mbx.executing = some (t, p))
    (hp : s.powerIdle = false) (hb : (b s.release).answers) : ∃ v, dualRow c b s = .next v ∧
      v.cal.stores = if isCommand c t ∧ p.isSome then (b s.release).stores s.release c t else s.cal.stores := by
  by_cases hc : isCommand c t = true
  · have hdue : s.rowDue c = true := by simp [State.rowDue, hx, hc, hp]
    cases p with
    | some q =>
      obtain ⟨v, hv, hs⟩ := cmdRow_stores (c := c) hx hp hb
      refine ⟨v, ?_, by rw [hs]; simp⟩
      rw [← hv, dualRow, if_pos hdue, hx]
    | none =>
      rw [dualRow, if_pos hdue, hx]
      dsimp only
      rw [if_neg (by simp)]
      split
      · refine ⟨_, rfl, ?_⟩
        rw [State.holdFirst]
        split
        · exact State.stores_answerTaken ..
        · rfl
      next hk =>
        refine ⟨_, rfl, ?_⟩
        rw [State.stores_runTaken _ _ _ _ hb]
        exact if_neg hk
  · refine ⟨s, ?_, (if_neg fun h => hc h.1).symm⟩
    simp [dualRow, State.rowDue, hx, hc]

/-- A store writes its object, whatever follows of it leaves the stores alone. -/
theorem State.stores_storing (s : State) (id : Nat) (p : CalPayload) (verified : Bool) (good : State → State × List Fld)
    (hg : ∀ s, (good s).1.cal.stores = s.cal.stores) :
    (s.storing id p verified good).state.cal.stores = (s.modCalStore id fun x => x.write p verified).cal.stores := by
  unfold State.storing
  dsimp only
  split
  · rw [Answer.state_done, hg, State.storeObject, if_pos ‹_›]
  · rw [Answer.state_done, State.storeObject, if_neg ‹_›]

theorem Body.answers_storing (cs : List (Bool × Status)) (s : State) (id : Nat) (p : CalPayload) (verified : Bool)
    (good : State → State × List Fld) : (Body.gives cs (s.storing id p verified good)).answers := by
  refine ⟨rfl, ?_⟩
  unfold State.storing
  dsimp only [Body.run_gives]
  split <;> exact ⟨_, _, _, rfl⟩

/-- A storing command with body `b` does the same to the stores once a warning is noted. -/
def Body.storesAlike (b : State → Body) (s : State) : Prop :=
  (b s.release).answers ∧ (b s.warned.release).answers ∧ (b s.warned.release).checks = (b s.release).checks ∧
    (b s.warned.release).run.state.cal.stores = (b s.release).run.state.cal.stores

theorem Body.storesAlike.stores {b : State → Body} (h : Body.storesAlike b s) (c : Instr) (t : Taken) :
    (b s.warned.release).stores s.warned.release c t = (b s.release).stores s.release c t := by
  obtain ⟨⟨hd, -⟩, ⟨hd', -⟩, hc, hs⟩ := h
  have hcheck : s.warned.release.checkBody c (some t) (b s.warned.release) = s.release.checkBody c (some t) (b s.release) := by
    have hf : s.warned.release.stateForbids c = s.release.stateForbids c := rfl
    simp only [State.checkBody, blockChecks, hd, hd', hc, hf]
  rw [Body.stores, Body.stores, hcheck, hs]
  rfl

theorem State.powerIdle_of_awake (h : s.dev.pfail = false) : s.powerIdle = false := by simp [State.powerIdle, h]

theorem State.powerIdle_warned (s : State) : s.warned.powerIdle = false := by simp [State.powerIdle, State.warned]

/-- What the row of a storing command does to the stores is the same before a warning is noted and after. -/
def rowAlike (row : State → Out) (s : State) : Prop :=
  ∃ u v, row s.warned = .next u ∧ row s = .next v ∧ u.cal.stores = v.cal.stores

theorem rowAlike_cmdRow {c : Instr} {b : State → Body} {t : Taken} {p : Option Taken} (hx : s.mbx.executing = some (t, p))
    (hp : s.dev.pfail = false) (hb : Body.storesAlike b s) : rowAlike (cmdRow c b) s := by
  obtain ⟨u, hu, hus⟩ := cmdRow_stores (s := s.warned) (c := c) hx s.powerIdle_warned hb.2.1
  obtain ⟨v, hv, hvs⟩ := cmdRow_stores (s := s) (c := c) hx (State.powerIdle_of_awake hp) hb.1
  exact ⟨u, v, hu, hv, by rw [hus, hvs, hb.stores]; rfl⟩

theorem rowAlike_dualRow {c : Instr} {b : State → Body} {t : Taken} {p : Option Taken} (hx : s.mbx.executing = some (t, p))
    (hp : s.dev.pfail = false) (hb : Body.storesAlike b s) : rowAlike (dualRow c b) s := by
  obtain ⟨u, hu, hus⟩ := dualRow_stores (s := s.warned) (c := c) hx s.powerIdle_warned hb.2.1
  obtain ⟨v, hv, hvs⟩ := dualRow_stores (s := s) (c := c) hx (State.powerIdle_of_awake hp) hb.1
  exact ⟨u, v, hu, hv, by rw [hus, hvs, hb.stores]; rfl⟩

/-- A store of the same payload by the same checks. -/
theorem Body.storesAlike_storing {cs : State → List (Bool × Status)} {id : Nat} {p : State → CalPayload} {verified : Bool}
    {good : State → State → State × List Fld} (hg : ∀ u s, (good u s).1.cal.stores = s.cal.stores)
    (hcs : cs s.warned.release = cs s.release) (hp : p s.warned.release = p s.release) :
    Body.storesAlike (fun s => .gives (cs s) (s.storing id (p s) verified (good s))) s := by
  refine ⟨Body.answers_storing .., Body.answers_storing .., hcs, ?_⟩
  simp only [Body.run_gives]
  rw [State.stores_storing _ _ _ _ _ (hg _), State.stores_storing _ _ _ _ _ (hg _), hp]
  rfl

theorem rowAlike_execCalStore {t : Taken} {p : Option Taken} (hx : s.mbx.executing = some (t, p)) (hp : s.dev.pfail = false)
    (object : Nat) : rowAlike (execCalStore object true) s :=
  rowAlike_cmdRow hx hp (Body.storesAlike_storing
    (p := fun s => if object = calVernier then .vernier s.vernierNow else .sets (s.calWork object))
    (good := fun _ s => (s, [])) (fun _ _ => rfl) rfl rfl)

theorem rowAlike_execPllHopStore {t : Taken} {p : Option Taken} (hx : s.mbx.executing = some (t, p)) (hp : s.dev.pfail = false)
    (entry : Nat) : rowAlike (execPllHopStore entry true) s :=
  rowAlike_cmdRow hx hp (Body.storesAlike_storing (fun _ _ => rfl) rfl rfl)

theorem rowAlike_execEncConfig {t : Taken} {p : Option Taken} (hx : s.mbx.executing = some (t, p)) (hp : s.dev.pfail = false)
    (encoder : Nat) (cfg : EncCfg) : rowAlike (execEncConfig encoder cfg true) s :=
  rowAlike_dualRow hx hp (Body.storesAlike_storing (fun u s => by simp [State.reconfigure]) rfl rfl)

theorem rowAlike_execSvCommit {t : Taken} {p : Option Taken} (hx : s.mbx.executing = some (t, p)) (hp : s.dev.pfail = false) :
    rowAlike (execSvCommit true) s :=
  rowAlike_dualRow hx hp (Body.storesAlike_storing (good := fun _ s => _) (fun u s => by simp) rfl rfl)

/-- Without a keylock to take off the row stores nothing, in all other cases the keylocks (R292). -/
theorem rowAlike_execEvchKeylock {t : Taken} {p : Option Taken} (hx : s.mbx.executing = some (t, p)) (hp : s.dev.pfail = false)
    (channel action key : Nat) : rowAlike (execEvchKeylock channel action key true) s := by
  refine rowAlike_dualRow hx hp ?_
  by_cases h : action = 0 ∧ (s.sv.active.keylocks.find? fun p => decide (p.1 = channel)).isNone
  · refine ⟨⟨rfl, ?_⟩, ⟨rfl, ?_⟩, rfl, ?_⟩
    · exact ⟨_, _, _, if_pos h⟩
    · exact ⟨_, _, _, if_pos h⟩
    · have hw : action = 0 ∧ (s.warned.release.sv.active.keylocks.find? fun p => decide (p.1 = channel)).isNone := h
      have hr : action = 0 ∧ (s.release.sv.active.keylocks.find? fun p => decide (p.1 = channel)).isNone := h
      simp only [Body.run_gives]
      rw [if_pos hw, if_pos hr]
      rfl
  · let f (c : SafetyCfg) : SafetyCfg :=
      { c with keylocks := if action = 1 then Tab.insert c.keylocks channel key else Tab.erase c.keylocks channel }
    have hstore := Body.storesAlike_storing (s := s) (cs := fun _ => []) (id := calSafety) (verified := true)
      (p := fun s => .safety (f s.sv.active)) (good := fun _ s => (s.reconfigure f, [(s.reconfigure f).safetyCrc]))
      (fun _ _ => rfl) rfl rfl
    obtain ⟨⟨-, ha⟩, ⟨-, hb⟩, -, hs⟩ := hstore
    refine ⟨⟨rfl, ?_⟩, ⟨rfl, ?_⟩, rfl, ?_⟩
    · obtain ⟨u, st, ret, h'⟩ := ha
      exact ⟨u, st, ret, (if_neg h).trans h'⟩
    · obtain ⟨u, st, ret, h'⟩ := hb
      exact ⟨u, st, ret, (if_neg h).trans h'⟩
    · exact (congrArg (fun a : Answer => a.state.cal.stores) (if_neg h)).trans
        (hs.trans (congrArg (fun a : Answer => a.state.cal.stores) (if_neg h)).symm)

/-- A warning that is noted changes nothing of which store is in progress. -/
theorem State.storeInProgress_warned (hp : s.dev.pfail = false) : s.warned.storeInProgress = s.storeInProgress := by
  have hmbx : s.warned.mbx = s.mbx := rfl
  unfold State.storeInProgress
  rw [hmbx]
  cases hx : s.mbx.executing with
  | none => rfl
  | some e =>
    obtain ⟨t, p⟩ := e
    dsimp only
    cases hrow : storingRow t.frame.opcode (payloadNumbers t.frame.opcode t.payload) with
    | none => rfl
    | some row =>
      have halike : rowAlike row s := by
        unfold storingRow at hrow
        dsimp only at hrow
        (repeat' split at hrow) <;> cases hrow
        · exact rowAlike_execCalStore hx hp _
        · exact rowAlike_execPllHopStore hx hp _
        · exact rowAlike_execEncConfig hx hp _ _
        · exact rowAlike_execEvchKeylock hx hp _ _ _
        · exact rowAlike_execSvCommit hx hp
      obtain ⟨u, v, hu, hv, hs⟩ := halike
      dsimp only
      rw [hu, hv]
      dsimp only
      have hk (k : Nat) : u.calStore k = v.calStore k := congrArg (fun t => Tab.get (CalStore.delivered k) t k) hs
      simp only [hk]
      rfl

end Sys2Proof.Machine

/-! SUPPORT. Commits of the journal, what a power warning does, and its end (R398, R406 to R413). -/

namespace Sys2Proof.Machine

variable (s : State)

/-! ## Commits (R408, R409) -/

theorem State.commitWith_underived (also : List Nat) (w : Bool) (h : s.dev.derived = false) : s.commitWith also w = s := by
  rw [State.commitWith, h]; rfl

/-- What a commit says of a stream. -/
def State.commitEntry (w : Bool) (n : Nat) : CommitEntry :=
  { stream := n, nextIssue := (s.stream n).nextIssue, confirmed := (s.stream n).delivered,
    issueLimit := if w then (s.stream n).nextIssue else (s.stream n).nextIssue + 32768 }

/-- A commit of the journal covers the streams in use. -/
theorem State.commitJournal_commit (w : Bool) (h : s.dev.derived = true) : ∃ c, (s.commitJournal w).ret.commit = some c ∧
    c.warning = w ∧ (∀ n ∈ s.commitStreams, s.commitEntry w n ∈ c.entries) ∧
    ∀ e ∈ c.entries, ∃ n, e = s.commitEntry w n := by
  rw [State.commitJournal, State.commitWith, h]
  refine ⟨_, rfl, rfl, fun n hn => ?_, fun e he => ?_⟩
  · refine List.mem_map.mpr ⟨n, List.mem_filter.mpr ⟨(List.mem_filter.mp hn).1, ?_⟩, rfl⟩
    simpa using hn
  · obtain ⟨n, -, rfl⟩ := List.mem_map.mp he
    exact ⟨n, rfl⟩

/-- A commit changes the limits of the streams and retention memory, but not the identifier of the device there. -/
theorem State.commitWith_frame (also : List Nat) (w : Bool) :
    ({ s.commitWith also w with eng := s.eng, ret := s.ret } : State) = s ∧
      (s.commitWith also w).ret.deviceId = s.ret.deviceId := by
  unfold State.commitWith
  dsimp only
  split
  · exact ⟨rfl, rfl⟩
  · have hlimits (f : Nat → Stream → Stream) :
        ∃ x, (s.each (List.range 64) fun s n => s.modStream n (f n)) = { s with eng := x } :=
      s.each_keeps (fun t => ∃ x, t = { s with eng := x }) _ _ (fun t k _ h => by obtain ⟨x, rfl⟩ := h; exact ⟨_, rfl⟩)
        ⟨s.eng, rfl⟩
    obtain ⟨x, hx⟩ := hlimits _
    rw [hx]
    exact ⟨rfl, rfl⟩

/-! ## The registers but for interrupts (R327, R421) -/

@[simp] theorem State.pfailWarnings_vector (v : Nat) : (s.vector v).regs.pfailWarnings = s.regs.pfailWarnings := by
  obtain ⟨-, h⟩ | ⟨-, -, h⟩ | ⟨-, -, h⟩ := s.vector_cases v <;> rw [h] <;> rfl

@[simp] theorem State.pfailWarnings_cause (b : Nat) : (s.cause b).regs.pfailWarnings = s.regs.pfailWarnings := by
  unfold State.cause; dsimp only; split <;> split <;> simp

@[simp] theorem State.pfailWarnings_setReady (b : Nat) (v : Bool) :
    (s.setReady b v).regs.pfailWarnings = s.regs.pfailWarnings := by
  unfold State.setReady State.setReadyAll; split <;> simp

@[simp] theorem State.pfailWarnings_svGo (r : SvRun) : (s.svGo r).regs.pfailWarnings = s.regs.pfailWarnings := by
  have sst (u : State) : u.refreshSst.regs.pfailWarnings = u.regs.pfailWarnings := by
    unfold State.refreshSst; dsimp only; split <;> simp
  have permit (u : State) : u.refreshPermit.regs.pfailWarnings = u.regs.pfailWarnings := by
    unfold State.refreshPermit; dsimp only; split <;> simp [sst]
  unfold State.svGo; split <;> simp [permit]

/-- READY alone of the device changes with the supervisor's state (R393). -/
theorem State.dev_svGo (r : SvRun) : ∃ x, (s.svGo r).dev = { s.dev with ready := x } := by
  unfold State.svGo State.refreshPermit
  dsimp only
  split
  · exact ⟨s.dev.ready, rfl⟩
  · split <;> exact ⟨_, by simp; rfl⟩

/-! ## The supervisor at a warning (R296, R298, R407) -/

/-- What neither a transition of the supervisor nor the settings of one change, a power warning's stop of emission and torque
does not change. -/
theorem State.warnSupervisor_field {β : Type} (g : State → β) (hgo : ∀ s r, g (State.svGo s r) = g s)
    (hset : ∀ (s : State) sv motor sq run,
      g { s with sv := sv, motor := motor, sq := sq, dev := { s.dev with run := run } } = g s) : g s.warnSupervisor = g s := by
  have hsv (u : State) (x : Supervisor) : g { u with sv := x } = g u := hset u x u.motor u.sq u.dev.run
  have hstop (u : State) (why : Reasons) : g (u.stopSequencers why) = g u :=
    u.each_field g _ _ fun v k =>
      hset v v.sv v.motor (v.modSeq k fun q => { q with stops := q.stops ++ [{ mode := 1, reason := why }] }).sq v.dev.run
  have heclipse (u : State) : g u.enterEclipse = g u := by
    let v := (u.svGo .eclipse).stopSequencers Reasons.safety
    have h := hset v { v.sv with dusk := none } v.motor v.sq (if v.dev.warm then v.dev.run else .eclipse)
    exact h.trans ((hstop _ _).trans (hgo _ _))
  have hdusk (u : State) : g u.enterDusk = g u := by
    unfold State.enterDusk
    dsimp only
    split
    · exact (hset (u.svGo .dusk) _ _ (u.svGo .dusk).sq (u.svGo .dusk).dev.run).trans (hgo _ _)
    · exact (hsv _ _).trans (hgo _ _)
  have honce : g s.eclipseAtOnce = g s := by
    unfold State.eclipseAtOnce
    split
    · exact heclipse s
    · split
      · split
        · exact (heclipse _).trans (hdusk s)
        · rfl
      · split
        · exact hgo ..
        · rfl
  unfold State.warnSupervisor
  dsimp only
  split
  · exact (hsv _ _).trans honce
  · exact honce

theorem State.mbx_warnSupervisor : s.warnSupervisor.mbx = s.mbx := s.warnSupervisor_field State.mbx State.mbx_svGo fun _ _ _ _ _ => rfl
theorem State.fw_warnSupervisor : s.warnSupervisor.fw = s.fw := s.warnSupervisor_field State.fw State.fw_svGo fun _ _ _ _ _ => rfl
theorem State.ret_warnSupervisor : s.warnSupervisor.ret = s.ret := s.warnSupervisor_field State.ret State.ret_svGo fun _ _ _ _ _ => rfl

theorem State.pfailWarnings_warnSupervisor : s.warnSupervisor.regs.pfailWarnings = s.regs.pfailWarnings :=
  s.warnSupervisor_field (·.regs.pfailWarnings) State.pfailWarnings_svGo fun _ _ _ _ _ => rfl

theorem State.pfail_warnSupervisor : s.warnSupervisor.dev.pfail = s.dev.pfail :=
  s.warnSupervisor_field (·.dev.pfail) (fun u r => by obtain ⟨x, h⟩ := u.dev_svGo r; rw [h]) fun _ _ _ _ _ => rfl

theorem State.derived_warnSupervisor : s.warnSupervisor.dev.derived = s.dev.derived :=
  s.warnSupervisor_field (·.dev.derived) (fun u r => by obtain ⟨x, h⟩ := u.dev_svGo r; rw [h]) fun _ _ _ _ _ => rfl

variable {s}

/-- A warning in INIT leaves it, and for LOCKOUT once the tests have passed (R412). -/
theorem State.warnSupervisor_init (h : s.sv.run = .init) :
    s.warnSupervisor.sv.run = .init ∧ s.warnSupervisor.sv.lockAtStart = true := by
  have : s.eclipseAtOnce = s := by simp [State.eclipseAtOnce, h]
  unfold State.warnSupervisor
  rw [this, if_pos h]
  exact ⟨h, rfl⟩

theorem State.warnSupervisor_lockout (h : s.sv.run = .normal) (hr : s.ranging = false) :
    s.warnSupervisor.sv.run = .lockout := by
  have : s.eclipseAtOnce = s.svGo .lockout := by simp [State.eclipseAtOnce, h, hr]
  unfold State.warnSupervisor
  simp [this]

theorem State.svRun_stopSequencers (u : State) (why : Reasons) : (u.stopSequencers why).sv = u.sv :=
  u.each_field State.sv _ _ fun _ _ => rfl

theorem State.warnSupervisor_eclipse (h : s.sv.run = .normal) (hr : s.ranging = true) :
    s.warnSupervisor.sv.run = .eclipse := by
  have honce : s.eclipseAtOnce = s.enterDusk.enterEclipse := by simp [State.eclipseAtOnce, h, hr]
  have he : s.enterDusk.enterEclipse.sv.run = .eclipse := by simp [State.enterEclipse, State.svRun_stopSequencers]
  unfold State.warnSupervisor
  simp [honce, he]

end Sys2Proof.Machine

/-! SUPPORT. What turns commands away, and the power warning's row (R386, R406, R407, R413). -/

namespace Sys2Proof.Machine

variable (s : State)

/-! ## Commands that are turned away (R360, R386, R398) -/

theorem State.executing_answerTaken (t : Taken) (st : Status) (ret : List Fld) :
    (s.answerTaken t none st ret []).mbx.executing = s.mbx.executing := by
  have vector (u : State) (v : Nat) : (u.vector v).mbx = u.mbx := State.mbx_vector ..
  unfold State.answerTaken State.sendBlock State.conclude State.deliver
  dsimp only
  split
  · split
    · rw [vector]; rfl
    · rfl
  · split <;> rfl

/-- What a state without its answers, and the command in execution, tell. -/
theorem State.answerAllBusy_core : s.answerAllBusy.core = ({ s with mbx := { s.mbx with waiting := [] } } : State).core ∧
    s.answerAllBusy.mbx.executing = s.mbx.executing := by
  let u : State := { s with mbx := { s.mbx with waiting := [] } }
  have h := State.foldl_field (fun s => (s.core, s.mbx.executing)) (fun s (w : WaitKey × Option Taken) => match w.2 with
    | some t => s.answerTaken t none .busy [] []
    | none => s.answerBare 0 .busy [] []) (fun s w => by
      split
      · exact Prod.ext (s.core_answerTaken _ none _ _ _ (.inl rfl)) (s.executing_answerTaken ..)
      · rfl) s.mbx.waiting u
  exact ⟨(congrArg Prod.fst h :), (congrArg Prod.snd h :)⟩

/-- What waits is answered BUSY: beside mailboxes, engines and READY nothing changes. -/
theorem State.turnAway_field {β : Type} (g : State → β) (heng : ∀ (s : State) x, g { s with eng := x } = g s)
    (hready : ∀ s b v, g (State.setReady s b v) = g s)
    (hwait : ∀ s : State, g { s with mbx := { s.mbx with waiting := [] } } = g s)
    (hcore : ∀ s t : State, t.core = s.core → t.mbx.executing = s.mbx.executing → g t = g s) : g s.turnAway = g s := by
  have htest (u : State) (w : WaitKey × Option Taken) : g (u.dropTest w) = g u := by
    unfold State.dropTest
    split
    · exact heng u _
    · rfl
  let u := s.mbx.waiting.foldl State.dropTest s
  let v := u.refreshEngines
  have hv : g v = g s := (hready _ _ _).trans ((heng u _).trans (State.foldl_field g _ htest _ s))
  obtain ⟨hc, hx⟩ := v.answerAllBusy_core
  exact (hcore _ _ hc hx).trans ((hwait v).trans hv)

theorem State.waiting_turnAway : s.turnAway.mbx.waiting = [] :=
  (congrArg (fun s : State => s.mbx.waiting) (State.answerAllBusy_core _).1 :)

/-- The first submission of a pair that waits is denied. -/
theorem State.denyHeld_core : s.denyHeld.core = ({ s with mbx := { s.mbx with held := none } } : State).core ∧
    s.denyHeld.mbx.executing = s.mbx.executing := by
  unfold State.denyHeld
  split
  next h =>
    have : ({ s with mbx := { s.mbx with held := none } } : State) = s := by rw [← h]
    exact ⟨by rw [this], rfl⟩
  next t _ _ =>
    rw [State.denyPair]
    exact ⟨(State.core_answerTaken _ _ none _ _ _ (.inl rfl)).trans (State.core_modBox ..), State.executing_answerTaken ..⟩

/-- A command that was taken is given up. -/
theorem State.dropTaken_mbx : ∃ x, s.dropTaken = { s with mbx := x } ∧ x.executing = none ∧ x.held = s.mbx.held := by
  unfold State.dropTaken
  dsimp only
  split
  next h => exact ⟨s.mbx, rfl, h, rfl⟩
  · exact ⟨_, rfl, rfl, rfl⟩
  · exact ⟨_, rfl, rfl, rfl⟩

/-! ## The warning (R407, R413) -/

/-- A store in progress, or DEVICE_ID_SET under way, is given up. -/
def State.givenUp : State :=
  if s.storeInProgress.isSome then s.cutStore.dropTaken else if s.settingId then s.dropTaken else s

theorem State.givenUp_frame : ∃ c m, s.givenUp = { s with cal := c, mbx := m } := by
  unfold State.givenUp
  split
  · obtain ⟨x, hx, -⟩ := s.cutStore.dropTaken_mbx
    have : ∃ c, s.cutStore = { s with cal := c } := by
      unfold State.cutStore
      split <;> exact ⟨_, rfl⟩
    obtain ⟨c, hc⟩ := this
    exact ⟨c, x, by rw [hx, hc]⟩
  · split
    · obtain ⟨x, hx, -⟩ := s.dropTaken_mbx
      exact ⟨s.cal, x, hx⟩
    · exact ⟨s.cal, s.mbx, rfl⟩

theorem State.givenUp_store {k : Nat} (h : s.storeInProgress = some k) :
    s.givenUp.calStore k = (s.calStore k).cut ∧ s.givenUp.mbx.executing = none := by
  have hcut : s.cutStore = s.modCalStore k CalStore.cut := by rw [State.cutStore, h]
  obtain ⟨x, hx, hn, -⟩ := s.cutStore.dropTaken_mbx
  unfold State.givenUp
  rw [if_pos (by rw [h]; rfl), hx]
  refine ⟨?_, hn⟩
  rw [hcut]
  exact State.calStore_setCalStore_self ..

theorem State.givenUp_setting (h : s.settingId = true) : s.givenUp.mbx.executing = none := by
  unfold State.givenUp
  split
  · obtain ⟨x, hx, hn, -⟩ := s.cutStore.dropTaken_mbx
    rw [hx]; exact hn
  · obtain ⟨x, hx, hn, -⟩ := s.dropTaken_mbx
    rw [hx]; exact hn

/-- What a power warning does at its end: what waits is closed, and the journal committed with the issue limits at the next
numbers. -/
def State.wound : State := s.turnAway.denyHeld.commitJournal true

variable {s}

theorem exec_pfailWarning (hl : s.dev.rstLow = false) (hp : s.dev.pfail = false) :
    exec (.pfailWarning []) s = .next s.warned.givenUp.warnSupervisor.wound := by
  have hlp : ¬ (s.dev.rstLow = true ∨ s.dev.pfail = true) := by simp [hl, hp]
  change execPfailWarning [] s = _
  rw [execPfailWarning, if_neg hlp]
  dsimp only
  rw [List.zip_nil_right, List.foldl_nil]
  rfl

/-- Beside mailboxes, engines, READY and retention memory the end of a warning changes nothing. -/
theorem State.wound_field {β : Type} (g : State → β) (heng : ∀ (s : State) x, g { s with eng := x } = g s)
    (hret : ∀ (s : State) x, g { s with ret := x } = g s)
    (hready : ∀ s b v, g (State.setReady s b v) = g s)
    (hwait : ∀ s : State, g { s with mbx := { s.mbx with waiting := [] } } = g s)
    (hheld : ∀ s : State, g { s with mbx := { s.mbx with held := none } } = g s)
    (hcore : ∀ s t : State, t.core = s.core → t.mbx.executing = s.mbx.executing → g t = g s) : g s.wound = g s := by
  have hcommit (u : State) : g (u.commitJournal true) = g u := by
    have h := congrArg g (u.commitWith_frame [] true).1
    exact ((heng _ _).symm.trans (hret ({ u.commitWith [] true with eng := u.eng } : State) u.ret).symm).trans h
  obtain ⟨hc, hx⟩ := s.turnAway.denyHeld_core
  exact (hcommit _).trans ((hcore _ _ hc hx).trans ((hheld _).trans (s.turnAway_field g heng hready hwait hcore)))

theorem State.sv_wound : s.wound.sv = s.sv :=
  State.wound_field State.sv (fun _ _ => rfl) (fun _ _ => rfl) (fun _ _ _ => State.sv_setReady ..) (fun _ => rfl)
    (fun _ => rfl) fun _ _ h _ => (congrArg State.sv h :)

theorem State.fw_wound : s.wound.fw = s.fw :=
  State.wound_field State.fw (fun _ _ => rfl) (fun _ _ => rfl) (fun _ _ _ => State.fw_setReady ..) (fun _ => rfl)
    (fun _ => rfl) fun _ _ h _ => (congrArg State.fw h :)

theorem State.stores_wound : s.wound.cal.stores = s.cal.stores :=
  State.wound_field (·.cal.stores) (fun _ _ => rfl) (fun _ _ => rfl) (fun _ _ _ => by simp) (fun _ => rfl)
    (fun _ => rfl) fun _ _ h _ => State.stores_of_core h

theorem State.pfail_wound : s.wound.dev.pfail = s.dev.pfail :=
  State.wound_field (·.dev.pfail) (fun _ _ => rfl) (fun _ _ => rfl) (fun _ _ _ => by simp) (fun _ => rfl)
    (fun _ => rfl) fun _ _ h _ => (congrArg (fun s : State => s.dev.pfail) h :)

theorem State.pfailWarnings_wound : s.wound.regs.pfailWarnings = s.regs.pfailWarnings :=
  State.wound_field (·.regs.pfailWarnings) (fun _ _ => rfl) (fun _ _ => rfl) (fun _ _ _ => by simp) (fun _ => rfl)
    (fun _ => rfl) fun _ _ h _ => (congrArg (fun s : State => s.regs.pfailWarnings) h :)

theorem State.executing_wound : s.wound.mbx.executing = s.mbx.executing :=
  State.wound_field (·.mbx.executing) (fun _ _ => rfl) (fun _ _ => rfl) (fun _ _ _ => by simp) (fun _ => rfl)
    (fun _ => rfl) fun _ _ _ h => h

theorem State.mbx_commitWith (u : State) (also : List Nat) (w : Bool) : (u.commitWith also w).mbx = u.mbx :=
  (congrArg State.mbx (u.commitWith_frame also w).1 :)

theorem State.waiting_wound : s.wound.mbx.waiting = [] := by
  have h := congrArg (fun s : State => s.mbx.waiting) s.turnAway.denyHeld_core.1
  rw [State.wound, State.commitJournal, State.mbx_commitWith]
  exact h.trans s.waiting_turnAway

theorem State.held_wound : s.wound.mbx.held = none := by
  rw [State.wound, State.commitJournal, State.mbx_commitWith]
  exact (congrArg (fun s : State => s.mbx.held) s.turnAway.denyHeld_core.1 :)

/-- The devices' state before the commit of the warning, in what the commit and retention memory read of it. -/
theorem State.closed_field {β : Type} (g : State → β) (heng : ∀ (s : State) x, g { s with eng := x } = g s)
    (hready : ∀ s b v, g (State.setReady s b v) = g s)
    (hwait : ∀ s : State, g { s with mbx := { s.mbx with waiting := [] } } = g s)
    (hheld : ∀ s : State, g { s with mbx := { s.mbx with held := none } } = g s)
    (hcore : ∀ s t : State, t.core = s.core → t.mbx.executing = s.mbx.executing → g t = g s) :
    g s.turnAway.denyHeld = g s := by
  obtain ⟨hc, hx⟩ := s.turnAway.denyHeld_core
  exact (hcore _ _ hc hx).trans ((hheld _).trans (s.turnAway_field g heng hready hwait hcore))

theorem State.deviceId_wound : s.wound.ret.deviceId = s.ret.deviceId := by
  rw [State.wound, State.commitJournal, (State.commitWith_frame _ _ _).2]
  exact State.closed_field (·.ret.deviceId) (fun _ _ => rfl) (fun _ _ _ => by simp) (fun _ => rfl) (fun _ => rfl)
    fun _ _ h _ => (congrArg (fun s : State => s.ret.deviceId) h :)

theorem State.commit_wound (h : s.dev.derived = true) : ∃ c, s.wound.ret.commit = some c ∧ c.warning = true ∧
    ∀ e ∈ c.entries, e.issueLimit = e.nextIssue := by
  have hd : s.turnAway.denyHeld.dev.derived = true := Eq.trans
    (State.closed_field (·.dev.derived) (fun _ _ => rfl) (fun _ _ _ => by simp) (fun _ => rfl) (fun _ => rfl)
      fun _ _ h _ => (congrArg (fun s : State => s.dev.derived) h :)) h
  obtain ⟨c, hc, hw, -, he⟩ := s.turnAway.denyHeld.commitJournal_commit true hd
  refine ⟨c, hc, hw, fun e hmem => ?_⟩
  obtain ⟨n, rfl⟩ := he e hmem
  rfl

/-- PFAIL_WARNING without final reads (R406, R407, R413). -/
theorem pfailWarning_closes (hl : s.dev.rstLow = false) (hp : s.dev.pfail = false) :
    ∃ t, exec (.pfailWarning []) s = .next t ∧ t.dev.pfail = true ∧ t.fw.update = none ∧
      t.regs.pfailWarnings = s.regs.pfailWarnings.inc ∧ t.mbx.waiting = [] ∧ t.mbx.held = none ∧ t.tb = s.tb ∧
      (s.dev.derived = true → ∃ c, t.ret.commit = some c ∧ c.warning = true ∧ ∀ e ∈ c.entries, e.issueLimit = e.nextIssue) ∧
      (∀ k, s.storeInProgress = some k → t.calStore k = (s.calStore k).cut ∧ t.mbx.executing = none) ∧
      (s.settingId = true → t.mbx.executing = none ∧ t.ret.deviceId = s.ret.deviceId) ∧
      (s.sv.run = .init → t.sv.run = .init ∧ t.sv.lockAtStart = true) ∧
      (s.sv.run = .normal → s.ranging = false → t.sv.run = .lockout) ∧
      (s.sv.run = .normal → s.ranging = true → t.sv.run = .eclipse) := by
  obtain ⟨c, m, hv⟩ := s.warned.givenUp_frame
  let v := s.warned.givenUp
  have hsv : v.sv = s.sv := (congrArg State.sv hv :)
  have hr : v.ranging = s.ranging := (congrArg State.ranging hv :)
  have hexec : v.warnSupervisor.wound.mbx.executing = v.mbx.executing := by
    rw [State.executing_wound, State.mbx_warnSupervisor]
  refine ⟨v.warnSupervisor.wound, exec_pfailWarning hl hp, ?pfail, ?update, ?count, State.waiting_wound, State.held_wound, ?tb,
    fun h => State.commit_wound ?derived, fun k h => ⟨?store, ?taken⟩, fun h => ⟨?executing, ?id⟩, fun h => ?init,
    fun h h' => ?lockout, fun h h' => ?eclipse⟩
  case pfail => rw [State.pfail_wound, State.pfail_warnSupervisor]; exact congrArg (·.dev.pfail) hv
  case update => rw [State.fw_wound, State.fw_warnSupervisor]; exact congrArg (·.fw.update) hv
  case count =>
    rw [State.pfailWarnings_wound, State.pfailWarnings_warnSupervisor]; exact congrArg (·.regs.pfailWarnings) hv
  case tb =>
    have : v.tb = s.tb := (congrArg State.tb hv :)
    simp [State.wound, this]
  case derived => rw [State.derived_warnSupervisor]; exact (congrArg (·.dev.derived) hv).trans h
  case store =>
    have hk := (s.warned.givenUp_store ((State.storeInProgress_warned hp).trans h)).1
    have hs : v.warnSupervisor.wound.cal.stores = v.cal.stores := by rw [State.stores_wound, State.stores_warnSupervisor]
    exact (congrArg (fun t => Tab.get (CalStore.delivered k) t k) hs).trans hk
  case taken => exact hexec.trans (s.warned.givenUp_store ((State.storeInProgress_warned hp).trans h)).2
  case executing => exact hexec.trans (s.warned.givenUp_setting h)
  case id => rw [State.deviceId_wound, State.ret_warnSupervisor]; exact congrArg (·.ret.deviceId) hv
  case init => rw [State.sv_wound]; exact State.warnSupervisor_init (by rw [hsv, h])
  case lockout => rw [State.sv_wound]; exact State.warnSupervisor_lockout (by rw [hsv, h]) (hr.trans h')
  case eclipse => rw [State.sv_wound]; exact State.warnSupervisor_eclipse (by rw [hsv, h]) (hr.trans h')

end Sys2Proof.Machine

/-! SUPPORT. The end of a power warning is a warm reset (R398, R412). -/

namespace Sys2Proof.Machine

variable (s : State)

/-! ## What leaves the power warning as it is -/

theorem State.pfail_of_core {s t : State} (h : t.core = s.core) : t.dev.pfail = s.dev.pfail :=
  (congrArg (fun s : State => s.dev.pfail) h :)

theorem State.pfail_each (f : State → Nat → State) (ks : List Nat) (h : ∀ s k, (f s k).dev.pfail = s.dev.pfail) :
    (s.each ks f).dev.pfail = s.dev.pfail := s.each_field (·.dev.pfail) f ks h

theorem State.pfail_closeSkip (n : Nat) : (s.closeSkip n).dev.pfail = s.dev.pfail := by
  have hissue (u : State) (k : Nat) (mk : Nat → Result) : (u.issueSpecial k mk).dev.pfail = u.dev.pfail := by
    unfold State.issueSpecial
    dsimp only
    split
    · exact (congrArg (fun s : State => s.dev.pfail) (u.commitWith_frame [k] false).1 :)
    · rfl
  unfold State.closeSkip
  split
  · rfl
  · split
    · rfl
    · exact hissue ..

theorem State.pfail_answerEntry (o : Nat) (e : Entry) (outcome lateness : Nat) :
    (s.answerEntry o e outcome lateness).dev.pfail = s.dev.pfail := by
  unfold State.answerEntry
  split
  · rfl
  · dsimp only
    split
    · exact (State.pfail_of_core (State.core_answerTaken _ _ none _ _ _ (.inl rfl))).trans rfl
    · rfl

theorem State.dev_countEmission (r n : Nat) : (s.countEmission r n).dev = s.dev := by
  unfold State.countEmission
  split <;> rfl

theorem State.dev_modShot' (k : Option Nat) (f : Shot → Shot) : (s.modShot' k f).dev = s.dev := by
  cases k <;> rfl

theorem State.dev_logPulses (o : Nat) (b : Burst) (ps : List (Nat × Tq × Tq)) : (s.logPulses o b ps).dev = s.dev := by
  refine State.foldl_field State.dev _ (fun s x => ?_) ps s
  rfl

theorem State.dev_endBurst (o : Nat) (b : Burst) (limit : Tq) : (s.endBurst o b limit).dev = s.dev := by
  have hfall (u : State) : (if b.cutAt.isSome then u else u.modOut o fun x => x.noteFall b limit).dev = u.dev := by
    split <;> rfl
  have hdark (u : State) : (if b.darkHit then u.modOut o fun x => { x with darkened := x.darkened.inc } else u).dev = u.dev := by
    split <;> rfl
  unfold State.endBurst
  dsimp only
  rw [hdark]
  split
  · split
    · rw [State.dev_modShot', State.dev_countEmission, hfall, State.dev_logPulses]
    · split
      · rw [State.dev_countEmission, hfall, State.dev_logPulses]
      · rw [State.dev_modShot', State.dev_countEmission, hfall, State.dev_logPulses]
  · rw [hfall, State.dev_logPulses]

theorem State.pfail_stopOutput (counts : Bool) (o : Nat) : (s.stopOutput counts o).dev.pfail = s.dev.pfail := by
  have hanswer (u : State) (es : List Entry) : (es.foldl (fun s e => s.answerEntry o e 5 0) u).dev.pfail = u.dev.pfail :=
    State.foldl_field (·.dev.pfail) _ (fun v e => v.pfail_answerEntry o e 5 0) es u
  unfold State.stopOutput
  dsimp only
  rw [hanswer]
  split
  · split
    · exact congrArg (·.pfail) (s.dev_endBurst ..)
    · rfl
  · rfl

theorem State.pfail_stopFiring (counts : Bool) : (s.stopFiring counts).dev.pfail = s.dev.pfail := by
  have h := s.pfail_each (fun s o => if s.stopsWithPll o then s.stopOutput counts o else s) outputNumbers fun u o => by
    split
    · exact u.pfail_stopOutput counts o
    · rfl
  unfold State.stopFiring
  generalize s.each outputNumbers _ = u at h ⊢
  exact h

theorem State.pfail_turnAway : s.turnAway.dev.pfail = s.dev.pfail :=
  s.turnAway_field (·.dev.pfail) (fun _ _ => rfl) (fun _ _ _ => by simp) (fun _ => rfl) fun _ _ h _ => State.pfail_of_core h

theorem State.pfail_dropWork : s.dropWork.dev.pfail = s.dev.pfail := by
  rw [State.dropWork, State.dev_setReadyAll]
  exact State.pfail_each _ _ _ fun _ _ => rfl

/-- What a warm reset stops leaves the power warning as it is. -/
theorem State.pfail_stopped :
    ((s.turnAway.denyHeld.dropTaken.dropQueued.dropWork.stopSequencers Reasons.forced).stopFiring
      false).emptyPlaces.suspendRings.dev.pfail = s.dev.pfail := by
  have hrings (u : State) : u.suspendRings.dev.pfail = u.dev.pfail := by
    unfold State.suspendRings
    exact u.pfail_each _ _ fun v n => by split <;> rfl
  have hqueued (u : State) : u.dropQueued.dev.pfail = u.dev.pfail := u.pfail_each _ _ fun _ _ => rfl
  have hseqs (u : State) : (u.stopSequencers Reasons.forced).dev.pfail = u.dev.pfail := u.pfail_each _ _ fun _ _ => rfl
  have htaken (u : State) : u.dropTaken.dev.pfail = u.dev.pfail := by
    obtain ⟨x, hx, -⟩ := u.dropTaken_mbx
    rw [hx]
  have hheld (u : State) : u.denyHeld.dev.pfail = u.dev.pfail := (State.pfail_of_core u.denyHeld_core.1).trans rfl
  have hplaces (u : State) : u.emptyPlaces.dev = u.dev := rfl
  rw [hrings, hplaces, State.pfail_stopFiring, hseqs, State.pfail_dropWork, hqueued, htaken, hheld, State.pfail_turnAway]

/-- A warm reset ends in Boot, and leaves the power warning as it is (R398). -/
theorem State.warmReset_dev : s.warmReset.dev.pfail = s.dev.pfail ∧ s.warmReset.dev.warm = true ∧ s.warmReset.dev.run = .boot := by
  have hdev (u : State) : ∃ x, u.refreshPcie.refreshFs.dev = { u.dev with ready := x } :=
    ⟨_, by rw [State.refreshFs, State.dev_setReadyAll, State.refreshPcie, State.dev_setReady]⟩
  unfold State.warmReset
  have h := s.pfail_stopped
  dsimp only
  generalize State.suspendRings _ = u at h ⊢
  obtain ⟨x, hx⟩ := hdev _
  rw [hx]
  exact ⟨h, rfl, rfl⟩

/-- PFAIL_N has been high for 10 ms (R412). -/
theorem exec_pfailRelease (hp : s.dev.pfail = true) (he : s.elapsed s.dev.pfailAt 10 100 = true) :
    ∃ t, exec .pfailRelease s = .next t ∧ t.dev.pfail = false ∧ t.dev.warm = true ∧ t.dev.run = .boot := by
  refine ⟨_, if_pos ⟨hp, he⟩, ?_⟩
  obtain ⟨hpf, hw, hr⟩ := State.warmReset_dev _
  refine ⟨hpf.trans ?_, hw, hr⟩
  exact State.pfail_each _ _ _ fun u n => u.pfail_closeSkip n

end Sys2Proof.Machine

/-! SUPPORT. The pace monitors and the regulator: one equation per row (R21, R347, R425). -/

namespace Sys2Proof.Machine

variable {s : State}

/-! ## Interrupts and what has left (R327, R421) -/

/-- A message-signalled interrupt changes no register but the pending bits. -/
theorem State.regs_vector (s : State) (v : Nat) : ∃ p, (s.vector v).regs = { s.regs with pcie := p } := by
  obtain ⟨-, h⟩ | ⟨-, -, h⟩ | ⟨-, -, h⟩ := s.vector_cases v <;> rw [h]
  · exact ⟨s.regs.pcie, rfl⟩
  · exact ⟨_, rfl⟩
  · exact ⟨s.regs.pcie, rfl⟩

/-- A cause other than that of host events sets its bit. -/
theorem State.regs_cause (s : State) {b : Nat} (hb : b ≠ 1) : ∃ p, (s.cause b).regs =
    { s.regs with intStatus := s.regs.intStatus ||| BitVec.ofNat 32 (2 ^ b), pcie := p } := by
  unfold State.cause
  rw [if_neg hb]
  dsimp only
  split
  · exact ⟨s.regs.pcie, rfl⟩
  · exact State.regs_vector _ _

theorem State.mem_sent_cause (s : State) (b : Nat) {x : Sent} (h : x ∈ s.sent) : x ∈ (s.cause b).sent := by
  unfold State.cause
  dsimp only
  split <;> split
  · exact h
  · exact State.mem_sent_vector _ _ _ h
  · exact h
  · exact State.mem_sent_vector _ _ _ h

/-! ## Pace (R21, R425) -/

/-- PACE_WARN is brought up to date; beside interrupts no register else changes. -/
theorem State.refreshPace_regs (s : State) : ∃ i p, s.refreshPace.regs =
    { s.regs with paceWarn := s.paceWarnDue, intStatus := s.regs.intStatus ||| i, pcie := p } := by
  unfold State.refreshPace
  dsimp only
  split
  · obtain ⟨p, hp⟩ := State.regs_cause { s with regs := { s.regs with paceWarn := s.paceWarnDue } } (b := 4) (by decide)
    exact ⟨_, p, hp⟩
  · exact ⟨0, s.regs.pcie, by simp⟩

theorem State.refreshPace_frame (s : State) : s.refreshPace.tx = s.tx ∧ s.refreshPace.sq = s.sq ∧ s.refreshPace.sv = s.sv := by
  unfold State.refreshPace
  dsimp only
  split <;> simp

theorem State.mem_sent_refreshPace (s : State) {x : Sent} (h : x ∈ s.sent) : x ∈ s.refreshPace.sent := by
  unfold State.refreshPace
  dsimp only
  split
  · exact State.mem_sent_cause _ _ h
  · exact h

/-- A whole window: every domain with its margin and the lowest so far. -/
theorem State.each_measure (s : State) (m : Nat → Option Int) {d : Nat} (hd : d ≤ 3) :
    (s.each (List.range 4) fun s d => s.modPace d fun p => p.measure (m d)).pace d = (s.pace d).measure (m d) := by
  change ((((s.modPace 0 (·.measure (m 0))).modPace 1 (·.measure (m 1))).modPace 2 (·.measure (m 2))).modPace 3
    (·.measure (m 3))).pace d = _
  obtain rfl | rfl | rfl | rfl : d = 0 ∨ d = 1 ∨ d = 2 ∨ d = 3 := by omega
  all_goals simp [State.modPace, State.pace_setPace_ne]

theorem paceWindow_measures {m : Int} {d : Nat} (hl : s.dev.rstLow = false) (hd : d ≤ 3) (hlo : -1000 ≤ m) (hhi : m ≤ 32766) :
    ∃ t, exec (.paceWindow [some m, some m, some m, some m]) s = .next t ∧
      t.pace d = { margin := m, low := min (s.pace d).low m } ∧ t.regs.pmbus.cfg = s.regs.pmbus.cfg ∧ t.tx = s.tx ∧
      t.sq = s.sq ∧ t.sv = s.sv ∧ t.regs.paceWarn = t.paceWarnDue := by
  let f (d : Nat) : Option Int := [some m, some m, some m, some m].getD d none
  have hf : f d = some m := by
    obtain rfl | rfl | rfl | rfl : d = 0 ∨ d = 1 ∨ d = 2 ∨ d = 3 := by omega
    all_goals rfl
  let u := s.each (List.range 4) fun s d => s.modPace d fun p => p.measure (f d)
  let p := u.regs.pmbus
  let v : State := { u with regs := { u.regs with pmbus :=
    { p with highSince := if 250 < u.lowestMargin then some (p.highSince.getD u.clock) else none } } }
  have he : exec (.paceWindow [some m, some m, some m, some m]) s = .next v.refreshPace := by
    change execPaceWindow _ s = _
    rw [execPaceWindow, if_neg (by simp [hl])]
  obtain ⟨i, q, hr⟩ := v.refreshPace_regs
  obtain ⟨htx, hsq, hsv⟩ := v.refreshPace_frame
  have hpace (k : Nat) : v.refreshPace.pace k = v.pace k := by rw [State.pace, hr]; rfl
  have kept {β : Type} (g : State → β) (hg : ∀ s k v, g (State.setPace s k v) = g s) : g u = g s :=
    s.each_field g _ _ fun _ _ => hg ..
  have hpmbus : v.regs.pmbus.cfg = s.regs.pmbus.cfg := kept (·.regs.pmbus.cfg) fun _ _ _ => rfl
  refine ⟨_, he, ?_, by rw [hr]; exact hpmbus, htx.trans (kept State.tx fun _ _ _ => rfl),
    hsq.trans (kept State.sq fun _ _ _ => rfl), hsv.trans (kept State.sv fun _ _ _ => rfl), ?_⟩
  · rw [hpace]
    refine (s.each_measure f hd).trans ?_
    simp only [hf, Pace.measure, clamp]
    congr 1 <;> omega
  · rw [hr]
    unfold State.paceWarnDue State.lowestMargin
    simp only [hpace, hr]

/-! ## The regulator (R346, R347) -/

theorem exec_vddaAdjust {x : Option Nat} {v : Nat} {retry : Bool} (hf : s.dev.fwRunning = true) (hb : s.ballsOff = false)
    (hr : s.vddaRequest = some (v, retry)) : exec (.vddaAdjust x) s =
      .next ((({ s with regs := { s.regs with pmbus := s.regs.pmbus.request s.clock v retry x } } : State).log
        (.pmbus s.regs.pmbus.cfg.addr 0x21 (some v))).log (.pmbus s.regs.pmbus.cfg.addr 0x8B none)).refreshPace := by
  change execVddaAdjust x s = _
  rw [execVddaAdjust, if_neg (by simp [hf, hb]), hr]

theorem State.pmbus_refreshPace (s : State) : s.refreshPace.regs.pmbus = s.regs.pmbus := by
  obtain ⟨i, p, h⟩ := s.refreshPace_regs
  rw [h]

/-- A margin below 10 % asks for one STEP more, and a reading within 15 mV ends the request. -/
theorem vddaAdjust_raises {x : Nat} (hf : s.dev.fwRunning = true) (hb : s.ballsOff = false) (hnf : s.regs.pmbus.fault = false)
    (ht : s.regs.pmbus.tries = 0) (hfree : s.pmbusFree = true) (hlow : s.lowestMargin < 100)
    (hmax : s.regs.pmbus.vReq + s.regs.pmbus.cfg.step ≤ s.regs.pmbus.cfg.voutMax)
    (hmin : s.regs.pmbus.cfg.voutMin ≤ s.regs.pmbus.vReq + s.regs.pmbus.cfg.step) (hstep : 1 ≤ s.regs.pmbus.cfg.step)
    (hhi : x ≤ s.regs.pmbus.vReq + s.regs.pmbus.cfg.step + 15) (hlo : s.regs.pmbus.vReq + s.regs.pmbus.cfg.step ≤ x + 15) :
    ∃ t, exec (.vddaAdjust (some x)) s = .next t ∧ t.regs.pmbus.vReq = s.regs.pmbus.vReq + s.regs.pmbus.cfg.step ∧
      t.regs.pmbus.vRead = x ∧ t.regs.pmbus.tries = 0 ∧ t.regs.pmbus.writes = s.regs.pmbus.writes.inc ∧
      Sent.pmbus s.regs.pmbus.cfg.addr 0x21 (some (s.regs.pmbus.vReq + s.regs.pmbus.cfg.step)) ∈ t.sent ∧
      Sent.pmbus s.regs.pmbus.cfg.addr 0x8B none ∈ t.sent ∧ t.tx = s.tx ∧ t.sq = s.sq ∧ t.sv = s.sv := by
  have hlim : pmbusLimit s.regs.pmbus.cfg (s.regs.pmbus.vReq + s.regs.pmbus.cfg.step) =
      s.regs.pmbus.vReq + s.regs.pmbus.cfg.step := by simp only [pmbusLimit]; omega
  have hbelow : s.regs.pmbus.vReq < s.regs.pmbus.cfg.voutMax := by omega
  have hreq : s.vddaRequest = some (s.regs.pmbus.vReq + s.regs.pmbus.cfg.step, false) := by
    simp [State.vddaRequest, hnf, ht, hfree, hlow, hbelow, hlim]
  have hgood : readGood (s.regs.pmbus.vReq + s.regs.pmbus.cfg.step) (some x) = true := decide_eq_true ⟨hhi, hlo⟩
  obtain ⟨htx, hsq, hsv⟩ := State.refreshPace_frame _
  refine ⟨_, exec_vddaAdjust hf hb hreq, ?_, ?_, ?_, ?_, ?_, ?_, htx, hsq, hsv⟩
  · rw [State.pmbus_refreshPace]; rfl
  · rw [State.pmbus_refreshPace]; rfl
  · rw [State.pmbus_refreshPace]; exact if_pos hgood
  · rw [State.pmbus_refreshPace]; rfl
  · exact State.mem_sent_refreshPace _ (List.mem_cons_of_mem _ List.mem_cons_self)
  · exact State.mem_sent_refreshPace _ List.mem_cons_self

/-- A failed request is made again. -/
theorem vddaAdjust_retries (hf : s.dev.fwRunning = true) (hb : s.ballsOff = false) (hnf : s.regs.pmbus.fault = false)
    (hone : 1 ≤ s.regs.pmbus.tries) (htwo : s.regs.pmbus.tries ≤ 2) (hfree : s.pmbusFree = true) :
    ∃ t, exec (.vddaAdjust none) s = .next t ∧ t.regs.pmbus.vReq = s.regs.pmbus.vReq ∧
      t.regs.pmbus.tries = s.regs.pmbus.tries + 1 ∧ t.regs.pmbus.retries = s.regs.pmbus.retries.inc := by
  have hthree : ¬ 3 ≤ s.regs.pmbus.tries := by omega
  have hsome : 0 < s.regs.pmbus.tries := by omega
  have hreq : s.vddaRequest = some (s.regs.pmbus.vReq, true) := by
    simp [State.vddaRequest, hnf, hthree, hfree, hsome]
  refine ⟨_, exec_vddaAdjust hf hb hreq, ?_, ?_, ?_⟩ <;> rw [State.pmbus_refreshPace] <;> rfl

/-- The third failure in succession is a fault. -/
theorem exec_pmbusFault (hf : s.dev.fwRunning = true) (ht : 3 ≤ s.regs.pmbus.tries) (hnf : s.regs.pmbus.fault = false) :
    ∃ t, exec .pmbusFault s = .next t ∧ t.regs.pmbus.fault = true ∧ t.intStatus.getLsbD 5 = true ∧ t.tx = s.tx ∧
      t.sq = s.sq ∧ t.sv = s.sv := by
  let u : State := { s with regs := { s.regs with pmbus := { s.regs.pmbus with fault := true } } }
  obtain ⟨p, hu⟩ := u.regs_cause (b := 5) (by decide)
  obtain ⟨i, q, hv⟩ := (u.cause 5).refreshPace_regs
  obtain ⟨htx, hsq, hsv⟩ := (u.cause 5).refreshPace_frame
  have hbit : (u.cause 5).refreshPace.regs.intStatus.getLsbD 5 = true := by
    rw [hv]
    change ((u.cause 5).regs.intStatus ||| i).getLsbD 5 = true
    rw [hu]
    simp
  refine ⟨(u.cause 5).refreshPace, if_pos ⟨hf, ht, by rw [hnf]; rfl⟩, ?_, ?_, ?_, ?_, ?_⟩
  · rw [State.pmbus_refreshPace, hu]
  · unfold State.intStatus
    split
    · rw [BitVec.getLsbD_or, hbit]; rfl
    · exact hbit
  · rw [htx, State.tx_cause]
  · rw [hsq, State.sq_cause]
  · rw [hsv, State.sv_cause]

/-- Once the device is idle after a power warning no row of a mailbox command is due (R407). -/
theorem cmdRow_idle {c : Instr} {b : State → Body} (hp : s.dev.pfail = true) (hi : s.dev.pfailAt + 80000 ≤ s.clock) :
    cmdRow c b s = .next s := by
  have hidle : s.powerIdle = true := by simp [State.powerIdle, hp, hi]
  have hdue : s.rowDue c = false := by
    unfold State.rowDue
    split
    · simp [hp]
    · simp [hidle]
  simp [cmdRow, hdue]

/-- Settles O54: the equations of the six rows; the warning's clause rests on what its supervisor, its store in progress and
its commit each leave behind. -/
theorem powerAndSupply : Obligations.PowerAndSupply := by
  unfold Obligations.PowerAndSupply
  refine ⟨?periodic, ?underived, ?covers, ?warning, ?again, ?release, ?unreleased, ?idle, ?pace, ?off, ?raise, ?retry, ?fault⟩
  case periodic => exact fun s hp hl => if_neg (by simp [hp, hl])
  case underived => exact fun s w h => s.commitWith_underived [] w h
  case covers =>
    intro s hd n hn
    obtain ⟨c, hc, hw, hmem, -⟩ := s.commitJournal_commit false hd
    exact ⟨c, hc, hw, hmem n hn⟩
  case warning => exact fun s hl hp => pfailWarning_closes hl hp
  case again => exact fun s r h => if_pos h
  case release => exact fun s hp he => exec_pfailRelease s hp he
  case unreleased => exact fun s hp => if_neg fun h => by simp [hp] at h
  case idle => exact fun s id baud hp hi => ⟨show execSysInfo s = _ from cmdRow_idle hp hi,
      show execDeviceIdSet id true s = _ from cmdRow_idle hp hi, show execUartConfig baud s = _ from cmdRow_idle hp hi⟩
  case pace => exact fun s m d hl hd hlo hhi => paceWindow_measures hl hd hlo hhi
  case off => exact fun s x h => if_pos (.inr h)
  case raise =>
    exact fun s x hf hb hnf ht hfree hlow hmax hmin hstep hhi hlo =>
      vddaAdjust_raises hf hb hnf ht hfree hlow hmax hmin hstep hhi hlo
  case retry => exact fun s hf hb hnf hone htwo hfree => vddaAdjust_retries hf hb hnf hone htwo hfree
  case fault => exact fun s hf ht hnf => exec_pmbusFault hf ht hnf

end Sys2Proof.Machine

/-! SUPPORT. One slot: what its issue does to its sequencer, whether it is played or not (R97, R98, R110, R118, R122). -/

namespace Sys2Proof.Machine

variable {s t u : State} {n : Nat} {p q : SeqState}

/-! ## A state that differs in one sequencer -/

/-- `t` is `s`, but that sequencer `n` is `q`, and for published events. -/
def State.AtSeq (s : State) (n : Nat) (q : SeqState) (t : State) : Prop :=
  (∃ x y, t = { s with sq := { s.sq with seqs := x }, fab := y }) ∧ t.seq n = q

theorem State.AtSeq.refl (s : State) (n : Nat) : s.AtSeq n (s.seq n) s := ⟨⟨_, _, rfl⟩, rfl⟩

theorem State.AtSeq.trans (h : s.AtSeq n p t) (h' : t.AtSeq n q u) : s.AtSeq n q u := by
  obtain ⟨⟨x, y, rfl⟩, -⟩ := h
  obtain ⟨⟨x', y', rfl⟩, hq⟩ := h'
  exact ⟨⟨x', y', rfl⟩, hq⟩

theorem State.atSeq_setSeq (s : State) (n : Nat) (q : SeqState) : s.AtSeq n q (s.setSeq n q) :=
  ⟨⟨_, _, rfl⟩, State.seq_setSeq_self ..⟩

theorem State.AtSeq.setSeq (h : s.AtSeq n p t) (q : SeqState) : s.AtSeq n q (t.setSeq n q) := h.trans (t.atSeq_setSeq n q)

theorem State.AtSeq.modSeq (h : s.AtSeq n p t) (f : SeqState → SeqState) : s.AtSeq n (f p) (t.modSeq n f) := by
  have hm := h.setSeq (f (t.seq n))
  rw [h.2] at hm
  rw [State.modSeq, h.2]
  exact hm

theorem State.publish_fab (s : State) (p : Nat) (t : Tq) (gen : Nat) : ∃ y, s.publish p t gen = { s with fab := y } := by
  unfold State.publish
  split <;> exact ⟨_, rfl⟩

theorem State.AtSeq.publish (h : s.AtSeq n q t) (k : Nat) (f : Tq) (gen : Nat) : s.AtSeq n q (t.publish k f gen) := by
  obtain ⟨⟨x, y, rfl⟩, hq⟩ := h
  obtain ⟨z, hz⟩ := State.publish_fab { s with sq := { s.sq with seqs := x }, fab := y } k f gen
  rw [hz]
  exact ⟨⟨x, z, rfl⟩, hq⟩

/-- Everything but the sequencers and the event fabric stands. -/
theorem State.AtSeq.field {β : Type} (h : s.AtSeq n q t) (g : State → β)
    (hg : ∀ x y, g { s with sq := { s.sq with seqs := x }, fab := y } = g s) : g t = g s := by
  obtain ⟨⟨x, y, rfl⟩, -⟩ := h
  exact hg x y

theorem State.AtSeq.tx (h : s.AtSeq n q t) : t.tx = s.tx := h.field State.tx fun _ _ => rfl
theorem State.AtSeq.rx (h : s.AtSeq n q t) : t.rx = s.rx := h.field State.rx fun _ _ => rfl
theorem State.AtSeq.hist (h : s.AtSeq n q t) : t.hist = s.hist := h.field State.hist fun _ _ => rfl
theorem State.AtSeq.eng (h : s.AtSeq n q t) : t.eng = s.eng := h.field State.eng fun _ _ => rfl
theorem State.AtSeq.sv (h : s.AtSeq n q t) : t.sv = s.sv := h.field State.sv fun _ _ => rfl

/-! ## What a slot does to its sequencer (R98, R110, R121) -/

/-- The slot is one of the test mask (R98). -/
def SeqState.isTest (q : SeqState) : Bool := q.frozen.isNone && decide (bitField q.gran.testMask q.j q.j = 1)

/-- The slot is an odd one in Twilight (R98). -/
def State.isOdd (s : State) (q : SeqState) : Bool := decide (s.sv.run = .twilight) && decide (q.j % 2 = 1)

/-- The slot comes less than 262,144 tq after the last (R98). -/
def SeqState.isFast (q : SeqState) (t : Tq) : Bool :=
  match q.lastFire with
  | some p => decide (t - p < 262144)
  | none => false

/-- The slot fires its rows: it is not dark and meets no condition of R98. -/
def State.plays (s : State) (q : SeqState) (t : Tq) (due : Bool) : Bool :=
  (!q.granDark && !due) && !q.isTest && !s.isOdd q && !q.isFast t

/-- The sequencer with the conditions that its slot meets counted. -/
def State.noted (s : State) (q : SeqState) (t : Tq) (due : Bool) : SeqState :=
  { q with
    counters := { q.counters with
      slots := q.counters.slots.inc
      testSlots := if q.isTest then q.counters.testSlots.inc else q.counters.testSlots
      twilightSlots := if s.isOdd q then q.counters.twilightSlots.inc else q.counters.twilightSlots
      overspeed := if q.isFast t then q.counters.overspeed.inc else q.counters.overspeed }
    testSlot := if q.isTest then some t else q.testSlot
    step := { q.step with
      twilight := q.step.twilight || ((!q.granDark && !due) && decide (s.sv.run = .twilight))
      reasons := if due then q.step.reasons ||| Reasons.reference else q.step.reasons } }

/-- The sequencer goes on to the next slot. -/
def SeqState.passed (t : Tq) (q : SeqState) : SeqState :=
  { q with
    k := q.k + 1
    j := (q.j + 1) % 16
    lastFire := some t
    accum := { q.accum with phase := q.accum.phaseNext }
    trim := if q.j = 0 then q.trimPending.getD q.trim else q.trim
    trimPending := if q.j = 0 then none else q.trimPending }

theorem State.playSlot_eq (s : State) (n : Nat) (t : Tq) (due : Bool) : s.playSlot n t due =
    (if s.plays (s.seq n) t due then (s.setSeq n (s.noted (s.seq n) t due)).fireSlot n (s.seq n).k t
      else s.setSeq n (s.noted (s.seq n) t due)).modSeq n (SeqState.passed t) := rfl

/-- A slot that fires nothing changes its sequencer alone. -/
theorem State.playSlot_idle {f : Tq} {due : Bool} (h : s.plays (s.seq n) f due = false) :
    s.AtSeq n ((s.noted (s.seq n) f due).passed f) (s.playSlot n f due) := by
  rw [State.playSlot_eq, h]
  exact (s.atSeq_setSeq n _).modSeq _

theorem State.plays_of_dark {f : Tq} {due : Bool} (h : q.granDark = true) : s.plays q f due = false := by
  simp [State.plays, h]

/-! ## What a slot that is played leaves as it is (R97, R163) -/

/-- The sequencer with a slot that is played counted (R94, R110). -/
def SeqState.fired (q : SeqState) : SeqState :=
  { q with counters := { q.counters with
      maskClipped := if q.gran.mask &&& q.cfg.rows = q.gran.mask &&& q.cfg.rows &&& q.step.rows then q.counters.maskClipped
        else q.counters.maskClipped.inc
      shots := if q.gran.mask &&& q.cfg.rows &&& q.step.rows = 0 then q.counters.shots else q.counters.shots.inc } }

/-- Rows that fire one after the other, with the entries for their outputs. -/
def State.fireRows (s : State) (n : Nat) (k : Int) (t : Tq) (rows : List Nat) : State × List (Nat × Entry) :=
  rows.foldl (fun p row => ((p.1.fireRow n row k t).1, p.2 ++ (p.1.fireRow n row k t).2)) (s, [])

theorem State.fireSlot_eq (s : State) (n : Nat) (k : Int) (t : Tq) : s.fireSlot n k t =
    (((s.setSeq n (s.seq n).fired).fireRows n k t ((s.setSeq n (s.seq n).fired).firedRows n)).1.arriveAll
      ((s.setSeq n (s.seq n).fired).fireRows n k t ((s.setSeq n (s.seq n).fired).firedRows n)).2) := rfl

theorem State.answerEntry_field {β : Type} {g : State → β}
    (hwait : ∀ (s : State) l, g { s with mbx := { s.mbx with waiting := l } } = g s)
    (hcore : ∀ s t : State, t.core = s.core → g t = g s) (s : State) (o : Nat) (e : Entry) (outcome lateness : Nat) :
    g (s.answerEntry o e outcome lateness) = g s := by
  unfold State.answerEntry
  split
  · rfl
  · dsimp only
    split
    · exact (hcore _ _ (State.core_answerTaken _ _ none _ _ _ (.inl rfl))).trans (hwait s _)
    · exact (hcore _ _ (State.core_answerBare ..)).trans (hwait s _)

/-- What an arrival at output `o` changes: that output, and answers. -/
theorem State.arrive_field {β : Type} {g : State → β} {o : Nat} (hout : ∀ (s : State) v, g (s.setOut o v) = g s)
    (hwait : ∀ (s : State) l, g { s with mbx := { s.mbx with waiting := l } } = g s)
    (hcore : ∀ s t : State, t.core = s.core → g t = g s) (s : State) (e : Entry) : g (s.arrive o e).1 = g s := by
  unfold State.arrive
  dsimp only
  split
  · split
    · rfl
    · exact hout s _
  · split
    · rfl
    · split
      · exact hout s _
      · split
        · exact hout s _
        · split
          · exact hout s _
          · exact (State.answerEntry_field hwait hcore _ _ _ _ _).trans (hout s _)

/-- What a function of the state must not tell of, so that a slot that is played does not change it: schedule inputs,
channels, the marks of banks, events and answers. -/
structure UntouchedBySlots {β : Type} (g : State → β) : Prop where
  tx : ∀ (s : State) x, g { s with tx := x } = g s
  rx : ∀ (s : State) x, g { s with rx := x } = g s
  desc : ∀ s b f, g (State.modDesc s b f) = g s
  fab : ∀ (s : State) x, g { s with fab := x } = g s
  waiting : ∀ (s : State) l, g { s with mbx := { s.mbx with waiting := l } } = g s
  core : ∀ s t : State, t.core = s.core → g t = g s

section
variable {β : Type} {g : State → β} (hg : UntouchedBySlots g)
include hg

theorem UntouchedBySlots.publish (s : State) (p : Nat) (t : Tq) (gen : Nat) : g (s.publish p t gen) = g s := by
  obtain ⟨y, hy⟩ := s.publish_fab p t gen
  rw [hy]; exact hg.fab s y

theorem UntouchedBySlots.armGate (s : State) (c : Nat) (x : Gate) : g (s.armGate c x) = g s := by
  unfold State.armGate
  dsimp only
  split
  · exact hg.rx s _
  · exact (hg.publish _ _ _ _).trans ((hg.desc _ _ _).trans (hg.rx s _))

theorem UntouchedBySlots.fireRow (s : State) (n r : Nat) (k : Int) (t : Tq) : g (s.fireRow n r k t).1 = g s := by
  unfold State.fireRow
  exact (State.each_field _ g _ _ fun u c => hg.armGate u c _).trans (hg.tx s _)

theorem UntouchedBySlots.fireRows (s : State) (n : Nat) (k : Int) (t : Tq) (rows : List Nat) :
    g (s.fireRows n k t rows).1 = g s := by
  have h (p : State × List (Nat × Entry)) : g (rows.foldl (fun p row =>
      ((p.1.fireRow n row k t).1, p.2 ++ (p.1.fireRow n row k t).2)) p).1 = g p.1 := by
    induction rows generalizing p with
    | nil => rfl
    | cons r rs ih => exact (ih _).trans (hg.fireRow p.1 n r k t)
  exact h (s, [])

theorem UntouchedBySlots.answerEntry (s : State) (o : Nat) (e : Entry) (outcome lateness : Nat) :
    g (s.answerEntry o e outcome lateness) = g s := State.answerEntry_field hg.waiting hg.core s o e outcome lateness

theorem UntouchedBySlots.arrive (s : State) (o : Nat) (e : Entry) : g (s.arrive o e).1 = g s :=
  State.arrive_field (fun s _ => hg.tx s _) hg.waiting hg.core s e

theorem UntouchedBySlots.fireSlot (s : State) (n : Nat) (k : Int) (t : Tq) :
    g (s.fireSlot n k t) = g (s.setSeq n (s.seq n).fired) := by
  rw [State.fireSlot_eq]
  exact (State.foldl_field g _ (fun u (p : Nat × Entry) => hg.arrive u p.1 p.2) _ _).trans (hg.fireRows ..)

end

theorem untouchedBySlots_sq : UntouchedBySlots State.sq where
  tx _ _ := rfl
  rx _ _ := rfl
  desc _ b _ := by cases b <;> rfl
  fab _ _ := rfl
  waiting _ _ := rfl
  core _ _ h := (congrArg State.sq h :)

theorem untouchedBySlots_tb : UntouchedBySlots State.tb where
  tx _ _ := rfl
  rx _ _ := rfl
  desc _ b _ := by cases b <;> rfl
  fab _ _ := rfl
  waiting _ _ := rfl
  core _ _ h := (congrArg State.tb h :)

theorem untouchedBySlots_sv : UntouchedBySlots State.sv where
  tx _ _ := rfl
  rx _ _ := rfl
  desc _ b _ := by cases b <;> rfl
  fab _ _ := rfl
  waiting _ _ := rfl
  core _ _ h := (congrArg State.sv h :)

theorem untouchedBySlots_eng : UntouchedBySlots State.eng where
  tx _ _ := rfl
  rx _ _ := rfl
  desc _ b _ := by cases b <;> rfl
  fab _ _ := rfl
  waiting _ _ := rfl
  core _ _ h := (congrArg State.eng h :)

theorem untouchedBySlots_chans : UntouchedBySlots fun s => s.hist.chans where
  tx _ _ := rfl
  rx _ _ := rfl
  desc _ b _ := by cases b <;> rfl
  fab _ _ := rfl
  waiting _ _ := rfl
  core _ _ h := (congrArg (fun s : State => s.hist.chans) h :)

/-- A bank's state and step, which the marks of its descriptor leave. -/
theorem untouchedBySlots_bank (b : Nat) : UntouchedBySlots fun s => ((s.bank b).state, (s.bank b).step) where
  tx _ _ := rfl
  rx _ _ := rfl
  desc s k f := by
    cases k with
    | none => rfl
    | some k =>
      unfold State.modDesc State.modBank
      by_cases h : b = k
      · subst h; rw [State.bank_setBank_self]
      · rw [State.bank_setBank_ne _ _ _ _ h]
  fab _ _ := rfl
  waiting _ _ := rfl
  core _ _ h := (congrArg (fun s : State => ((s.bank b).state, (s.bank b).step)) h :)

/-- The sequencer after a slot, played or not: where it fires, its own counters of rows and shots differ. -/
theorem State.seq_playSlot (s : State) (n : Nat) (f : Tq) (due : Bool) : (s.playSlot n f due).seq n =
    ((if s.plays (s.seq n) f due then (s.noted (s.seq n) f due).fired else s.noted (s.seq n) f due)).passed f := by
  rw [State.playSlot_eq]
  split
  · have h := untouchedBySlots_sq.fireSlot (s.setSeq n (s.noted (s.seq n) f due)) n (s.seq n).k f
    have hq : ((s.setSeq n (s.noted (s.seq n) f due)).fireSlot n (s.seq n).k f).seq n =
        ((s.setSeq n (s.noted (s.seq n) f due)).setSeq n ((s.setSeq n (s.noted (s.seq n) f due)).seq n).fired).seq n :=
      congrArg (fun x : Sequencers => Tab.get SeqState.reset x.seqs n) h
    rw [State.modSeq, State.seq_setSeq_self, hq, State.seq_setSeq_self, State.seq_setSeq_self]
  · rw [State.modSeq, State.seq_setSeq_self, State.seq_setSeq_self]

/-- What a slot does not touch it leaves as it is, played or not. -/
theorem UntouchedBySlots.playSlot {β : Type} {g : State → β} (hg : UntouchedBySlots g)
    (hsq : ∀ (s : State) x, g { s with sq := x } = g s) (s : State) (n : Nat) (f : Tq) (due : Bool) :
    g (s.playSlot n f due) = g s := by
  rw [State.playSlot_eq]
  split
  · exact (hsq _ _).trans ((hg.fireSlot _ n _ f).trans ((hsq _ _).trans (hsq s _)))
  · exact (hsq _ _).trans (hsq s _)

end Sys2Proof.Machine

/-! SUPPORT. SLOT_ISSUE inside a granule: when a slot is issued, and what becomes of one that is dark or meets a condition of
R98 (R97, R98, R118, R122). -/

namespace Sys2Proof.Machine

variable {s t : State} {n : Nat}

/-! ## Answers that wait (R378) -/

theorem State.answerWaiting_none {k : WaitKey} (h : ∀ w ∈ s.mbx.waiting, w.1 ≠ k) (st : Status) (ret : List Fld) :
    s.answerWaiting k st ret = s := by
  have hmine : s.mbx.waiting.filter (fun w => decide (w.1 = k)) = [] := by
    rw [List.filter_eq_nil_iff]
    exact fun w hw => by simpa using h w hw
  have hrest : s.mbx.waiting.filter (not ∘ fun w => decide (w.1 = k)) = s.mbx.waiting := by
    rw [List.filter_eq_self]
    exact fun w hw => by simpa using h w hw
  unfold State.answerWaiting
  rw [List.partition_eq_filter_filter, hmine, hrest]
  rfl

theorem State.answerWaiting_field {β : Type} {g : State → β} (hg : UntouchedBySlots g) (s : State) (k : WaitKey) (st : Status)
    (ret : List Fld) : g (s.answerWaiting k st ret) = g s := by
  unfold State.answerWaiting
  exact (State.foldl_field g _ (fun u w => by
    split
    · exact hg.core _ _ (State.core_answerTaken _ _ none _ _ _ (.inl rfl))
    · exact hg.core _ _ (State.core_answerBare ..)) _ _).trans (hg.waiting s _)

/-- What answers change: mailboxes, what left the device or waits at its ports, the reply, MSI-X bits that wait. -/
theorem State.answerWaiting_core (s : State) (k : WaitKey) (st : Status) (ret : List Fld) : ∃ l,
    (s.answerWaiting k st ret).core = ({ s with mbx := { s.mbx with waiting := l } } : State).core := by
  refine ⟨(s.mbx.waiting.partition fun w => decide (w.1 = k)).2, ?_⟩
  unfold State.answerWaiting
  exact State.foldl_field State.core _ (fun u w => by
    split
    · exact State.core_answerTaken _ _ none _ _ _ (.inl rfl)
    · exact State.core_answerBare ..) _ _

/-! ## When a slot is issued (R97, R118, R122) -/

theorem exec_slotIssue (hn : n ≤ 7) (hr : (s.seq n).running = true) : exec (.slotIssue n) s = .next (s.issueSlot n) := by
  change execSlotIssue n s = _
  rw [execSlotIssue, if_neg (by omega), if_pos hr]

theorem State.fireTime_time {q : SeqState} (h : q.cfg.domain = 1) (x : Int) : s.fireTime q x = some (x + q.trim) := by
  rw [State.fireTime, if_pos h]

theorem State.fireTime_invalid {q : SeqState} (h : q.cfg.domain = 0) (hv : s.estValid q.cfg.encoder = false) (x : Int) :
    s.fireTime q x = none := by
  rw [State.fireTime, if_neg (by omega), hv]; rfl

theorem State.fireTime_angle {q : SeqState} (h : q.cfg.domain = 0) (hv : s.estValid q.cfg.encoder = true) {x : Int} {f : Tq}
    (hf : (s.estimator q.cfg.encoder).resample x = some f) : s.fireTime q x = some f := by
  rw [State.fireTime, if_neg (by omega), hv]
  simp [hf]

/-- The state in which a slot that has come to its issue is handled: SEQ_START is answered, if it waits for this slot. -/
def State.atIssue (s : State) (n : Nat) (f : Tq) : State :=
  (s.modSeq n fun q => { q with stepTo := none }).answerWaiting (.seqStart n) .ok (startRet f (s.seq n).k)

/-- A slot at its issue, no step of Polestar being ahead of it: inside a granule it is played or not at once. -/
theorem State.issueSlot_inside {f : Tq} (hf : s.fireTime (s.seq n) ((s.seq n).accum.position (s.seq n).k) = some f)
    (hstep : (s.seq n).stepTo = none) (hdue : s.reached (f - 20480) = true) (hj : (s.seq n).j ≠ 0) :
    s.issueSlot n = if ((s.atIssue n f).seq n).running then (s.atIssue n f).playSlot n f false else s.atIssue n f := by
  have hd : s.reached (f - issueLead) = true := hdue
  unfold State.issueSlot
  simp only [hf, hd, hstep, hj]
  rfl

theorem State.issueSlot_boundary {f : Tq} (hf : s.fireTime (s.seq n) ((s.seq n).accum.position (s.seq n).k) = some f)
    (hstep : (s.seq n).stepTo = none) (hdue : s.reached (f - 20480) = true) (hj : (s.seq n).j = 0) :
    s.issueSlot n =
      (let u := (s.atIssue n f).boundary n ((s.seq n).accum.position (s.seq n).k) f false
       if (u.seq n).running then u.playSlot n f false else u) := by
  have hd : s.reached (f - issueLead) = true := hdue
  unfold State.issueSlot
  simp only [hf, hd, hstep, hj]
  rfl

theorem State.issueSlot_early {f : Tq} (hf : s.fireTime (s.seq n) ((s.seq n).accum.position (s.seq n).k) = some f)
    (hdue : s.reached (f - 20480) = false) : s.issueSlot n = s := by
  have hd : s.reached (f - issueLead) = false := hdue
  unfold State.issueSlot
  simp [hf, hd]

/-- At its issue a slot's sequencer is what it was. -/
theorem State.seq_atIssue (hstep : (s.seq n).stepTo = none) (f : Tq) : (s.atIssue n f).seq n = s.seq n := by
  have h : (s.atIssue n f).sq = (s.modSeq n fun q => { q with stepTo := none }).sq :=
    State.answerWaiting_field untouchedBySlots_sq ..
  have hq : (s.atIssue n f).seq n = (s.modSeq n fun q => { q with stepTo := none }).seq n :=
    congrArg (fun x : Sequencers => Tab.get SeqState.reset x.seqs n) h
  rw [hq, State.modSeq, State.seq_setSeq_self, ← hstep]

/-- Where no SEQ_START waits for the slot nothing but its sequencer's table is touched. -/
theorem State.atSeq_atIssue (hstep : (s.seq n).stepTo = none) (hw : ∀ w ∈ s.mbx.waiting, w.1 ≠ .seqStart n) (f : Tq) :
    s.AtSeq n (s.seq n) (s.atIssue n f) := by
  have he : s.atIssue n f = s.modSeq n fun q => { q with stepTo := none } :=
    State.answerWaiting_none (s := s.modSeq n fun q => { q with stepTo := none }) hw ..
  have hm := (State.AtSeq.refl s n).modSeq fun q => { q with stepTo := none }
  have hq : ({ s.seq n with stepTo := none } : SeqState) = s.seq n := by rw [← hstep]
  rw [he]
  exact hq ▸ hm

theorem State.txrx_atIssue (s : State) (n : Nat) (f : Tq) : (s.atIssue n f).tx = s.tx ∧ (s.atIssue n f).rx = s.rx ∧
    (s.atIssue n f).sv = s.sv := by
  obtain ⟨l, h⟩ := (s.modSeq n fun q => { q with stepTo := none }).answerWaiting_core (.seqStart n) .ok
    (startRet f (s.seq n).k)
  exact ⟨(congrArg State.tx h :), (congrArg State.rx h :), (congrArg State.sv h :)⟩

/-! ## Inside a granule (R97, R98) -/

theorem SeqState.isFast_iff {q : SeqState} {f : Tq} : q.isFast f = true ↔ ∃ l, q.lastFire = some l ∧ f < l + 262144 := by
  unfold SeqState.isFast
  cases q.lastFire with
  | none => simp
  | some l => simpa using sub_lt_iff_lt_add'

theorem State.isOdd_iff {q : SeqState} : s.isOdd q = true ↔ s.sv.run = .twilight ∧ q.j % 2 = 1 := by
  simp [State.isOdd]

theorem SeqState.isTest_iff {q : SeqState} : q.isTest = true ↔ q.frozen = none ∧ bitField q.gran.testMask q.j q.j = 1 := by
  simp [SeqState.isTest]

/-- A slot that has come to its issue inside a granule, whatever becomes of it. -/
theorem slotIssue_inside {f : Tq} (hn : n ≤ 7) (hr : (s.seq n).running = true)
    (hf : s.fireTime (s.seq n) ((s.seq n).accum.position (s.seq n).k) = some f) (hstep : (s.seq n).stepTo = none)
    (hj : (s.seq n).j ≠ 0) (hdue : s.reached (f - 20480) = true) :
    exec (.slotIssue n) s = .next ((s.atIssue n f).playSlot n f false) ∧
      ((s.atIssue n f).playSlot n f false).seq n = ((if s.plays (s.seq n) f false then (s.noted (s.seq n) f false).fired
        else s.noted (s.seq n) f false)).passed f ∧
      (s.plays (s.seq n) f false = false → ((s.atIssue n f).playSlot n f false).tx = s.tx ∧
        ((s.atIssue n f).playSlot n f false).rx = s.rx) := by
  have hq := State.seq_atIssue hstep f
  obtain ⟨htx, hrx, hsv⟩ := s.txrx_atIssue n f
  have hnoted : (s.atIssue n f).noted (s.seq n) f false = s.noted (s.seq n) f false := by
    unfold State.noted State.isOdd; rw [hsv]
  have hplays : (s.atIssue n f).plays (s.seq n) f false = s.plays (s.seq n) f false := by
    unfold State.plays State.isOdd; rw [hsv]
  refine ⟨?_, ?_, fun hp => ?_⟩
  · rw [exec_slotIssue hn hr, State.issueSlot_inside hf hstep hdue hj, hq, if_pos hr]
  · rw [State.seq_playSlot, hq, hnoted, hplays]
  · have h := State.playSlot_idle (s := s.atIssue n f) (n := n) (f := f) (due := false) (by rw [hq, hplays, hp])
    exact ⟨h.tx.trans htx, h.rx.trans hrx⟩

/-- A dark slot of the time domain (R98). -/
theorem slotIssue_dark (hn : n ≤ 7) (hr : (s.seq n).running = true) (hd : (s.seq n).cfg.domain = 1)
    (hstep : (s.seq n).stepTo = none) (hj : (s.seq n).j ≠ 0)
    (hdue : s.reached ((s.seq n).accum.position (s.seq n).k + (s.seq n).trim - 20480) = true)
    (hw : ∀ w ∈ s.mbx.waiting, w.1 ≠ .seqStart n) (hdark : (s.seq n).granDark = true) :
    ∃ t, exec (.slotIssue n) s = .next t ∧ (t.seq n).k = (s.seq n).k + 1 ∧
      (t.seq n).lastFire = some ((s.seq n).accum.position (s.seq n).k + (s.seq n).trim) ∧
      (t.seq n).counters.slots = (s.seq n).counters.slots.inc ∧ t.tx = s.tx ∧ t.rx = s.rx ∧ t.hist = s.hist := by
  obtain ⟨he, hseq, hidle⟩ := slotIssue_inside hn hr (State.fireTime_time hd _) hstep hj hdue
  have hp : s.plays (s.seq n) ((s.seq n).accum.position (s.seq n).k + (s.seq n).trim) false = false :=
    State.plays_of_dark hdark
  obtain ⟨htx, hrx⟩ := hidle hp
  rw [hp] at hseq
  refine ⟨_, he, by rw [hseq]; rfl, by rw [hseq]; rfl, by rw [hseq]; rfl, htx, hrx, ?_⟩
  have ha := State.atSeq_atIssue hstep hw ((s.seq n).accum.position (s.seq n).k + (s.seq n).trim)
  have h := State.playSlot_idle (s := s.atIssue n ((s.seq n).accum.position (s.seq n).k + (s.seq n).trim)) (n := n)
    (f := (s.seq n).accum.position (s.seq n).k + (s.seq n).trim) (due := false)
    (State.plays_of_dark (by rw [ha.2, hdark]))
  exact h.hist.trans ha.hist

/-- A slot of the angle domain (R97, R118). -/
theorem slotIssue_angle {f : Tq} (hn : n ≤ 7) (hr : (s.seq n).running = true) (hd : (s.seq n).cfg.domain = 0)
    (hj : (s.seq n).j ≠ 0) (hv : s.estValid (s.seq n).cfg.encoder = true) (hstep : (s.seq n).stepTo = none)
    (hf : (s.estimator (s.seq n).cfg.encoder).resample ((s.seq n).accum.position (s.seq n).k) = some f) :
    (s.reached (f - 20480) = false → exec (.slotIssue n) s = .next s) ∧
    (s.reached (f - 20480) = true → ∃ t, exec (.slotIssue n) s = .next t ∧ (t.seq n).k = (s.seq n).k + 1 ∧
      (t.seq n).lastFire = some f ∧ (t.seq n).counters.slots = (s.seq n).counters.slots.inc ∧
      ((s.seq n).granDark = true → t.tx = s.tx ∧ t.rx = s.rx)) := by
  have hft := State.fireTime_angle hd hv hf
  refine ⟨fun hdue => by rw [exec_slotIssue hn hr, State.issueSlot_early hft hdue], fun hdue => ?_⟩
  obtain ⟨he, hseq, hidle⟩ := slotIssue_inside hn hr hft hstep hj hdue
  refine ⟨_, he, ?_, ?_, ?_, fun hdark => hidle (State.plays_of_dark hdark)⟩ <;> rw [hseq] <;> split <;> rfl

/-- A slot of the test mask, an odd one in Twilight, and one that comes too soon (R98). -/
theorem slotIssue_skips {f : Tq} (hn : n ≤ 7) (hr : (s.seq n).running = true) (hd : (s.seq n).cfg.domain = 1)
    (hstep : (s.seq n).stepTo = none) (hj : (s.seq n).j ≠ 0) (hf : f = (s.seq n).accum.position (s.seq n).k + (s.seq n).trim)
    (hdue : s.reached (f - 20480) = true)
    (hskip : (s.seq n).frozen = none ∧ bitField (s.seq n).gran.testMask (s.seq n).j (s.seq n).j = 1 ∨
      s.sv.run = .twilight ∧ (s.seq n).j % 2 = 1 ∨ (∃ l, (s.seq n).lastFire = some l ∧ f < l + 262144)) :
    ∃ t, exec (.slotIssue n) s = .next t ∧ (t.seq n).k = (s.seq n).k + 1 ∧ t.tx = s.tx ∧ t.rx = s.rx ∧
      ((s.seq n).frozen = none → bitField (s.seq n).gran.testMask (s.seq n).j (s.seq n).j = 1 →
        (t.seq n).counters.testSlots = (s.seq n).counters.testSlots.inc ∧ (t.seq n).testSlot = some f) ∧
      (s.sv.run = .twilight → (s.seq n).j % 2 = 1 →
        (t.seq n).counters.twilightSlots = (s.seq n).counters.twilightSlots.inc) ∧
      ((∃ l, (s.seq n).lastFire = some l ∧ f < l + 262144) →
        (t.seq n).counters.overspeed = (s.seq n).counters.overspeed.inc) := by
  obtain ⟨he, hseq, hidle⟩ := slotIssue_inside hn hr (hf ▸ State.fireTime_time hd _) hstep hj hdue
  have hp : s.plays (s.seq n) f false = false := by
    rw [← SeqState.isTest_iff, ← State.isOdd_iff (s := s), ← SeqState.isFast_iff] at hskip
    obtain h | h | h := hskip <;> simp [State.plays, h]
  obtain ⟨htx, hrx⟩ := hidle hp
  rw [hp] at hseq
  refine ⟨_, he, by rw [hseq]; rfl, htx, hrx, fun h1 h2 => ?_, fun h1 h2 => ?_, fun h => ?_⟩ <;> rw [hseq]
  · have ht := SeqState.isTest_iff.mpr ⟨h1, h2⟩
    exact ⟨if_pos ht, if_pos ht⟩
  · exact if_pos (State.isOdd_iff.mpr ⟨h1, h2⟩)
  · exact if_pos (SeqState.isFast_iff.mpr h)

end Sys2Proof.Machine

/-! SUPPORT. Granule boundaries: the granule that plays, and the decision at the end of a segment (R91, R95 to R100, R104). -/

namespace Sys2Proof.Machine

variable {s t u : State} {n : Nat} {q : SeqState}

/-! ## The sequencer after its slot -/

/-- The sequencer after a slot that was no step of Polestar late. -/
def State.slotted (s : State) (q : SeqState) (f : Tq) : SeqState :=
  ((if s.plays q f false then (s.noted q f false).fired else s.noted q f false)).passed f

/-- A slot counts and goes on to the next one; the granule, the step and the entry are as they were. -/
theorem State.slotted_eq (s : State) (q : SeqState) (f : Tq) : ∃ c x y, s.slotted q f =
    { q with
      k := q.k + 1
      j := (q.j + 1) % 16
      lastFire := some f
      accum := { q.accum with phase := q.accum.phaseNext }
      trim := if q.j = 0 then q.trimPending.getD q.trim else q.trim
      trimPending := if q.j = 0 then none else q.trimPending
      counters := c
      testSlot := x
      step := { q.step with twilight := y } } ∧
    c.darkGranules = q.counters.darkGranules ∧ c.underrunGranules = q.counters.underrunGranules := by
  unfold State.slotted
  split <;> exact ⟨_, _, _, rfl, rfl, rfl⟩

theorem State.seq_playSlot_false (s : State) (n : Nat) (f : Tq) :
    (s.playSlot n f false).seq n = s.slotted (s.seq n) f := s.seq_playSlot n f false

/-! ## Stops that are due (R104) -/

/-- No stop that is asked of the sequencer is due at the boundary at which it stands. -/
theorem State.stopHere_none (hf : (s.seq n).frozen = none) (hh : (s.seq n).halting = false) (hs : s.stopIsDue n = false) :
    s.stopHere n = none := by
  have hdue : (s.seq n).stopDue ((s.seq n).begins (s.sq.mem.entry (s.seq n).nextEntry)) (s.seq n).segEnded = none := by
    have hnone : (s.seq n).stops.filter (fun r => decide (r.mode = 1 ∨
        (r.mode = 0 ∧ (s.seq n).begins (s.sq.mem.entry (s.seq n).nextEntry) = true) ∨
        (r.mode = 2 ∧ (s.seq n).segEnded = true))) = [] := by
      rw [List.filter_eq_nil_iff]
      intro r hr
      have h := List.any_eq_false.mp hs r hr
      simpa [or_assoc] using h
    unfold SeqState.stopDue
    dsimp only
    rw [hnone]; rfl
  unfold State.stopHere
  dsimp only
  rw [hf]
  dsimp only
  rw [hh, hdue]; rfl

/-- A boundary at which no stop is due, of a sequencer that is in no under-run and has not met HALT. -/
theorem State.boundary_plain (hf : (s.seq n).frozen = none) (hh : (s.seq n).halting = false) (hs : s.stopIsDue n = false)
    (x : Int) (f : Tq) (due : Bool) : s.boundary n x f due = s.plainBoundary n x f due := by
  rw [State.boundary, State.stopHere_none hf hh hs, hf]

/-- A state that differs in other sequencers alone stands at the same boundary. -/
theorem State.AtSeq.stopIsDue (h : s.AtSeq n (s.seq n) t) : t.stopIsDue n = s.stopIsDue n := by
  have hm : t.sq.mem = s.sq.mem := h.field (fun s => s.sq.mem) fun _ _ => rfl
  rw [State.stopIsDue, h.2, hm]; rfl

/-- The issue of a slot at a boundary at which no stop is due. -/
theorem slotIssue_boundary {f : Tq} (hb : s.atBoundary n f) (hh : (s.seq n).halting = false) (hs : s.stopIsDue n = false) :
    ∃ u, s.AtSeq n (s.seq n) u ∧ ∀ w, u.plainBoundary n ((s.seq n).accum.position (s.seq n).k) f false = w →
      (w.seq n).running = true → exec (.slotIssue n) s = .next (w.playSlot n f false) := by
  obtain ⟨hn, hr, hd, hstep, hj, hfr, hf, hdue, hw⟩ := hb
  have ha := State.atSeq_atIssue hstep hw f
  refine ⟨_, ha, fun w hpw hrun => ?_⟩
  have hq := ha.2
  rw [exec_slotIssue hn hr, State.issueSlot_boundary (hf ▸ State.fireTime_time hd _) hstep hdue hj]
  dsimp only
  rw [State.boundary_plain (by rw [hq, hfr]) (by rw [hq, hh]) (by rw [ha.stopIsDue, hs]), hpw, if_pos hrun]

/-! ## A granule plays (R95, R96, R98, R99) -/

/-- The sequencer as entry `i` plays granule `g` from position `x` on. -/
def State.granuled (s : State) (q : SeqState) (i : Nat) (g : ListEntry) (ok : Bool) (x : Int) : SeqState :=
  let lost := s.firingStopped || !s.groupsReady q.step.channels
  let dark := !q.step.admitted || lost || !ok
  { q with
    entry := i
    gran := g
    granDark := dark
    first := false
    segEnded := g.segEnd
    rd := if g.src ∧ q.cfg.streamLen ≠ 0 then (q.rd + 1) % q.cfg.streamLen else q.rd
    accum := if ok then q.accum.apply x g.freq g.phase else q.accum
    step := { q.step with
      granules := q.step.granules + 1
      streamed := q.step.streamed || g.src
      dark := if dark then q.step.dark + 1 else q.step.dark
      reasons := q.step.reasons ||| (if lost then Reasons.reference else 0) ||| (if ok then 0 else Reasons.program) }
    counters := { q.counters with
      darkGranules := if dark then q.counters.darkGranules.inc else q.counters.darkGranules
      streamInvalid := if ok then q.counters.streamInvalid else q.counters.streamInvalid.inc } }

/-- The sequencer with the entry after its segment set. -/
def SeqState.goesTo (after : Option Nat) (q : SeqState) : SeqState := { q with after := after, halting := after.isNone }

/-- The sequencer once what follows the segment that entry `i` ends is decided. -/
def State.decided (s : State) (q : SeqState) (i : Nat) (g : ListEntry) : SeqState :=
  match q.jump with
  | some target => ({ q with jump := none, loops := [] } : SeqState).goesTo (some target)
  | none =>
    if g.ctrl = 1 then q.goesTo (some g.target)
    else if g.ctrl = 2 then
      let c := Tab.get 0 q.loops i + 1
      if g.arg = 0 ∨ c < g.arg then ({ q with loops := Tab.put 0 q.loops i c } : SeqState).goesTo (some g.target)
      else
        ({ q with loops := Tab.put 0 q.loops i 0 } : SeqState).goesTo
          (if i + 1 < q.cfg.progBase + q.cfg.progLen then some (i + 1) else none)
    else if g.ctrl = 3 then ({ q with cond := false } : SeqState).goesTo (some (if q.cond then g.target else i + 1))
    else if g.ctrl = 4 then q.goesTo (some (if s.cmpHolds q g.arg then g.target else i + 1))
    else if g.ctrl = 5 then q.goesTo none
    else q.goesTo (some (i + 1))

theorem State.decided_jump {k : Nat} (h : q.jump = some k) (s : State) (i : Nat) (g : ListEntry) :
    s.decided q i g = ({ q with jump := none, loops := [] } : SeqState).goesTo (some k) := by
  rw [State.decided, h]

/-- Without a request of a jump CTRL decides. -/
theorem State.decided_ctrl (h : q.jump = none) (s : State) (i : Nat) (g : ListEntry) : s.decided q i g =
    if g.ctrl = 1 then q.goesTo (some g.target)
    else if g.ctrl = 2 then
      if g.arg = 0 ∨ Tab.get 0 q.loops i + 1 < g.arg then
        ({ q with loops := Tab.put 0 q.loops i (Tab.get 0 q.loops i + 1) } : SeqState).goesTo (some g.target)
      else
        ({ q with loops := Tab.put 0 q.loops i 0 } : SeqState).goesTo
          (if i + 1 < q.cfg.progBase + q.cfg.progLen then some (i + 1) else none)
    else if g.ctrl = 3 then ({ q with cond := false } : SeqState).goesTo (some (if q.cond then g.target else i + 1))
    else if g.ctrl = 4 then q.goesTo (some (if s.cmpHolds q g.arg then g.target else i + 1))
    else if g.ctrl = 5 then q.goesTo none
    else q.goesTo (some (i + 1)) := by
  unfold State.decided
  split
  next h' => rw [h] at h'; cases h'
  · rfl

theorem State.decide_eq (s : State) (n i : Nat) (g : ListEntry) :
    s.decide_ n i g = s.setSeq n (s.decided (s.seq n) i g) := by
  cases hj : (s.seq n).jump with
  | some k => rw [State.decided_jump hj, State.decide_]; simp only [hj]; rfl
  | none =>
    rw [State.decided_ctrl hj]
    unfold State.decide_
    dsimp only
    split
    next h => rw [hj] at h; cases h
    · (repeat' split) <;> rfl

/-- The sequencer after its granule's boundary. -/
def State.atGranule (s : State) (q : SeqState) (i : Nat) (g : ListEntry) (ok : Bool) (x : Int) : SeqState :=
  if g.segEnd then s.decided (s.granuled q i g ok x) i g else s.granuled q i g ok x

theorem State.atSeq_playGranule (s : State) (n i : Nat) (g : ListEntry) (ok : Bool) (x : Int) (f : Tq) :
    s.AtSeq n (s.atGranule (s.seq n) i g ok x) (s.playGranule n i g ok x f) := by
  let u := s.setSeq n (s.granuled (s.seq n) i g ok x)
  have hu : s.AtSeq n (s.granuled (s.seq n) i g ok x) u := s.atSeq_setSeq n _
  have hd : u.decided (u.seq n) i g = s.decided (s.granuled (s.seq n) i g ok x) i g := by rw [hu.2]; rfl
  have he : s.playGranule n i g ok x f = if g.segEnd then (u.decide_ n i g).publish (prodSeq n 2) f 0 else u := rfl
  rw [he, State.atGranule]
  split
  · rw [State.decide_eq, hd]
    exact (hu.setSeq _).publish ..
  · exact hu

theorem State.decided_run (s : State) (q : SeqState) (i : Nat) (g : ListEntry) : (s.decided q i g).run = q.run := by
  unfold State.decided
  dsimp only
  (repeat' split) <;> rfl

theorem State.atGranule_running (s : State) (q : SeqState) (i : Nat) (g : ListEntry) (ok : Bool) (x : Int) :
    (s.atGranule q i g ok x).running = q.running := by
  have : (s.atGranule q i g ok x).run = q.run := by
    unfold State.atGranule
    split
    · exact s.decided_run ..
    · rfl
  rw [SeqState.running, this]; rfl

/-- A decision changes the entry that follows, the request of a jump, the loops and the condition alone. -/
theorem State.decided_eq (s : State) (q : SeqState) (i : Nat) (g : ListEntry) : ∃ a h j l c,
    s.decided q i g = { q with after := a, halting := h, jump := j, loops := l, cond := c } := by
  unfold State.decided
  dsimp only
  (repeat' split) <;> exact ⟨_, _, _, _, _, rfl⟩

theorem State.atGranule_eq (s : State) (q : SeqState) (i : Nat) (g : ListEntry) (ok : Bool) (x : Int) : ∃ a h j l c,
    s.atGranule q i g ok x = { s.granuled q i g ok x with after := a, halting := h, jump := j, loops := l, cond := c } := by
  unfold State.atGranule
  split
  · exact s.decided_eq ..
  · exact ⟨_, _, _, _, _, rfl⟩

/-! ## Inside a step (R96, R98, R99, R100) -/

/-- The boundary inside a step, of a granule that is not streamed. -/
theorem State.plainBoundary_inside {e : ListEntry} (hh : (s.seq n).halting = false) (he : e = s.sq.mem.entry (s.seq n).nextEntry)
    (hb : (s.seq n).begins e = false) (hsrc : e.src = false) (x : Int) (f : Tq) (due : Bool) :
    s.plainBoundary n x f due = s.playGranule n (s.seq n).nextEntry e true x f := by
  subst he
  unfold State.plainBoundary State.granule
  simp [hh, hb, hsrc]

/-- The issue of the first slot of a granule inside a step. -/
theorem slotIssue_granule {f : Tq} {e : ListEntry} (hb : s.atBoundary n f) (hh : (s.seq n).halting = false)
    (hs : s.stopIsDue n = false) (he : e = s.sq.mem.entry (s.seq n).nextEntry) (hbeg : (s.seq n).begins e = false)
    (hsrc : e.src = false) : ∃ t v, exec (.slotIssue n) s = .next t ∧
      t.seq n = State.slotted v
        (s.atGranule (s.seq n) (s.seq n).nextEntry e true ((s.seq n).accum.position (s.seq n).k)) f := by
  obtain ⟨u, hu, hexec⟩ := slotIssue_boundary hb hh hs
  obtain ⟨-, hr, -⟩ := hb
  have hm : u.sq.mem = s.sq.mem := hu.field (fun s => s.sq.mem) fun _ _ => rfl
  let x := (s.seq n).accum.position (s.seq n).k
  have hpb : u.plainBoundary n x f false = u.playGranule n (s.seq n).nextEntry e true x f := by
    rw [State.plainBoundary_inside (e := e) (by rw [hu.2, hh]) (by rw [hm, hu.2, he]) (by rw [hu.2, hbeg]) hsrc, hu.2]
  have hsame : u.atGranule (u.seq n) (s.seq n).nextEntry e true x = s.atGranule (s.seq n) (s.seq n).nextEntry e true x := by
    rw [hu.2]
    obtain ⟨⟨y, z, rfl⟩, -⟩ := hu
    rfl
  have hg := u.atSeq_playGranule n (s.seq n).nextEntry e true x f
  rw [hsame] at hg
  refine ⟨_, u.playGranule n (s.seq n).nextEntry e true x f, hexec _ hpb ?_, ?_⟩
  · rw [hg.2, State.atGranule_running, hr]
  · rw [State.seq_playSlot_false, hg.2]

/-- Inside a step the granule of the next entry plays with FREQ from its first slot on (R96, R98). -/
theorem slotIssue_granule_plays {f : Tq} {e : ListEntry} (hb : s.atBoundary n f) (hh : (s.seq n).halting = false)
    (hs : s.stopIsDue n = false) (he : e = s.sq.mem.entry (s.seq n).nextEntry) (hbeg : (s.seq n).begins e = false)
    (hsrc : e.src = false) :
    ∃ t, exec (.slotIssue n) s = .next t ∧ (t.seq n).k = (s.seq n).k + 1 ∧ (t.seq n).j = 1 ∧ (t.seq n).lastFire = some f ∧
      (t.seq n).entry = (s.seq n).nextEntry ∧ (t.seq n).gran = e ∧ (t.seq n).accum.freq = e.freq ∧
      (t.seq n).accum.x0 = (s.seq n).accum.position (s.seq n).k ∧ (t.seq n).step.index = (s.seq n).step.index ∧
      (t.seq n).step.granules = (s.seq n).step.granules + 1 ∧
      (t.seq n).granDark = (!(s.seq n).step.admitted || s.firingStopped || !s.groupsReady (s.seq n).step.channels) ∧
      (t.seq n).segEnded = e.segEnd := by
  obtain ⟨t, v, hexec, hseq⟩ := slotIssue_granule hb hh hs he hbeg hsrc
  obtain ⟨-, -, -, -, hj, -⟩ := hb
  obtain ⟨c, y, z, hsl, -, -⟩ := v.slotted_eq
    (s.atGranule (s.seq n) (s.seq n).nextEntry e true ((s.seq n).accum.position (s.seq n).k)) f
  obtain ⟨a, h, j, l, b, hg⟩ := s.atGranule_eq (s.seq n) (s.seq n).nextEntry e true ((s.seq n).accum.position (s.seq n).k)
  rw [hsl, hg] at hseq
  refine ⟨t, hexec, ?_⟩
  rw [hseq]
  refine ⟨rfl, ?_, rfl, rfl, rfl, rfl, rfl, rfl, rfl, ?_, rfl⟩
  · change ((s.seq n).j + 1) % 16 = 1
    rw [hj]
  · change (!(s.seq n).step.admitted || (s.firingStopped || !s.groupsReady (s.seq n).step.channels) || !true) = _
    simp [Bool.or_assoc]

/-- A BRANCH_CMP on the step's index (R100). -/
theorem State.cmpHolds_index (s : State) (q : SeqState) (a : Nat) (h : bitField a 29 28 = 1) : s.cmpHolds q a =
    [decide (q.step.index = bitField a 19 0), decide (q.step.index ≠ bitField a 19 0),
      decide (bitField a 19 0 ≤ q.step.index), decide (q.step.index < bitField a 19 0)].getD (bitField a 31 30) false := by
  have hsrc : s.cmpSource q (bitField a 29 28) = q.step.index := by rw [h]; rfl
  have hlt : bitField a 31 30 < 4 := by unfold bitField; omega
  unfold State.cmpHolds
  dsimp only
  rw [hsrc]
  obtain h | h | h | h : bitField a 31 30 = 0 ∨ bitField a 31 30 = 1 ∨ bitField a 31 30 = 2 ∨ bitField a 31 30 = 3 := by omega
  all_goals rw [h]; rfl

/-- The decision at the end of a segment: a pending jump first, then what CTRL says (R99, R100). -/
theorem slotIssue_decides {f : Tq} {e : ListEntry} (hb : s.atBoundary n f) (hh : (s.seq n).halting = false)
    (hs : s.stopIsDue n = false) (he : e = s.sq.mem.entry (s.seq n).nextEntry) (hbeg : (s.seq n).begins e = false)
    (hsrc : e.src = false) (hend : e.segEnd = true) :
    ∃ t, exec (.slotIssue n) s = .next t ∧
      (∀ k, (s.seq n).jump = some k →
        (t.seq n).after = some k ∧ (t.seq n).jump = none ∧ (t.seq n).loops = [] ∧ (t.seq n).halting = false) ∧
      ((s.seq n).jump = none → e.ctrl = 0 → (t.seq n).after = some ((s.seq n).nextEntry + 1)) ∧
      ((s.seq n).jump = none → e.ctrl = 1 → (t.seq n).after = some e.target) ∧
      ((s.seq n).jump = none → e.ctrl = 2 → e.arg = 0 ∨ Tab.get 0 (s.seq n).loops (s.seq n).nextEntry + 1 < e.arg →
        (t.seq n).after = some e.target ∧
          Tab.get 0 (t.seq n).loops (s.seq n).nextEntry = Tab.get 0 (s.seq n).loops (s.seq n).nextEntry + 1) ∧
      ((s.seq n).jump = none → e.ctrl = 2 → e.arg ≠ 0 → e.arg ≤ Tab.get 0 (s.seq n).loops (s.seq n).nextEntry + 1 →
        Tab.get 0 (t.seq n).loops (s.seq n).nextEntry = 0 ∧
          (t.seq n).after = (if (s.seq n).nextEntry + 1 < (s.seq n).cfg.progBase + (s.seq n).cfg.progLen
            then some ((s.seq n).nextEntry + 1) else none)) ∧
      ((s.seq n).jump = none → e.ctrl = 3 → (t.seq n).cond = false ∧
        (t.seq n).after = some (if (s.seq n).cond then e.target else (s.seq n).nextEntry + 1)) ∧
      ((s.seq n).jump = none → e.ctrl = 4 → bitField e.arg 29 28 = 1 → (t.seq n).after =
        some (if [decide ((s.seq n).step.index = bitField e.arg 19 0), decide ((s.seq n).step.index ≠ bitField e.arg 19 0),
            decide (bitField e.arg 19 0 ≤ (s.seq n).step.index), decide ((s.seq n).step.index < bitField e.arg 19 0)].getD
              (bitField e.arg 31 30) false
          then e.target else (s.seq n).nextEntry + 1)) ∧
      ((s.seq n).jump = none → e.ctrl = 5 → (t.seq n).after = none ∧ (t.seq n).halting = true) := by
  obtain ⟨t, v, hexec, hseq⟩ := slotIssue_granule hb hh hs he hbeg hsrc
  let i := (s.seq n).nextEntry
  let g := s.granuled (s.seq n) i e true ((s.seq n).accum.position (s.seq n).k)
  have hd : s.atGranule (s.seq n) i e true ((s.seq n).accum.position (s.seq n).k) = s.decided g i e := if_pos hend
  obtain ⟨c, y, z, hsl, -, -⟩ := v.slotted_eq (s.decided g i e) f
  have hafter : (t.seq n).after = (s.decided g i e).after := by rw [hseq, hd, hsl]
  have hloops : (t.seq n).loops = (s.decided g i e).loops := by rw [hseq, hd, hsl]
  have hhalt : (t.seq n).halting = (s.decided g i e).halting := by rw [hseq, hd, hsl]
  have hjump : (t.seq n).jump = (s.decided g i e).jump := by rw [hseq, hd, hsl]
  have hcond : (t.seq n).cond = (s.decided g i e).cond := by rw [hseq, hd, hsl]
  have hg : g.jump = (s.seq n).jump := rfl
  have hput (v : Nat) : Tab.get 0 (Tab.put 0 g.loops i v) i = v := Tab.get_put_self ..
  refine ⟨t, hexec, fun k hk => ?jump, fun hk hc => ?next, fun hk hc => ?goto, fun hk hc ha => ?again, fun hk hc ha hle => ?done,
    fun hk hc => ?cond, fun hk hc ha => ?cmp, fun hk hc => ?halt⟩
  case jump =>
    rw [hafter, hjump, hloops, hhalt, State.decided_jump (hg.trans hk)]
    exact ⟨rfl, rfl, rfl, rfl⟩
  case next =>
    rw [hafter, State.decided_ctrl (hg.trans hk), hc]; rfl
  case goto =>
    rw [hafter, State.decided_ctrl (hg.trans hk), hc]; rfl
  case again =>
    have ha' : e.arg = 0 ∨ Tab.get 0 g.loops i + 1 < e.arg := ha
    rw [hafter, hloops, State.decided_ctrl (hg.trans hk), if_neg (by omega), if_pos hc, if_pos ha']
    exact ⟨rfl, hput (Tab.get 0 g.loops i + 1)⟩
  case done =>
    have ha' : ¬ (e.arg = 0 ∨ Tab.get 0 g.loops i + 1 < e.arg) := fun h => h.elim ha fun h => Nat.not_le.mpr h hle
    rw [hafter, hloops, State.decided_ctrl (hg.trans hk), if_neg (by omega), if_pos hc, if_neg ha']
    exact ⟨hput 0, rfl⟩
  case cond =>
    rw [hafter, hcond, State.decided_ctrl (hg.trans hk), hc]
    exact ⟨rfl, rfl⟩
  case cmp =>
    rw [hafter, State.decided_ctrl (hg.trans hk), hc]
    exact congrArg (fun b : Bool => some (if b then e.target else i + 1)) (s.cmpHolds_index g e.arg ha)
  case halt =>
    rw [hafter, hhalt, State.decided_ctrl (hg.trans hk), hc]
    exact ⟨rfl, rfl⟩

end Sys2Proof.Machine

/-! SUPPORT. A boundary at which a step begins: its admission, and steps that are not admitted or wait for streamed granules
(R14, R93, R94, R106, R109, R179). -/

namespace Sys2Proof.Machine

variable {s t u : State} {n : Nat} {q : SeqState}

/-! ## Before a step (R93, R104) -/

/-- `t` is `s`, but that sequencer `n` is `q`, for published events, and for marks in the banks that leave their states. -/
def State.Settled (s : State) (n : Nat) (q : SeqState) (t : State) : Prop :=
  (∃ x y b, t = { s with sq := { s.sq with seqs := x }, fab := y, hist := { s.hist with banks := b } }) ∧ t.seq n = q ∧
    ∀ k, (t.bank k).state = (s.bank k).state

theorem State.AtSeq.settled (h : s.AtSeq n q t) : s.Settled n q t := by
  obtain ⟨⟨x, y, rfl⟩, hq⟩ := h
  exact ⟨⟨x, y, s.hist.banks, rfl⟩, hq, fun _ => rfl⟩

theorem State.Settled.trans {p : SeqState} (h : s.Settled n p t) (h' : t.Settled n q u) : s.Settled n q u := by
  obtain ⟨⟨x, y, b, rfl⟩, -, hb⟩ := h
  obtain ⟨⟨x', y', b', rfl⟩, hq, hb'⟩ := h'
  exact ⟨⟨x', y', b', rfl⟩, hq, fun k => (hb' k).trans (hb k)⟩

/-- Everything but the sequencers, the event fabric and the banks stands. -/
theorem State.Settled.field {β : Type} (h : s.Settled n q t) (g : State → β)
    (hg : ∀ x y b, g { s with sq := { s.sq with seqs := x }, fab := y, hist := { s.hist with banks := b } } = g s) :
    g t = g s := by
  obtain ⟨⟨x, y, b, rfl⟩, -⟩ := h
  exact hg x y b

/-- The end of a step marks its banks. -/
theorem State.finishBanks_settled (s : State) (n : Nat) : s.Settled n (s.seq n) (s.finishBanks n) := by
  refine State.each_keeps s (fun t => s.Settled n (s.seq n) t) _ _ (fun t b _ h => ?_) (State.AtSeq.refl s n).settled
  obtain ⟨⟨x, y, z, rfl⟩, hq, hb⟩ := h
  refine ⟨⟨x, y, _, rfl⟩, hq, fun k => ?_⟩
  rw [← hb k]
  unfold State.modBank
  by_cases hk : k = b
  · subst hk; rw [State.bank_setBank_self]
  · rw [State.bank_setBank_ne _ _ _ _ hk]

/-- The index of the step that begins with entry `e` (R93). -/
def SeqState.indexAfter (q : SeqState) (e : ListEntry) : Nat :=
  if q.first ∨ e.stepCtrl = 2 then 0 else nextIndex q.step.index

/-- The boundary at which a step begins: the step before is finished, and joins the skipped ones where it was skipped. -/
theorem State.plainBoundary_begins {e : ListEntry} (hh : (s.seq n).halting = false)
    (he : e = s.sq.mem.entry (s.seq n).nextEntry) (hb : (s.seq n).begins e = true) (x : Int) (f : Tq) (due : Bool) :
    ∃ v c, s.Settled n { s.seq n with counters := { (s.seq n).counters with stepForced := c } } v ∧
      s.plainBoundary n x f due = (if (s.seq n).first = true ∨ (s.seq n).step.reasons = 0 then v
        else v.joinSkip n (s.seq n).step.skipRun).enterStep n (s.seq n).nextEntry ((s.seq n).indexAfter e) x f due false := by
  subst he
  let forced := decide (64 ≤ (s.seq n).step.granules) &&
    decide ((s.sq.mem.entry (s.seq n).nextEntry).stepCtrl = 0) && !(s.seq n).first
  let u := if forced then
      s.modSeq n fun q => { q with counters := { q.counters with stepForced := q.counters.stepForced.inc } }
    else s
  obtain ⟨c, hu⟩ : ∃ c, s.AtSeq n { s.seq n with counters := { (s.seq n).counters with stepForced := c } } u := by
    by_cases hf : forced = true
    · have he : u = s.modSeq n _ := if_pos hf
      rw [he]
      exact ⟨_, (State.AtSeq.refl s n).modSeq _⟩
    · have he : u = s := if_neg hf
      rw [he]
      exact ⟨(s.seq n).counters.stepForced, State.AtSeq.refl s n⟩
  have hpb : s.plainBoundary n x f due = (if (s.seq n).first then u else u.finishStep n).enterStep n (s.seq n).nextEntry
      ((s.seq n).indexAfter (s.sq.mem.entry (s.seq n).nextEntry)) x f due false := by
    unfold State.plainBoundary
    dsimp only
    rw [hh, if_neg Bool.false_ne_true, if_pos hb]; rfl
  by_cases hfirst : (s.seq n).first = true
  · exact ⟨u, c, hu.settled, by rw [hpb, if_pos hfirst, if_pos (.inl hfirst)]⟩
  · have hfin := hu.settled.trans (hu.2 ▸ u.finishBanks_settled n)
    refine ⟨u.finishBanks n, c, hfin, ?_⟩
    have hst : ((u.finishBanks n).seq n).step = (s.seq n).step := by rw [hfin.2.1]
    rw [hpb, if_neg hfirst]
    unfold State.finishStep
    dsimp only
    rw [hst]
    by_cases hr : (s.seq n).step.reasons = 0
    · rw [if_pos hr, if_pos (.inr hr)]
    · rw [if_neg hr, if_neg (fun h => h.elim hfirst hr)]

/-! ## Admission (R14, R94, R109) -/

/-- A step without placeholders begins with no placeholder. -/
theorem State.src_of_stepAt {i : Nat} (h : (s.stepAt i).2 = 0) : (s.sq.mem.entry i).src = false := by
  unfold State.stepAt stepScan at h
  simp only [Bool.not_true, Bool.false_and, Bool.false_eq_true, if_false] at h
  have : (s.sq.mem.entry i).src.toNat = 0 := by omega
  cases hs : (s.sq.mem.entry i).src
  · rfl
  · rw [hs] at this; cases this

/-- The step that begins with granule `g`, and `why` of its admission. -/
def State.newStep (s : State) (q : SeqState) (g : ListEntry) (index : Nat) (f : Tq) (x : Int) (why : Reasons) : Step :=
  { index := index, rows := g.mask &&& q.cfg.rows, profile := g.gateProfile, granules := 0, dark := 0, streamed := false,
    admitted := decide (why = 0), first := f, epoch := s.tb.epoch, facet := s.facetAt q x,
    twilight := decide (s.sv.run = .twilight), channels := s.channelsOf (g.mask &&& q.cfg.rows), reasons := why }

/-- Why a step that waits for no streamed granule is not admitted. -/
def State.whyNot (s : State) (q : SeqState) (g : ListEntry) : Reasons :=
  s.admission q (s.channelsOf (g.mask &&& q.cfg.rows)) true false

/-- The reasons for which such a step is not admitted (R14, R25, R109, R179). -/
theorem State.whyNot_eq (s : State) (q : SeqState) (g : ListEntry) : s.whyNot q g =
    (if s.hasCredit (s.channelsOf (g.mask &&& q.cfg.rows)).length (s.stream q.cfg.resultStream).cfg.maxEchoes then 0
      else Reasons.credit) |||
    (if (s.channelsOf (g.mask &&& q.cfg.rows)).all fun c => decide ((s.bank (s.nextBankOf c)).state = .free) then 0
      else Reasons.bank) |||
    (if s.firingStopped || !s.groupsReady (s.channelsOf (g.mask &&& q.cfg.rows)) then Reasons.reference else 0) |||
    (if !s.sv.permit || s.sv.dark || s.dev.pfail then Reasons.safety else 0) := by
  unfold State.whyNot State.admission State.issueReasons
  cases s.firingStopped <;> cases s.groupsReady (s.channelsOf (g.mask &&& q.cfg.rows)) <;>
    simp [BitVec.or_assoc, BitVec.or_comm Reasons.reference]

/-- A reason that stands already changes nothing. -/
theorem Reasons.or_again (a b r : Reasons) : a ||| r ||| b ||| r ||| 0 = a ||| r ||| b := by
  refine BitVec.or_zero.trans ?_
  rw [BitVec.or_assoc a r b, BitVec.or_comm r b, ← BitVec.or_assoc, BitVec.or_assoc, BitVec.or_self]

/-- A step that waits for no streamed granule begins, in a sequencer that is in no under-run. -/
theorem State.enterStep_resident {i : Nat} (h : (s.stepAt i).2 = 0) (index : Nat) (x : Int) (f : Tq) :
    s.enterStep n i index x f false false =
      (s.beginStep n (s.sq.mem.entry i) index f x true false).playGranule n i (s.sq.mem.entry i) true x f := by
  have hg : s.granule (s.seq n) i = (s.sq.mem.entry i, true) := by
    unfold State.granule
    dsimp only
    rw [State.src_of_stepAt h]; rfl
  unfold State.enterStep
  rw [show s.stepAt i = ((s.stepAt i).1, 0) from Prod.ext rfl h]
  dsimp only
  rw [if_neg (Nat.not_lt_zero _), if_neg Bool.false_ne_true, hg]
  rfl

/-- A step that is not admitted changes its sequencer alone (R109). -/
theorem State.atSeq_beginStep_refused {g : ListEntry} {index : Nat} {f : Tq} {x : Int} (hwhy : s.whyNot (s.seq n) g ≠ 0) :
    s.AtSeq n { s.seq n with step := s.newStep (s.seq n) g index f x (s.whyNot (s.seq n) g) }
      (s.beginStep n g index f x true false) := by
  have hset := s.atSeq_setSeq n { s.seq n with step := s.newStep (s.seq n) g index f x (s.whyNot (s.seq n) g) }
  have he : s.beginStep n g index f x true false =
      if g.stepCtrl = 2 then
        (s.setSeq n { s.seq n with step := s.newStep (s.seq n) g index f x (s.whyNot (s.seq n) g) }).publish (prodSeq n 1) f 0
      else s.setSeq n { s.seq n with step := s.newStep (s.seq n) g index f x (s.whyNot (s.seq n) g) } := by
    have hw : ¬ s.admission (s.seq n) (s.channelsOf (g.mask &&& (s.seq n).cfg.rows)) true false = 0 := hwhy
    unfold State.beginStep
    dsimp only
    rw [if_neg hw]
    rfl
  rw [he]
  split
  · exact hset.publish ..
  · exact hset

/-- The sequencer as a step that is not admitted begins. -/
def State.refused (s : State) (q : SeqState) (i index : Nat) (x : Int) (f : Tq) : SeqState :=
  s.atGranule { q with step := s.newStep q (s.sq.mem.entry i) index f x (s.whyNot q (s.sq.mem.entry i)) } i
    (s.sq.mem.entry i) true x

/-- A step that is not admitted: its granule is dark. -/
theorem State.enterStep_refused {i : Nat} (h : (s.stepAt i).2 = 0) (hwhy : s.whyNot (s.seq n) (s.sq.mem.entry i) ≠ 0)
    (index : Nat) (x : Int) (f : Tq) :
    s.AtSeq n (s.refused (s.seq n) i index x f) (s.enterStep n i index x f false false) := by
  have hb := s.atSeq_beginStep_refused (index := index) (f := f) (x := x) hwhy
  have hp := (s.beginStep n (s.sq.mem.entry i) index f x true false).atSeq_playGranule n i (s.sq.mem.entry i) true x f
  rw [State.enterStep_resident h]
  have hsame : (s.beginStep n (s.sq.mem.entry i) index f x true false).atGranule
      ((s.beginStep n (s.sq.mem.entry i) index f x true false).seq n) i (s.sq.mem.entry i) true x =
      s.refused (s.seq n) i index x f := by
    rw [hb.2]
    obtain ⟨⟨y, z, he⟩, -⟩ := hb
    rw [he]; rfl
  rw [hsame] at hp
  exact hb.trans hp

/-- What a step that is not admitted leaves of its sequencer. -/
theorem State.refused_eq {i : Nat} (hwhy : s.whyNot q (s.sq.mem.entry i) ≠ 0) (index : Nat) (x : Int) (f : Tq) :
    (s.refused q i index x f).granDark = true ∧ (s.refused q i index x f).step.admitted = false ∧
      (s.refused q i index x f).step.index = index ∧
      (s.refused q i index x f).step.reasons = s.whyNot q (s.sq.mem.entry i) ∧
      (s.refused q i index x f).counters.darkGranules = q.counters.darkGranules.inc ∧
      (s.refused q i index x f).k = q.k ∧ (s.refused q i index x f).skip = q.skip ∧
      (s.refused q i index x f).running = q.running := by
  let p : SeqState := { q with step := s.newStep q (s.sq.mem.entry i) index f x (s.whyNot q (s.sq.mem.entry i)) }
  have hadm : p.step.admitted = false := decide_eq_false hwhy
  have hrun : (s.refused q i index x f).running = q.running := s.atGranule_running p i _ true x
  obtain ⟨a, h, j, l, c, hg⟩ := s.atGranule_eq p i (s.sq.mem.entry i) true x
  have hr : s.refused q i index x f =
      { s.granuled p i (s.sq.mem.entry i) true x with after := a, halting := h, jump := j, loops := l, cond := c } := hg
  have hdark : (s.granuled p i (s.sq.mem.entry i) true x).granDark = true := by
    change (!p.step.admitted || (s.firingStopped || !s.groupsReady p.step.channels) || !true) = true
    rw [hadm]; rfl
  refine ⟨by rw [hr]; exact hdark, by rw [hr]; exact hadm, by rw [hr]; rfl, ?_, ?_, by rw [hr]; rfl, by rw [hr]; rfl, hrun⟩
  · rw [hr]
    change s.whyNot q (s.sq.mem.entry i) ||| (if s.firingStopped || !s.groupsReady p.step.channels then Reasons.reference else 0)
      ||| 0 = _
    have hch : p.step.channels = s.channelsOf ((s.sq.mem.entry i).mask &&& q.cfg.rows) := rfl
    rw [hch]
    rw [State.whyNot_eq]
    exact Reasons.or_again ..
  · rw [hr]
    change (if !p.step.admitted || (s.firingStopped || !s.groupsReady p.step.channels) || !true then
      q.counters.darkGranules.inc else q.counters.darkGranules) = _
    rw [hadm]; rfl

end Sys2Proof.Machine

/-! SUPPORT. SLOT_ISSUE at the boundary at which a step begins that plays dark: one that is not admitted, and one that waits for
streamed granules (R25, R93, R106, R109). -/

namespace Sys2Proof.Machine

variable {s t u v : State} {n : Nat} {p q : SeqState}

theorem State.Settled.atSeq (h : s.Settled n p t) (h' : t.AtSeq n q u) : s.Settled n q u := h.trans h'.settled

/-- The reasons against a step do not tell of what has been settled before it. -/
theorem State.Settled.whyNot (h : s.Settled n p v) (hcfg : p.cfg = (s.seq n).cfg) (g : ListEntry) :
    v.whyNot p g = s.whyNot (s.seq n) g := by
  obtain ⟨⟨x, y, b, rfl⟩, -, hb⟩ := h
  rw [State.whyNot_eq, State.whyNot_eq, hcfg]
  simp only [hb]
  rfl

/-- The sequencer at the boundary at which a step begins: one that the 64th granule forces may be counted. -/
def SeqState.counted (q : SeqState) (c : Count) : SeqState :=
  { q with counters := { q.counters with stepForced := c } }

/-- The issue of a slot with which a step begins. -/
theorem slotIssue_begins {f : Tq} {e : ListEntry} (hb : s.atBoundary n f) (hh : (s.seq n).halting = false)
    (hs : s.stopIsDue n = false) (he : e = s.sq.mem.entry (s.seq n).nextEntry) (hbeg : (s.seq n).begins e = true) :
    ∃ v c, s.Settled n ((s.seq n).counted c) v ∧ ∀ w,
      (if (s.seq n).first = true ∨ (s.seq n).step.reasons = 0 then v else v.joinSkip n (s.seq n).step.skipRun).enterStep n
        (s.seq n).nextEntry ((s.seq n).indexAfter e) ((s.seq n).accum.position (s.seq n).k) f false false = w →
      (w.seq n).running = true → exec (.slotIssue n) s = .next (w.playSlot n f false) := by
  obtain ⟨u, hu, hexec⟩ := slotIssue_boundary hb hh hs
  have hm : u.sq.mem = s.sq.mem := hu.field (fun s => s.sq.mem) fun _ _ => rfl
  obtain ⟨v, c, hv, hpb⟩ := State.plainBoundary_begins (s := u) (n := n) (e := e) (by rw [hu.2, hh]) (by rw [hm, hu.2, he])
    (by rw [hu.2, hbeg]) ((s.seq n).accum.position (s.seq n).k) f false
  rw [hu.2] at hpb
  refine ⟨v, c, ?_, fun w hw hrun => hexec w (hpb.trans hw) hrun⟩
  have h := hu.settled.trans hv
  rw [hu.2] at h
  exact h

/-- The issue of a slot with which a step begins, the step before not being skipped. -/
theorem slotIssue_stepBegins {f : Tq} {e : ListEntry} (hb : s.atBoundary n f) (hs : s.stepBegins n e) :
    ∃ v c, s.Settled n ((s.seq n).counted c) v ∧ (v.stepAt (s.seq n).nextEntry).2 = 0 ∧
      v.sq.mem.entry (s.seq n).nextEntry = e ∧ ∀ w,
      v.enterStep n (s.seq n).nextEntry ((s.seq n).indexAfter e) ((s.seq n).accum.position (s.seq n).k) f false false = w →
      (w.seq n).running = true → exec (.slotIssue n) s = .next (w.playSlot n f false) := by
  obtain ⟨hh, hstop, he, hbeg, hres, hfirst⟩ := hs
  obtain ⟨v, c, hv, hexec⟩ := slotIssue_begins hb hh hstop he hbeg
  rw [if_pos hfirst] at hexec
  exact ⟨v, c, hv, (hv.field (fun z => (z.stepAt (s.seq n).nextEntry).2) fun _ _ _ => rfl).trans hres,
    (hv.field (fun z => z.sq.mem.entry (s.seq n).nextEntry) fun _ _ _ => rfl).trans he.symm, hexec⟩

/-! ## Steps that are not admitted (R25, R109) -/

/-- A step that is not admitted changes no bank and fires nothing, and keeps every reason (R109). -/
theorem slotIssue_refused {f : Tq} {e : ListEntry} (hb : s.atBoundary n f) (hs : s.stepBegins n e)
    (hwhy : s.whyNot (s.seq n) e ≠ 0) :
    ∃ t, exec (.slotIssue n) s = .next t ∧ (t.seq n).step.admitted = false ∧
      (t.seq n).step.reasons = s.whyNot (s.seq n) e ∧
      (t.seq n).step.index = (if (s.seq n).first ∨ e.stepCtrl = 2 then 0 else ((s.seq n).step.index + 1) % 2 ^ 20) ∧
      (t.seq n).granDark = true ∧ (t.seq n).counters.darkGranules = (s.seq n).counters.darkGranules.inc ∧
      (t.seq n).k = (s.seq n).k + 1 ∧ (∀ c, t.histChan c = s.histChan c) ∧ t.rx = s.rx ∧ t.tx = s.tx ∧ t.eng = s.eng := by
  obtain ⟨v, c, hv, hres, he, hexec⟩ := slotIssue_stepBegins hb hs
  obtain ⟨-, hr, -⟩ := hb
  have hsame : v.whyNot ((s.seq n).counted c) (v.sq.mem.entry (s.seq n).nextEntry) = s.whyNot (s.seq n) e := by
    rw [he, hv.whyNot rfl]
  have hwhy' : v.whyNot ((s.seq n).counted c) (v.sq.mem.entry (s.seq n).nextEntry) ≠ 0 := by rw [hsame]; exact hwhy
  have hw := State.enterStep_refused (s := v) (n := n) hres (by rw [hv.2.1]; exact hwhy') ((s.seq n).indexAfter e)
    ((s.seq n).accum.position (s.seq n).k) f
  rw [hv.2.1] at hw
  obtain ⟨hdark, hadm, hindex, hreasons, hcount, hk, -, hrun⟩ := State.refused_eq hwhy' ((s.seq n).indexAfter e)
    ((s.seq n).accum.position (s.seq n).k) f
  have hidle := State.playSlot_idle (n := n) (f := f) (due := false) (State.plays_of_dark (s := v.enterStep n _ _ _ _ _ _)
    (by rw [hw.2]; exact hdark))
  have hset := (hv.atSeq hw).atSeq hidle
  refine ⟨_, hexec _ rfl (by rw [hw.2, hrun]; exact hr), ?_⟩
  have hseq := (v.enterStep n (s.seq n).nextEntry ((s.seq n).indexAfter e) ((s.seq n).accum.position (s.seq n).k) f false
    false).seq_playSlot_false n f
  rw [hw.2] at hseq
  obtain ⟨d, x, y, hsl, hd, -⟩ := State.slotted_eq (v.enterStep n (s.seq n).nextEntry ((s.seq n).indexAfter e)
    ((s.seq n).accum.position (s.seq n).k) f false false) (v.refused ((s.seq n).counted c) (s.seq n).nextEntry
      ((s.seq n).indexAfter e) ((s.seq n).accum.position (s.seq n).k) f) f
  rw [hseq, hsl]
  exact ⟨hadm, hreasons.trans hsame, hindex, hdark, hd.trans hcount, congrArg (· + 1) hk,
    fun c => hset.field (·.histChan c) fun _ _ _ => rfl, hset.field State.rx fun _ _ _ => rfl,
    hset.field State.tx fun _ _ _ => rfl, hset.field State.eng fun _ _ _ => rfl⟩

/-! ## Under-runs (R106) -/

/-- The sequencer as a step begins for which too few granules wait. -/
def State.underrunSeq (s : State) (q : SeqState) (i index : Nat) (x : Int) (f : Tq) : SeqState :=
  { q with
    run := .underrun
    fUnderrun := true
    entry := i
    step := { Step.none with index := index, first := f, epoch := s.tb.epoch, facet := s.facetAt q x,
                             reasons := s.issueReasons false }
    granDark := true
    first := false
    frozen := some { length := (s.stepAt i).1, granules := 1, first := f }
    counters := { q.counters with
      darkGranules := q.counters.darkGranules.inc
      underrunGranules := q.counters.underrunGranules.inc } }

theorem State.enterStep_underrun {i : Nat} (h : (s.seq n).waitingCount < (s.stepAt i).2) (index : Nat) (x : Int) (f : Tq) :
    s.AtSeq n (s.underrunSeq (s.seq n) i index x f) (s.enterStep n i index x f false false) := by
  have he : s.enterStep n i index x f false false =
      ((s.setSeq n { s.seq n with
          run := .underrun
          fUnderrun := true
          entry := i
          step := { Step.none with index := index, first := f, epoch := s.tb.epoch, facet := s.facetAt (s.seq n) x,
                                   reasons := s.issueReasons false }
          frozen := some { length := (s.stepAt i).1, granules := 0, first := f } }).publish (prodSeq n 3) f 0).darkGranule n f :=
    if_pos h
  rw [he]
  exact ((s.atSeq_setSeq n _).publish _ _ _).modSeq _

/-- A step that waits for streamed granules freezes in an under-run (R106). -/
theorem slotIssue_underrun {f : Tq} {e : ListEntry} (hb : s.atBoundary n f) (hh : (s.seq n).halting = false)
    (hs : s.stopIsDue n = false) (he : e = s.sq.mem.entry (s.seq n).nextEntry) (hbeg : (s.seq n).begins e = true)
    (hwait : (s.seq n).waitingCount < (s.stepAt (s.seq n).nextEntry).2)
    (hfirst : (s.seq n).first = true ∨ (s.seq n).step.reasons = 0) :
    ∃ t, exec (.slotIssue n) s = .next t ∧ (t.seq n).run = .underrun ∧ (t.seq n).fUnderrun = true ∧
      (t.seq n).entry = (s.seq n).nextEntry ∧ (t.seq n).granDark = true ∧
      (t.seq n).counters.underrunGranules = (s.seq n).counters.underrunGranules.inc ∧
      (t.seq n).rd = (s.seq n).rd ∧ (t.seq n).accum.freq = (s.seq n).accum.freq ∧ (t.seq n).k = (s.seq n).k + 1 ∧
      t.rx = s.rx ∧ t.tx = s.tx := by
  obtain ⟨v, c, hv, hexec⟩ := slotIssue_begins hb hh hs he hbeg
  rw [if_pos hfirst] at hexec
  have hstep : v.stepAt (s.seq n).nextEntry = s.stepAt (s.seq n).nextEntry :=
    hv.field (fun s => s.stepAt _) fun _ _ _ => rfl
  have hw := State.enterStep_underrun (s := v) (n := n) (i := (s.seq n).nextEntry) (by rw [hv.2.1, hstep]; exact hwait)
    ((s.seq n).indexAfter e) ((s.seq n).accum.position (s.seq n).k) f
  rw [hv.2.1] at hw
  have hidle := State.playSlot_idle (n := n) (f := f) (due := false) (State.plays_of_dark (s := v.enterStep n _ _ _ _ _ _)
    (by rw [hw.2]; rfl))
  have hset := (hv.atSeq hw).atSeq hidle
  refine ⟨_, hexec _ rfl (by rw [hw.2]; rfl), ?_⟩
  rw [hset.2.1, hw.2]
  exact ⟨rfl, rfl, rfl, rfl, rfl, rfl, rfl, rfl, hset.field State.rx fun _ _ _ => rfl,
    hset.field State.tx fun _ _ _ => rfl⟩

end Sys2Proof.Machine

/-! SUPPORT. Skip runs: what joins one, what closes one, and SLOT_ISSUE at a boundary that ends a skipped step (R109, R211,
R212). -/

namespace Sys2Proof.Machine

variable {s t u v : State} {n : Nat} {p q : SeqState}

/-! ## Numbers of a stream (R197, R208) -/

@[simp] theorem Stream.nextIssue_closeBatch (x : Stream) (b : Bool) : (x.closeBatch b).nextIssue = x.nextIssue := by
  unfold Stream.closeBatch
  split <;> rfl

@[simp] theorem Stream.cfg_closeBatch (x : Stream) (b : Bool) : (x.closeBatch b).cfg = x.cfg := by
  unfold Stream.closeBatch
  split <;> rfl

/-- The next number of a stream, and its configuration. -/
def Stream.issues (x : Stream) : Nat × StreamCfg := (x.nextIssue, x.cfg)

theorem Stream.cfg_of_issues {x y : Stream} (h : x.issues = y.issues) : x.cfg = y.cfg := congrArg Prod.snd h

theorem Stream.nextIssue_of_issues {x y : Stream} (h : x.issues = y.issues) : x.nextIssue = y.nextIssue := congrArg Prod.fst h

theorem Stream.issues_append (x : Stream) (now mtu : Nat) (r : Result) : (x.append now mtu r).issues = x.issues := by
  unfold Stream.append Stream.issues
  dsimp only
  (repeat' split) <;> simp

theorem Stream.issues_release (now mtu k : Nat) (x : Stream) : (x.release now mtu k).issues = x.issues := by
  induction k generalizing x with
  | zero => rfl
  | succ k ih =>
    unfold Stream.release
    split
    · rfl
    · rw [ih, Stream.issues_append]; rfl

/-- What leaves the issues of one stream leaves those of all. -/
theorem State.issues_modStream (s : State) (j : Nat) {f : Stream → Stream} (hf : ∀ x, (f x).issues = x.issues) (k : Nat) :
    ((s.modStream j f).stream k).issues = (s.stream k).issues := by
  unfold State.modStream
  by_cases h : k = j
  · rw [h, State.stream_setStream_self, hf]
  · rw [State.stream_setStream_ne _ _ _ _ h]

theorem State.stream_setRet (s : State) (r : Retention) (k : Nat) : ({ s with ret := r } : State).stream k = s.stream k := rfl

/-- A commit sets the limits of streams alone, which are no part of their issues. -/
theorem State.issues_commitWith (s : State) (also : List Nat) (w : Bool) (k : Nat) :
    ((s.commitWith also w).stream k).issues = (s.stream k).issues := by
  unfold State.commitWith
  dsimp only
  split
  · rfl
  · have hlimits (f : Nat → Stream → Stream) (hf : ∀ j x, (f j x).issues = x.issues) :
        ((s.each (List.range 64) fun u j => u.modStream j (f j)).stream k).issues = (s.stream k).issues :=
      State.each_field s (fun u => (u.stream k).issues) _ _ fun u j => u.issues_modStream j (hf j) k
    rw [State.stream_setRet]
    exact hlimits _ (by intro j x; rfl)

/-! ## The end of a run (R212) -/

/-- `t` is `s` with the skip run of sequencer `n` closed into a record: of the streams and retention memory the numbers of its
stream go on. -/
def State.SkipClosed (s : State) (n : Nat) (t : State) : Prop :=
  (∃ x e r, t = { s with sq := { s.sq with seqs := x }, eng := e, ret := r }) ∧
    t.seq n = { s.seq n with skip := none } ∧ (∀ k, (t.stream k).cfg = (s.stream k).cfg) ∧
    (t.stream (s.seq n).cfg.resultStream).nextIssue = (s.stream (s.seq n).cfg.resultStream).nextIssue + 1

theorem State.commitWith_eq (s : State) (also : List Nat) (w : Bool) :
    ∃ e r, s.commitWith also w = { s with eng := e, ret := r } :=
  ⟨(s.commitWith also w).eng, (s.commitWith also w).ret,
    congrArg (fun u : State => { u with eng := (s.commitWith also w).eng, ret := (s.commitWith also w).ret })
      (s.commitWith_frame also w).1⟩

/-- A result that commits leaves the numbers of its stream. -/
theorem State.issues_commitResult (s : State) (k : Nat) (r : Result) (j : Nat) :
    ((s.commitResult k r).stream j).issues = (s.stream j).issues := by
  unfold State.commitResult State.releaseStream
  exact (State.issues_modStream _ k (by intro x; exact Stream.issues_release _ _ _ x) j).trans
    (State.issues_modStream s k (by intro x; rfl) j)

theorem State.commitResult_eq (s : State) (k : Nat) (r : Result) :
    ∃ e, s.commitResult k r = { s with eng := e } := ⟨_, rfl⟩

/-- The state in which a special record of stream `k` takes its number: at the limit after a commit (R409). -/
def State.toIssue (s : State) (k : Nat) : State := if (s.stream k).atLimit then s.commitWith [k] false else s

theorem State.toIssue_eq (s : State) (k : Nat) : (∃ e r, s.toIssue k = { s with eng := e, ret := r }) ∧
    ∀ j, ((s.toIssue k).stream j).issues = (s.stream j).issues := by
  unfold State.toIssue
  split
  · exact ⟨s.commitWith_eq [k] false, s.issues_commitWith [k] false⟩
  · exact ⟨⟨s.eng, s.ret, rfl⟩, fun _ => rfl⟩

/-- The next number of stream `k` is taken. -/
def State.takeNumber (s : State) (k : Nat) : State := s.modStream k fun x => { x with nextIssue := (s.stream k).nextIssue + 1 }

theorem State.takeNumber_eq (s : State) (k : Nat) : (∃ e, s.takeNumber k = { s with eng := e }) ∧
    (∀ j, ((s.takeNumber k).stream j).cfg = (s.stream j).cfg) ∧
    ((s.takeNumber k).stream k).nextIssue = (s.stream k).nextIssue + 1 := by
  refine ⟨⟨_, rfl⟩, fun j => ?_, ?_⟩
  · unfold State.takeNumber State.modStream
    by_cases h : j = k
    · rw [h, State.stream_setStream_self]
    · rw [State.stream_setStream_ne _ _ _ _ h]
  · rw [State.takeNumber, State.modStream, State.stream_setStream_self]

/-- A special record takes the next number of its stream. -/
theorem State.issueSpecial_eq (s : State) (k : Nat) (mk : Nat → Result) :
    (∃ e r, s.issueSpecial k mk = { s with eng := e, ret := r }) ∧
      (∀ j, ((s.issueSpecial k mk).stream j).cfg = (s.stream j).cfg) ∧
      ((s.issueSpecial k mk).stream k).nextIssue = (s.stream k).nextIssue + 1 := by
  have he : s.issueSpecial k mk =
      ((s.toIssue k).takeNumber k).commitResult k (mk ((s.toIssue k).stream k).nextIssue) := rfl
  obtain ⟨⟨e, r, hto⟩, hiss⟩ := s.toIssue_eq k
  obtain ⟨⟨e', htake⟩, hcfg, hnum⟩ := (s.toIssue k).takeNumber_eq k
  obtain ⟨e'', hres⟩ := ((s.toIssue k).takeNumber k).commitResult_eq k (mk ((s.toIssue k).stream k).nextIssue)
  have hkeep := ((s.toIssue k).takeNumber k).issues_commitResult k (mk ((s.toIssue k).stream k).nextIssue)
  rw [he]
  refine ⟨⟨e'', r, ?_⟩, fun j => ?_, ?_⟩
  · rw [hres, htake, hto]
  · rw [Stream.cfg_of_issues (hkeep j), hcfg, Stream.cfg_of_issues (hiss j)]
  · rw [Stream.nextIssue_of_issues (hkeep k), hnum, Stream.nextIssue_of_issues (hiss k)]

theorem State.closeSkip_none (h : (s.seq n).skip = none) : s.closeSkip n = s := by
  rw [State.closeSkip, h]

/-- An open run closes, unless a power warning stands. -/
theorem State.closeSkip_some {r : SkipRun} (h : (s.seq n).skip = some r) (hp : s.dev.pfail = false) :
    s.SkipClosed n (s.closeSkip n) := by
  have he : s.closeSkip n = (s.modSeq n fun q => { q with skip := none }).issueSpecial (s.seq n).cfg.resultStream fun k =>
      { number := k, kind := .skip, recs := [skipRec r], seq := n, epoch := r.epoch, facet := r.facet,
        step := r.firstStep, time := r.firstTime } := by
    rw [State.closeSkip, h]
    dsimp only
    rw [hp]; rfl
  obtain ⟨⟨e, rt, hiss⟩, hcfg, hnum⟩ := (s.modSeq n fun q => { q with skip := none }).issueSpecial_eq
    (s.seq n).cfg.resultStream fun k =>
      { number := k, kind := .skip, recs := [skipRec r], seq := n, epoch := r.epoch, facet := r.facet,
        step := r.firstStep, time := r.firstTime }
  rw [he]
  refine ⟨⟨(s.modSeq n fun q => { q with skip := none }).sq.seqs, e, rt, hiss⟩, ?_, hcfg, hnum⟩
  rw [hiss]
  exact State.seq_setSeq_self ..

/-! ## What joins a run (R109, R110, R212) -/

/-- `t` is `s` with `o` as the skip run of sequencer `n`. -/
def State.Joined (s : State) (n : Nat) (o : SkipRun) (t : State) : Prop :=
  (∃ x e r, t = { s with sq := { s.sq with seqs := x }, eng := e, ret := r }) ∧
    ∃ c, t.seq n = { s.seq n with counters := c, skip := some o }

theorem State.SkipClosed.keeps (h : s.SkipClosed n t) : t.dev = s.dev ∧ t.sv = s.sv ∧ t.sq.mem = s.sq.mem := by
  obtain ⟨⟨x, e, r, rfl⟩, -⟩ := h
  exact ⟨rfl, rfl, rfl⟩

/-- A skipped step joins the run that is open, if one is. -/
def SkipRun.joined (r : SkipRun) : Option SkipRun → Option SkipRun
  | none => some r
  | some o => some { o with count := min (2 ^ 20 - 1) (o.count + 1), reasons := o.reasons ||| r.reasons,
                            granules := o.granules + r.granules }

/-- A skipped step of sequencer `n` is counted. -/
def State.countSkipped (s : State) (n : Nat) : State :=
  s.modSeq n fun q => { q with counters := { q.counters with skippedSteps := q.counters.skippedSteps.inc } }

theorem State.countSkipped_eq (s : State) (n : Nat) : (∃ x, s.countSkipped n = { s with sq := { s.sq with seqs := x } }) ∧
    ∃ c, (s.countSkipped n).seq n = { s.seq n with counters := c } :=
  ⟨⟨_, rfl⟩, _, State.seq_setSeq_self ..⟩

/-- The run that is open, once it has closed where the step `r` does not go on with it (R212). -/
def State.runFor (s : State) (n : Nat) (r : SkipRun) : State :=
  if (match (s.seq n).skip with
    | none => false
    | some o => decide ((o.firstStep + o.count) % 2 ^ 20 = r.firstStep % 2 ^ 20) || s.dev.pfail) then s else s.closeSkip n

theorem State.stream_of_eng (h : t.eng = s.eng) (k : Nat) : t.stream k = s.stream k := by
  unfold State.stream
  rw [h]

/-- A skipped step is counted, the run before it closes or not, and it joins; a run of 2^20 − 1 steps closes. -/
theorem State.joinSkip_match (s : State) (n : Nat) (r : SkipRun) : s.joinSkip n r =
    (match ((((s.countSkipped n).runFor n r).modSeq n fun q => { q with skip := r.joined q.skip }).seq n).skip with
      | some o =>
        if o.count = 2 ^ 20 - 1 then
          (((s.countSkipped n).runFor n r).modSeq n fun q => { q with skip := r.joined q.skip }).closeSkip n
        else ((s.countSkipped n).runFor n r).modSeq n fun q => { q with skip := r.joined q.skip }
      | none => ((s.countSkipped n).runFor n r).modSeq n fun q => { q with skip := r.joined q.skip }) := by
  unfold State.joinSkip State.runFor State.countSkipped SkipRun.joined
  rfl

/-- The step `r` joins what is open, and the run stays open while its count is below 2^20 − 1. -/
theorem State.joinSkip_eq {r o : SkipRun} (h : r.joined (((s.countSkipped n).runFor n r).seq n).skip = some o)
    (hc : o.count ≠ 2 ^ 20 - 1) :
    s.joinSkip n r = ((s.countSkipped n).runFor n r).modSeq n fun q => { q with skip := r.joined q.skip } := by
  have hw : ((((s.countSkipped n).runFor n r).modSeq n fun q => { q with skip := r.joined q.skip }).seq n).skip = some o := by
    rw [State.modSeq, State.seq_setSeq_self, ← h]
  rw [State.joinSkip_match, hw]
  exact if_neg hc

theorem State.joined_of_runFor {r o : SkipRun} (hr : ∃ x e rt, (s.countSkipped n).runFor n r =
      { s with sq := { s.sq with seqs := x }, eng := e, ret := rt })
    (hq : ∃ c k, ((s.countSkipped n).runFor n r).seq n = { s.seq n with counters := c, skip := k } ∧ r.joined k = some o)
    (hc : o.count ≠ 2 ^ 20 - 1) :
    s.Joined n o (s.joinSkip n r) ∧ (s.joinSkip n r).eng = ((s.countSkipped n).runFor n r).eng := by
  obtain ⟨x, e, rt, hx⟩ := hr
  obtain ⟨c, k, hk, ho⟩ := hq
  rw [State.joinSkip_eq (o := o) (by rw [hk]; exact ho) hc]
  refine ⟨⟨?_, c, ?_⟩, State.eng_setSeq ..⟩
  · rw [hx]
    exact ⟨_, e, rt, rfl⟩
  · rw [State.modSeq, State.seq_setSeq_self, hk, ← ho]

/-- A skipped step opens a run where none is open (R212). -/
theorem State.joinSkip_opens {r : SkipRun} (h : (s.seq n).skip = none) (hc : r.count ≠ 2 ^ 20 - 1) :
    s.Joined n r (s.joinSkip n r) := by
  obtain ⟨⟨x, hx⟩, c, hq⟩ := s.countSkipped_eq n
  have hskip : ((s.countSkipped n).seq n).skip = none := by rw [hq]; exact h
  have hrun : (s.countSkipped n).runFor n r = s.countSkipped n := by
    rw [State.runFor, hskip, State.closeSkip_none hskip, ite_self]
  refine (State.joined_of_runFor (o := r) ?_ ⟨c, none, ?_, rfl⟩ hc).1
  · rw [hrun, hx]
    exact ⟨x, s.eng, s.ret, rfl⟩
  · rw [hrun, hq, ← h]

/-- A skipped step goes on with the run that it follows (R212). -/
theorem State.joinSkip_joins {r o : SkipRun} (h : (s.seq n).skip = some o)
    (hf : (o.firstStep + o.count) % 2 ^ 20 = r.firstStep % 2 ^ 20) (hc : o.count + 2 < 2 ^ 20) :
    s.Joined n { o with count := o.count + 1, reasons := o.reasons ||| r.reasons, granules := o.granules + r.granules }
      (s.joinSkip n r) := by
  obtain ⟨⟨x, hx⟩, c, hq⟩ := s.countSkipped_eq n
  have hskip : ((s.countSkipped n).seq n).skip = some o := by rw [hq]; exact h
  have hrun : (s.countSkipped n).runFor n r = s.countSkipped n := by
    rw [State.runFor, hskip]
    exact if_pos (Bool.or_eq_true_iff.mpr (.inl (decide_eq_true hf)))
  have hmin : min (2 ^ 20 - 1) (o.count + 1) = o.count + 1 := by omega
  refine (State.joined_of_runFor ?_ ⟨c, some o, ?_, by rw [SkipRun.joined, hmin]⟩ ?_).1
  · rw [hrun, hx]
    exact ⟨x, s.eng, s.ret, rfl⟩
  · rw [hrun, hq, ← h]
  · change o.count + 1 ≠ 2 ^ 20 - 1
    omega

/-- A skipped step that does not follow closes the open run, and opens another (R212). -/
theorem State.joinSkip_closes {r o : SkipRun} (h : (s.seq n).skip = some o)
    (hf : (o.firstStep + o.count) % 2 ^ 20 ≠ r.firstStep % 2 ^ 20) (hp : s.dev.pfail = false) (hc : r.count ≠ 2 ^ 20 - 1) :
    s.Joined n r (s.joinSkip n r) ∧ ((s.joinSkip n r).stream (s.seq n).cfg.resultStream).nextIssue =
      (s.stream (s.seq n).cfg.resultStream).nextIssue + 1 := by
  obtain ⟨⟨x, hx⟩, c, hq⟩ := s.countSkipped_eq n
  have hskip : ((s.countSkipped n).seq n).skip = some o := by rw [hq]; exact h
  have hp' : (s.countSkipped n).dev.pfail = false := by rw [hx]; exact hp
  have hrun : (s.countSkipped n).runFor n r = (s.countSkipped n).closeSkip n := by
    rw [State.runFor, hskip]
    exact if_neg (fun h => (Bool.or_eq_true_iff.mp h).elim (fun h => hf (of_decide_eq_true h))
      (fun h => Bool.false_ne_true (hp'.symm.trans h)))
  obtain ⟨⟨y, e, rt, hy⟩, hseq, -, hnum⟩ := State.closeSkip_some hskip hp'
  have hj := State.joined_of_runFor (s := s) (n := n) (r := r) (o := r) ?_ ⟨c, none, ?_, rfl⟩ hc
  · refine ⟨hj.1, ?_⟩
    rw [State.stream_of_eng (hj.2.trans (congrArg State.eng hrun))]
    have hbefore : (s.countSkipped n).eng = s.eng := (congrArg State.eng hx :)
    rw [hq, State.stream_of_eng hbefore] at hnum
    exact hnum
  · rw [hrun, hy, hx]
    exact ⟨y, e, rt, rfl⟩
  · rw [hrun, hseq, hq]

/-! ## The boundary after a skipped step -/

/-- Without a permit no step is admitted (R109). -/
theorem State.whyNot_no_permit (h : s.sv.permit = false) (q : SeqState) (g : ListEntry) : s.whyNot q g ≠ 0 := by
  have hsafety (a : Reasons) : a ||| Reasons.safety ≠ 0 := fun h => by
    have h4 := congrArg (·.getLsbD 4) h
    simp [Reasons.safety] at h4
  rw [State.whyNot_eq, h]
  exact hsafety _

/-- SLOT_ISSUE at the boundary after a skipped step, where no permit is given: the next step is not admitted, and the run is as
the end of the step has left it. -/
theorem slotIssue_skipped {f : Tq} {e : ListEntry} {o : SkipRun} (hb : s.atBoundary n f) (hh : (s.seq n).halting = false)
    (hs : s.stopIsDue n = false) (he : e = s.sq.mem.entry (s.seq n).nextEntry) (hbeg : (s.seq n).begins e = true)
    (hres : (s.stepAt (s.seq n).nextEntry).2 = 0) (hfirst : (s.seq n).first = false) (hreas : (s.seq n).step.reasons ≠ 0)
    (hpermit : s.sv.permit = false)
    (hjoin : ∀ v c, s.Settled n ((s.seq n).counted c) v → v.Joined n o (v.joinSkip n (s.seq n).step.skipRun)) :
    ∃ t v c, exec (.slotIssue n) s = .next t ∧ s.Settled n ((s.seq n).counted c) v ∧ (t.seq n).skip = some o ∧
      t.eng = (v.joinSkip n (s.seq n).step.skipRun).eng := by
  obtain ⟨v, c, hv, hexec⟩ := slotIssue_begins hb hh hs he hbeg
  obtain ⟨-, hr, -⟩ := hb
  have hnot : ¬ ((s.seq n).first = true ∨ (s.seq n).step.reasons = 0) := fun h => h.elim (by simp [hfirst]) hreas
  rw [if_neg hnot] at hexec
  have hjoined := hjoin v c hv
  obtain ⟨w, hdef⟩ : ∃ w, v.joinSkip n (s.seq n).step.skipRun = w := ⟨_, rfl⟩
  rw [hdef] at hexec hjoined
  obtain ⟨⟨x, en, rt, hw⟩, d, hq⟩ := hjoined
  let i := (s.seq n).nextEntry
  have hsv : w.sv = s.sv := (congrArg State.sv hw).trans (hv.field State.sv fun _ _ _ => rfl)
  have hmem : w.sq.mem = s.sq.mem :=
    (congrArg (fun z : State => z.sq.mem) hw).trans (hv.field (fun z => z.sq.mem) fun _ _ _ => rfl)
  have hres' : (w.stepAt i).2 = 0 := by
    rw [State.stepAt, hmem]; exact hres
  have hwhy : w.whyNot (w.seq n) (w.sq.mem.entry i) ≠ 0 := State.whyNot_no_permit (by rw [hsv, hpermit]) _ _
  have hgo := State.enterStep_refused hres' hwhy ((s.seq n).indexAfter e) ((s.seq n).accum.position (s.seq n).k) f
  obtain ⟨hdark, -, -, -, -, -, hskip, hrun⟩ := State.refused_eq hwhy ((s.seq n).indexAfter e)
    ((s.seq n).accum.position (s.seq n).k) f
  have hidle := State.playSlot_idle (n := n) (f := f) (due := false) (State.plays_of_dark (s := w.enterStep n _ _ _ _ _ _)
    (by rw [hgo.2]; exact hdark))
  refine ⟨_, v, c, hexec _ rfl ?_, hv, ?_, by rw [hdef]; exact (hgo.trans hidle).eng⟩
  · rw [hgo.2, hrun, hq, hv.2.1]; exact hr
  · rw [hidle.2, hgo.2]
    exact hskip.trans (by rw [hq])

/-- The run of skipped steps goes on where the indices follow each other, and is closed where they do not (R212). -/
theorem slotIssue_skip_run {f : Tq} {e : ListEntry} (hb : s.atBoundary n f) (hh : (s.seq n).halting = false)
    (hs : s.stopIsDue n = false) (he : e = s.sq.mem.entry (s.seq n).nextEntry) (hbeg : (s.seq n).begins e = true)
    (hres : (s.stepAt (s.seq n).nextEntry).2 = 0) (hfirst : (s.seq n).first = false) (hreas : (s.seq n).step.reasons ≠ 0)
    (hpermit : s.sv.permit = false) :
    ((s.seq n).skip = none → ∃ t, exec (.slotIssue n) s = .next t ∧ (t.seq n).skip = some (s.seq n).step.skipRun) ∧
    (∀ o, (s.seq n).skip = some o → (o.firstStep + o.count) % 2 ^ 20 = (s.seq n).step.index % 2 ^ 20 → o.count + 2 < 2 ^ 20 →
      ∃ t, exec (.slotIssue n) s = .next t ∧ (t.seq n).skip = some { o with
        count := o.count + 1, reasons := o.reasons ||| (s.seq n).step.reasons,
        granules := o.granules + (s.seq n).step.dark }) ∧
    (∀ o, (s.seq n).skip = some o → (o.firstStep + o.count) % 2 ^ 20 ≠ (s.seq n).step.index % 2 ^ 20 → s.dev.pfail = false →
      ∃ t, exec (.slotIssue n) s = .next t ∧ ((t.seq n).skip.map (·.firstStep)) = some (s.seq n).step.index ∧
        (t.stream (s.seq n).cfg.resultStream).nextIssue = (s.stream (s.seq n).cfg.resultStream).nextIssue + 1) := by
  have hone : (s.seq n).step.skipRun.count ≠ 2 ^ 20 - 1 := by
    change 1 ≠ 2 ^ 20 - 1
    decide
  have hskip {v : State} {c : Count} (hv : s.Settled n ((s.seq n).counted c) v) : (v.seq n).skip = (s.seq n).skip := by
    rw [hv.2.1]; rfl
  refine ⟨fun h => ?opens, fun o h hf hc => ?joins, fun o h hf hp => ?closes⟩
  case opens =>
    obtain ⟨t, -, -, hexec, -, ht, -⟩ := slotIssue_skipped hb hh hs he hbeg hres hfirst hreas hpermit
      fun v c hv => State.joinSkip_opens ((hskip hv).trans h) hone
    exact ⟨t, hexec, ht⟩
  case joins =>
    obtain ⟨t, -, -, hexec, -, ht, -⟩ := slotIssue_skipped hb hh hs he hbeg hres hfirst hreas hpermit
      fun v c hv => State.joinSkip_joins ((hskip hv).trans h) hf hc
    exact ⟨t, hexec, ht⟩
  case closes =>
    have hpv {v : State} {c : Count} (hv : s.Settled n ((s.seq n).counted c) v) : v.dev.pfail = false :=
      (hv.field (·.dev.pfail) fun _ _ _ => rfl).trans hp
    obtain ⟨t, v, c, hexec, hv, ht, heng⟩ := slotIssue_skipped hb hh hs he hbeg hres hfirst hreas hpermit
      fun v c hv => (State.joinSkip_closes ((hskip hv).trans h) hf (hpv hv) hone).1
    refine ⟨t, hexec, by rw [ht]; rfl, ?_⟩
    have hnum := (State.joinSkip_closes ((hskip hv).trans h) hf (hpv hv) hone).2
    have hcfg : (v.seq n).cfg.resultStream = (s.seq n).cfg.resultStream := by rw [hv.2.1]; rfl
    have heng' : v.eng = s.eng := hv.field State.eng fun _ _ _ => rfl
    rw [hcfg, State.stream_of_eng heng'] at hnum
    rw [State.stream_of_eng heng, hnum]

end Sys2Proof.Machine

/-! SUPPORT. A step that is admitted: its credits, its banks and the granule it begins with (R14, R94, R179, R212). -/

namespace Sys2Proof.Machine

variable {s t u v : State} {n : Nat} {p q : SeqState}

/-! ## Credits (R14, R200) -/

/-- Slots reserved are counted in the output buffer; the numbers and the configuration of every stream stand. -/
theorem State.reserve_eq (s : State) (n k : Nat) : (∃ e, s.reserve n k = { s with eng := e }) ∧
    (s.reserve n k).eng.slotsUsed = s.eng.slotsUsed + k ∧ ∀ j, ((s.reserve n k).stream j).issues = (s.stream j).issues :=
  ⟨⟨_, rfl⟩, rfl, fun j => State.issues_modStream s n (f := fun x => { x with reserved := x.reserved + k }) (fun _ => rfl) j⟩

/-! ## Banks (R179) -/

/-- Bank `b` fills with a step of sequencer `n` that began at `f`. -/
def State.takenBy (s : State) (n : Nat) (f : Tq) (b : Nat) : Prop :=
  (s.bank b).state = .filling ∧ ((s.bank b).step.map fun x => (x.seq, x.stream, x.time, x.credit)) =
    some (n, (s.seq n).cfg.resultStream, f, (s.stream (s.seq n).cfg.resultStream).cfg.maxEchoes)

theorem State.takenBy_takeBank (s : State) (n c : Nat) (st : Step) : (s.takeBank n c st).takenBy n st.first (s.nextBankOf c) := by
  unfold State.takeBank State.takenBy State.modHistChan State.modBank
  dsimp only
  rw [State.bank_setHistChan, State.bank_setBank_self]
  exact ⟨rfl, rfl⟩

/-- A bank that is taken stays so while others are. -/
theorem State.takenBy.takeBank {c : Nat} {st : Step} {b : Nat} (h : s.takenBy n st.first b) :
    (s.takeBank n c st).takenBy n st.first b := by
  by_cases hb : b = s.nextBankOf c
  · rw [hb]; exact s.takenBy_takeBank n c st
  · have hbank : (s.takeBank n c st).bank b = s.bank b := by
      unfold State.takeBank State.modHistChan State.modBank
      dsimp only
      rw [State.bank_setHistChan, State.bank_setBank_ne _ _ _ _ hb]
    unfold State.takenBy
    rw [hbank]
    exact h

theorem State.nextBank_takeBank (s : State) (n c : Nat) (st : Step) (d : Nat) : ((s.takeBank n c st).histChan d).nextBank =
    if d = c then 1 - (s.histChan d).nextBank else (s.histChan d).nextBank := by
  unfold State.takeBank State.modHistChan State.modBank
  dsimp only
  split
  next h => rw [h, State.histChan_setHistChan_self]; rfl
  next h => rw [State.histChan_setHistChan_ne _ _ _ _ h]; rfl

/-- An admitted step takes the next bank of each of its channels, and NEXT_BANK of each flips (R179). -/
theorem State.takeBanks (n : Nat) (st : Step) (cs : List Nat) (hnd : cs.Nodup) (s : State) :
    (∃ h, (s.each cs fun s c => s.takeBank n c st) = { s with hist := h }) ∧
    (∀ c ∉ cs, ((s.each cs fun s c => s.takeBank n c st).histChan c).nextBank = (s.histChan c).nextBank) ∧
    ∀ c ∈ cs, ((s.each cs fun s c => s.takeBank n c st).histChan c).nextBank = 1 - (s.histChan c).nextBank ∧
      (s.each cs fun s c => s.takeBank n c st).takenBy n st.first (s.nextBankOf c) := by
  induction cs generalizing s with
  | nil => exact ⟨⟨s.hist, rfl⟩, fun _ _ => rfl, fun _ h => absurd h List.not_mem_nil⟩
  | cons d ds ih =>
    obtain ⟨hd, hds⟩ := List.nodup_cons.mp hnd
    obtain ⟨⟨h, hh⟩, hout, hin⟩ := ih hds (s.takeBank n d st)
    have hstep : (s.each (d :: ds) fun s c => s.takeBank n c st) = (s.takeBank n d st).each ds fun s c => s.takeBank n c st :=
      rfl
    rw [hstep]
    refine ⟨⟨h, by rw [hh]; rfl⟩, fun c hc => ?_, fun c hc => ?_⟩
    · obtain ⟨hne, hni⟩ := not_or.mp (fun h => hc (List.mem_cons.mpr h))
      rw [hout c hni, State.nextBank_takeBank, if_neg hne]
    · obtain rfl | hmem := List.mem_cons.mp hc
      · refine ⟨by rw [hout c hd, State.nextBank_takeBank, if_pos rfl], ?_⟩
        exact State.each_keeps _ (fun t => t.takenBy n st.first (s.nextBankOf c)) _ _ (fun t k _ h => h.takeBank)
          (s.takenBy_takeBank n c st)
      · have hne : c ≠ d := fun h => hd (h ▸ hmem)
        obtain ⟨hnext, htaken⟩ := hin c hmem
        have hsame : (s.takeBank n d st).nextBankOf c = s.nextBankOf c := by
          rw [State.nextBankOf, State.nextBank_takeBank, if_neg hne]; rfl
        exact ⟨by rw [hnext, State.nextBank_takeBank, if_neg hne], hsame ▸ htaken⟩

/-! ## The step begins (R94, R212) -/

/-- Where no power warning stands the run that is open, if any, closes. -/
theorem State.closeSkip_cases (hp : s.dev.pfail = false) :
    (∃ x e r, s.closeSkip n = { s with sq := { s.sq with seqs := x }, eng := e, ret := r }) ∧
    (s.closeSkip n).seq n = { s.seq n with skip := none } ∧ (∀ k, ((s.closeSkip n).stream k).cfg = (s.stream k).cfg) ∧
    ((s.seq n).skip = none → (s.closeSkip n).eng = s.eng) ∧
    ((s.seq n).skip ≠ none → ((s.closeSkip n).stream (s.seq n).cfg.resultStream).nextIssue =
      (s.stream (s.seq n).cfg.resultStream).nextIssue + 1) := by
  cases h : (s.seq n).skip with
  | none =>
    rw [State.closeSkip_none h]
    exact ⟨⟨s.sq.seqs, s.eng, s.ret, rfl⟩, by rw [← h], fun _ => rfl, fun _ => rfl, fun h => absurd rfl h⟩
  | some r =>
    obtain ⟨hx, hq, hcfg, hnum⟩ := State.closeSkip_some h hp
    exact ⟨hx, hq, hcfg, (fun h => nomatch h), fun _ => hnum⟩

/-- A step that is admitted, `t` being the state as it begins. -/
structure State.Begun (s : State) (n : Nat) (st : Step) (t : State) : Prop where
  frame : ∃ a e r h y, t = { s with sq := { s.sq with seqs := a }, eng := e, ret := r, hist := h, fab := y }
  seq : t.seq n = { s.seq n with step := st, skip := none }
  credit : (s.seq n).skip = none → t.eng.slotsUsed = s.eng.slotsUsed +
    st.channels.length * (s.stream (s.seq n).cfg.resultStream).cfg.maxEchoes
  issued : (s.seq n).skip ≠ none → (t.stream (s.seq n).cfg.resultStream).nextIssue =
    (s.stream (s.seq n).cfg.resultStream).nextIssue + 1
  next : ∀ c ∈ st.channels, (t.histChan c).nextBank = 1 - (s.histChan c).nextBank
  banks : ∀ c ∈ st.channels, (t.bank (s.nextBankOf c)).state = .filling ∧
    ((t.bank (s.nextBankOf c)).step.map fun x => (x.seq, x.stream, x.time, x.credit)) =
      some (n, (s.seq n).cfg.resultStream, st.first, (s.stream (s.seq n).cfg.resultStream).cfg.maxEchoes)

theorem State.Begun.publish {st : Step} (h : s.Begun n st t) (k : Nat) (f : Tq) (gen : Nat) :
    s.Begun n st (t.publish k f gen) := by
  obtain ⟨z, hz⟩ := t.publish_fab k f gen
  obtain ⟨⟨a, e, r, hi, y, hx⟩, hq, hc, hn, hb, ht⟩ := h
  refine ⟨⟨a, e, r, hi, z, by rw [hz, hx]⟩, ?_, ?_, ?_, ?_, ?_⟩ <;> rw [hz] <;> assumption

/-- A step has begun once the run before it is closed (`u`), its credits are reserved (`w`) and its banks are taken (`z`). -/
theorem State.begun_of_parts {st : Step} {u w z : State}
    (hu : ∃ a e r, u = { s with sq := { s.sq with seqs := a }, eng := e, ret := r }) (hw : ∃ e, w = { u with eng := e })
    (hz : ∃ h, z = { w with hist := h }) (hq : u.seq n = { s.seq n with step := st, skip := none })
    (hcfg : ∀ j, (w.stream j).cfg = (s.stream j).cfg)
    (hcredit : (s.seq n).skip = none → w.eng.slotsUsed = s.eng.slotsUsed +
      st.channels.length * (s.stream (s.seq n).cfg.resultStream).cfg.maxEchoes)
    (hissued : (s.seq n).skip ≠ none → (w.stream (s.seq n).cfg.resultStream).nextIssue =
      (s.stream (s.seq n).cfg.resultStream).nextIssue + 1)
    (htake : ∀ c ∈ st.channels, (z.histChan c).nextBank = 1 - (w.histChan c).nextBank ∧
      z.takenBy n st.first (w.nextBankOf c)) : s.Begun n st z := by
  have hseq : (z.seq n).cfg = (s.seq n).cfg := by
    obtain ⟨e', rfl⟩ := hw
    obtain ⟨h, rfl⟩ := hz
    exact (congrArg SeqState.cfg hq :)
  have hstream (j : Nat) : (z.stream j).cfg = (s.stream j).cfg := by
    obtain ⟨h, rfl⟩ := hz
    exact hcfg j
  have htaken (c : Nat) (hc : c ∈ st.channels) := (htake c hc).2
  simp only [State.takenBy, hseq, hstream] at htaken
  obtain ⟨a, e, r, rfl⟩ := hu
  obtain ⟨e', rfl⟩ := hw
  obtain ⟨h, rfl⟩ := hz
  exact ⟨⟨a, e', r, h, s.fab, rfl⟩, hq, hcredit, hissued, fun c hc => (htake c hc).1, htaken⟩

theorem State.beginStep_admitted {g : ListEntry} (hwhy : s.whyNot (s.seq n) g = 0) (hp : s.dev.pfail = false)
    (hnd : (s.channelsOf (g.mask &&& (s.seq n).cfg.rows)).Nodup) (index : Nat) (f : Tq) (x : Int) :
    s.Begun n (s.newStep (s.seq n) g index f x 0) (s.beginStep n g index f x true false) := by
  let st := s.newStep (s.seq n) g index f x 0
  let s1 := s.setSeq n { s.seq n with step := st }
  have hs1 : s1.seq n = { s.seq n with step := st } := State.seq_setSeq_self ..
  obtain ⟨⟨a, e, r, hu⟩, huq, hucfg, hueng, hunum⟩ := State.closeSkip_cases (s := s1) (n := n) hp
  let u := s1.closeSkip n
  let k := st.channels.length * (u.stream (s.seq n).cfg.resultStream).cfg.maxEchoes
  obtain ⟨⟨e', hw⟩, hused, hiss⟩ := u.reserve_eq (s.seq n).cfg.resultStream k
  let w := u.reserve (s.seq n).cfg.resultStream k
  obtain ⟨⟨h, hz⟩, -, hin⟩ := State.takeBanks n st st.channels hnd w
  let z := w.each st.channels fun s c => s.takeBank n c st
  have hbegun : s.Begun n st z := by
    refine State.begun_of_parts ⟨a, e, r, hu⟩ ⟨e', hw⟩ ⟨h, hz⟩ (by rw [huq, hs1]) (fun j => ?_)
      (fun hn => ?_) (fun hn => ?_) hin
    · rw [Stream.cfg_of_issues (hiss j)]; exact hucfg j
    · rw [hused, hueng (by rw [hs1]; exact hn)]
      exact congrArg (fun c : StreamCfg => s.eng.slotsUsed + st.channels.length * c.maxEchoes) (hucfg _)
    · rw [Stream.nextIssue_of_issues (hiss _)]
      rw [hs1] at hunum
      exact hunum hn
  have he : s.beginStep n g index f x true false =
      if g.stepCtrl = 2 then (z.publish (prodSeq n 0) f 0).publish (prodSeq n 1) f 0 else z.publish (prodSeq n 0) f 0 := by
    have hw : s.admission (s.seq n) (s.channelsOf (g.mask &&& (s.seq n).cfg.rows)) true false = 0 := hwhy
    unfold State.beginStep
    dsimp only
    rw [hw, if_pos rfl]
    rfl
  rw [he]
  split
  · exact (hbegun.publish ..).publish ..
  · exact hbegun.publish ..

/-! ## SLOT_ISSUE with which an admitted step begins (R14, R93, R94, R179, R212) -/

theorem State.whyNot_admit {e : ListEntry} (h : s.canAdmit n e) : s.whyNot (s.seq n) e = 0 := by
  obtain ⟨hcredit, hbanks, hfiring, hpermit, hdark, hpfail, hready⟩ := h
  have hc : s.hasCredit (s.channelsOf (e.mask &&& (s.seq n).cfg.rows)).length
      (s.stream (s.seq n).cfg.resultStream).cfg.maxEchoes = true := decide_eq_true hcredit
  have hb : ((s.channelsOf (e.mask &&& (s.seq n).cfg.rows)).all fun c => decide ((s.bank (s.nextBankOf c)).state = .free)) =
      true := List.all_eq_true.mpr fun c hc => decide_eq_true (hbanks c hc)
  have hg : s.groupsReady (s.channelsOf (e.mask &&& (s.seq n).cfg.rows)) = true := hready
  rw [State.whyNot_eq, hc, hb, hg, hfiring, hpermit, hdark, hpfail]
  rfl

/-- The granule with which an admitted step begins is not dark. -/
theorem State.granuled_admitted {g : ListEntry} (h : q.step.admitted = true) (hr : q.step.reasons = 0)
    (hf : s.firingStopped = false) (hg : s.groupsReady q.step.channels = true) (i : Nat) (x : Int) :
    (s.granuled q i g true x).granDark = false ∧ (s.granuled q i g true x).step.reasons = 0 := by
  constructor
  · change (!q.step.admitted || (s.firingStopped || !s.groupsReady q.step.channels) || !true) = false
    rw [h, hf, hg]; rfl
  · change q.step.reasons ||| (if s.firingStopped || !s.groupsReady q.step.channels then Reasons.reference else 0) ||| 0 = 0
    rw [hr, hf, hg]; rfl

/-- The state as an admitted step has begun, and what the issue of its first slot leaves. -/
theorem slotIssue_begun {f : Tq} {e : ListEntry} (hb : s.atBoundary n f) (hs : s.stepBegins n e)
    (hnd : (s.stepChannels n e).Nodup) (ha : s.canAdmit n e) :
    ∃ v c b w, s.Settled n ((s.seq n).counted c) v ∧
      v.Begun n (v.newStep ((s.seq n).counted c) e ((s.seq n).indexAfter e) f ((s.seq n).accum.position (s.seq n).k) 0) b ∧
      b.AtSeq n (b.atGranule (b.seq n) (s.seq n).nextEntry e true ((s.seq n).accum.position (s.seq n).k)) w ∧
      exec (.slotIssue n) s = .next (w.playSlot n f false) := by
  obtain ⟨v, c, hv, hres, he, hexec⟩ := slotIssue_stepBegins hb hs
  obtain ⟨-, hr, -⟩ := hb
  let x := (s.seq n).accum.position (s.seq n).k
  let b := v.beginStep n e ((s.seq n).indexAfter e) f x true false
  have hchan : v.channelsOf (e.mask &&& (v.seq n).cfg.rows) = s.stepChannels n e := by
    rw [hv.2.1]
    exact hv.field (fun z => z.channelsOf (e.mask &&& (s.seq n).cfg.rows)) fun _ _ _ => rfl
  have hbegun := State.beginStep_admitted (s := v) (n := n) (g := e)
    (by rw [hv.2.1, hv.whyNot rfl]; exact State.whyNot_admit ha)
    ((hv.field (·.dev.pfail) fun _ _ _ => rfl).trans ha.2.2.2.2.2.1) (by rw [hchan]; exact hnd) ((s.seq n).indexAfter e) f x
  have hplay := b.atSeq_playGranule n (s.seq n).nextEntry e true x f
  have hw : v.enterStep n (s.seq n).nextEntry ((s.seq n).indexAfter e) x f false false =
      b.playGranule n (s.seq n).nextEntry e true x f := by
    rw [State.enterStep_resident hres, he]
  rw [hv.2.1] at hbegun
  refine ⟨v, c, b, _, hv, hbegun, hplay, hexec _ hw ?_⟩
  rw [hplay.2, State.atGranule_running, hbegun.seq, hv.2.1]
  exact hr

/-- An admitted step (R14, R94, R179, R212). -/
theorem slotIssue_admitted {f : Tq} {e : ListEntry} (hb : s.atBoundary n f) (hs : s.stepBegins n e)
    (hnd : (s.stepChannels n e).Nodup) (ha : s.canAdmit n e) :
    ∃ t, exec (.slotIssue n) s = .next t ∧ (t.seq n).step.admitted = true ∧ (t.seq n).step.reasons = 0 ∧
      (t.seq n).step.index = (if (s.seq n).first ∨ e.stepCtrl = 2 then 0 else ((s.seq n).step.index + 1) % 2 ^ 20) ∧
      (t.seq n).step.rows = e.mask &&& (s.seq n).cfg.rows ∧ (t.seq n).step.channels = s.stepChannels n e ∧
      (t.seq n).step.profile = e.gateProfile ∧ (t.seq n).step.first = f ∧ (t.seq n).step.granules = 1 ∧
      (t.seq n).granDark = false ∧ (t.seq n).gran = e ∧ (t.seq n).skip = none ∧
      ((s.seq n).skip = none → t.eng.slotsUsed = s.eng.slotsUsed +
        (s.stepChannels n e).length * (s.stream (s.seq n).cfg.resultStream).cfg.maxEchoes) ∧
      ((s.seq n).skip ≠ none →
        (t.stream (s.seq n).cfg.resultStream).nextIssue = (s.stream (s.seq n).cfg.resultStream).nextIssue + 1) ∧
      (∀ c ∈ s.stepChannels n e, (t.histChan c).nextBank = 1 - (s.histChan c).nextBank ∧
        (t.bank (2 * c + (s.histChan c).nextBank)).state = .filling ∧
        ((t.bank (2 * c + (s.histChan c).nextBank)).step.map fun x => (x.seq, x.stream, x.time, x.credit)) =
          some (n, (s.seq n).cfg.resultStream, f, (s.stream (s.seq n).cfg.resultStream).cfg.maxEchoes)) := by
  obtain ⟨v, c, b, w, hv, hbegun, hplay, hexec⟩ := slotIssue_begun hb hs hnd ha
  obtain ⟨-, -, hfiring, -, -, -, hready⟩ := ha
  obtain ⟨⟨a, en, r, hi, y, hframe⟩, hbseq, hcredit, hissued, hnext, hbanks⟩ := hbegun
  let x := (s.seq n).accum.position (s.seq n).k
  let st := v.newStep ((s.seq n).counted c) e ((s.seq n).indexAfter e) f x 0
  have hchan : st.channels = s.stepChannels n e :=
    hv.field (fun z => z.channelsOf (e.mask &&& (s.seq n).cfg.rows)) fun _ _ _ => rfl
  have hfire : b.firingStopped = false :=
    (congrArg State.firingStopped hframe :).trans ((hv.field State.firingStopped fun _ _ _ => rfl).trans hfiring)
  have hgroups : b.groupsReady (s.stepChannels n e) = true :=
    (congrArg (State.groupsReady · (s.stepChannels n e)) hframe :).trans
      ((hv.field (State.groupsReady · (s.stepChannels n e)) fun _ _ _ => rfl).trans hready)
  obtain ⟨hdark, hreas⟩ := State.granuled_admitted (s := b) (q := b.seq n) (g := e) (by rw [hbseq]; rfl) (by rw [hbseq]; rfl)
    hfire (by rw [hbseq]; exact hchan ▸ hgroups) (s.seq n).nextEntry x
  obtain ⟨d, z, tw, hsl, -, -⟩ := w.slotted_eq (w.seq n) f
  obtain ⟨af, ha, ju, lo, co, hg⟩ := b.atGranule_eq (b.seq n) (s.seq n).nextEntry e true x
  have hseq : (w.playSlot n f false).seq n = _ := (w.seq_playSlot_false n f).trans hsl
  rw [hplay.2, hg] at hseq
  have heng : (w.playSlot n f false).eng = b.eng :=
    (untouchedBySlots_eng.playSlot (fun _ _ => rfl) w n f false).trans hplay.eng
  have hchans : (w.playSlot n f false).hist.chans = b.hist.chans :=
    (untouchedBySlots_chans.playSlot (fun _ _ => rfl) w n f false).trans (congrArg Hist.chans hplay.hist)
  have hbank (k : Nat) : ((w.playSlot n f false).bank k).state = (b.bank k).state ∧
      ((w.playSlot n f false).bank k).step = (b.bank k).step := by
    have h := ((untouchedBySlots_bank k).playSlot (fun _ _ => rfl) w n f false).trans
      (hplay.field (fun z => ((z.bank k).state, (z.bank k).step)) fun _ _ => rfl)
    exact ⟨congrArg Prod.fst h, congrArg Prod.snd h⟩
  have hvhist (k : Nat) : v.histChan k = s.histChan k := hv.field (State.histChan · k) fun _ _ _ => rfl
  have hveng (k : Nat) : v.stream k = s.stream k := State.stream_of_eng (hv.field State.eng fun _ _ _ => rfl) k
  have hvslots : v.eng.slotsUsed = s.eng.slotsUsed := hv.field (·.eng.slotsUsed) fun _ _ _ => rfl
  rw [hv.2.1] at hcredit hissued hbanks hbseq
  refine ⟨_, hexec, ?_⟩
  rw [hseq]
  refine ⟨by rw [hbseq]; rfl, hreas, by rw [hbseq]; rfl, by rw [hbseq]; rfl, by rw [hbseq]; exact hchan, by rw [hbseq]; rfl,
    by rw [hbseq]; rfl, by rw [hbseq]; rfl, hdark, rfl, by rw [hbseq]; rfl, fun hn => ?credit, fun hn => ?issued,
    fun c hc => ?bank⟩
  case credit =>
    rw [heng, ← hchan]
    refine (hcredit hn).trans ?_
    rw [hveng, hvslots]; rfl
  case issued =>
    rw [State.stream_of_eng heng]
    refine (hissued hn).trans ?_
    rw [hveng]; rfl
  case bank =>
    rw [← hchan] at hc
    have hnb := hnext c hc
    have hbk := hbanks c hc
    rw [State.nextBankOf, hvhist] at hbk
    rw [hvhist] at hnb
    rw [(hbank _).1, (hbank _).2]
    refine ⟨?_, hbk.1, hbk.2.trans ?_⟩
    · rw [State.histChan, hchans]; exact hnb
    · rw [hveng]; rfl

end Sys2Proof.Machine

/-! SUPPORT. What Polestar, the outputs, the loop and the gates leave of the sequencers when the device leaves Ranging: `sq_f` says
that `f` leaves the sequencers as they are (R22, R33, R241). -/

namespace Sys2Proof.Machine

variable (s : State)

@[simp] theorem State.sq_ite (c : Prop) [Decidable c] (s t : State) :
    (if c then s else t).sq = if c then s.sq else t.sq := apply_ite State.sq c s t

@[simp] theorem State.sq_each (f : State → Nat → State) (hf : ∀ s k, (f s k).sq = s.sq) (ks : List Nat)
    (s : State) : (s.each ks f).sq = s.sq := s.each_field State.sq f ks hf

@[simp] theorem State.sq_foldl {α : Type} (f : State → α → State) (hf : ∀ s a, (f s a).sq = s.sq) (as : List α) (s : State) :
    (as.foldl f s).sq = s.sq := State.foldl_field State.sq f hf as s

@[simp] theorem State.sq_modOut (k : Nat) (f : OutState → OutState) : (s.modOut k f).sq = s.sq := (rfl)
@[simp] theorem State.sq_modChan (k : Nat) (f : Channel → Channel) : (s.modChan k f).sq = s.sq := (rfl)
@[simp] theorem State.sq_modCko (k : Nat) (f : Cko → Cko) : (s.modCko k f).sq = s.sq := (rfl)
@[simp] theorem State.sq_modLane (k : Nat) (f : List TestJob → List TestJob) : (s.modLane k f).sq = s.sq := (rfl)
@[simp] theorem State.sq_modCalRunState (k : Nat) (f : CalRunState → CalRunState) : (s.modCalRunState k f).sq = s.sq := (rfl)
@[simp] theorem State.sq_closeWindows (b : Burst) (limit : Tq) : (s.closeWindows b limit).sq = s.sq := (rfl)

@[simp] theorem State.sq_modShot' (k : Option Nat) (f : Shot → Shot) : (s.modShot' k f).sq = s.sq := by
  cases k <;> rfl

@[simp] theorem State.sq_modDesc (k : Option Nat) (f : Descriptor → Descriptor) : (s.modDesc k f).sq = s.sq := by
  cases k <;> rfl

@[simp] theorem State.sq_refreshFs : s.refreshFs.sq = s.sq := by simp [State.refreshFs]

@[simp] theorem State.sq_startBist : s.startBist.sq = s.sq := by simp [State.startBist]

/-! ## A step of Polestar (R33) -/

@[simp] theorem State.sq_settleSync : s.settleSync.sq = s.sq := by
  unfold State.settleSync
  (repeat' split) <;> rfl

@[simp] theorem State.sq_stepBurst (o : Nat) (old new : Tq) (b : Burst) : (s.stepBurst o old new b).1.sq = s.sq := by
  unfold State.stepBurst
  dsimp only
  (repeat' split) <;> simp

@[simp] theorem State.sq_stepOutput (o : Nat) (old new : Tq) : (s.stepOutput o old new).sq = s.sq := by
  have step (u : State) (b : Option Burst) : (match b with
      | none => (u, none)
      | some b => u.stepBurst o old new b).1.sq = u.sq := by
    cases b <;> simp
  unfold State.stepOutput
  dsimp only
  split <;> exact (step _ _).trans (step _ _)

@[simp] theorem State.sq_stepAlarm (t : Tq) (n : Nat) : (s.stepAlarm t n).sq = s.sq := by
  unfold State.stepAlarm
  dsimp only
  (repeat' split) <;> simp

/-- A step of Polestar steps every sequencer. -/
theorem State.seqs_polestarStep (d : Int) : ∃ new,
    (s.polestarStep d).sq.seqs = s.sq.seqs.map fun p => (p.1, stepSeq d new p.2) := by
  refine ⟨s.now + d, ?_⟩
  simp [State.polestarStep, State.stepScale, State.stepOutputs]

/-! ## Outputs and lanes that stop (R59, R81) -/

@[simp] theorem State.sq_countEmission (r n : Nat) : (s.countEmission r n).sq = s.sq := by
  unfold State.countEmission
  split <;> rfl

@[simp] theorem State.sq_logPulses (o : Nat) (b : Burst) (ps : List (Nat × Tq × Tq)) : (s.logPulses o b ps).sq = s.sq := by
  refine State.foldl_field State.sq _ (fun s x => ?_) ps s
  rfl

@[simp] theorem State.sq_endBurst (o : Nat) (b : Burst) (limit : Tq) : (s.endBurst o b limit).sq = s.sq := by
  unfold State.endBurst
  dsimp only
  (repeat' split) <;> simp

@[simp] theorem State.sq_answerEntry (o : Nat) (e : Entry) (outcome lateness : Nat) :
    (s.answerEntry o e outcome lateness).sq = s.sq := untouchedBySlots_sq.answerEntry s o e outcome lateness

@[simp] theorem State.sq_stopOutput (counts : Bool) (o : Nat) : (s.stopOutput counts o).sq = s.sq := by
  unfold State.stopOutput
  dsimp only
  rw [State.sq_foldl _ fun s e => by simp]
  (repeat' split) <;> simp

@[simp] theorem State.sq_stopFiring (counts : Bool) : (s.stopFiring counts).sq = s.sq := by
  unfold State.stopFiring
  have h := State.sq_each (fun s o => if s.stopsWithPll o then s.stopOutput counts o else s) (fun s o => by simp) outputNumbers s
  dsimp only
  rw [← h]

@[simp] theorem State.sq_keepBlanked (b : Blanking) : (s.keepBlanked b).sq = s.sq := (rfl)

@[simp] theorem State.sq_finishTest (lane : Nat) (j : TestJob) (status : Nat) (measured : Int) :
    (s.finishTest lane j status measured).sq = s.sq := by
  unfold State.finishTest
  (repeat' split) <;> simp

@[simp] theorem State.sq_dropTests : s.dropTests.sq = s.sq := by simp [State.dropTests]

/-! ## Gates (R170) -/

@[simp] theorem State.sq_settleShot (k : Option Nat) : (s.settleShot k).sq = s.sq := by
  unfold State.settleShot
  (repeat' split) <;> simp [State.dropGates]

@[simp] theorem State.sq_notOpened (c : Nat) (g : Gate) : (s.notOpened c g).sq = s.sq := by
  simp [State.notOpened, State.removeGate]

@[simp] theorem State.sq_unlockGates : s.unlockGates.sq = s.sq := by simp [State.unlockGates]

/-! ## The loop (R237, R241, R250) -/

@[simp] theorem State.sq_gateClocks : s.gateClocks.sq = s.sq := by simp [State.gateClocks]

@[simp] theorem State.sq_switchRef (k : Nat) : (s.switchRef k).sq = s.sq := by
  unfold State.switchRef State.correctBy
  (repeat' split) <;> simp [State.correct]

@[simp] theorem State.sq_checkRef : s.checkRef.sq = s.sq := by
  simp [State.checkRef, State.restartAttempt, State.beginAttempt]

theorem State.runningSeqs_nil {s : State} (h : s.anyRunning = false) : s.runningSeqs = [] := by
  rw [State.runningSeqs, List.map_eq_nil_iff, List.filter_eq_nil_iff]
  exact fun p hp => by simpa using List.any_eq_false.mp h p hp

/-- A loss of lock changes no sequencer where none runs. -/
theorem State.sq_loseLock {s : State} (h : s.anyRunning = false) : s.loseLock.sq = s.sq := by
  unfold State.loseLock
  rw [State.runningSeqs_nil h]
  simp [State.each, State.dropCals]

/-- What waits for the last sequencer's stop changes no sequencer. -/
theorem State.sq_runForced : s.runForced.sq = s.sq := by
  unfold State.runForced
  split
  · rfl
  · split
    · rfl
    next hrun =>
      have h : s.unlockFor.sq = s.sq := by
        unfold State.unlockFor
        split
        · exact State.sq_loseLock (by simpa using hrun)
        · simp
      simp [State.awaitLock, State.performPll, State.refreshRefs, h]

end Sys2Proof.Machine

/-! SUPPORT. SLOT_ISSUE at a boundary at which the sequencer stops (R22, R99, R102, R104, R212). -/

namespace Sys2Proof.Machine

variable {s t u : State} {n : Nat} {p q : SeqState}

/-! ## The device leaves Ranging (R22, R27, R33) -/

theorem Tab.get_map {α : Type} {d : α} {f : α → α} (hf : f d = d) (l : Tab α) (n : Nat) :
    Tab.get d (l.map fun p => (p.1, f p.2)) n = f (Tab.get d l n) := by
  induction l with
  | nil => exact hf.symm
  | cons p l ih =>
    obtain ⟨j, a⟩ := p
    simp only [List.map_cons, Tab.get]
    split
    · rfl
    · exact ih

/-- A step of Polestar moves in the time domain the time from which slots are late, and nothing else (R127). -/
theorem stepSeq_time (d : Int) (new : Tq) (h : q.cfg.domain = 1) : ∃ x, stepSeq d new q = { q with stepTo := x } := by
  unfold stepSeq
  rw [if_neg (by omega)]
  split <;> exact ⟨_, rfl⟩

theorem State.seq_of_sq (h : t.sq = s.sq) (n : Nat) : t.seq n = s.seq n := by
  unfold State.seq
  rw [h]

theorem State.seq_polestarStep (h : (s.seq n).cfg.domain = 1) (d : Int) :
    ∃ x, (s.polestarStep d).seq n = { s.seq n with stepTo := x } := by
  obtain ⟨new, hs⟩ := s.seqs_polestarStep d
  obtain ⟨x, hx⟩ := stepSeq_time d new h
  refine ⟨x, ?_⟩
  rw [State.seq, hs, Tab.get_map rfl]
  exact hx

theorem State.seq_applySecHi (h : (s.seq n).cfg.domain = 1) :
    ∃ x, s.applySecHi.seq n = { s.seq n with stepTo := x } := by
  unfold State.applySecHi
  split
  · exact ⟨(s.seq n).stepTo, rfl⟩
  · split
    next v _ _ =>
      obtain ⟨u, d, hu, he⟩ : ∃ u d, u.sq = s.sq ∧ s.setSecHi v = State.polestarStep u d := ⟨_, _, rfl, rfl⟩
      have hq := State.seq_of_sq hu n
      obtain ⟨x, hx⟩ := State.seq_polestarStep (s := u) (n := n) (by rw [hq]; exact h) d
      exact ⟨x, by rw [he, hx, hq]⟩
    · exact ⟨(s.seq n).stepTo, rfl⟩

theorem State.seq_enterReadyIdle (h : (s.seq n).cfg.domain = 1) :
    ∃ x, s.enterReadyIdle.seq n = { s.seq n with stepTo := x } := by
  unfold State.enterReadyIdle
  rw [State.seq_of_sq (State.sq_startBist _)]
  exact State.seq_applySecHi h

/-- What follows the stop of the last sequencer leaves one of the time domain as it is, but for the end of a step of Polestar. -/
theorem State.seq_afterStop (h : (s.seq n).cfg.domain = 1) : ∃ x, s.afterStop.seq n = { s.seq n with stepTo := x } := by
  have hforced : s.afterStop.seq n = s.leaveRanging.seq n := State.seq_of_sq (State.sq_runForced _) n
  rw [hforced]
  have hleave (u : State) (hu : u.seq n = s.seq n) :
      ∃ x, (if u.dev.warm ∨ u.sv.run = .dusk then u else u.enterReadyIdle).seq n = { s.seq n with stepTo := x } := by
    split
    · exact ⟨(s.seq n).stepTo, hu⟩
    · obtain ⟨x, hx⟩ := State.seq_enterReadyIdle (s := u) (n := n) (by rw [hu]; exact h)
      exact ⟨x, by rw [hx, hu]⟩
  unfold State.leaveRanging
  dsimp only
  split
  · exact ⟨(s.seq n).stepTo, rfl⟩
  · exact hleave _ (State.seq_of_sq (by simp) n)

/-! ## What ends a step (R104, R212) -/

/-- The slot at which sequencer `n` stands, its last fire time and its configuration, and the power warning, are in `t` what they
are in `s`. -/
def State.KeepsSlot (s : State) (n : Nat) (t : State) : Prop :=
  ((t.seq n).k = (s.seq n).k ∧ (t.seq n).lastFire = (s.seq n).lastFire ∧ (t.seq n).cfg = (s.seq n).cfg) ∧
    t.dev.pfail = s.dev.pfail

theorem State.KeepsSlot.refl (s : State) (n : Nat) : s.KeepsSlot n s := ⟨⟨rfl, rfl, rfl⟩, rfl⟩

theorem State.KeepsSlot.trans (h : s.KeepsSlot n t) (h' : t.KeepsSlot n u) : s.KeepsSlot n u := by
  obtain ⟨⟨hk, hl, hc⟩, hp⟩ := h
  obtain ⟨⟨hk', hl', hc'⟩, hp'⟩ := h'
  exact ⟨⟨hk'.trans hk, hl'.trans hl, hc'.trans hc⟩, hp'.trans hp⟩

theorem State.keepsSlot_of_sq (h : t.sq = s.sq) (hp : t.dev.pfail = s.dev.pfail) : s.KeepsSlot n t := by
  have hq := State.seq_of_sq h n
  exact ⟨⟨by rw [hq], by rw [hq], by rw [hq]⟩, hp⟩

theorem State.keepsSlot_modSeq {f : SeqState → SeqState} (hk : (f (s.seq n)).k = (s.seq n).k)
    (hl : (f (s.seq n)).lastFire = (s.seq n).lastFire) (hc : (f (s.seq n)).cfg = (s.seq n).cfg) :
    s.KeepsSlot n (s.modSeq n f) := by
  have hq : (s.modSeq n f).seq n = f (s.seq n) := State.seq_setSeq_self ..
  exact ⟨⟨by rw [hq, hk], by rw [hq, hl], by rw [hq, hc]⟩, rfl⟩

theorem State.keepsSlot_closeSkip (s : State) (n : Nat) : s.KeepsSlot n (s.closeSkip n) := by
  refine ⟨?_, s.pfail_closeSkip n⟩
  cases h : (s.seq n).skip with
  | none => rw [State.closeSkip_none h]; exact ⟨rfl, rfl, rfl⟩
  | some r =>
    cases hp : s.dev.pfail with
    | true =>
      have he : s.closeSkip n = s := by rw [State.closeSkip, h]; exact if_pos hp
      rw [he]; exact ⟨rfl, rfl, rfl⟩
    | false =>
      obtain ⟨-, hq, -⟩ := State.closeSkip_some h hp
      rw [hq]; exact ⟨rfl, rfl, rfl⟩

theorem State.keepsSlot_joinSkip (s : State) (n : Nat) (r : SkipRun) : s.KeepsSlot n (s.joinSkip n r) := by
  have hrun : (s.countSkipped n).KeepsSlot n ((s.countSkipped n).runFor n r) := by
    obtain he | he : (s.countSkipped n).runFor n r = s.countSkipped n ∨
        (s.countSkipped n).runFor n r = (s.countSkipped n).closeSkip n := ite_eq_or_eq ..
    · rw [he]; exact .refl ..
    · rw [he]; exact State.keepsSlot_closeSkip ..
  have hw : s.KeepsSlot n (((s.countSkipped n).runFor n r).modSeq n fun q => { q with skip := r.joined q.skip }) :=
    ((State.keepsSlot_modSeq rfl rfl rfl).trans hrun).trans (State.keepsSlot_modSeq rfl rfl rfl)
  rw [State.joinSkip_match]
  split
  · split
    · exact hw.trans (State.keepsSlot_closeSkip ..)
    · exact hw
  · exact hw

theorem State.keepsSlot_finishStep (s : State) (n : Nat) : s.KeepsSlot n (s.finishStep n) := by
  have hfin : s.KeepsSlot n (s.finishBanks n) := by
    have h := s.finishBanks_settled n
    refine ⟨?_, h.field (·.dev.pfail) fun _ _ _ => rfl⟩
    rw [h.2.1]; exact ⟨rfl, rfl, rfl⟩
  unfold State.finishStep
  dsimp only
  split
  · exact hfin
  · exact hfin.trans (State.keepsSlot_joinSkip ..)

/-! ## A step that is cut short (R104, R170) -/

/-- What a function of the state must not tell of, so that a step that is cut short does not change it: shots, gates, banks and
credits. -/
structure UntouchedByCuts {β : Type} (g : State → β) : Prop where
  tx : ∀ (s : State) x, g { s with tx := x } = g s
  rx : ∀ (s : State) x, g { s with rx := x } = g s
  hist : ∀ (s : State) x, g { s with hist := x } = g s
  eng : ∀ (s : State) x, g { s with eng := x } = g s

section
variable {β : Type} {g : State → β} (hg : UntouchedByCuts g)
include hg

theorem UntouchedByCuts.settleShot (s : State) (k : Option Nat) : g (s.settleShot k) = g s := by
  unfold State.settleShot
  split
  · rfl
  · split
    · split
      · exact (hg.tx _ _).trans (State.each_field _ g _ _ fun u c => hg.rx u _)
      · rfl
    · rfl

theorem UntouchedByCuts.notOpened (s : State) (c : Nat) (x : Gate) : g (s.notOpened c x) = g s := by
  have hdesc (u : State) (f : Descriptor → Descriptor) : g (u.modDesc x.bank f) = g u := by
    cases x.bank with
    | none => rfl
    | some b => exact hg.hist u _
  unfold State.notOpened State.removeGate
  exact (hg.settleShot _ _).trans ((hg.rx _ _).trans ((hdesc _ _).trans (hg.rx s _)))

theorem UntouchedByCuts.cutGate (s : State) (c : Nat) (x : Gate) : g (s.cutGate c x) = g s := by
  unfold State.cutGate
  split
  · exact hg.notOpened ..
  · split
    · exact (hg.settleShot _ _).trans (hg.rx s _)
    · exact hg.rx s _

theorem UntouchedByCuts.cutBanks (s : State) (n : Nat) : g (s.cutBanks n) = g s := by
  unfold State.cutBanks
  refine State.each_field s g _ (s.stepBanks n) fun u b => ?_
  have hcredit : g (match (u.bank b).step with
      | some st => u.unreserve st.stream st.credit
      | none => u) = g u := by
    split
    · exact hg.eng u _
    · rfl
  exact (hg.hist _ _).trans ((State.foldl_field g _ (fun w x => hg.cutGate w (b / 2) x) _ _).trans hcredit)

end

theorem State.keepsSlot_cutBanks (s : State) (n : Nat) : s.KeepsSlot n (s.cutBanks n) :=
  State.keepsSlot_of_sq
    (UntouchedByCuts.cutBanks (g := State.sq) ⟨fun _ _ => rfl, fun _ _ => rfl, fun _ _ => rfl, fun _ _ => rfl⟩ s n)
    (UntouchedByCuts.cutBanks (g := (·.dev.pfail)) ⟨fun _ _ => rfl, fun _ _ => rfl, fun _ _ => rfl, fun _ _ => rfl⟩ s n)

/-! ## Stops (R99, R104, R212) -/

/-- Sequencer `n` stands in `t` where it stood in `s`, stopped, nothing being asked of it any more; its skip run is closed, but for
a power warning. -/
structure State.Stopped (s : State) (n : Nat) (t : State) : Prop where
  run : (t.seq n).run = .stopped
  k : (t.seq n).k = (s.seq n).k
  stops : (t.seq n).stops = []
  jump : (t.seq n).jump = none
  lastFire : (t.seq n).lastFire = (s.seq n).lastFire
  skip : s.dev.pfail = false → (t.seq n).skip = none

theorem State.skip_closeSkip (h : s.dev.pfail = false) (n : Nat) : ((s.closeSkip n).seq n).skip = none := by
  obtain ⟨-, hq, -⟩ := State.closeSkip_cases (n := n) h
  rw [hq]

/-- What becomes of the step in play as its sequencer stops, outside an under-run. -/
def State.endStep (s : State) (n : Nat) : Option Reasons → State
  | some r =>
    if (s.seq n).first then s
    else (s.cutBanks n).joinSkip n { (s.seq n).step.skipRun with reasons := (s.seq n).step.reasons ||| r }
  | none => if (s.seq n).first then s else s.finishStep n

theorem State.keepsSlot_endStep (s : State) (n : Nat) (why : Option Reasons) : s.KeepsSlot n (s.endStep n why) := by
  cases why with
  | none =>
    unfold State.endStep
    dsimp only
    split
    · exact .refl ..
    · exact s.keepsSlot_finishStep n
  | some r =>
    unfold State.endStep
    dsimp only
    split
    · exact .refl ..
    · exact (s.keepsSlot_cutBanks n).trans (State.keepsSlot_joinSkip ..)

theorem State.stopSeq_eq (hf : (s.seq n).frozen = none) (why : Option Reasons) : s.stopSeq n why =
    (((((s.endStep n why).closeSkip n).modSeq n SeqState.stopped).answerWaiting (.seqStart n) .busy []).answerWaiting
      (.seqStop n) .ok []).afterStop := by
  unfold State.stopSeq
  dsimp only
  rw [hf]
  cases why <;> rfl

/-- What follows a stop, answers and the end of Ranging, leaves the sequencer stopped. -/
theorem State.Stopped.after (h : s.Stopped n t) (hd : (t.seq n).cfg.domain = 1) :
    s.Stopped n ((t.answerWaiting (.seqStart n) .busy []).answerWaiting (.seqStop n) .ok []).afterStop := by
  have hq : ((t.answerWaiting (.seqStart n) .busy []).answerWaiting (.seqStop n) .ok []).seq n = t.seq n :=
    State.seq_of_sq ((State.answerWaiting_field untouchedBySlots_sq ..).trans
      (State.answerWaiting_field untouchedBySlots_sq ..)) n
  obtain ⟨x, hx⟩ := State.seq_afterStop (n := n)
    (s := (t.answerWaiting (.seqStart n) .busy []).answerWaiting (.seqStop n) .ok []) (by rw [hq]; exact hd)
  rw [hq] at hx
  obtain ⟨h1, h2, h3, h4, h5, h6⟩ := h
  exact ⟨by rw [hx]; exact h1, by rw [hx]; exact h2, by rw [hx]; exact h3, by rw [hx]; exact h4, by rw [hx]; exact h5,
    fun hp => by rw [hx]; exact h6 hp⟩

/-- A sequencer of the time domain that is in no under-run stops. -/
theorem State.stopSeq_stopped (hd : (s.seq n).cfg.domain = 1) (hf : (s.seq n).frozen = none) (why : Option Reasons) :
    s.Stopped n (s.stopSeq n why) := by
  have hend := s.keepsSlot_endStep n why
  obtain ⟨⟨hk, hl, hc⟩, -⟩ := hend.trans (State.keepsSlot_closeSkip _ n)
  have hw : (((s.endStep n why).closeSkip n).modSeq n SeqState.stopped).seq n =
      (((s.endStep n why).closeSkip n).seq n).stopped := State.seq_setSeq_self ..
  rw [State.stopSeq_eq hf]
  refine State.Stopped.after ?_ ?_
  · refine ⟨by rw [hw]; rfl, by rw [hw]; exact hk, by rw [hw]; rfl, by rw [hw]; rfl, by rw [hw]; exact hl, fun hp => ?_⟩
    rw [hw]
    exact State.skip_closeSkip (hend.2.trans hp) n
  · rw [hw]
    exact (congrArg SeqCfg.domain hc).trans hd

/-- The boundary at which a sequencer that has met HALT stands (R99). -/
theorem State.boundary_halts (hf : (s.seq n).frozen = none) (hh : (s.seq n).halting = true) (x : Int) (f : Tq) (due : Bool) :
    s.boundary n x f due = (s.publish (prodSeq n 5) f 0).stopSeq n none := by
  have hnone : s.stopHere n = none := by
    unfold State.stopHere
    dsimp only
    rw [hf]
    exact if_pos hh
  have hplain : s.plainBoundary n x f due = s.haltSeq n f := if_pos hh
  rw [State.boundary, hnone, hf]
  exact hplain

/-- The boundary at which a stop is due (R104). -/
theorem State.boundary_due (hf : (s.seq n).frozen = none) (hh : (s.seq n).halting = false) (hs : s.stopIsDue n = true)
    (x : Int) (f : Tq) (due : Bool) : ∃ why, s.boundary n x f due = s.stopSeq n why := by
  have hdue : ∃ r, (s.seq n).stopDue ((s.seq n).begins (s.sq.mem.entry (s.seq n).nextEntry)) (s.seq n).segEnded = some r := by
    obtain ⟨r, hr, hdue⟩ := List.any_eq_true.mp hs
    have hmem : r ∈ (s.seq n).stops.filter (fun r => decide (r.mode = 1 ∨
        (r.mode = 0 ∧ (s.seq n).begins (s.sq.mem.entry (s.seq n).nextEntry) = true) ∨
        (r.mode = 2 ∧ (s.seq n).segEnded = true))) := List.mem_filter.mpr ⟨hr, by simpa [or_assoc] using hdue⟩
    have hne := List.ne_nil_of_mem hmem
    refine ⟨_, if_neg ?_⟩
    simpa using hne
  obtain ⟨r, hr⟩ := hdue
  have hhere : ∃ why, s.stopHere n = some why := by
    unfold State.stopHere
    dsimp only
    rw [hf]
    dsimp only
    rw [hr, if_neg (by rw [hh]; exact Bool.false_ne_true)]
    exact ⟨_, rfl⟩
  obtain ⟨why, hwhy⟩ := hhere
  exact ⟨why, by rw [State.boundary, hwhy]⟩

/-- A sequencer that has met HALT, or of which a stop is asked that is due, stops at the boundary (R99, R104). -/
theorem State.boundary_stops (hd : (s.seq n).cfg.domain = 1) (hf : (s.seq n).frozen = none)
    (hs : (s.seq n).halting = true ∨ s.stopIsDue n = true) (x : Int) (f : Tq) (due : Bool) :
    s.Stopped n (s.boundary n x f due) := by
  cases hh : (s.seq n).halting with
  | true =>
    have hq : (s.publish (prodSeq n 5) f 0).seq n = s.seq n := State.seq_of_sq (s.sq_publish ..) n
    have hp : (s.publish (prodSeq n 5) f 0).dev = s.dev := by
      obtain ⟨y, hy⟩ := s.publish_fab (prodSeq n 5) f 0
      rw [hy]
    obtain ⟨hrun, hk, hstops, hjump, hlast, hskip⟩ := State.stopSeq_stopped (s := s.publish (prodSeq n 5) f 0) (n := n)
      (by rw [hq]; exact hd) (by rw [hq]; exact hf) none
    rw [hq] at hk hlast
    rw [hp] at hskip
    rw [State.boundary_halts hf hh]
    exact ⟨hrun, hk, hstops, hjump, hlast, hskip⟩
  | false =>
    obtain ⟨why, he⟩ := State.boundary_due hf hh (hs.resolve_left (by rw [hh]; exact Bool.false_ne_true)) x f due
    rw [he]
    exact State.stopSeq_stopped hd hf why

/-- SLOT_ISSUE at a boundary at which the sequencer stops (R99, R104). -/
theorem slotIssue_stops {f : Tq} (hb : s.atBoundary n f) (hs : (s.seq n).halting = true ∨ s.stopIsDue n = true) :
    ∃ t, exec (.slotIssue n) s = .next t ∧ (t.seq n).run = .stopped ∧ (t.seq n).k = (s.seq n).k ∧ (t.seq n).stops = [] ∧
      (t.seq n).jump = none ∧ (t.seq n).lastFire = (s.seq n).lastFire ∧ (s.dev.pfail = false → (t.seq n).skip = none) := by
  obtain ⟨hn, hr, hd, hstep, hj, hfr, hf, hdue, hw⟩ := hb
  have ha := State.atSeq_atIssue hstep hw f
  have hq := ha.2
  have hp : (s.atIssue n f).dev = s.dev := ha.field State.dev fun _ _ => rfl
  have hst := State.boundary_stops (s := s.atIssue n f) (n := n) (by rw [hq]; exact hd) (by rw [hq]; exact hfr)
    (by rw [hq, ha.stopIsDue]; exact hs) ((s.seq n).accum.position (s.seq n).k) f false
  have hrun : (((s.atIssue n f).boundary n ((s.seq n).accum.position (s.seq n).k) f false).seq n).running = false := by
    rw [SeqState.running, hst.run]; rfl
  refine ⟨_, ?_, hst.run, hst.k.trans (by rw [hq]), hst.stops, hst.jump, hst.lastFire.trans (by rw [hq]),
    fun h => hst.skip (by rw [hp]; exact h)⟩
  rw [exec_slotIssue hn hr, State.issueSlot_boundary (hf ▸ State.fireTime_time hd _) hstep hdue hj]
  dsimp only
  rw [hrun]
  rfl

end Sys2Proof.Machine

/-! SUPPORT. The gates of a slot that is played (R163, R164). -/

namespace Sys2Proof.Machine

variable {s t u w : State} {n : Nat} {q : SeqState}

/-! ## The bank of a channel -/

/-- What a table lists of other numbers does not change when one number is set. -/
theorem Tab.filter_put {α : Type} [DecidableEq α] {p : Nat → Bool} {k : Nat} (h : p k = false) (d v : α) (l : Tab α) :
    (Tab.put d l k v).filter (fun b => p b.1) = l.filter fun b => p b.1 := by
  have herase (l : Tab α) : (Tab.erase l k).filter (fun b => p b.1) = l.filter fun b => p b.1 := by
    induction l with
    | nil => rfl
    | cons b l ih =>
      obtain ⟨j, a⟩ := b
      by_cases hj : j = k
      · subst hj; simp [Tab.erase, ih, h]
      · simp [Tab.erase, hj, List.filter_cons, ih]
  have hinsert (l : Tab α) : (Tab.insert l k v).filter (fun b => p b.1) = l.filter fun b => p b.1 := by
    induction l with
    | nil => simp [Tab.insert, h]
    | cons b l ih =>
      obtain ⟨j, a⟩ := b
      unfold Tab.insert
      split
      · rw [List.filter_cons_of_neg (by simp [h])]
      · split
        next hj => subst hj; simp [h]
        next => simp [List.filter_cons, ih]
  unfold Tab.put
  split
  · exact herase l
  · exact hinsert l

/-- The bank that a step holds on a channel is told by what the table lists of the channel's banks. -/
theorem State.bankOf_congr {c : Nat} (h : t.hist.banks.filter (fun b => decide (b.1 / 2 = c)) =
    s.hist.banks.filter fun b => decide (b.1 / 2 = c)) (n : Nat) : t.bankOf n c = s.bankOf n c := by
  have hfind (z : State) : z.bankOf n c = ((z.hist.banks.filter fun b => decide (b.1 / 2 = c)).find? fun b =>
      decide (b.2.state = .filling) && match b.2.step with
        | some st => decide (st.seq = n) && !st.allIssued
        | none => false).map (·.1) := by
    unfold State.bankOf State.stepBanks
    rw [List.find?_map, List.find?_filter, List.find?_filter]
    congr 2
    funext b
    exact decide_eq_decide.mpr and_comm
  rw [hfind, hfind, h]

theorem State.bankOf_channel {c b : Nat} (h : s.bankOf n c = some b) : b / 2 = c := by
  have := List.find?_some h
  simpa using this

/-! ## One gate (R163, R164) -/

theorem Gate.meets_all (bs : List Blanking) (g : Gate) : (bs.foldl Gate.meets g).queue = g.queue ∧
    (bs.foldl Gate.meets g).shot = g.shot ∧ (bs.foldl Gate.meets g).slot = g.slot ∧ (bs.foldl Gate.meets g).tOpen = g.tOpen ∧
    (bs.foldl Gate.meets g).tClose = g.tClose ∧ (bs.foldl Gate.meets g).life = g.life ∧
    (bs.foldl Gate.meets g).bank = g.bank := by
  induction bs generalizing g with
  | nil => exact ⟨rfl, rfl, rfl, rfl, rfl, rfl, rfl⟩
  | cons b bs ih =>
    have hb : (g.meets b).queue = g.queue ∧ (g.meets b).shot = g.shot ∧ (g.meets b).slot = g.slot ∧
        (g.meets b).tOpen = g.tOpen ∧ (g.meets b).tClose = g.tClose ∧ (g.meets b).life = g.life ∧
        (g.meets b).bank = g.bank := by
      unfold Gate.meets
      (repeat' split) <;> exact ⟨rfl, rfl, rfl, rfl, rfl, rfl, rfl⟩
    obtain ⟨h1, h2, h3, h4, h5, h6, h7⟩ := ih (g.meets b)
    obtain ⟨k1, k2, k3, k4, k5, k6, k7⟩ := hb
    exact ⟨h1.trans k1, h2.trans k2, h3.trans k3, h4.trans k4, h5.trans k5, h6.trans k6, h7.trans k7⟩

/-- What channel `c` of `s` becomes, `x`, as a slot arms its gate: shot `id` in slot `k` at `f`, by gate profile `p` (R163,
R164). -/
structure State.Arms (s : State) (n id : Nat) (k : Int) (f : Tq) (p c : Nat) (x : Channel) : Prop where
  row : x.row = (s.chan c).row
  armed : ∀ q, (s.chan c).freeQueue = some q → ∃ g : Gate, x.gates = (s.chan c).gates ++ [g] ∧ g.queue = some q ∧
    g.shot = some id ∧ g.slot = k ∧ g.tOpen = (f + ((s.gateProf p).openOffset : Int)) / 4 * 4 ∧
    g.tClose = g.tOpen + ((s.gateProf p).length : Int) ∧ g.life = .armed ∧ g.bank = s.bankOf n c
  refused : (s.chan c).freeQueue = none → x.gates = (s.chan c).gates ∧ x.refused = (s.chan c).refused.inc

/-- `t` is `s` but for channels, banks and published events. -/
def State.AtGates (s t : State) : Prop :=
  ∃ x b y, t = { s with rx := { s.rx with channels := x }, hist := { s.hist with banks := b }, fab := y }

theorem State.AtGates.refl (s : State) : s.AtGates s := ⟨s.rx.channels, s.hist.banks, s.fab, rfl⟩

theorem State.AtGates.trans (h : s.AtGates t) (h' : t.AtGates u) : s.AtGates u := by
  obtain ⟨x, b, y, rfl⟩ := h
  obtain ⟨x', b', y', rfl⟩ := h'
  exact ⟨x', b', y', rfl⟩

/-- The gate of a slot on channel `c`. -/
def State.armSlot (s : State) (n id : Nat) (k : Int) (f : Tq) (p : Nat) (offs : List Nat) (c : Nat) : State :=
  s.armGate c (s.slotGate n id k f p (s.bankOf n c) offs)

theorem State.atGates_modDesc (s : State) (o : Option Nat) (g : Descriptor → Descriptor) : s.AtGates (s.modDesc o g) := by
  cases o with
  | none => exact .refl s
  | some b => exact ⟨s.rx.channels, _, s.fab, rfl⟩

theorem State.chan_modDesc (s : State) (o : Option Nat) (g : Descriptor → Descriptor) (d : Nat) :
    (s.modDesc o g).chan d = s.chan d := by
  cases o <;> rfl

/-- The mark of a gate that finds no queue leaves the banks of other channels. -/
theorem State.bankOf_modDesc {c d : Nat} (hd : d ≠ c) {o : Option Nat} (ho : ∀ b, o = some b → b / 2 = c)
    (s : State) (g : Descriptor → Descriptor) : (s.modDesc o g).bankOf n d = s.bankOf n d := by
  cases o with
  | none => rfl
  | some b =>
    refine State.bankOf_congr ?_ n
    exact Tab.filter_put (p := fun j => decide (j / 2 = d)) (by rw [ho b rfl]; exact decide_eq_false (Ne.symm hd)) _ _ _

theorem State.armSlot_eq (s : State) (n id : Nat) (k : Int) (f : Tq) (p : Nat) (offs : List Nat) (c : Nat) :
    s.AtGates (s.armSlot n id k f p offs c) ∧ s.Arms n id k f p c ((s.armSlot n id k f p offs c).chan c) ∧
      ∀ d, d ≠ c → (s.armSlot n id k f p offs c).chan d = s.chan d ∧
        (s.armSlot n id k f p offs c).bankOf n d = s.bankOf n d := by
  cases hq : (s.chan c).freeQueue with
  | some q =>
    let g := (s.tx.blanked.filter fun b => decide (b.channel = c)).foldl Gate.meets
      { s.slotGate n id k f p (s.bankOf n c) offs with id := (s.chan c).nextGate, queue := some q }
    have he : s.armSlot n id k f p offs c =
        s.setChan c { s.chan c with gates := (s.chan c).gates ++ [g], nextGate := (s.chan c).nextGate + 1 } := by
      unfold State.armSlot State.armGate
      dsimp only
      rw [hq]
    rw [he]
    refine ⟨⟨_, s.hist.banks, s.fab, rfl⟩, ⟨?_, fun q' hq' => ?_, fun h => ?_⟩,
      fun d hd => ⟨State.chan_setChan_ne _ _ _ _ hd, rfl⟩⟩
    · rw [State.chan_setChan_self]
    · rw [State.chan_setChan_self]
      obtain rfl : q = q' := Option.some.inj (hq.symm.trans hq')
      obtain ⟨h1, h2, h3, h4, h5, h6, h7⟩ := Gate.meets_all (s.tx.blanked.filter fun b => decide (b.channel = c))
        { s.slotGate n id k f p (s.bankOf n c) offs with id := (s.chan c).nextGate, queue := some q }
      exact ⟨g, rfl, h1, h2, h3, h4, h5.trans (by rw [h4]; rfl), h6, h7⟩
    · rw [hq] at h; cases h
  | none =>
    let z := (s.setChan c { s.chan c with refused := (s.chan c).refused.inc }).modDesc (s.bankOf n c)
      fun d => { d with gatesMissing := d.gatesMissing + 1 }
    obtain ⟨y, hy⟩ : ∃ y, s.armSlot n id k f p offs c = { z with fab := y } := by
      unfold State.armSlot State.armGate
      dsimp only
      rw [hq]
      exact State.publish_fab ..
    have hset : s.AtGates (s.setChan c { s.chan c with refused := (s.chan c).refused.inc }) :=
      ⟨_, s.hist.banks, s.fab, rfl⟩
    have hchan := (s.setChan c { s.chan c with refused := (s.chan c).refused.inc }).chan_modDesc (s.bankOf n c)
      fun d => { d with gatesMissing := d.gatesMissing + 1 }
    rw [hy]
    refine ⟨(hset.trans (State.atGates_modDesc ..)).trans ⟨_, _, y, rfl⟩, ?_, fun d hd => ⟨?_, ?_⟩⟩
    · change s.Arms n id k f p c (z.chan c)
      rw [hchan, State.chan_setChan_self]
      exact ⟨rfl, fun q h => by (rw [hq] at h; cases h), fun _ => ⟨rfl, rfl⟩⟩
    · exact (hchan d).trans (State.chan_setChan_ne _ _ _ _ hd)
    · exact State.bankOf_modDesc hd (fun b => State.bankOf_channel) _ _

end Sys2Proof.Machine

/-! SUPPORT. The rows of a slot that is played: shots, gates and the entries for the outputs (R43, R72, R97, R163). -/

namespace Sys2Proof.Machine

variable {s t u w : State} {n : Nat} {q : SeqState}

theorem State.Arms.congr {id p c : Nat} {k : Int} {f : Tq} {x : Channel} (h : t.Arms n id k f p c x)
    (hc : t.chan c = s.chan c) (hp : t.gateProf p = s.gateProf p) (hb : t.bankOf n c = s.bankOf n c) :
    s.Arms n id k f p c x := by
  obtain ⟨h1, h2, h3⟩ := h
  rw [hc] at h1 h2 h3
  rw [hp, hb] at h2
  exact ⟨h1, h2, h3⟩

/-- The gates of a slot on several channels. -/
theorem State.armSlots (id : Nat) (k : Int) (f : Tq) (p : Nat) (offs : List Nat) (cs : List Nat) (hnd : cs.Nodup) (s : State) :
    s.AtGates (s.each cs fun s c => s.armSlot n id k f p offs c) ∧
    (∀ c ∈ cs, s.Arms n id k f p c ((s.each cs fun s c => s.armSlot n id k f p offs c).chan c)) ∧
    ∀ d ∉ cs, (s.each cs fun s c => s.armSlot n id k f p offs c).chan d = s.chan d ∧
      (s.each cs fun s c => s.armSlot n id k f p offs c).bankOf n d = s.bankOf n d := by
  induction cs generalizing s with
  | nil => exact ⟨.refl s, fun _ h => absurd h List.not_mem_nil, fun _ _ => ⟨rfl, rfl⟩⟩
  | cons c cs ih =>
    obtain ⟨hc, hcs⟩ := List.nodup_cons.mp hnd
    obtain ⟨hat, harm, hother⟩ := s.armSlot_eq n id k f p offs c
    obtain ⟨hat', harm', hother'⟩ := ih hcs (s.armSlot n id k f p offs c)
    have hstep : (s.each (c :: cs) fun s c => s.armSlot n id k f p offs c) =
        (s.armSlot n id k f p offs c).each cs fun s c => s.armSlot n id k f p offs c := rfl
    have hprof : (s.armSlot n id k f p offs c).gateProf p = s.gateProf p := by
      obtain ⟨x, b, y, he⟩ := hat
      rw [he]; rfl
    rw [hstep]
    refine ⟨hat.trans hat', fun d hd => ?_, fun d hd => ?_⟩
    · obtain rfl | hmem := List.mem_cons.mp hd
      · rw [(hother' d hc).1]; exact harm
      · have hne : d ≠ c := fun h => hc (h ▸ hmem)
        exact (harm' d hmem).congr (hother d hne).1 hprof (hother d hne).2
    · obtain ⟨hne, hni⟩ := not_or.mp fun h => hd (List.mem_cons.mpr h)
      exact ⟨(hother' d hni).1.trans (hother d hne).1, (hother' d hni).2.trans (hother d hne).2⟩

/-! ## One row (R72, R97, R163) -/

/-- `t` is `s` but for shots, channels, banks and published events. -/
def State.AtFire (s t : State) : Prop :=
  ∃ m sh x b y, t = { s with tx := { s.tx with nextShot := m, shots := sh }, rx := { s.rx with channels := x },
                             hist := { s.hist with banks := b }, fab := y }

theorem State.AtFire.trans (h : s.AtFire t) (h' : t.AtFire u) : s.AtFire u := by
  obtain ⟨m, sh, x, b, y, rfl⟩ := h
  obtain ⟨m', sh', x', b', y', rfl⟩ := h'
  exact ⟨m', sh', x', b', y', rfl⟩

/-- Shot `x` is that of row `r` in slot `k` of sequencer `n`. -/
def State.FitsShot (s : State) (n r : Nat) (k : Int) (x : Shot) : Prop :=
  x.seq = n ∧ x.row = r ∧ x.slot = k ∧ x.offsets = codeOffsets s.tx.deviceId r k (s.code (s.seq n).gran.code) ∧
    x.w = (s.seq n).gran.amplitude ∧ x.ref = none

/-- Output `o` takes the bursts of row `r` (R97). -/
def State.playsRow (s : State) (o r : Nat) : Bool :=
  decide ((s.out o).cfg.enable = 1 ∧ (s.out o).cfg.cls ≤ 2 ∧ (s.out o).cfg.row = r)

/-- What a slot of sequencer `n` delivers to output `o` of row `r`, `id` being the shot. -/
def State.slotEntry (s : State) (n r : Nat) (k : Int) (f : Tq) (id o : Nat) : Entry :=
  { src := .slot n
    tTrig := f
    gen := 0
    burst := if (s.out o).cfg.cls = 0 then
        .given (codeOffsets s.tx.deviceId r k (s.code (s.seq n).gran.code)) (s.seq n).gran.amplitude
      else .own
    shot := if (s.out o).cfg.cls = 0 then some id else none
    came := s.clock }

/-- The channels of the step in play that watch row `r`. -/
def State.watching (s : State) (n r : Nat) : List Nat :=
  (s.seq n).step.channels.filter fun c => decide ((s.chan c).row = r)

/-- Shot `x` takes the next number. -/
def State.withShot (s : State) (x : Shot) : State :=
  { s with tx := { s.tx with nextShot := s.tx.nextShot + 1, shots := Tab.put none s.tx.shots s.tx.nextShot (some x) } }

theorem State.shot_withShot_self (s : State) (x : Shot) : (s.withShot x).shot s.tx.nextShot = some x :=
  s.shot_setShot_self s.tx.nextShot (some x)

theorem State.shot_withShot_ne {j : Nat} (h : j ≠ s.tx.nextShot) (x : Shot) : (s.withShot x).shot j = s.shot j :=
  s.shot_setShot_ne s.tx.nextShot j (some x) h

/-- A row takes a shot, arms its gates and brings its entries. -/
theorem State.fireRow_eq (s : State) (n r : Nat) (k : Int) (f : Tq) : ∃ x, s.FitsShot n r k x ∧
    s.fireRow n r k f =
      ((s.withShot x).each (s.watching n r) fun u c => u.armSlot n s.tx.nextShot k f (s.seq n).step.profile
          (codeOffsets s.tx.deviceId r k (s.code (s.seq n).gran.code)) c,
        (outputNumbers.filter fun o => s.playsRow o r).map fun o => (o, s.slotEntry n r k f s.tx.nextShot o)) := by
  refine ⟨?shot, ?fits, Prod.ext ?state ?entries⟩
  case state => rfl
  case fits => exact ⟨rfl, rfl, rfl, rfl, rfl, rfl⟩
  case entries =>
    refine List.map_congr_left fun o _ => ?_
    unfold State.slotEntry
    split
    · rfl
    · rfl

/-! ## Rows one after the other -/

theorem State.fireRows_cons (s : State) (n : Nat) (k : Int) (f : Tq) (r : Nat) (rs : List Nat) :
    s.fireRows n k f (r :: rs) = (((s.fireRow n r k f).1.fireRows n k f rs).1,
      (s.fireRow n r k f).2 ++ ((s.fireRow n r k f).1.fireRows n k f rs).2) := by
  have hacc (rows : List Nat) (p : State × List (Nat × Entry)) : rows.foldl (fun p row =>
      ((p.1.fireRow n row k f).1, p.2 ++ (p.1.fireRow n row k f).2)) p =
        ((p.1.fireRows n k f rows).1, p.2 ++ (p.1.fireRows n k f rows).2) := by
    induction rows generalizing p with
    | nil => exact Prod.ext rfl (List.append_nil _).symm
    | cons r rs ih =>
      unfold State.fireRows
      rw [List.foldl_cons, List.foldl_cons, ih, ih]
      simp [List.append_assoc]
  exact hacc rs (s.fireRow n r k f)

/-- What the rows of a slot leave: `t` and the entries for the outputs, the shots being numbered on from the next. -/
structure State.Fires (s : State) (n : Nat) (k : Int) (f : Tq) (rows : List Nat) (t : State) (es : List (Nat × Entry)) : Prop where
  frame : s.AtFire t
  next : t.tx.nextShot = s.tx.nextShot + rows.length
  before : ∀ j, j < s.tx.nextShot → t.shot j = s.shot j
  shots : ∀ i r, rows[i]? = some r → ∃ x, t.shot (s.tx.nextShot + i) = some x ∧ s.FitsShot n r k x
  entries : ∀ i r o, rows[i]? = some r → o ≤ 135 → s.playsRow o r = true →
    es.filter (fun p => decide (p.1 = o)) = [(o, s.slotEntry n r k f (s.tx.nextShot + i) o)]
  none : ∀ o, (s.out o).cfg.row ∉ rows → es.filter (fun p => decide (p.1 = o)) = []
  gates : ∀ i r c, rows[i]? = some r → c ∈ (s.seq n).step.channels → (s.chan c).row = r →
    s.Arms n (s.tx.nextShot + i) k f (s.seq n).step.profile c (t.chan c)
  others : ∀ c, (s.chan c).row ∉ rows → t.chan c = s.chan c

theorem State.watching_iff {r c : Nat} : c ∈ s.watching n r ↔ c ∈ (s.seq n).step.channels ∧ (s.chan c).row = r := by
  simp [State.watching]

/-- The entries of one row at an output: one where it plays the row, none where its row is another. -/
theorem State.rowEntry_filter (s : State) (n r : Nat) (k : Int) (f : Tq) (id o : Nat) :
    ((outputNumbers.filter fun o => s.playsRow o r).map fun o => (o, s.slotEntry n r k f id o)).filter
      (fun p => decide (p.1 = o)) =
      if o ≤ 135 ∧ s.playsRow o r = true then [(o, s.slotEntry n r k f id o)] else [] := by
  have hnd : (outputNumbers.filter fun o => s.playsRow o r).Nodup := List.nodup_range.filter _
  have hmem : o ∈ (outputNumbers.filter fun o => s.playsRow o r) ↔ o ≤ 135 ∧ s.playsRow o r = true := by
    rw [List.mem_filter, outputNumbers, List.mem_range, Nat.lt_succ_iff]
  have hcomp : ((fun p : Nat × Entry => decide (p.1 = o)) ∘ fun o => (o, s.slotEntry n r k f id o)) = fun j => decide (j = o) :=
    rfl
  rw [List.filter_map, hcomp, List.filter_eq, List.Nodup.count hnd]
  by_cases h : o ≤ 135 ∧ s.playsRow o r = true
  · rw [if_pos (hmem.mpr h), if_pos h]; rfl
  · rw [if_neg (mt hmem.mp h), if_neg h]; rfl

/-- What one row leaves. -/
theorem State.fireRow_fires (hnd : (s.seq n).step.channels.Nodup) (r : Nat) (k : Int) (f : Tq) :
    s.Fires n k f [r] (s.fireRow n r k f).1 (s.fireRow n r k f).2 ∧
      ∀ c, (s.chan c).row ≠ r → (s.fireRow n r k f).1.bankOf n c = s.bankOf n c := by
  obtain ⟨x, hx, he⟩ := s.fireRow_eq n r k f
  obtain ⟨⟨ch, b, y, hat⟩, harm, hother⟩ := State.armSlots (n := n) s.tx.nextShot k f (s.seq n).step.profile
    (codeOffsets s.tx.deviceId r k (s.code (s.seq n).gran.code)) (s.watching n r) (hnd.filter _) (s.withShot x)
  have hzero {i r' : Nat} (h : [r][i]? = some r') : i = 0 ∧ r' = r := by
    cases i with
    | zero => exact ⟨rfl, (Option.some.inj h).symm⟩
    | succ i => cases h
  have hnot {c : Nat} (h : (s.chan c).row ≠ r) : c ∉ s.watching n r := fun hc => h (State.watching_iff.mp hc).2
  rw [he]
  refine ⟨⟨?frame, ?next, ?before, ?shots, ?entries, ?none, ?gates, ?others⟩, fun c hc => (hother c (hnot hc)).2⟩
  case frame => exact ⟨_, _, ch, b, y, hat⟩
  case next => exact (congrArg (fun z : State => z.tx.nextShot) hat :)
  case before =>
    intro j hj
    exact ((congrArg (fun z : State => z.shot j) hat :)).trans (State.shot_withShot_ne (Nat.ne_of_lt hj) x)
  case shots =>
    intro i r' hr
    obtain ⟨rfl, rfl⟩ := hzero hr
    exact ⟨x, ((congrArg (fun z : State => z.shot s.tx.nextShot) hat :)).trans (s.shot_withShot_self x), hx⟩
  case entries =>
    intro i r' o hr ho hplay
    obtain ⟨rfl, rfl⟩ := hzero hr
    rw [State.rowEntry_filter, if_pos ⟨ho, hplay⟩]; rfl
  case none =>
    intro o ho
    rw [State.rowEntry_filter, if_neg]
    rintro ⟨-, hplay⟩
    have := of_decide_eq_true hplay
    simp [this.2.2] at ho
  case gates =>
    intro i r' c hr hc hrow
    obtain ⟨rfl, rfl⟩ := hzero hr
    exact (harm c (State.watching_iff.mpr ⟨hc, hrow⟩)).congr rfl rfl rfl
  case others =>
    intro c hc
    exact (hother c (hnot (by simpa using hc))).1

/-- What a row leaves for the next one as it was. -/
theorem State.AtFire.same (h : s.AtFire t) (n : Nat) : t.seq n = s.seq n ∧ (∀ r k x, t.FitsShot n r k x = s.FitsShot n r k x) ∧
    (∀ r k f id o, t.slotEntry n r k f id o = s.slotEntry n r k f id o) ∧ (∀ o r, t.playsRow o r = s.playsRow o r) ∧
    (∀ o, t.out o = s.out o) ∧ ∀ p, t.gateProf p = s.gateProf p := by
  obtain ⟨m, sh, x, b, y, rfl⟩ := h
  exact ⟨rfl, fun _ _ _ => rfl, fun _ _ _ _ _ => rfl, fun _ _ => rfl, fun _ => rfl, fun _ => rfl⟩

theorem State.Fires.nil (s : State) (n : Nat) (k : Int) (f : Tq) : s.Fires n k f [] s [] where
  frame := ⟨_, _, _, _, _, rfl⟩
  next := rfl
  before _ _ := rfl
  shots _ _ h := nomatch h
  entries _ _ _ h := nomatch h
  none _ _ := rfl
  gates _ _ _ h := nomatch h
  others _ _ := rfl

/-- A row, then others. -/
theorem State.Fires.cons {k : Int} {f : Tq} {r : Nat} {rs : List Nat} {es es' : List (Nat × Entry)} (hr : r ∉ rs)
    (h : s.Fires n k f [r] u es) (hbank : ∀ c, (s.chan c).row ≠ r → u.bankOf n c = s.bankOf n c)
    (h' : u.Fires n k f rs t es') : s.Fires n k f (r :: rs) t (es ++ es') := by
  obtain ⟨hseq, hfits, hentry, hplays, hout, hprof⟩ := h.frame.same n
  have hnext : u.tx.nextShot = s.tx.nextShot + 1 := h.next
  have hone : [r][0]? = some r := rfl
  refine ⟨h.frame.trans h'.frame, ?next, ?before, ?shots, ?entries, ?none, ?gates, ?others⟩
  case next => rw [h'.next, hnext, List.length_cons]; omega
  case before =>
    intro j hj
    rw [h'.before j (by omega), h.before j hj]
  case shots =>
    intro i r' hi
    cases i with
    | zero =>
      obtain rfl : r = r' := Option.some.inj hi
      obtain ⟨x, hx, hfit⟩ := h.shots 0 r hone
      exact ⟨x, (h'.before _ (by omega)).trans hx, hfit⟩
    | succ i =>
      obtain ⟨x, hx, hfit⟩ := h'.shots i r' hi
      rw [hnext] at hx
      exact ⟨x, by rw [← hx]; congr 1; omega, hfits r' k x ▸ hfit⟩
  case entries =>
    intro i r' o hi ho hp
    have hrow : (s.out o).cfg.row = r' := (of_decide_eq_true hp).2.2
    rw [List.filter_append]
    cases i with
    | zero =>
      obtain rfl : r = r' := Option.some.inj hi
      rw [h.entries 0 r o hone ho hp, h'.none o (by rw [hout, hrow]; exact hr)]; rfl
    | succ i =>
      have hmem : r' ∈ rs := List.mem_of_getElem? hi
      have hne : (s.out o).cfg.row ∉ [r] := by
        rw [hrow, List.mem_singleton]
        exact fun h => hr (h ▸ hmem)
      have hid : u.tx.nextShot + i = s.tx.nextShot + (i + 1) := by omega
      rw [h.none o hne, h'.entries i r' o hi ho (by rw [hplays, hp]), hentry, hid]; rfl
  case none =>
    intro o ho
    obtain ⟨hne, hni⟩ := not_or.mp fun h => ho (List.mem_cons.mpr h)
    rw [List.filter_append, h.none o (by simpa using hne), h'.none o (by rw [hout]; exact hni)]; rfl
  case gates =>
    intro i r' c hi hc hrow
    cases i with
    | zero =>
      obtain rfl : r = r' := Option.some.inj hi
      have harm := h.gates 0 r c hone hc hrow
      rw [h'.others c (by rw [harm.row, hrow]; exact hr)]
      exact harm
    | succ i =>
      have hne : (s.chan c).row ≠ r := fun h => hr ((hrow.symm.trans h) ▸ List.mem_of_getElem? hi)
      have hsame : u.chan c = s.chan c := h.others c (by simpa using hne)
      have harm := h'.gates i r' c hi (by rw [hseq]; exact hc) (by rw [hsame]; exact hrow)
      have hid : u.tx.nextShot + i = s.tx.nextShot + (i + 1) := by omega
      rw [hseq, hid] at harm
      exact harm.congr hsame (hprof _) (hbank c hne)
  case others =>
    intro c hc
    obtain ⟨hne, hni⟩ := not_or.mp fun h => hc (List.mem_cons.mpr h)
    have hsame : u.chan c = s.chan c := h.others c (by simpa using hne)
    rw [h'.others c (by rw [hsame]; exact hni), hsame]

theorem State.fireRows_fires (k : Int) (f : Tq) (rows : List Nat) (hrows : rows.Nodup) (s : State)
    (hnd : (s.seq n).step.channels.Nodup) :
    s.Fires n k f rows (s.fireRows n k f rows).1 (s.fireRows n k f rows).2 := by
  induction rows generalizing s with
  | nil => exact .nil ..
  | cons r rs ih =>
    obtain ⟨hr, hrs⟩ := List.nodup_cons.mp hrows
    obtain ⟨h, hbank⟩ := State.fireRow_fires hnd r k f
    rw [State.fireRows_cons]
    exact h.cons hr hbank (ih hrs _ (by rw [(h.frame.same n).1]; exact hnd))

end Sys2Proof.Machine

/-! SUPPORT. The entries of a slot at the schedule inputs, and SLOT_ISSUE of a slot that is played (R43, R51, R97, R98, R163). -/

namespace Sys2Proof.Machine

variable {s t u w : State} {n : Nat} {q : SeqState}

/-! ## Entries that arrive together (R51, R52) -/

theorem sortBy_perm {α : Type} (le : α → α → Bool) (l : List α) : (sortBy le l).Perm l := by
  have hfront (x : α) (l : List α) : (sortBy.insertFront le x l).Perm (x :: l) := by
    induction l with
    | nil => exact .refl _
    | cons y l ih =>
      unfold sortBy.insertFront
      split
      · exact .refl _
      · exact (ih.cons y).trans (.swap x y l)
  induction l with
  | nil => exact .refl _
  | cons x l ih => exact (hfront x _).trans (ih.cons x)

/-- What arrivals leave as it is. -/
theorem State.arriveAll_field {β : Type} {g : State → β} (hout : ∀ (s : State) o v, g (s.setOut o v) = g s)
    (hwait : ∀ (s : State) l, g { s with mbx := { s.mbx with waiting := l } } = g s)
    (hcore : ∀ s t : State, t.core = s.core → g t = g s) (s : State) (es : List (Nat × Entry)) : g (s.arriveAll es) = g s :=
  State.foldl_field g _ (fun u (p : Nat × Entry) => State.arrive_field (o := p.1) (fun s v => hout s p.1 v) hwait hcore u p.2) _ _

/-- Output `o`, the loop and the device, which decide what becomes of an entry there. -/
def State.atOutput (s : State) (o : Nat) : OutState × Pll × Startup := (s.out o, s.pll, s.dev)

/-- An output takes an entry: room is there, it is not stopped, and the device is in a state in which entries are taken. -/
def State.takesEntry (s : State) (o : Nat) : Prop :=
  (s.stopsWithPll o && s.firingStopped) = false ∧ s.dev.run ≠ .nadir ∧ s.dev.warm = false ∧ s.ballsOff = false ∧
    (s.out o).sched.length < 4

theorem State.takesEntry_congr {o : Nat} (h : t.atOutput o = s.atOutput o) : t.takesEntry o ↔ s.takesEntry o := by
  have hout : t.out o = s.out o := congrArg Prod.fst h
  have hpll : t.pll = s.pll := congrArg (·.2.1) h
  have hdev : t.dev = s.dev := congrArg (·.2.2) h
  unfold State.takesEntry State.stopsWithPll State.firingStopped State.ballsOff
  rw [hout, hpll, hdev]

theorem State.arrive_other {o j : Nat} (h : j ≠ o) (s : State) (e : Entry) : (s.arrive o e).1.atOutput j = s.atOutput j :=
  State.arrive_field (g := (State.atOutput · j))
    (fun s v => by unfold State.atOutput; rw [State.out_setOut_ne _ _ _ _ h]; rfl) (fun _ _ => rfl)
    (fun _ _ h => (congrArg (State.atOutput · j) h :)) s e

theorem State.arrive_takes {o : Nat} (h : s.takesEntry o) (e : Entry) :
    ((s.arrive o e).1.out o).sched = insertBy waitLe e (s.out o).sched := by
  obtain ⟨hstop, hnadir, hwarm, hoff, hroom⟩ := h
  have hrun : ¬ (s.dev.run = .nadir ∨ s.dev.warm = true ∨ s.ballsOff = true) := by
    rw [hwarm, hoff]
    simpa using hnadir
  have he : s.arrive o e = (s.setOut o { s.out o with sched := insertBy waitLe e (s.out o).sched }, .waits) := by
    unfold State.arrive
    dsimp only
    rw [hstop, if_neg Bool.false_ne_true, if_neg hrun, if_pos hroom]
  rw [he, State.out_setOut_self]

/-- Of entries that arrive together, the one for output `o`. -/
theorem State.arriveAll_takes {o : Nat} {e : Entry} {es : List (Nat × Entry)} (h : s.takesEntry o)
    (hes : es.filter (fun p => decide (p.1 = o)) = [(o, e)]) :
    ((s.arriveAll es).out o).sched = insertBy waitLe e (s.out o).sched := by
  have hskip (l : List (Nat × Entry)) (s : State) (hl : l.filter (fun p => decide (p.1 = o)) = []) :
      (l.foldl (fun s p => (s.arrive p.1 p.2).1) s).atOutput o = s.atOutput o := by
    induction l generalizing s with
    | nil => rfl
    | cons p l ih =>
      have hp : o ≠ p.1 := fun h => by simp [h] at hl
      rw [List.filter_cons_of_neg (by simpa using Ne.symm hp)] at hl
      rw [List.foldl_cons, ih _ hl, State.arrive_other hp]
  have hone (l : List (Nat × Entry)) (s : State) (h : s.takesEntry o) (hl : l.filter (fun p => decide (p.1 = o)) = [(o, e)]) :
      ((l.foldl (fun s p => (s.arrive p.1 p.2).1) s).out o).sched = insertBy waitLe e (s.out o).sched := by
    induction l generalizing s with
    | nil => cases hl
    | cons p l ih =>
      by_cases hp : p.1 = o
      · rw [List.filter_cons_of_pos (by simpa using hp)] at hl
        obtain ⟨rfl, hnil⟩ := List.cons.inj hl
        have hout := congrArg Prod.fst (hskip l (s.arrive o e).1 hnil)
        exact (congrArg OutState.sched hout).trans (State.arrive_takes h e)
      · rw [List.filter_cons_of_neg (by simpa using hp)] at hl
        have hother := State.arrive_other (Ne.symm hp) s p.2
        rw [List.foldl_cons, ih _ ((State.takesEntry_congr hother).mpr h) hl]
        exact congrArg (fun x : OutState × Pll × Startup => insertBy waitLe e x.1.sched) hother
  refine hone _ s h ?_
  have hperm := ((sortBy_perm (fun a b : Nat × Entry => entryLe a.2 b.2) es).filter fun p => decide (p.1 = o))
  rw [hes] at hperm
  exact List.perm_singleton.mp hperm

end Sys2Proof.Machine

/-! O18: SLOT_ISSUE (R14, R93 to R109, R118, R163, R164, R179, R212). -/

namespace Sys2Proof.Machine

variable {s t u : State} {n : Nat}

/-! ## A slot that is played (R43, R97, R98, R163, R164) -/

/-- A slot that is not dark and meets no condition of R98 is played. -/
theorem State.plays_of_free {q : SeqState} {f : Tq} (hdark : q.granDark = false)
    (hlast : ∀ l, q.lastFire = some l → l + 262144 ≤ f) (htw : s.sv.run = .twilight → q.j % 2 = 0)
    (htest : bitField q.gran.testMask q.j q.j = 0) : s.plays q f false = true := by
  have h1 : q.isTest = false := Bool.eq_false_iff.mpr fun h => by
    have := (SeqState.isTest_iff.mp h).2
    omega
  have h2 : s.isOdd q = false := Bool.eq_false_iff.mpr fun h => by
    obtain ⟨hr, hj⟩ := State.isOdd_iff.mp h
    have := htw hr
    omega
  have h3 : q.isFast f = false := Bool.eq_false_iff.mpr fun h => by
    obtain ⟨l, hl, hlt⟩ := SeqState.isFast_iff.mp h
    exact absurd hlt (not_lt.mpr (hlast l hl))
  rw [State.plays, hdark, h1, h2, h3]; rfl

/-- The state in which the rows of a slot fire, and what they leave. -/
theorem State.fireSlot_fires (hnd : (s.seq n).step.channels.Nodup) (k : Int) (f : Tq) : ∃ u t es,
    s.AtSeq n (s.seq n).fired u ∧ u.Fires n k f (s.firedRows n) t es ∧ s.fireSlot n k f = t.arriveAll es := by
  have hu := s.atSeq_setSeq n (s.seq n).fired
  have hrows : (s.setSeq n (s.seq n).fired).firedRows n = s.firedRows n := by
    unfold State.firedRows
    rw [hu.2]; rfl
  have hfires := State.fireRows_fires (n := n) k f (s.firedRows n) (List.nodup_range.filter _) (s.setSeq n (s.seq n).fired)
    (by rw [hu.2]; exact hnd)
  refine ⟨_, _, _, hu, hfires, ?_⟩
  rw [State.fireSlot_eq, hrows]

theorem slotIssue_plays {f : Tq} (hn : n ≤ 7) (hr : (s.seq n).running = true) (hd : (s.seq n).cfg.domain = 1)
    (hstep : (s.seq n).stepTo = none) (hj : (s.seq n).j ≠ 0) (hf : f = (s.seq n).accum.position (s.seq n).k + (s.seq n).trim)
    (hdue : s.reached (f - 20480) = true) (hw : ∀ w ∈ s.mbx.waiting, w.1 ≠ .seqStart n)
    (hplays : s.plays (s.seq n) f false = true) (hnd : (s.seq n).step.channels.Nodup) :
    ∃ t u v es, exec (.slotIssue n) s = .next t ∧ (t.seq n).k = (s.seq n).k + 1 ∧ (t.seq n).lastFire = some f ∧
      t.sv = s.sv ∧ t.tb = s.tb ∧ s.AtSeq n ((s.noted (s.seq n) f false).fired) u ∧
      u.Fires n (s.seq n).k f (s.firedRows n) v es ∧ t.tx = (v.arriveAll es).tx ∧ t.rx = v.rx := by
  obtain ⟨he, hseq, -⟩ := slotIssue_inside hn hr (hf ▸ State.fireTime_time hd _) hstep hj hdue
  have ha := State.atSeq_atIssue hstep hw f
  rw [hplays] at hseq
  let z := (s.atIssue n f).setSeq n (s.noted (s.seq n) f false)
  have hz : s.AtSeq n (s.noted (s.seq n) f false) z := ha.setSeq _
  have hrows : z.firedRows n = s.firedRows n := by
    unfold State.firedRows
    rw [hz.2]; rfl
  obtain ⟨u, v, es, hu, hv, hfire⟩ := State.fireSlot_fires (s := z) (n := n) (by rw [hz.2]; exact hnd) (s.seq n).k f
  rw [hz.2] at hu
  rw [hrows] at hv
  have hnoted : (s.atIssue n f).noted (s.seq n) f false = s.noted (s.seq n) f false := by
    unfold State.noted State.isOdd
    rw [ha.sv]
  have hplays' : (s.atIssue n f).plays (s.seq n) f false = true := by
    rw [← hplays]
    unfold State.plays State.isOdd
    rw [ha.sv]
  have hslot : (s.atIssue n f).playSlot n f false = (v.arriveAll es).modSeq n (SeqState.passed f) := by
    rw [State.playSlot_eq, ha.2, if_pos hplays', hnoted, hfire]
  refine ⟨_, u, v, es, he, by rw [hseq]; rfl, by rw [hseq]; rfl, ?sv, ?tb, hz.trans hu, hv, by rw [hslot]; rfl, ?rx⟩
  case sv => exact (untouchedBySlots_sv.playSlot (fun _ _ => rfl) _ n f false).trans ha.sv
  case tb => exact (untouchedBySlots_tb.playSlot (fun _ _ => rfl) _ n f false).trans (ha.field State.tb fun _ _ => rfl)
  case rx =>
    rw [hslot]
    exact State.arriveAll_field (g := State.rx) (fun _ _ _ => rfl) (fun _ _ => rfl) (fun _ _ h => (congrArg State.rx h :)) v es

theorem State.shot_of_tx (h : t.tx = s.tx) (j : Nat) : t.shot j = s.shot j := by
  unfold State.shot
  rw [h]

theorem State.out_of_tx (h : t.tx = s.tx) (o : Nat) : t.out o = s.out o := by
  unfold State.out
  rw [h]

theorem State.chan_of_rx (h : t.rx = s.rx) (c : Nat) : t.chan c = s.chan c := by
  unfold State.chan
  rw [h]

theorem State.slotEntry_of_atSeq {q : SeqState} (h : s.AtSeq n q u) (hg : q.gran = (s.seq n).gran) (r : Nat) (k : Int) (f : Tq)
    (id o : Nat) : u.slotEntry n r k f id o = s.slotEntry n r k f id o := by
  obtain ⟨⟨x, y, rfl⟩, hq⟩ := h
  unfold State.slotEntry
  rw [hq, hg]
  rfl

theorem State.fitsShot_of_atSeq {q : SeqState} (h : s.AtSeq n q u) (hg : q.gran = (s.seq n).gran) (r : Nat) (k : Int)
    (x : Shot) : u.FitsShot n r k x ↔ s.FitsShot n r k x := by
  obtain ⟨⟨x, y, rfl⟩, hq⟩ := h
  unfold State.FitsShot
  rw [hq, hg]
  rfl

/-- What becomes of the shot, the outputs and the channels of each row that fires. -/
theorem State.row_of_fires {q : SeqState} {v : State} {es : List (Nat × Entry)} {f : Tq} {i r : Nat} (hu : s.AtSeq n q u)
    (hgran : q.gran = (s.seq n).gran) (hchannels : q.step.channels = (s.seq n).step.channels)
    (hprofile : q.step.profile = (s.seq n).step.profile) {rows : List Nat} {k : Int} (hv : u.Fires n k f rows v es)
    (htx : t.tx = (v.arriveAll es).tx) (hrx : t.rx = v.rx) (hi : rows[i]? = some r) :
    (∃ x, t.shot (s.tx.nextShot + i) = some x ∧ s.FitsShot n r k x) ∧
      (∀ o, o ≤ 135 → s.playsRow o r = true → s.takesEntry o →
        (t.out o).sched = insertBy waitLe (s.slotEntry n r k f (s.tx.nextShot + i) o) (s.out o).sched) ∧
      ∀ c, c ∈ (s.seq n).step.channels → (s.chan c).row = r →
        s.Arms n (s.tx.nextShot + i) k f (s.seq n).step.profile c (t.chan c) := by
  have hnext : u.tx.nextShot = s.tx.nextShot := congrArg Tx.nextShot hu.tx
  rw [← hnext]
  refine ⟨?shot, fun o ho hp ht => ?out, fun c hc hrow => ?gate⟩
  case shot =>
    obtain ⟨x, hx, hfit⟩ := hv.shots i r hi
    refine ⟨x, ?_, (State.fitsShot_of_atSeq hu hgran r k x).mp hfit⟩
    rw [State.shot_of_tx htx, ← hx]
    exact State.arriveAll_field (g := (State.shot · (u.tx.nextShot + i))) (fun _ _ _ => rfl) (fun _ _ => rfl)
      (fun _ _ h => (congrArg (State.shot · (u.tx.nextShot + i)) h :)) v es
  case out =>
    have hat : v.atOutput o = s.atOutput o := by
      obtain ⟨m, sh, x, b, y, he⟩ := hv.frame
      rw [he]
      exact hu.field (State.atOutput · o) fun _ _ => rfl
    have hplay : u.playsRow o r = true := (hu.field (State.playsRow · o r) fun _ _ => rfl).trans hp
    have hes := hv.entries i r o hi ho hplay
    rw [State.slotEntry_of_atSeq hu hgran] at hes
    rw [State.out_of_tx htx, State.arriveAll_takes ((State.takesEntry_congr hat).mpr ht) hes]
    exact congrArg (fun x : OutState × Pll × Startup => insertBy waitLe _ x.1.sched) hat
  case gate =>
    have harm := hv.gates i r c hi (by rw [hu.2, hchannels]; exact hc)
      ((hu.field (fun z => (z.chan c).row) fun _ _ => rfl).trans hrow)
    rw [hu.2, hprofile] at harm
    rw [State.chan_of_rx hrx]
    exact harm.congr (hu.field (State.chan · c) fun _ _ => rfl) (hu.field (State.gateProf · _) fun _ _ => rfl)
      (hu.field (State.bankOf · n c) fun _ _ => rfl)

/-- Settles O18: what the issue of a slot does, inside a granule and at each kind of boundary. -/
theorem slotIssues : Obligations.SlotIssues := by
  unfold Obligations.SlotIssues
  refine ⟨?dark, ?plays, ?invalid, ?angle, ?skips, ?granule, ?decides, ?admitted, ?refused, ?run, ?underrun, ?stops⟩
  case dark => exact fun s n hn hr hd hstep hj hdue hw hdark => slotIssue_dark hn hr hd hstep hj hdue hw hdark
  case plays =>
    intro s n f hn hr hd hstep hj hf hdue hw hdark hlast htw htest hnd
    obtain ⟨t, u, v, es, hexec, hk, hl, hsv, htb, hu, hv, htx, hrx⟩ := slotIssue_plays hn hr hd hstep hj hf hdue hw
      (State.plays_of_free hdark hlast htw htest) hnd
    refine ⟨t, hexec, hk, hl, ?_, hsv, htb, fun i r hi => ?_⟩
    · have hshots : (v.arriveAll es).tx.nextShot = v.tx.nextShot :=
        State.arriveAll_field (g := (·.tx.nextShot)) (fun _ _ _ => rfl) (fun _ _ => rfl)
          (fun _ _ h => (congrArg (·.tx.nextShot) h :)) v es
      rw [htx, hshots, hv.next, hu.tx]
    · obtain ⟨hshot, hout, hgate⟩ := State.row_of_fires hu rfl rfl rfl hv htx hrx hi
      refine ⟨hshot, fun o ho hen hcls hrow hstop hnadir hwarm hoff hroom => ?_, fun c q hc hrow hq => ?_,
        fun c hc hrow hq => ?_⟩
      · exact hout o ho (decide_eq_true ⟨hen, hcls, hrow⟩) ⟨hstop, hnadir, hwarm, hoff, hroom⟩
      · exact (hgate c hc hrow).armed q hq
      · exact (hgate c hc hrow).refused hq
  case invalid =>
    intro s n hn hr hd hj hv
    have hnone := State.fireTime_invalid hd hv ((s.seq n).accum.position (s.seq n).k)
    rw [exec_slotIssue hn hr]
    unfold State.issueSlot
    simp [hnone, hj]
  case angle => exact fun s n f hn hr hd hj hv hstep hf => slotIssue_angle hn hr hd hj hv hstep hf
  case skips => exact fun s n f hn hr hd hstep hj hf hdue hskip => slotIssue_skips hn hr hd hstep hj hf hdue hskip
  case granule => exact fun s n f e hb hh hs he hbeg hsrc => slotIssue_granule_plays hb hh hs he hbeg hsrc
  case decides => exact fun s n f e hb hh hs he hbeg hsrc hend => slotIssue_decides hb hh hs he hbeg hsrc hend
  case admitted => exact fun s n f e hb hs hnd ha => slotIssue_admitted hb hs hnd ha
  case refused =>
    intro s n f e why hb hs hwhy hne
    have hsame : s.whyNot (s.seq n) e = why := by
      rw [hwhy, State.whyNot_eq]
      simp only [State.hasCredit, decide_eq_true_eq]
      rfl
    subst hsame
    exact slotIssue_refused hb hs hne
  case run =>
    exact fun s n f e hb hh hs he hbeg hres hfirst hreas hp => slotIssue_skip_run hb hh hs he hbeg hres hfirst hreas hp
  case underrun =>
    exact fun s n f e hb hh hs he hbeg hwait hfirst => slotIssue_underrun hb hh hs he hbeg hwait hfirst
  case stops => exact fun s n f hb hs => slotIssue_stops hb hs

end Sys2Proof.Machine

/-! O22. Edges at trigger inputs and SYNCI (R37, R131, R247). -/

namespace Sys2Proof.Machine

variable {s : State} {n : Nat} {falling : Bool} {tBall : Tq}

/-! ## The stamp path (R148) -/

/-- A stamp joins the path of its input behind those under way. -/
theorem State.path_intoPath (s : State) (i : Nat) (p : PathStamp) :
    ((s.intoPath i p).input i).path = (s.input i).path ++ [p] := by
  simp [State.intoPath, State.modInput_eq]

/-! ## Trigger inputs (R37) -/

/-- TRG_CONFIG selects the edge (R37). -/
def Trg.selects (x : Trg) (falling : Bool) : Prop := if falling then 2 ≤ x.edges else x.edges % 2 = 1

/-- The edge comes within 2.0 ns of the last stamped one. -/
def Trg.isClose (x : Trg) (tBall : Tq) : Bool :=
  match x.lastEdge with
  | none => false
  | some l => decide ((tBall - l).natAbs < 2048)

theorem Trg.isClose_eq_false {x : Trg} (h : ∀ l, x.lastEdge = some l → 2048 ≤ (tBall - l).natAbs) : x.isClose tBall = false := by
  unfold Trg.isClose
  split
  · rfl
  next l hl => exact decide_eq_false (Nat.not_lt.mpr (h l hl))

theorem Trg.isClose_eq_true {x : Trg} {l : Tq} (hl : x.lastEdge = some l) (h : (tBall - l).natAbs < 2048) :
    x.isClose tBall = true := by
  unfold Trg.isClose
  rw [hl]
  exact decide_eq_true h

theorem Trg.selects_iff (x : Trg) (falling : Bool) :
    (if falling then decide (2 ≤ x.edges) else decide (x.edges % 2 = 1)) = true ↔ x.selects falling := by
  cases falling <;> simp [Trg.selects]

/-- A selected edge, once the time base is ready, is stamped or merges with the last one. -/
theorem exec_trgEdge (hn : n ≤ 7) (hr : s.isReady readyTimebase = true) (hh : s.heard tBall = true)
    (hs : (s.trg n).selects falling) : exec (.trgEdge n falling tBall) s = .next
      (if (s.trg n).isClose tBall then (s.modTrg n Trg.merge).lostEdge (idxTrg n)
        else s.trgStamp n falling tBall (stampOf tBall)) := by
  rw [apply_ite Host.Outcome.next]
  change execTrgEdge n falling tBall s = _
  unfold execTrgEdge
  rw [if_neg (by omega)]
  dsimp only
  rw [hr, hh, (Trg.selects_iff ..).mpr hs]
  rfl

theorem exec_trgEdge_unselected (hn : n ≤ 7) (hs : ¬ (s.trg n).selects falling) :
    exec (.trgEdge n falling tBall) s = .next s := by
  have h := Bool.eq_false_iff.mpr (mt (Trg.selects_iff (s.trg n) falling).mp hs)
  change execTrgEdge n falling tBall s = _
  unfold execTrgEdge
  rw [if_neg (by omega)]
  dsimp only
  rw [h, Bool.not_false, Bool.or_true, if_pos rfl]

/-- A publication changes the event fabric alone. -/
theorem State.publish_eq (s : State) (p : Nat) (t : Tq) (gen : Nat) :
    s.publish p t gen = { s with fab := (s.publish p t gen).fab } := by
  obtain ⟨y, hy⟩ := s.publish_fab p t gen
  rw [hy]

/-- What a publication makes of the fabric depends on the fabric and READY alone. -/
theorem State.publish_fab_congr (s t : State) (hf : t.fab = s.fab) (hd : t.dev = s.dev) (p : Nat) (x : Tq) (gen : Nat) :
    (t.publish p x gen).fab = (s.publish p x gen).fab := by
  unfold State.publish State.isReady
  rw [apply_ite State.fab, apply_ite State.fab, hf, hd]

/-- A trigger input once an edge at `tBall` has been stamped `t`. -/
def Trg.stamped (x : Trg) (falling : Bool) (tBall t : Tq) : Trg :=
  { x with lastEdge := some tBall, levels := ((t, some !falling) :: x.levels).take 64 }

/-- What a stamp that is no PPS of a grandmaster does (R37): it stands as the input's last, publishes and enters the path. -/
theorem State.trgStamp_plain (s : State) (tBall t : Tq) (h : n ≠ 0 ∨ s.net.ptp.role ≠ 1 ∨ falling = true) :
    ∃ p : PathStamp, p.t = t ∧ p.falling = falling ∧ p.suspect = !s.pll.locked ∧ s.trgStamp n falling tBall t =
      ({ s.setTrg n ((s.trg n).stamped falling tBall t) with fab := (s.publish (prodTrg n) t 0).fab } : State).intoPath
        (idxTrg n) p := by
  have he : (s.modTrg n fun x => { x with lastEdge := some tBall, levels := ((t, some !falling) :: x.levels).take 64 }).publish
      (prodTrg n) t 0 =
      { s.setTrg n ((s.trg n).stamped falling tBall t) with fab := (s.publish (prodTrg n) t 0).fab } := by
    rw [State.publish_eq, State.publish_fab_congr s (s.modTrg n _) rfl rfl]
    rfl
  let p : PathStamp :=
    { id := 0, t := t, gated := [], tEdge := tBall, conv := 0, suspect := !s.pll.locked, falling := falling,
      epoch := s.tb.epoch, cfg := HitCfg.reset, moved := 0, backed := false }
  have hpps : ¬ (n = 0 ∧ s.net.ptp.role = 1 ∧ (!falling) = true) := by
    rintro ⟨h0, hr, hfall⟩
    simp [h0, hr] at h
    simp [h] at hfall
  refine ⟨p, rfl, rfl, rfl, ?_⟩
  unfold State.trgStamp
  dsimp only
  rw [he]
  exact if_neg hpps

/-! ## SYNCI (R130, R131, R247) -/

theorem State.settleSync_none (h : s.tb.sync.pending = none) : s.settleSync = s := by
  unfold State.settleSync
  rw [h]

/-- A SYNCI divider reset changes the loop and its clock outputs alone. -/
theorem State.syncReset_pll (s : State) (t : Tq) : ∃ p, s.syncReset t = { s with pll := p } := by
  obtain ⟨p, hp⟩ : ∃ p, s.gateClocks = { s with pll := p } :=
    s.each_keeps (fun u => ∃ p, u = { s with pll := p }) _ _ (fun u k _ h => by obtain ⟨p, rfl⟩ := h; exact ⟨_, rfl⟩)
      ⟨s.pll, rfl⟩
  unfold State.syncReset
  dsimp only
  split
  · exact ⟨_, by rw [hp]⟩
  · exact ⟨_, rfl⟩

theorem exec_synciEdge (hp : s.tb.sync.pending = none) (hm : s.tb.sync.cfg.mode ≠ 1) (hh : s.heard tBall = true) :
    ∃ (l : Pll) (p : PathStamp), p.t = stampOf tBall ∧ exec (.synciEdge tBall) s =
      .next (({ s with tb := { s.tb with sync := s.tb.sync.stamp (stampOf tBall) }, pll := l } : State).intoPath 584 p) := by
  obtain ⟨l, hl⟩ := ({ s with tb := { s.tb with sync := s.tb.sync.stamp (stampOf tBall) } } : State).syncReset_pll
    (stampOf tBall)
  let p : PathStamp :=
    { id := 0, t := stampOf tBall, gated := [], tEdge := tBall, conv := 0, suspect := !l.locked, falling := false,
      epoch := s.tb.epoch, cfg := HitCfg.reset, moved := 0, backed := false }
  refine ⟨l, p, rfl, ?_⟩
  change execSynciEdge tBall s = _
  unfold execSynciEdge
  rw [State.settleSync_none hp]
  dsimp only
  rw [if_neg (by simp [hm, hh]), hl]
  rfl

/-- Settles O22: an edge that is selected is stamped or merges with the last one, and what each of the two changes. -/
theorem triggerEdges : Obligations.TriggerEdges := by
  unfold Obligations.TriggerEdges
  refine ⟨?stamped, ?merged, ?unselected, ?synci⟩
  case stamped =>
    intro s n falling tBall hn hr hh hs hp hl
    obtain ⟨p, ht, hf, hsus, he⟩ := s.trgStamp_plain tBall (stampOf tBall) hp
    have hexec := exec_trgEdge hn hr hh hs
    rw [Trg.isClose_eq_false hl, if_neg Bool.false_ne_true, he] at hexec
    have htrg : (s.setTrg n ((s.trg n).stamped falling tBall (stampOf tBall))).trg n =
        (s.trg n).stamped falling tBall (stampOf tBall) := State.trg_setTrg_self ..
    exact ⟨_, p, hexec, (congrArg Trg.lastEdge htrg :), (congrArg Trg.overrun htrg :), State.path_intoPath .., ht, hf, hsus, rfl, rfl,
      rfl, rfl⟩
  case merged =>
    intro s n falling tBall l hn hr hh hs hl hd
    have hexec := exec_trgEdge hn hr hh hs
    rw [Trg.isClose_eq_true hl hd, if_pos rfl] at hexec
    have htrg : (s.modTrg n Trg.merge).trg n = (s.trg n).merge := State.trg_setTrg_self ..
    have hin : ((s.modTrg n Trg.merge).lostEdge (idxTrg n)).input (idxTrg n) =
        { s.input (idxTrg n) with droppedBefore := true } := State.input_setInput_self ..
    exact ⟨_, hexec, (congrArg Trg.overrun htrg :), (congrArg Trg.lastEdge htrg).trans hl, (congrArg InputState.path hin :), rfl⟩
  case unselected => exact fun s n falling tBall hn hs => exec_trgEdge_unselected hn hs
  case synci =>
    intro s tBall hm hp hh
    obtain ⟨l, p, ht, he⟩ := exec_synciEdge hp hm hh
    exact ⟨_, p, he, rfl, rfl, State.path_intoPath .., ht, rfl⟩

end Sys2Proof.Machine

/-! O37. The SYNC pins: a pulse of SYNCO that begins while the one before it has not ended (R130, R131). -/

namespace Sys2Proof.Machine

/-- SYNCO drives the repeat of the oldest SYNCI stamp when it is due (R130): a ball that is still high stays so. -/
theorem exec_syncoPulse_repeat {s : State} {r : Tq} {rs : List Tq} (hp : s.tb.sync.pending = none)
    (hr : s.tb.sync.repeats = r :: rs) (h : s.reached r = true) :
    ∃ t, exec .syncoPulse s = .next t ∧ t.tb.sync.ball = some (syncoFrom s.tb.sync.ball r) := by
  refine ⟨({ s with tb := { s.tb with sync := { s.tb.sync with repeats := rs } } } : State).pulseSynco r, ?_, rfl⟩
  change execSyncoPulse s = _
  unfold execSyncoPulse
  rw [State.settleSync_none hp]
  dsimp only
  rw [hr]
  exact if_pos h

/-- A device in SYNC mode 2, 50 ns after Polestar's 0: the repeat of a first SYNCI stamp has raised SYNCO at 0, and the repeat of
a second stamp, 50 ns behind the first, is due. -/
def overlappingPulses : State :=
  { State.reset with tb := { State.reset.tb with
      ns := 50
      sync := { Sync.reset with
        cfg := { Sync.reset.cfg with mode := 2 }
        repeats := [51200]
        ball := some (0, 102400) } } }

/-- Refutes O37: at `overlappingPulses` the ball stays high from 0 on, where the clause of the repeats has it rise anew at
50 ns, whatever the pulse before. -/
theorem not_timePins : ¬ Obligations.TimePins := by
  unfold Obligations.TimePins
  rintro ⟨-, -, -, -, -, -, -, -, -, -, -, repeats, -⟩
  have due : overlappingPulses.reached 51200 = true := by decide
  obtain ⟨t, he, -, -, anew, -⟩ := repeats overlappingPulses 51200 [] rfl rfl due
  obtain ⟨u, hu, stays⟩ := exec_syncoPulse_repeat (s := overlappingPulses) rfl rfl due
  obtain rfl : t = u := by simpa [he] using hu
  have same : syncoFrom (some (0, 102400)) 51200 = (51200, 153600) := Option.some.inj (stays.symm.trans anew)
  exact absurd same (by decide)

end Sys2Proof.Machine

/-! SUPPORT. A step of Polestar (R32, R33): where it leaves the time base, and that it looks at no command in execution. -/

namespace Sys2Proof.Machine

/-! ## The parts of a step -/

/-- The device at a step once the SYNC table that has come due acts and the outputs have stepped. -/
def State.beforeStep (s : State) (d : Int) : State :=
  if 0 < d then s.settleSync.stepOutputs s.now (s.now + d) else s.settleSync

/-- What compares times with Polestar moves with it by `d` from `old`, and the epoch counts. -/
def State.moveScale (s : State) (d : Int) (old : Tq) : State :=
  let s := s.stepScale d old
  let new := FullTime.ofTq (old + d)
  { s with
    tb := { s.tb with sec := new.sec, ns := new.ns.toNat, epoch := s.tb.epoch + 1 }
    rx := { s.rx with channels := s.rx.channels.map fun p => (p.1, stepChannel old (old + d) p.2) }
    scan := { s.scan with
      encoders := s.scan.encoders.map fun p => (p.1, stepEncoder d p.2)
      estimators := s.scan.estimators.map fun p => (p.1, stepEstimator d p.2) }
    sq := { s.sq with seqs := s.sq.seqs.map fun p => (p.1, stepSeq d (old + d) p.2) } }

/-- The alarms at a step, and the event. -/
def State.announceStep (s : State) : State :=
  let s := s.each (List.range 16) fun s n => s.stepAlarm s.now n
  s.publish prodStep s.now 0

theorem State.polestarStep_eq (s : State) (d : Int) : s.polestarStep d = ((s.beforeStep d).moveScale d s.now).announceStep := rfl

/-! ## What a step leaves alone -/

/-- What a function of the state must not tell of, so that the outputs, the SYNC pins and the alarms at a step of Polestar do
not change it: outputs, events, alarms and SYNC. -/
structure UntouchedAtStep {β : Type} (g : State → β) : Prop where
  tx : ∀ (s : State) x, g { s with tx := x } = g s
  fab : ∀ (s : State) x, g { s with fab := x } = g s
  alarms : ∀ (s : State) x, g { s with tb := { s.tb with alarms := x } } = g s
  sync : ∀ (s : State) x, g { s with tb := { s.tb with sync := x } } = g s

section
variable {β : Type} {g : State → β} (hg : UntouchedAtStep g)
include hg

theorem UntouchedAtStep.publish (s : State) (p : Nat) (t : Tq) (gen : Nat) : g (s.publish p t gen) = g s := by
  rw [State.publish_eq]; exact hg.fab s _

theorem UntouchedAtStep.settleSync (s : State) : g s.settleSync = g s := by
  unfold State.settleSync
  split
  · rfl
  · split
    · exact hg.sync s _
    · rfl

theorem UntouchedAtStep.stepBurst (s : State) (o : Nat) (old new : Tq) (b : Burst) : g (s.stepBurst o old new b).1 = g s := by
  unfold State.stepBurst
  dsimp only
  split
  · split
    · exact (hg.tx _ _).trans (hg.tx s _)
    · rfl
  · split
    · rfl
    · split
      · exact hg.tx s _
      · exact (hg.publish _ _ _ _).trans (hg.tx s _)

theorem UntouchedAtStep.stepOutput (s : State) (o : Nat) (old new : Tq) : g (s.stepOutput o old new) = g s := by
  have step (u : State) (b : Option Burst) : g (match b with
      | none => (u, none)
      | some b => u.stepBurst o old new b).1 = g u := by
    cases b
    · rfl
    · exact hg.stepBurst u o old new _
  unfold State.stepOutput
  dsimp only
  split <;> exact (hg.tx _ _).trans ((step _ _).trans (step _ _))

theorem UntouchedAtStep.stepAlarm (s : State) (t : Tq) (n : Nat) : g (s.stepAlarm t n) = g s := by
  unfold State.stepAlarm
  dsimp only
  split
  · rfl
  · split
    · exact hg.alarms s _
    · split
      · rfl
      · exact (hg.publish _ _ _ _).trans (hg.alarms s _)

theorem UntouchedAtStep.beforeStep (s : State) (d : Int) : g (s.beforeStep d) = g s := by
  unfold State.beforeStep
  split
  · exact (State.each_field _ g _ _ fun u o => hg.stepOutput u o _ _).trans (hg.settleSync s)
  · exact hg.settleSync s

theorem UntouchedAtStep.announceStep (s : State) : g s.announceStep = g s :=
  (hg.publish _ _ _ _).trans (State.each_field _ g _ _ fun s n => hg.stepAlarm s _ n)

/-- A step changes what the move of the scale changes. -/
theorem UntouchedAtStep.polestarStep (s : State) (d : Int) : g (s.polestarStep d) = g ((s.beforeStep d).moveScale d s.now) :=
  hg.announceStep _

end

/-! ## Where a step leaves the time base -/

variable (s : State) (d : Int)

theorem untouchedAtStep_tb {β : Type} (g : BitVec 64 × Nat × BitVec 16 × Option (BitVec 16) × Nat → β) :
    UntouchedAtStep fun u : State => g (u.tb.sec, u.tb.ns, u.tb.epoch, u.tb.pendingSecHi, u.clock) :=
  ⟨fun _ _ => rfl, fun _ _ => rfl, fun _ _ => rfl, fun _ _ => rfl⟩

theorem State.sec_polestarStep : (s.polestarStep d).tb.sec = (FullTime.ofTq (s.now + d)).sec :=
  (untouchedAtStep_tb (·.1)).polestarStep s d

theorem State.ns_polestarStep : (s.polestarStep d).tb.ns = (FullTime.ofTq (s.now + d)).ns.toNat :=
  (untouchedAtStep_tb (·.2.1)).polestarStep s d

/-- The time epoch counts every accepted step (R33). -/
theorem State.epoch_polestarStep : (s.polestarStep d).tb.epoch = s.tb.epoch + 1 :=
  ((untouchedAtStep_tb (·.2.2.1)).polestarStep s d).trans
    (congrArg (· + 1) ((untouchedAtStep_tb (·.2.2.1)).beforeStep s d))

theorem State.pendingSecHi_polestarStep : (s.polestarStep d).tb.pendingSecHi = s.tb.pendingSecHi :=
  ((untouchedAtStep_tb (·.2.2.2.1)).polestarStep s d).trans ((untouchedAtStep_tb (·.2.2.2.1)).beforeStep s d)

theorem State.clock_polestarStep : (s.polestarStep d).clock = s.clock :=
  ((untouchedAtStep_tb (·.2.2.2.2)).polestarStep s d).trans ((untouchedAtStep_tb (·.2.2.2.2)).beforeStep s d)

/-- A time in whole nanoseconds within the range of SEC reads back from its full time (R4). -/
theorem FullTime.ofTq_whole {t : Int} (hw : t % 1024 = 0) (h0 : 0 ≤ t) (h1 : t < 2 ^ 64 * tqPerSec) :
    ((FullTime.ofTq t).sec.toNat : Int) * tqPerSec + ((FullTime.ofTq t).ns.toNat : Int) * 1024 = t := by
  simp only [FullTime.ofTq, BitVec.toNat_ofInt, tqPerSec] at *
  omega

/-- Polestar counts whole nanoseconds (R27). -/
theorem State.now_whole (s : State) : s.now % 1024 = 0 := by
  have h (a b : Int) : (a * 1024000000000 + b * 1024) % 1024 = 0 := by omega
  exact h _ _

/-- Polestar moves by the step (R33). -/
theorem State.now_polestarStep {s : State} {d : Int} (hd : d % 1024 = 0) (h0 : 0 ≤ s.now + d)
    (h1 : s.now + d < 2 ^ 64 * tqPerSec) : (s.polestarStep d).now = s.now + d := by
  have hw : (s.now + d) % 1024 = 0 := by rw [Int.add_emod, s.now_whole, hd]; rfl
  rw [State.now, State.sec_polestarStep, State.ns_polestarStep]
  exact FullTime.ofTq_whole hw h0 h1

/-! ## A step looks at no command in execution -/

theorem State.release_ite (c : Prop) [Decidable c] (s t : State) :
    (if c then s else t).release = if c then s.release else t.release := apply_ite State.release c s t

/-- What a run over a list does with no command in execution, where each of its steps looks at none. -/
theorem State.each_release (f : State → Nat → State) (hf : ∀ s k, f s.release k = (f s k).release) (ks : List Nat) (s : State) :
    s.release.each ks f = (s.each ks f).release := by
  unfold State.each
  induction ks generalizing s with
  | nil => rfl
  | cons k ks ih => rw [List.foldl_cons, List.foldl_cons, hf, ih]

theorem State.now_release : s.release.now = s.now := rfl

theorem State.publish_release (p : Nat) (t : Tq) (gen : Nat) : s.release.publish p t gen = (s.publish p t gen).release := by
  unfold State.publish
  rw [State.release_ite]; rfl

theorem State.settleSync_release : s.release.settleSync = s.settleSync.release := by
  unfold State.settleSync
  rw [show s.release.tb = s.tb from rfl]
  rcases s.tb.sync.pending with _ | ⟨c, t⟩
  · rfl
  · dsimp only
    rw [State.release_ite]; rfl

theorem State.stepBurst_release (o : Nat) (old new : Tq) (b : Burst) :
    s.release.stepBurst o old new b = ((s.stepBurst o old new b).1.release, (s.stepBurst o old new b).2) := by
  unfold State.stepBurst
  dsimp only
  split
  · split <;> rfl
  · split
    · rfl
    · split
      · rfl
      · exact congrArg (fun u : State => (u, (none : Option Burst))) (State.publish_release (s.setOut o _) ..)

/-- What a step does to the burst in a register of output `o`, where there is one. -/
def State.stepRegister (s : State) (o : Nat) (old new : Tq) : Option Burst → State × Option Burst
  | none => (s, none)
  | some b => s.stepBurst o old new b

theorem State.stepRegister_release (o : Nat) (old new : Tq) (b : Option Burst) :
    s.release.stepRegister o old new b = ((s.stepRegister o old new b).1.release, (s.stepRegister o old new b).2) := by
  cases b
  · rfl
  · exact s.stepBurst_release o old new _

/-- What is left in the registers of an output at a step (R50, R74). -/
def OutState.stepped (a n : Option Burst) (x : OutState) : OutState :=
  if clashes a n then { x with active := a, next := none, fConflict := true, conflict := x.conflict.inc }
  else ({ x with active := a, next := n } : OutState).advance

theorem State.stepOutput_eq (o : Nat) (old new : Tq) : s.stepOutput o old new =
    let p := s.stepRegister o old new (s.out o).active
    let q := p.1.stepRegister o old new (p.1.out o).next
    q.1.modOut o (OutState.stepped p.2 q.2) := by
  unfold State.stepOutput
  rcases (s.out o).active with _ | a
  · rcases (s.out o).next with _ | n <;> exact (apply_ite (State.setOut _ o) _ _ _).symm
  · dsimp only [State.stepRegister]
    rcases ((s.stepBurst o old new a).1.out o).next with _ | n <;> exact (apply_ite (State.setOut _ o) _ _ _).symm

theorem State.stepOutput_release (o : Nat) (old new : Tq) :
    s.release.stepOutput o old new = (s.stepOutput o old new).release := by
  rw [State.stepOutput_eq, State.stepOutput_eq]
  dsimp only
  rw [show s.release.out o = s.out o from rfl, State.stepRegister_release]
  dsimp only
  rw [show ∀ u : State, u.release.out o = u.out o from fun _ => rfl, State.stepRegister_release]
  rfl

theorem State.stepAlarm_release (t : Tq) (n : Nat) : s.release.stepAlarm t n = (s.stepAlarm t n).release := by
  unfold State.stepAlarm
  dsimp only
  rw [show s.release.alarm n = s.alarm n from rfl, State.release_ite, State.release_ite]
  rcases (s.alarm n).skippedBefore t with _ | m
  · rfl
  · dsimp only
    rw [← State.publish_release]; rfl

theorem State.beforeStep_release : s.release.beforeStep d = (s.beforeStep d).release := by
  unfold State.beforeStep
  rw [State.release_ite, State.settleSync_release, State.stepOutputs,
    State.each_release _ (fun u o => u.stepOutput_release o _ _)]
  rfl

theorem State.announceStep_release : s.release.announceStep = s.announceStep.release := by
  unfold State.announceStep
  dsimp only
  rw [State.each_release (fun s n => s.stepAlarm s.now n) fun u n => u.stepAlarm_release u.now n, State.now_release,
    State.publish_release]

theorem State.polestarStep_release : s.release.polestarStep d = (s.polestarStep d).release := by
  rw [State.polestarStep_eq, State.polestarStep_eq, State.beforeStep_release, ← State.announceStep_release]
  rfl

end Sys2Proof.Machine

/-! O36. Steps of Polestar, and the commands that make one (R27, R32, R33, R264, R265). -/

namespace Sys2Proof.Machine

variable {s : State}

/-! ## TIME_SET and TIME_STEP_ACCEPT (R32, R264, R265) -/

theorem State.stepAllowed_iff (d : Int) :
    s.stepAllowed d = true ↔ 0 ≤ d ∨ (s.anyRunning = false ∧ s.gateOpen = false) := by
  simp [State.stepAllowed]

theorem timeSet_completes {time : FullTime} (ha : s.admits (.timeSet time) = true) (hok : time.ok = true) (hf : time.fns = 0)
    (hsl : s.anySlave = false) (hr : s.isReady readyTimebase = true) (hst : s.stepAllowed (time.tq - s.now) = true) :
    completes (.timeSet time) s (s.polestarStep (time.tq - s.now)) .ok [fU16 (s.tb.epoch + 1).toNat] := by
  refine completes_row (b := fun s =>
      .returns [(!time.ok || decide (time.fns ≠ 0), .badArg), (s.anySlave, .locked), (!s.isReady readyTimebase, .notReady),
        (!s.stepAllowed (time.tq - s.now), .refused)]
        (s.polestarStep (time.tq - s.now)) [fU16 (s.polestarStep (time.tq - s.now)).tb.epoch.toNat])
    (s' := (s.polestarStep (time.tq - s.now)).release) rfl ha rfl ?_ (by simp) (State.core_release _) ?_
  · rw [State.now_release, State.polestarStep_release, State.tb_release, State.epoch_polestarStep]; rfl
  · change ∀ x ∈ [(!time.ok || decide (time.fns ≠ 0), Status.badArg), (s.anySlave, .locked),
      (!s.isReady readyTimebase, .notReady), (!s.stepAllowed (time.tq - s.now), .refused)], x.1 = false
    simp [hok, hf, hsl, hr, hst]

/-- The device once a step of PTP has been accepted by `d`: the measurement begins anew. -/
def State.acceptedStep (s : State) (d : Int) : State :=
  { s.draw.polestarStep d with
    net := { (s.draw.polestarStep d).net with stepRefused := false, offsets := [], bigRun := 0, smallRun := 0 } }

theorem State.acceptedStep_release (d : Int) : s.release.acceptedStep d = (s.acceptedStep d).release := by
  unfold State.acceptedStep
  rw [show s.release.draw = s.draw.release from rfl, State.polestarStep_release]; rfl

theorem timeStepAccept_completes (ha : s.admits .timeStepAccept = true) (hn : s.net.stepRefused = true)
    (hs : s.tb.source ≠ .holdover) (hst : s.stepAllowed s.acceptStep = true) :
    completes .timeStepAccept s (s.acceptedStep s.acceptStep) .ok [fS64 s.acceptStep, fU16 (s.tb.epoch + 1).toNat] := by
  refine completes_row (b := fun s =>
      .returns [(!s.net.stepRefused, .badArg), (decide (s.tb.source = .holdover), .notReady),
        (!s.stepAllowed s.acceptStep, .refused)]
        (s.acceptedStep s.acceptStep) [fS64 s.acceptStep, fU16 (s.acceptedStep s.acceptStep).tb.epoch.toNat])
    (s' := (s.acceptedStep s.acceptStep).release) rfl ha rfl ?_ (by simp) (State.core_release _) ?_
  · have he : (s.acceptedStep s.acceptStep).release.tb.epoch = s.tb.epoch + 1 := s.draw.epoch_polestarStep _
    rw [show s.release.acceptStep = s.acceptStep from rfl, State.acceptedStep_release, he]; rfl
  · change ∀ x ∈ [(!s.net.stepRefused, Status.badArg), (decide (s.tb.source = .holdover), .notReady),
      (!s.stepAllowed s.acceptStep, .refused)], x.1 = false
    simp [hn, hs, hst]

/-- The reported mean of the last offsets. -/
theorem meanOffset_cons (o : Int) (os : List Int) (free : Int) :
    meanOffset (o :: os) free = roundDiv (os.foldl (· + ·) (0 + o)) (os.length + 1) := by
  simp [meanOffset]

/-- The step of TIME_STEP_ACCEPT is minus the reported mean, where SEC[63:48] stays (R264, R265). -/
theorem State.acceptStep_eq {o : Int} {os : List Int} {d : Int} (ho : s.net.offsets = o :: os)
    (hd : d = roundAway (-(roundDiv (os.foldl (· + ·) (0 + o)) (os.length + 1))) 1024 * 1024)
    (h0 : 0 ≤ s.now % ptpSpan + d) (h1 : s.now % ptpSpan + d < ptpSpan) : s.acceptStep = d := by
  unfold State.acceptStep
  dsimp only
  rw [ho, meanOffset_cons, ← hd, Int.emod_eq_of_lt h0 h1, add_sub_cancel_left]

/-- TIME_STEP_ACCEPT leaves SEC[63:48] as it is (R265). -/
theorem State.acceptStep_span (s : State) : (s.now + s.acceptStep) / ptpSpan = s.now / ptpSpan := by
  have h (a b p : Int) (hp : 0 < p) : (a + (b % p - a % p)) / p = a / p := by
    have hb0 := Int.emod_nonneg b hp.ne'
    have hb1 := Int.emod_lt_of_pos b hp
    rw [show a + (b % p - a % p) = b % p + p * (a / p) by have := Int.emod_add_mul_ediv a p; omega,
      Int.add_mul_ediv_left _ _ hp.ne', Int.ediv_eq_zero_of_lt hb0 hb1, Int.zero_add]
  exact h _ _ _ (by decide)

/-! ## TIME_SET_SEC_HI (R27) -/

/-- SEC[63:48] waits for the carry. -/
def State.awaitSecHi (s : State) (v : Nat) : State := { s with tb := { s.tb with pendingSecHi := some (BitVec.ofNat 16 v) } }

/-- No SEC[63:48] waits. -/
def State.dropSecHi (s : State) : State := { s with tb := { s.tb with pendingSecHi := none } }

theorem State.dropSecHi_release : s.release.dropSecHi = s.dropSecHi.release := rfl

/-- What TIME_SET_SEC_HI does (R27): in Ready-idle the value may take effect at once. -/
theorem timeSetSecHi_completes {v : Nat} {t : State} (ha : s.admits (.timeSetSecHi v) = true) (hv : v ≤ 65535)
    (ht : (if s.dev.run = .readyIdle then (s.release.awaitSecHi v).applySecHi else s.release.awaitSecHi v).core = t.core) :
    completes (.timeSetSecHi v) s t .ok [] := by
  refine completes_row (b := fun s => .plain [(decide (65535 < v), .badArg)]
    (if s.dev.run = .readyIdle then (s.awaitSecHi v).applySecHi else s.awaitSecHi v)) rfl ha rfl rfl (by simp) ht ?_
  change ∀ x ∈ [(decide (65535 < v), Status.badArg)], x.1 = false
  simp [hv]

theorem toNat_ofNat_16 {v : Nat} (hv : v ≤ 65535) : (BitVec.ofNat 16 v).toNat = v := by
  rw [BitVec.toNat_ofNat]; omega

/-- A value that R32 does not allow at once stays pending. -/
theorem State.applySecHi_awaits {v : Nat} (hv : v < s.tb.sec.toNat / 2 ^ 48) (h : s.stepAllowed (-1) = false) :
    (s.awaitSecHi v).applySecHi = s.awaitSecHi v := by
  have hn : (BitVec.ofNat 16 v).toNat = v := toNat_ofNat_16 (by have := s.tb.sec.isLt; omega)
  refine if_neg ?_
  change ¬ (s.tb.sec.toNat / 2 ^ 48 ≤ (BitVec.ofNat 16 v).toNat ∨ s.stepAllowed (-1) = true)
  rw [hn, h]
  simpa using hv

theorem State.applySecHi_steps {v : Nat} (hv : v ≤ 65535) (h : s.tb.sec.toNat / 2 ^ 48 ≤ v ∨ s.stepAllowed (-1) = true) :
    (s.awaitSecHi v).applySecHi = s.dropSecHi.polestarStep
      (((v : Int) - (s.tb.sec.toNat / 2 ^ 48 : Nat)) * 2 ^ 48 * tqPerSec) := by
  have hn := toNat_ofNat_16 hv
  have hc : s.tb.sec.toNat / 2 ^ 48 ≤ (BitVec.ofNat 16 v).toNat ∨ s.stepAllowed (-1) = true := by rwa [hn]
  refine (if_pos hc).trans ?_
  rw [State.setSecHi, hn]; rfl

/-- Settles O36: the move of the scale, and for each command its row with the step that it makes or puts off. -/
theorem polestarSteps : Obligations.PolestarSteps := by
  unfold Obligations.PolestarSteps
  refine ⟨?step, ?timeSet, ?stepAccept, ?mean, ?span, ?pending, ?atOnce, ?putOff⟩
  case step =>
    exact fun s d hd h0 h1 => ⟨State.now_polestarStep hd h0 h1, s.epoch_polestarStep d, s.clock_polestarStep d⟩
  case timeSet =>
    intro s time ha hok hf hsl hr hst
    have hst' : s.stepAllowed (time.tq - s.now) = true := (State.stepAllowed_iff _).mpr (hst.imp_left Int.sub_nonneg_of_le)
    exact timeSet_completes ha hok hf hsl hr hst'
  case stepAccept => exact fun s ha hn hs hst => timeStepAccept_completes ha hn hs hst
  case mean => exact fun s o os ho h0 h1 => State.acceptStep_eq ho rfl h0 h1
  case span => exact State.acceptStep_span
  case pending => exact fun s v ha hv hr => timeSetSecHi_completes ha hv (by rw [if_neg hr]; rfl)
  case atOnce =>
    intro s v ha hv hr hst
    have hst' := hst.imp_right fun h => (State.stepAllowed_iff (-1)).mpr (.inr h)
    refine timeSetSecHi_completes ha hv ?_
    rw [if_pos hr, State.applySecHi_steps (s := s.release) hv hst', State.dropSecHi_release, State.polestarStep_release,
      State.core_release]
    rfl
  case putOff =>
    intro s v ha hv hst
    have hst' : s.stepAllowed (-1) = false := by
      rw [Bool.eq_false_iff, ne_eq, State.stepAllowed_iff]
      rintro (h | ⟨hr, hg⟩)
      · omega
      · simp [hr, hg] at hst
    have hle : v ≤ 65535 := by have := s.tb.sec.isLt; omega
    refine timeSetSecHi_completes ha hle ?_
    rw [State.applySecHi_awaits (s := s.release) hv hst', ite_self]; rfl

end Sys2Proof.Machine

/-! O2. One TCK cycle, and SEC_CARRY (R27, R28, R32, R388). -/

namespace Sys2Proof.Machine

variable {s : State}

/-! ## What a cycle does where nothing waits -/

theorem Port.nextOut_nil {p : Port} (h : p.queue = []) : p.nextOut = none := by
  simp [Port.nextOut, h]

theorem State.sendFrame_nil {k : Nat} (h : (s.port k).queue = []) : s.sendFrame k = s := by
  unfold State.sendFrame
  rw [Port.nextOut_nil h]

theorem State.endReset_none (h : s.pll.resetting = none) : s.endReset = s := by
  unfold State.endReset
  rw [h]

/-- The loop steps in itself alone, and its divider resets wait. -/
theorem State.runLoop_eq (s : State) : s.runLoop = { s with pll := s.runLoop.pll } := by
  unfold State.runLoop
  dsimp only
  split <;> rfl

theorem State.resetting_runLoop (s : State) : s.runLoop.pll.resetting = s.pll.resetting := by
  unfold State.runLoop
  dsimp only
  split
  · rfl
  · split <;> rfl

/-- A cycle in which no frame and no divider reset waits is the count (R27, R247, R343). -/
theorem step_tick (hp : s.pending = []) (hq : ∀ k, k ≤ 2 → (s.port k).queue = []) (hr : s.tick.pll.resetting = none) :
    step s = .next s.tick := by
  have hsend : s.each (List.range 3) State.sendFrame = s := by
    change ((s.sendFrame 0).sendFrame 1).sendFrame 2 = s
    rw [State.sendFrame_nil (hq 0 (by omega)), State.sendFrame_nil (hq 1 (by omega)), State.sendFrame_nil (hq 2 (by omega))]
  unfold step
  rw [hp]
  dsimp only
  rw [State.cycle, hsend, State.endReset_none hr]

/-! ## Counting (R27) -/

/-- What the count changes. -/
theorem State.count_eq (s : State) :
    s.count = { s with tb := { s.tb with ns := s.count.tb.ns, sec := s.count.tb.sec }, clock := s.clock + 1 } := by
  unfold State.count
  dsimp only
  split <;> rfl

theorem State.ns_count_le (s : State) : s.count.tb.ns ≤ 999999999 := s.timeInv_count

/-- Polestar counts one nanosecond, but at the end of SEC (R27). -/
theorem State.now_count (hn : s.tb.ns ≤ 999999999) (hs : s.tb.sec.toNat < 2 ^ 64 - 1) : s.count.now = s.now + 1024 := by
  by_cases h : s.tb.ns < 999999999
  · have hc : s.count = { s with clock := s.clock + 1, tb := { s.tb with ns := s.tb.ns + 1 } } := if_pos h
    rw [hc]
    change (s.tb.sec.toNat : Int) * tqPerSec + ((s.tb.ns + 1 : Nat) : Int) * 1024 = s.tb.sec.toNat * tqPerSec + s.tb.ns * 1024 + 1024
    push_cast
    ring
  · have hc : s.count = { s with clock := s.clock + 1, tb := { s.tb with ns := 0, sec := s.tb.sec + 1 } } := if_neg h
    have hsec : (s.tb.sec + 1).toNat = s.tb.sec.toNat + 1 := by rw [BitVec.toNat_add]; simp; omega
    have hns : s.tb.ns = 999999999 := by omega
    rw [hc]
    change ((s.tb.sec + 1).toNat : Int) * tqPerSec + ((0 : Nat) : Int) * 1024 = s.tb.sec.toNat * tqPerSec + s.tb.ns * 1024 + 1024
    rw [hsec, hns]
    push_cast
    unfold tqPerSec
    ring

theorem State.applySecHi_none (h : s.tb.pendingSecHi = none) : s.applySecHi = s := by
  unfold State.applySecHi
  rw [h]

/-- The loop and Polestar advance: what a cycle does before a waiting SEC[63:48] may take effect. -/
theorem State.tick_none (hr : s.dev.rstLow = false) (h : s.tb.pendingSecHi = none) : s.tick = s.runLoop.count := by
  have hc : s.runLoop.count.tb.pendingSecHi = none := by
    rw [State.count_eq, State.runLoop_eq]; exact h
  unfold State.tick
  dsimp only
  rw [hr, if_neg Bool.false_ne_true, State.applySecHi_none hc, ite_self]

/-! ## The carry of SEC[47:0] (R27) -/

theorem State.atSecCarry_iff : s.atSecCarry = true ↔
    (s.tb.ns = 999999999 ∧ s.tb.sec.toNat % 2 ^ 48 = 2 ^ 48 - 1) ∧ s.dev.rstLow = false := by
  simp [State.atSecCarry]

/-- What the carry leaves, before a waiting SEC[63:48] takes effect. -/
theorem State.carried (hc : s.atSecCarry = true) :
    s.runLoop.count.tb = { s.tb with ns := 0, sec := s.tb.sec + 1 } ∧ (s.tb.sec + 1).toNat % 2 ^ 48 = 0 := by
  obtain ⟨⟨hns, hsec⟩, -⟩ := State.atSecCarry_iff.mp hc
  have hlast : ¬ s.tb.ns < 999999999 := by omega
  refine ⟨?_, ?_⟩
  · rw [State.runLoop_eq]
    exact (congrArg State.tb (if_neg hlast) :)
  · rw [BitVec.toNat_add]; simp; omega

theorem exec_secCarry (hc : s.atSecCarry = true) : exec .secCarry s = .next s.runLoop.count.applySecHi := by
  obtain ⟨-, hr⟩ := State.atSecCarry_iff.mp hc
  refine (if_pos hc).trans (congrArg Host.Outcome.next ?_)
  unfold State.tick
  dsimp only
  rw [hr, if_neg Bool.false_ne_true, if_pos hc]

theorem State.stepAllowed_runLoop_count (d : Int) : s.runLoop.count.stepAllowed d = s.count.stepAllowed d := by
  rw [State.runLoop_eq]
  unfold State.count
  dsimp only
  split <;> rfl

/-- A whole number of seconds within the range of SEC reads back from its full time (R4). -/
theorem FullTime.ofTq_seconds {n : Nat} (h : n < 2 ^ 64) :
    (FullTime.ofTq (n * tqPerSec)).sec.toNat = n ∧ (FullTime.ofTq (n * tqPerSec)).ns.toNat = 0 := by
  simp only [FullTime.ofTq, BitVec.toNat_ofInt, tqPerSec]
  omega

/-- The step by which SEC[63:48] takes effect ends at the begin of its second, where it is made at a carry (R27). -/
theorem State.setSecHi_at_carry {v : BitVec 16} (hns : s.tb.ns = 0) (hmod : s.tb.sec.toNat % 2 ^ 48 = 0) :
    (s.setSecHi v).tb.sec.toNat = v.toNat * 2 ^ 48 ∧ (s.setSecHi v).tb.ns = 0 := by
  have hto : s.dropSecHi.now + ((v.toNat : Int) - (s.tb.sec.toNat / 2 ^ 48 : Nat)) * 2 ^ 48 * tqPerSec =
      ((v.toNat * 2 ^ 48 : Nat) : Int) * tqPerSec := by
    have h (a w : Nat) (ha : a % 2 ^ 48 = 0) : (a : Int) * tqPerSec + ((0 : Nat) : Int) * 1024 +
        ((w : Int) - (a / 2 ^ 48 : Nat)) * 2 ^ 48 * tqPerSec = ((w * 2 ^ 48 : Nat) : Int) * tqPerSec := by
      unfold tqPerSec
      omega
    rw [State.now, show s.dropSecHi.tb.ns = 0 from hns]
    exact h _ _ hmod
  obtain ⟨hs, hn⟩ := FullTime.ofTq_seconds (n := v.toNat * 2 ^ 48) (by have := v.isLt; omega)
  have hset : s.setSecHi v = s.dropSecHi.polestarStep (((v.toNat : Int) - (s.tb.sec.toNat / 2 ^ 48 : Nat)) * 2 ^ 48 * tqPerSec) :=
    rfl
  rw [hset, State.sec_polestarStep, State.ns_polestarStep, hto]
  exact ⟨hs, hn⟩

theorem State.applySecHi_some {v : BitVec 16} (h : s.tb.pendingSecHi = some v) : s.applySecHi =
    if s.tb.sec.toNat / 2 ^ 48 ≤ v.toNat ∨ s.stepAllowed (-1) then s.setSecHi v else s := by
  unfold State.applySecHi
  rw [h]

/-- Settles O2: a cycle is the count of Polestar and the step of the loop, and SEC_CARRY is the cycle at a carry. -/
theorem timePasses : Obligations.TimePasses := by
  unfold Obligations.TimePasses
  refine ⟨?cycle, ?held, ?carry, ?elsewhere, ?takesEffect, ?waits⟩
  case cycle =>
    intro s hp hn hs hsec hq hr hlow
    have ht := State.tick_none hlow hsec
    have hpll : s.runLoop.count.pll = s.runLoop.pll := by rw [State.count_eq]
    have hreset : s.tick.pll.resetting = none := by rw [ht, hpll, State.resetting_runLoop, hr]
    have hloop := s.runLoop_eq
    refine ⟨s.runLoop.count, (step_tick hp hq hreset).trans (by rw [ht]), ?_, State.ns_count_le _, ?_, ?_⟩
    · rw [hloop]
      exact State.now_count (s := { s with pll := s.runLoop.pll }) hn hs
    · rw [State.count_eq, hloop]
    · conv_lhs => rw [State.count_eq, hloop]
      rw [hloop]
  case held =>
    intro s hp hq hr hlow
    have ht : s.tick = { s with clock := s.clock + 1 } := if_pos hlow
    exact (step_tick hp hq (by rw [ht]; exact hr)).trans (by rw [ht])
  case carry =>
    intro s hc hn
    obtain ⟨htb, -⟩ := State.carried hc
    have hnow : s.runLoop.count.now = (s.tb.sec + 1).toNat * tqPerSec := by
      rw [State.now, htb]; simp
    rw [exec_secCarry hc, State.applySecHi_none (by rw [htb]; exact hn)]
    refine ⟨_, rfl, by rw [htb], by rw [htb], ?_⟩
    rw [hnow, Int.mul_emod_left]
  case elsewhere => exact fun s hc => if_neg (Bool.eq_false_iff.mp hc)
  case takesEffect =>
    intro s v hc hv hst
    obtain ⟨htb, hmod⟩ := State.carried hc
    have hpos : s.runLoop.count.tb.sec.toNat / 2 ^ 48 ≤ v.toNat ∨ s.runLoop.count.stepAllowed (-1) = true := by
      rwa [htb, State.stepAllowed_runLoop_count]
    rw [exec_secCarry hc, State.applySecHi_some (by rw [htb]; exact hv), if_pos hpos]
    obtain ⟨hsec, hns⟩ := State.setSecHi_at_carry (s := s.runLoop.count) (v := v) (by rw [htb]) (by rw [htb]; exact hmod)
    refine ⟨_, rfl, State.pendingSecHi_polestarStep .., hsec, hns, (State.epoch_polestarStep ..).trans ?_⟩
    change s.runLoop.count.tb.epoch + 1 = _
    rw [htb]
  case waits =>
    intro s v hc hv hlt hst
    obtain ⟨htb, -⟩ := State.carried hc
    have hneg : ¬ (s.runLoop.count.tb.sec.toNat / 2 ^ 48 ≤ v.toNat ∨ s.runLoop.count.stepAllowed (-1) = true) := by
      rw [htb, State.stepAllowed_runLoop_count, hst]
      simpa using hlt
    rw [exec_secCarry hc, State.applySecHi_some (by rw [htb]; exact hv), if_neg hneg]
    exact ⟨_, rfl, by rw [htb]; exact hv, by rw [htb], by rw [htb], by rw [htb]⟩

end Sys2Proof.Machine

/-! SUPPORT. References of the PLL: what a switch, an attempt at lock and a measurement change (R237, R245, R250, R252). -/

namespace Sys2Proof.Machine

variable {s t u : State}

/-! ## Corrections of Polestar (R30, R31) -/

/-- A correction is slewed: the rest of the time base stands. -/
theorem State.correctBy_eq (s : State) (o : Int) :
    ∃ a b, s.correctBy o = { s with tb := { s.tb with slew := a, slewUntil := b } } := by
  unfold State.correctBy
  split
  · exact ⟨_, _, rfl⟩
  · exact ⟨_, _, rfl⟩

/-- What is slewed depends on neither the loop nor the free values. -/
theorem State.tb_correctBy (s : State) (p : Pll) (n : Nat) (o : Int) :
    ({ s with pll := p, fresh := n } : State).correctBy o = { s with pll := p, fresh := n, tb := (s.correctBy o).tb } := by
  unfold State.correctBy
  split <;> rfl

/-- The loop once it has taken reference `k`. -/
def Pll.switched (p : Pll) (k : Nat) : Pll := { p with refInUse := k, refSwitches := p.refSwitches.inc }

theorem State.switchRef_unlocked (h : s.pll.locked = false) (k : Nat) :
    s.switchRef k = { s with pll := s.pll.switched k } :=
  if_neg (by rw [h]; exact Bool.false_ne_true)

/-- A locked loop stays locked at a switch, and Polestar takes at most 50 ps as a correction (R237). -/
theorem State.switchRef_locked (h : s.pll.locked = true) (k : Nat) : ∃ m : Int, m.natAbs * 1000 ≤ 50 * 1024 ∧
    s.switchRef k = { s with pll := s.pll.switched k, fresh := s.fresh + 1, tb := (s.correctBy m).tb } := by
  refine ⟨clamp (-movementMax) movementMax (Config.switchMovement s.fresh), ?_, (if_pos h).trans (State.tb_correctBy s ..)⟩
  unfold clamp movementMax
  split
  · decide
  · split
    · decide
    · omega

/-! ## What stands when the loop looks for a reference -/

/-- `t` is `s` but for the loop, the slew and the free values, and of the loop the references, the lock, the losses and the
clock outputs stand. -/
structure State.KeepsLock (s t : State) : Prop where
  frame : ({ t with pll := s.pll, tb := s.tb, fresh := s.fresh } : State) = s
  refA : t.pll.refA = s.pll.refA
  refB : t.pll.refB = s.pll.refB
  locked : t.pll.locked = s.pll.locked
  unlocks : t.pll.unlocks = s.pll.unlocks
  ckos : t.pll.ckos = s.pll.ckos

theorem State.KeepsLock.refl (s : State) : s.KeepsLock s := ⟨rfl, rfl, rfl, rfl, rfl, rfl⟩

theorem State.keepsLock_switchRef (s : State) (k : Nat) : s.KeepsLock (s.switchRef k) := by
  rcases h : s.pll.locked
  · rw [State.switchRef_unlocked h]
    exact ⟨rfl, rfl, rfl, rfl, rfl, rfl⟩
  · obtain ⟨m, -, he⟩ := State.switchRef_locked h k
    rw [he]
    exact ⟨rfl, rfl, rfl, rfl, rfl, rfl⟩

/-- An attempt at lock begins in the loop alone. -/
theorem State.beginAttempt_keeps (s : State) : s.KeepsLock s.beginAttempt ∧ s.beginAttempt.tb = s.tb := by
  unfold State.beginAttempt
  split
  · exact ⟨.refl s, rfl⟩
  next h =>
    have hl : s.pll.locked = false := by
      simp only [Bool.or_eq_true, not_or, Bool.not_eq_true] at h
      exact h.1.1.1
    dsimp only
    split
    · exact ⟨⟨rfl, rfl, rfl, rfl, rfl, rfl⟩, rfl⟩
    · rw [State.switchRef_unlocked hl]
      exact ⟨⟨rfl, rfl, rfl, rfl, rfl, rfl⟩, rfl⟩

theorem State.keepsLock_restartAttempt (s : State) : s.KeepsLock s.restartAttempt := by
  obtain ⟨⟨hf, ha, hb, hl, hu, hc⟩, -⟩ := ({ s with pll := { s.pll with reacquiring := false } } : State).beginAttempt_keeps
  exact ⟨(congrArg (fun u : State => ({ u with pll := s.pll } : State)) hf :), ha, hb, hl, hu, hc⟩

theorem State.keepsLock_checkRef (s : State) : s.KeepsLock s.checkRef := by
  unfold State.checkRef
  dsimp only
  split
  · split
    · exact s.keepsLock_switchRef _
    · exact .refl s
  · split
    · exact .refl s
    · exact s.keepsLock_restartAttempt

/-! ## Measurements and gaps (R237) -/

/-- What follows where the measurements `p` of a loop are new: each reference is valid or not, the lock stands, and the loop
may take another one. -/
theorem State.remeasured (s : State) (p : Pll) (hl : p.locked = s.pll.locked) :
    (({ s with pll := p } : State).refreshRefs.checkRef).pll.refA.valid = p.refA.validAt p.refCfg.refaFreq p.refCfg.refTol ∧
      (({ s with pll := p } : State).refreshRefs.checkRef).pll.refB.valid = p.refB.validAt p.refCfg.refbFreq p.refCfg.refTol ∧
      (({ s with pll := p } : State).refreshRefs.checkRef).pll.locked = s.pll.locked ∧
      ({ ({ s with pll := p } : State).refreshRefs.checkRef with pll := s.pll, tb := s.tb, fresh := s.fresh } : State) = s := by
  obtain ⟨hf, ha, hb, hlock, -, -⟩ := ({ s with pll := p } : State).refreshRefs.keepsLock_checkRef
  refine ⟨?_, ?_, hlock.trans hl, (congrArg (fun u : State => ({ u with pll := s.pll } : State)) hf :)⟩
  · rw [ha]; rfl
  · rw [hb]; rfl

theorem exec_refEdgeGap_refA (s : State) : ∃ t, exec (.refEdgeGap 0) s = .next t ∧ t.pll.refA.valid = false ∧
    ({ t with pll := s.pll, tb := s.tb, fresh := s.fresh } : State) = s := by
  obtain ⟨ha, -, -, hf⟩ := s.remeasured { s.pll with refA := { s.pll.refA with gap := true } } rfl
  exact ⟨_, rfl, ha, hf⟩

theorem exec_refEdgeGap_refB (s : State) : ∃ t, exec (.refEdgeGap 1) s = .next t ∧ t.pll.refB.valid = false ∧
    ({ t with pll := s.pll, tb := s.tb, fresh := s.fresh } : State) = s := by
  obtain ⟨-, hb, -, hf⟩ := s.remeasured { s.pll with refB := { s.pll.refB with gap := true } } rfl
  exact ⟨_, rfl, hb, hf⟩

/-- A reference is valid by the frequency that the last window measured (R237). -/
theorem RefState.validAt_measured (r : RefState) (hz f tol : Nat) : ({ r with hz := some hz, gap := false } : RefState).validAt f tol =
    decide (((hz : Int) - f).natAbs * 1000000 ≤ f * tol) := by
  simp [RefState.validAt]

/-- A window makes each reference valid or not by its frequency (R237). -/
theorem exec_refMeasurementWindow (s : State) (a b : Nat) : ∃ t, exec (.refMeasurementWindow a b) s = .next t ∧
    t.pll.refA.valid =
      decide (((a : Int) - s.pll.refCfg.refaFreq).natAbs * 1000000 ≤ s.pll.refCfg.refaFreq * s.pll.refCfg.refTol) ∧
    t.pll.refB.valid =
      decide (((b : Int) - s.pll.refCfg.refbFreq).natAbs * 1000000 ≤ s.pll.refCfg.refbFreq * s.pll.refCfg.refTol) ∧
    t.pll.locked = s.pll.locked ∧ ({ t with pll := s.pll, tb := s.tb, fresh := s.fresh } : State) = s := by
  obtain ⟨ha, hb, hl, hf⟩ := s.remeasured { s.pll with
    refA := { s.pll.refA with hz := some a, gap := false }, refB := { s.pll.refB with hz := some b, gap := false } } rfl
  exact ⟨_, rfl, ha.trans (RefState.validAt_measured ..), hb.trans (RefState.validAt_measured ..), hl, hf⟩

/-- REVERT_HOLD returns a locked loop to REFA (R237). -/
theorem exec_revertHoldExpiry (hd : s.revertDue = true) (hl : s.pll.locked = true) :
    ∃ t, exec .revertHoldExpiry s = .next t ∧ t.pll = s.pll.switched 0 ∧
      (∃ m : Int, m.natAbs * 1000 ≤ 50 * 1024 ∧ t.tb = (s.correctBy m).tb) ∧
      ({ t with pll := s.pll, tb := s.tb, fresh := s.fresh } : State) = s := by
  obtain ⟨m, hm, he⟩ := State.switchRef_locked hl 0
  have hexec : exec .revertHoldExpiry s = .next (s.switchRef 0) := if_pos (by rw [hd, hl]; rfl)
  rw [hexec, he]
  exact ⟨_, rfl, rfl, ⟨m, hm, rfl⟩, rfl⟩

end Sys2Proof.Machine

/-! O39. Lock and loss of lock (R38, R242 to R246, R250). -/

namespace Sys2Proof.Machine

variable {s t u : State}

/-! ## READY and events at a change of lock -/

theorem State.isReady_setReadyAll (r : BitVec 27) (i : Nat) : (s.setReadyAll r).isReady i = r.getLsbD i := by
  rw [State.isReady, State.dev_setReadyAll]

theorem getLsbD_foldl_setBit {w : Nat} (f : Nat → Nat) (v : Nat → Bool) (ns : List Nat) (x : BitVec w) (i : Nat)
    (hw : ∀ n ∈ ns, f n < w) (hi : ∀ n ∈ ns, i ≠ f n) :
    (ns.foldl (fun r n => setBit r (f n) (v n)) x).getLsbD i = x.getLsbD i := by
  induction ns generalizing x with
  | nil => rfl
  | cons n ns ih =>
    rw [List.foldl_cons, ih _ (fun m hm => hw m (List.mem_cons_of_mem _ hm)) fun m hm => hi m (List.mem_cons_of_mem _ hm),
      getLsbD_setBit _ _ _ _ (hw n List.mem_cons_self), if_neg (hi n List.mem_cons_self)]

/-- READY of the sequencers brought up to date leaves every other bit (R393). -/
theorem State.isReady_refreshFs (s : State) {i : Nat} (hi : i < 10 ∨ 17 < i) : s.refreshFs.isReady i = s.isReady i := by
  unfold State.refreshFs
  rw [State.isReady_setReadyAll]
  refine getLsbD_foldl_setBit readyFs s.fsReady _ _ _ (fun n hn => ?_) fun n hn => ?_
  all_goals
    have := List.mem_range.mp hn
    unfold readyFs
    omega

/-- An event that its producer publishes waits in a free channel of the fabric (R224). -/
theorem State.evch_publish {c p : Nat} {x : Tq} {gen : Nat} (hr : s.isReady readyFabric = true) (hs : (s.evch c).source = p)
    (hp : p ≠ 0xFFF) (hh : (s.evch c).holding = none) (hg : gen < 8) :
    ((s.publish p x gen).evch c).holding = some { time := x, gen := gen } := by
  let f (c : EvChannel) : EvChannel := if c.source = p then c.publish x gen else c
  have hf : f EvChannel.reset = EvChannel.reset := if_neg fun h => hp h.symm
  have hmap : (s.publish p x gen).fab.channels = s.fab.channels.map fun q => (q.1, f q.2) := by
    unfold State.publish
    rw [hr, Bool.not_true, if_neg Bool.false_ne_true]
    refine List.map_congr_left fun q _ => ?_
    exact (apply_ite (Prod.mk q.1) _ _ _).symm
  have he : (s.publish p x gen).evch c = f (s.evch c) := by
    rw [State.evch, hmap]
    exact Tab.get_map hf _ _
  rw [he]
  simp [f, hs, EvChannel.publish, hh, Nat.not_le.mpr hg]

/-! ## What stops with the loop (R59, R81, R157, R250) -/

/-- What a function of the state must not tell of, so that what stops with a loss of lock does not change it: outputs and their
sectors, shots, gates, banks, test pulses, calibrations, sequencers, and answers. -/
structure UntouchedByStops {β : Type} (g : State → β) : Prop extends UntouchedByCuts g where
  cal : ∀ (s : State) x, g { s with cal := x } = g s
  sent : ∀ (s : State) x, g { s with sent := x } = g s
  seqs : ∀ (s : State) x, g { s with sq := { s.sq with seqs := x } } = g s
  sectors : ∀ (s : State) x, g { s with sv := { s.sv with sectorCounts := x } } = g s
  waiting : ∀ (s : State) l, g { s with mbx := { s.mbx with waiting := l } } = g s
  core : ∀ s t : State, t.core = s.core → g t = g s

section
variable {β : Type} {g : State → β} (hg : UntouchedByStops g)
include hg

theorem UntouchedByStops.modShot' (s : State) (k : Option Nat) (f : Shot → Shot) : g (s.modShot' k f) = g s := by
  cases k
  · rfl
  · exact hg.tx s _

theorem UntouchedByStops.countEmission (s : State) (r n : Nat) : g (s.countEmission r n) = g s := by
  unfold State.countEmission
  split
  · rfl
  · exact hg.sectors s _

theorem UntouchedByStops.endBurst (s : State) (o : Nat) (b : Burst) (limit : Tq) : g (s.endBurst o b limit) = g s := by
  have hlog (u : State) (ps : List (Nat × Tq × Tq)) : g (u.logPulses o b ps) = g u :=
    State.foldl_field g _ (fun v p => hg.sent v _) ps u
  have hfall (u : State) : g (if b.cutAt.isSome then u else u.modOut o fun x => x.noteFall b limit) = g u := by
    split
    · rfl
    · exact hg.tx u _
  have hemit (u : State) : g (if b.allDark then u.modShot' b.shot fun x => { x with darkAll := x.darkAll + 1 }
      else if (b.formed limit).isEmpty then u else u.modShot' b.shot fun x => { x with formed := true }) = g u := by
    split
    · exact hg.modShot' ..
    · split
      · rfl
      · exact hg.modShot' ..
  have hdark (u : State) : g (if b.darkHit then u.modOut o fun x => { x with darkened := x.darkened.inc } else u) = g u := by
    split
    · exact hg.tx u _
    · rfl
  unfold State.endBurst
  dsimp only
  rw [hdark]
  split
  · rw [hemit, hg.countEmission, hfall, hlog]
  · rw [hfall, hlog]

theorem UntouchedByStops.stopOutput (s : State) (counts : Bool) (o : Nat) : g (s.stopOutput counts o) = g s := by
  unfold State.stopOutput
  dsimp only
  refine (State.foldl_field g _ (fun u e => State.answerEntry_field hg.waiting hg.core u o e 5 0) _ _).trans
    ((hg.tx _ _).trans ?_)
  split
  · split
    · exact hg.endBurst ..
    · rfl
  · rfl

theorem UntouchedByStops.stopFiring (s : State) (counts : Bool) : g (s.stopFiring counts) = g s := by
  refine (hg.tx _ _).trans (State.each_field _ g _ _ fun u o => ?_)
  split
  · exact hg.stopOutput u counts o
  · rfl

theorem UntouchedByStops.unlockGates (s : State) : g s.unlockGates = g s :=
  State.each_field _ g _ _ fun _ c => (hg.rx _ _).trans
    (State.foldl_field g _ (fun v x => hg.toUntouchedByCuts.notOpened v c x) _ _)

theorem UntouchedByStops.finishTest (s : State) (l : Nat) (j : TestJob) (status : Nat) (m : Int) :
    g (s.finishTest l j status m) = g s := by
  have hplaced : g (match j.placed with
      | some p => if (s.modLane l fun q => q.drop 1).reached (p.rise - 2048) then
          (s.modLane l fun q => q.drop 1).keepBlanked ((s.modLane l fun q => q.drop 1).injection l j p)
        else s.modLane l fun q => q.drop 1
      | none => s.modLane l fun q => q.drop 1) = g s := by
    split
    · split
      · exact (hg.tx _ _).trans ((hg.rx _ _).trans (hg.tx s _))
      · exact hg.tx s _
    · exact hg.tx s _
  unfold State.finishTest
  dsimp only
  split
  · exact (hg.tx _ _).trans hplaced
  · split
    · exact (hg.cal _ _).trans hplaced
    · exact hplaced

theorem UntouchedByStops.dropTests (s : State) : g s.dropTests = g s :=
  State.each_field _ g _ _ fun _ l => State.foldl_field g _ (fun v _ => hg.finishTest v l _ 4 0) _ _

theorem UntouchedByStops.disturbStep (s : State) (n : Nat) : g (s.disturbStep n) = g s := by
  unfold State.disturbStep
  dsimp only
  split
  · rfl
  · exact (State.each_field _ g _ _ fun u b => hg.rx u _).trans (hg.seqs s _)

end

/-! ## Loss of lock (R38, R242 to R244, R250) -/

/-- What stops with the loop: EMITTER and GATE outputs, gates, test pulses, calibrations, and the steps of sequencers `ns`. -/
def State.quieted (s : State) (ns : List Nat) : State :=
  ((s.stopFiring true).unlockGates.dropTests.dropCals).each ns fun s n => (s.disturbStep n).modSeq n SeqState.darkenGranule

theorem UntouchedByStops.quieted {β : Type} {g : State → β} (hg : UntouchedByStops g) (s : State) (ns : List Nat) :
    g (s.quieted ns) = g s :=
  (State.each_field _ g _ _ fun u n => (hg.seqs _ _).trans (hg.disturbStep u n)).trans
    ((hg.rx _ _).trans ((hg.dropTests _).trans ((hg.unlockGates _).trans (hg.stopFiring s true))))

/-- The loop without lock, its clock outputs gated, and the source that Polestar counts on. -/
def State.unlockedLoop (s : State) : State :=
  let u := s.gateClocks
  { u with
    pll := { u.pll with
      locked := false, reacquiring := false, resetting := none, run := u.pll.run.lost (!s.runningSeqs.isEmpty) }
    tb := { u.tb with source := .holdover, rate := u.rateNow } }

theorem State.loseLock_eq (s : State) : s.loseLock =
    let u := ((s.unlockedLoop.setReady readyPll false).refreshFs).quieted s.runningSeqs
    u.publish prodPllUnlock u.now 0 := rfl

theorem Cko.gated_gateAt (c : Cko) (dt : Nat) (t : Tq) : (c.gateAt dt t).gated = true := by
  unfold Cko.gateAt
  split
  · assumption
  · split <;> rfl

/-- Clock outputs are gated in the loop alone, every one of them (R244). -/
theorem State.gateClocks_eq (s : State) : ∃ cs, s.gateClocks = { s with pll := { s.pll with ckos := cs } } :=
  s.each_keeps (fun u => ∃ cs, u = { s with pll := { s.pll with ckos := cs } }) _ _
    (fun u k _ h => by obtain ⟨cs, rfl⟩ := h; exact ⟨_, rfl⟩) ⟨_, rfl⟩

/-- A step of `gateClocks`. -/
def State.gateClock (s : State) (k : Nat) : State := s.modCko k fun c => c.gateAt s.pll.cfg.dt s.now

theorem State.gated_gateClock (s : State) (k : Nat) : ((s.gateClock k).cko k).gated = true :=
  (congrArg Cko.gated (State.cko_setCko_self s k _)).trans (Cko.gated_gateAt ..)

theorem State.gated_gateClock_of_gated (s : State) (j : Nat) {k : Nat} (h : (s.cko k).gated = true) :
    ((s.gateClock j).cko k).gated = true := by
  by_cases hj : k = j
  · rw [← hj]; exact s.gated_gateClock k
  · exact (congrArg Cko.gated (State.cko_setCko_ne s j k _ hj)).trans h

theorem State.gated_gateClocks (s : State) {k : Nat} (hk : k ≤ 11) : (s.gateClocks.cko k).gated = true := by
  obtain ⟨as, bs, hr⟩ := List.append_of_mem (List.mem_range.mpr (show k < 12 by omega))
  have he : s.gateClocks = (((s.each as State.gateClock).gateClock k)).each bs State.gateClock := by
    change s.each (List.range 12) State.gateClock = _
    rw [hr, State.each, List.foldl_append]; rfl
  rw [he]
  exact State.each_keeps _ (fun u => (u.cko k).gated = true) _ bs (fun u j _ h => u.gated_gateClock_of_gated j h)
    (State.gated_gateClock ..)

theorem State.pll_refreshFs (s : State) : s.refreshFs.pll = s.pll := State.pll_setReadyAll ..
theorem State.fab_refreshFs (s : State) : s.refreshFs.fab = s.fab := State.fab_setReadyAll ..
theorem State.sv_refreshFs (s : State) : s.refreshFs.sv = s.sv := State.sv_setReadyAll ..

/-- READY with the bit of the loop set to `v`, and the sequencers' bits brought up to date. -/
def State.loopReady (s : State) (v : Bool) : State := (s.setReady readyPll v).refreshFs

theorem State.isReady_loopReady (s : State) (v : Bool) : (s.loopReady v).isReady readyPll = v := by
  rw [State.loopReady, State.isReady_refreshFs _ (.inl (by decide)), State.isReady_setReady _ _ _ _ (by decide), if_pos rfl]

theorem State.fabric_loopReady (s : State) (v : Bool) : (s.loopReady v).isReady readyFabric = s.isReady readyFabric := by
  rw [State.loopReady, State.isReady_refreshFs _ (.inr (by decide)), State.isReady_setReady _ _ _ _ (by decide),
    if_neg (by decide)]

theorem State.pll_loopReady (s : State) (v : Bool) : (s.loopReady v).pll = s.pll :=
  (State.pll_refreshFs _).trans (State.pll_setReady ..)
theorem State.tb_loopReady (s : State) (v : Bool) : (s.loopReady v).tb = s.tb :=
  (State.tb_refreshFs _).trans (State.tb_setReady ..)
theorem State.fab_loopReady (s : State) (v : Bool) : (s.loopReady v).fab = s.fab :=
  (State.fab_refreshFs _).trans (State.fab_setReady ..)
theorem State.sv_loopReady (s : State) (v : Bool) : (s.loopReady v).sv = s.sv :=
  (State.sv_refreshFs _).trans (State.sv_setReady ..)
theorem State.sq_loopReady (s : State) (v : Bool) : (s.loopReady v).sq = s.sq :=
  (State.sq_refreshFs _).trans (State.sq_setReady ..)

theorem State.ckos_unlockedLoop (s : State) : s.unlockedLoop.pll.ckos = s.gateClocks.pll.ckos := by
  unfold State.unlockedLoop
  generalize s.gateClocks = u
  rfl

theorem State.unlockedLoop_eq (s : State) : ∃ cs, s.unlockedLoop = { s with
    pll := { s.pll with
      ckos := cs, locked := false, reacquiring := false, resetting := none, run := s.pll.run.lost (!s.runningSeqs.isEmpty) }
    tb := { s.tb with source := .holdover, rate := s.rateNow } } := by
  obtain ⟨cs, hcs⟩ := s.gateClocks_eq
  unfold State.unlockedLoop
  rw [hcs]
  exact ⟨cs, rfl⟩

/-- What no stop changes. -/
def State.keptByStops (s : State) := (s.pll, s.dev, s.tb, s.fab, s.sv.run, s.sq.mem)

theorem untouchedByStops_kept : UntouchedByStops State.keptByStops :=
  ⟨⟨fun _ _ => rfl, fun _ _ => rfl, fun _ _ => rfl, fun _ _ => rfl⟩, fun _ _ => rfl, fun _ _ => rfl, fun _ _ => rfl,
    fun _ _ => rfl, fun _ _ => rfl, fun _ _ h => (congrArg State.keptByStops h :)⟩

/-- What a loss of lock leaves of the loop, READY, the time base, the fabric, and what stays. -/
theorem State.loseLock_spec (s : State) : s.loseLock.pll = s.unlockedLoop.pll ∧ s.loseLock.isReady readyPll = false ∧
    s.loseLock.tb.source = .holdover ∧
    (∀ c, s.isReady readyFabric = true → (s.evch c).source = 0x260 → (s.evch c).holding = none →
      (s.loseLock.evch c).holding = some { time := s.now, gen := 0 }) ∧
    s.loseLock.sv.run = s.sv.run ∧ s.loseLock.sq.mem = s.sq.mem := by
  obtain ⟨cs, hu⟩ := s.unlockedLoop_eq
  let u := s.unlockedLoop.loopReady false
  let v := u.quieted s.runningSeqs
  have hkept := untouchedByStops_kept.quieted u s.runningSeqs
  simp only [State.keptByStops, Prod.mk.injEq] at hkept
  obtain ⟨hpll, hdev, htb, hfab, hrun, hmem⟩ : v.pll = u.pll ∧ v.dev = u.dev ∧ v.tb = u.tb ∧ v.fab = u.fab ∧
    v.sv.run = u.sv.run ∧ v.sq.mem = u.sq.mem := hkept
  have he : s.loseLock = v.publish prodPllUnlock v.now 0 := s.loseLock_eq
  have htb' : v.tb = s.unlockedLoop.tb := htb.trans (State.tb_loopReady ..)
  have hnow : v.now = s.now := State.now_of_tb (by rw [htb', hu]) (by rw [htb', hu])
  have hevch : v.evch = s.evch := by
    funext c
    rw [State.evch, hfab, State.fab_loopReady, hu]; rfl
  have hready : v.isReady readyFabric = s.isReady readyFabric := by
    rw [State.isReady, hdev]
    refine (State.fabric_loopReady ..).trans ?_
    rw [hu]; rfl
  rw [he]
  refine ⟨?_, ?_, ?_, fun c hr hs hh => ?_, ?_, ?_⟩
  · rw [State.pll_publish, hpll]; exact State.pll_loopReady ..
  · rw [State.isReady, State.dev_publish, hdev]; exact State.isReady_loopReady ..
  · rw [State.tb_publish, htb', hu]
  · rw [hnow]
    exact State.evch_publish (by rw [hready]; exact hr) (by rw [hevch]; exact hs) (by decide) (by rw [hevch]; exact hh) (by decide)
  · rw [State.sv_publish, hrun, State.sv_loopReady, hu]
  · rw [State.sq_publish, hmem, State.sq_loopReady, hu]

theorem exec_pllUnlock (cause : UnlockCause) (hl : s.pll.locked = true) (hc : cause = .noReference → s.pll.anyUsable = false) :
    exec (.pllUnlock cause) s =
      .next ({ s with pll := { s.pll with unlocks := s.pll.unlocks.inc } } : State).loseLock.beginAttempt := by
  refine (if_neg ?_).trans (if_pos hl)
  simp only [Bool.and_eq_true, decide_eq_true_eq, not_and, Bool.not_eq_true]
  exact hc

theorem pllUnlock_spec (cause : UnlockCause) (hl : s.pll.locked = true) (hc : cause = .noReference → s.pll.anyUsable = false) :
    ∃ t, exec (.pllUnlock cause) s = .next t ∧ t.pll.locked = false ∧ t.pll.unlocks = s.pll.unlocks.inc ∧
      t.isReady readyPll = false ∧ t.tb.source = .holdover ∧ (∀ k, k ≤ 11 → (t.cko k).gated = true) ∧
      (∀ c, s.isReady readyFabric = true → (s.evch c).source = 0x260 → (s.evch c).holding = none →
        (t.evch c).holding = some { time := s.now, gen := 0 }) ∧
      t.sv.run = s.sv.run ∧ t.sq.mem = s.sq.mem := by
  let w : State := { s with pll := { s.pll with unlocks := s.pll.unlocks.inc } }
  obtain ⟨hpll, hready, hsource, hevch, hrun, hmem⟩ := w.loseLock_spec
  obtain ⟨⟨hframe, -, -, hlock, hunlocks, hckos⟩, htb⟩ := w.loseLock.beginAttempt_keeps
  obtain ⟨cs, hu⟩ := w.unlockedLoop_eq
  have hcko (k : Nat) (hk : k ≤ 11) : (w.loseLock.beginAttempt.cko k).gated = true := by
    have hc : w.loseLock.beginAttempt.cko k = w.gateClocks.cko k := congrArg (fun cs => Tab.get Cko.reset cs k)
      (hckos.trans ((congrArg Pll.ckos hpll).trans w.ckos_unlockedLoop))
    rw [hc]
    exact w.gated_gateClocks hk
  have hfield {β : Type} (g : State → β) (hg : ∀ (u : State) p x n, g { u with pll := p, tb := x, fresh := n } = g u) :
      g w.loseLock.beginAttempt = g w.loseLock :=
    (hg w.loseLock.beginAttempt w.loseLock.pll w.loseLock.tb w.loseLock.fresh).symm.trans (congrArg g hframe :)
  refine ⟨_, exec_pllUnlock cause hl hc, ?_, ?_, ?_, ?_, hcko, fun c hr hs hh => ?_, ?_, ?_⟩
  · rw [hlock, hpll, hu]
  · rw [hunlocks, hpll, hu]
  · exact (hfield (·.isReady readyPll) fun _ _ _ _ => rfl).trans hready
  · rw [htb]; exact hsource
  · exact (congrArg EvChannel.holding (hfield (·.evch c) fun _ _ _ _ => rfl)).trans (hevch c hr hs hh)
  · exact (hfield (·.sv.run) fun _ _ _ _ => rfl).trans hrun
  · exact (hfield (·.sq.mem) fun _ _ _ _ => rfl).trans hmem

/-! ## Lock (R38, R245, R246) -/

theorem State.searchBand_pll (s : State) : ∃ p f, s.searchBand = { s with pll := p, fresh := f } := ⟨_, _, rfl⟩

/-- The choice of a band changes the loop and the free values alone. -/
theorem State.chooseBand_pll (s : State) : ∃ p f, s.chooseBand = { s with pll := p, fresh := f } := by
  have hreuse : ∃ p f, (if s.pll.bandValid && s.bandFits s.pll.bandTemp then s else s.searchBand) =
      { s with pll := p, fresh := f } := by
    split
    · exact ⟨_, _, rfl⟩
    · exact s.searchBand_pll
  unfold State.chooseBand
  dsimp only
  split
  · exact s.searchBand_pll
  · split
    · exact hreuse
    · split
      · exact ⟨_, _, rfl⟩
      · exact ⟨_, _, rfl⟩
  · exact hreuse

theorem State.noteRecal_cal (s : State) : ∃ c, s.noteRecal = { s with cal := c } := by
  unfold State.noteRecal
  split
  · exact ⟨_, rfl⟩
  · exact ⟨_, rfl⟩

theorem State.renewCals_rx (s : State) : ∃ x, s.renewCals = { s with rx := x } :=
  s.each_keeps (fun u => ∃ x, u = { s with rx := x }) _ _ (fun u c _ h => by
    obtain ⟨x, rfl⟩ := h
    dsimp only
    split
    · exact ⟨_, rfl⟩
    · exact ⟨_, rfl⟩) ⟨_, rfl⟩

/-- A divider reset leaves the lock and the residual. -/
theorem State.loadClocks_lock (s : State) (o : Tq) : ∃ cs, s.loadClocks o =
    { s with pll := { s.pll with ckos := cs, ckoOrigin := o, resetting := none } } := by
  obtain ⟨cs, hcs⟩ : ∃ cs, (s.each (List.range 12) fun s k => s.modCko k fun c =>
      if c.cfg.enable = 1 then (c.gateAt s.pll.cfg.dt s.now).ungateAt o s.pll.cfg.dt s.now else c) =
        { s with pll := { s.pll with ckos := cs } } :=
    s.each_keeps (fun t => ∃ cs, t = { s with pll := { s.pll with ckos := cs } }) _ _
      (fun t k _ h => by obtain ⟨cs, rfl⟩ := h; exact ⟨_, rfl⟩) ⟨s.pll.ckos, rfl⟩
  exact ⟨cs, by rw [State.loadClocks, hcs]⟩

theorem Pll.settle_run (p : Pll) : ∃ r, p.settle = { p with run := r } := by
  unfold Pll.settle
  split
  · exact ⟨_, rfl⟩
  · exact ⟨_, rfl⟩

/-- The source that Polestar counts on once the loop is locked (R38). -/
def State.lockSource (s : State) : TbSource := if s.net.control then .locked else .free

/-- The locked loop with its clock outputs anew, and Polestar's correction by the residual. -/
def State.aligned (s : State) (r : Int) : State :=
  let t := s.loadClocks s.pll.origin
  ({ t with pll := t.pll.settle } : State).correctBy r

/-- The loop once it has locked with residual `r`, before READY says so. -/
def State.lockedLoop (s : State) (r : Int) : State :=
  let u := s.chooseBand.noteRecal
  State.aligned { u with
    pll := { u.pll with locked := true, reacquiring := false, change := none, residual := r,
                        modulator := Modulator.load u.pll.acq.ditherSeed }
    tb := { u.tb with source := u.lockSource } } r

theorem State.lockPll_eq (s : State) (r : Int) : s.lockPll r =
    let u := ((s.lockedLoop r).loopReady true).renewCals
    (u.publish prodPllLock u.now 0).answerWaiting .pllLock .ok [] := rfl

theorem State.aligned_spec (s : State) (r : Int) : ∃ p a b,
    s.aligned r = { s with pll := p, tb := { s.tb with slew := a, slewUntil := b } } ∧
      p.locked = s.pll.locked ∧ p.residual = s.pll.residual := by
  obtain ⟨cs, hcs⟩ := s.loadClocks_lock s.pll.origin
  unfold State.aligned
  rw [hcs]
  dsimp only
  obtain ⟨run, hrun⟩ := Pll.settle_run { s.pll with ckos := cs, ckoOrigin := s.pll.origin, resetting := none }
  rw [hrun]
  obtain ⟨a, b, hab⟩ := State.correctBy_eq { s with
    pll := { s.pll with ckos := cs, ckoOrigin := s.pll.origin, resetting := none, run := run } } r
  exact ⟨_, a, b, hab, rfl, rfl⟩

theorem State.lockedLoop_spec (s : State) (r : Int) : ∃ p f c a b, s.lockedLoop r =
    { s with pll := p, fresh := f, cal := c, tb := { s.tb with source := s.lockSource, slew := a, slewUntil := b } } ∧
      p.locked = true ∧ p.residual = r := by
  obtain ⟨p, f, hband⟩ := s.chooseBand_pll
  obtain ⟨c, hcal⟩ := s.chooseBand.noteRecal_cal
  unfold State.lockedLoop
  rw [hcal, hband]
  obtain ⟨q, a, b, hq, hlocked, hresidual⟩ := State.aligned_spec { s with
    pll := { p with locked := true, reacquiring := false, change := none, residual := r,
                    modulator := Modulator.load p.acq.ditherSeed }
    fresh := f, cal := c, tb := { s.tb with source := s.lockSource } } r
  exact ⟨q, f, c, a, b, hq, hlocked, hresidual⟩

theorem exec_pllLock {r : Int} (hl : s.pll.locked = false) (ha : s.pll.reacquiring = true) (hr : r.natAbs ≤ 4) :
    exec (.pllLock r) s = .next (s.lockPll r) := by
  refine if_pos ?_
  rw [Pll.relocking, hl, ha]
  exact decide_eq_true hr

theorem pllLock_spec {r : Int} (hl : s.pll.locked = false) (ha : s.pll.reacquiring = true) (hr : r.natAbs ≤ 4) :
    ∃ t, exec (.pllLock r) s = .next t ∧ t.pll.locked = true ∧ t.isReady readyPll = true ∧ t.pll.residual = r ∧
      (∀ c, s.isReady readyFabric = true → (s.evch c).source = 0x261 → (s.evch c).holding = none →
        (t.evch c).holding = some { time := s.now, gen := 0 }) ∧
      t.tb.source = (if s.net.control then .locked else .free) := by
  obtain ⟨p, f, c, a, b, hloop, hlocked, hresidual⟩ := s.lockedLoop_spec r
  let u := (s.lockedLoop r).loopReady true
  obtain ⟨x, hrx⟩ : ∃ x, u.renewCals = { u with rx := x } := u.renewCals_rx
  let v := u.renewCals
  obtain ⟨l, hcore⟩ := (v.publish prodPllLock v.now 0).answerWaiting_core .pllLock .ok []
  have htb : v.tb = (s.lockedLoop r).tb := (congrArg State.tb hrx).trans (State.tb_loopReady ..)
  have hpll : v.pll = p := by
    refine (congrArg State.pll hrx).trans ((State.pll_loopReady ..).trans ?_)
    rw [hloop]
  have hnow : v.now = s.now := State.now_of_tb (by rw [htb, hloop]) (by rw [htb, hloop])
  have hevch : v.evch = s.evch := by
    funext k
    have hfab : v.fab = s.fab := (congrArg State.fab hrx).trans ((State.fab_loopReady ..).trans (by rw [hloop]))
    rw [State.evch, hfab]; rfl
  have hready (i : Nat) : v.isReady i = u.isReady i := congrArg (·.isReady i) hrx
  have hfabric : v.isReady readyFabric = s.isReady readyFabric := by
    rw [hready, State.fabric_loopReady, hloop]; rfl
  refine ⟨_, exec_pllLock hl ha hr, ?_, ?_, ?_, ?_, ?_⟩
  · exact (congrArg (·.pll.locked) hcore).trans ((congrArg Pll.locked ((State.pll_publish ..).trans hpll)).trans hlocked)
  · refine (congrArg (·.isReady readyPll) hcore).trans (Eq.trans ?_ ((hready readyPll).trans (State.isReady_loopReady _ true)))
    exact congrArg (fun d : Startup => d.ready.getLsbD readyPll) (State.dev_publish ..)
  · exact (congrArg (·.pll.residual) hcore).trans ((congrArg Pll.residual ((State.pll_publish ..).trans hpll)).trans hresidual)
  · intro k hf hs hh
    refine (congrArg (fun y : State => (y.evch k).holding) hcore).trans ?_
    rw [← hnow]
    exact State.evch_publish (by rw [hfabric]; exact hf) (by rw [hevch]; exact hs) (by decide) (by rw [hevch]; exact hh) (by decide)
  · refine (congrArg (·.tb.source) hcore).trans ((congrArg TimeBase.source ((State.tb_publish ..).trans htb)).trans ?_)
    rw [hloop]; rfl

/-- Settles O39: a measurement and a gap set what is valid and let the loop take another reference, which leaves its lock; of a
loss of lock each stop is followed through what it leaves; the lock of an attempt changes the loop, READY and the source. -/
theorem pllEvents : Obligations.PllEvents := by
  refine ⟨exec_refMeasurementWindow, exec_refEdgeGap_refA, exec_refEdgeGap_refB, fun s hm hu hv hh hl => ?_,
    fun s cause hl hc => pllUnlock_spec cause hl hc, fun s r hl ha hr => pllLock_spec hl ha hr⟩
  exact exec_revertHoldExpiry (by simp [State.revertDue, hm, hu, hv, hh]) hl

end Sys2Proof.Machine

/-! O19. Settings of inputs, gates and raw export (R37, R137 to R139, R161, R162, R172, R174). -/

namespace Sys2Proof.Machine

variable {s : State}

/-! ## Settings look at no command in execution -/

theorem State.vector_release (v : Nat) : s.release.vector v = (s.vector v).release := by
  unfold State.vector
  rw [State.release_ite, State.release_ite]; rfl

theorem State.cause_release (bit : Nat) : s.release.cause bit = (s.cause bit).release := by
  unfold State.cause
  dsimp only
  rw [State.release_ite, ← State.vector_release]
  split <;> rfl

theorem State.setReadyAll_release (r : BitVec 27) : s.release.setReadyAll r = (s.setReadyAll r).release := by
  unfold State.setReadyAll
  rw [State.release_ite, ← State.cause_release]; rfl

theorem State.refreshFs_release : s.release.refreshFs = s.refreshFs.release := State.setReadyAll_release _

/-! ## What the checks read -/

theorem badRange_eq_false {first n total : Nat} (h1 : 1 ≤ n) (h2 : first + n ≤ total) : badRange first n total = false := by
  simp [badRange]
  omega

/-- A command that is admitted, whose checks all fail to hold, completes with the state that its row gives. -/
theorem completes_plain {c : Instr} {checks : State → List (Bool × Status)} {next : State → State} {t : State}
    (he : exec c s = cmdRow c (fun s => .plain (checks s) (next s)) s) (ha : s.admits c = true)
    (hn : next s.release = t.release) (hk : checks s.release = checks s) (hc : ∀ x ∈ checks s, x.1 = false) :
    completes c s t .ok [] := by
  refine completes_row (b := fun s => .plain (checks s) (next s)) he ha rfl rfl (by simp) ?_ ?_
  · rw [hn, State.core_release]
  · rw [← hk] at hc
    exact hc

/-! ## Each command -/

theorem hitConfig_completes {first count : Nat} {cfg : HitCfg} (ha : s.admits (.hitConfig first count cfg) = true)
    (h1 : 1 ≤ count) (h2 : first + count ≤ 512) (hc : hitRanges cfg = true) (hg : cfg.rawGate = 1 → (s.trg cfg.trgSel).edges = 3)
    (hb : ∀ c ∈ numbers first count, s.hasOpenGate c = false ∧ s.watchedNow c = false)
    (hr : s.groupResetting (numbers first count) = false) :
    completes (.hitConfig first count cfg) s
      (s.each (numbers first count) fun s c => s.configureHit c cfg).refreshFs .ok [] := by
  refine completes_plain (show execHitConfig first count cfg s = _ from rfl) ha ?_ ?_ ?_
  · rw [State.each_release _ fun _ _ => rfl, State.refreshFs_release]
  · rfl
  · simpa [badRange_eq_false h1 h2, hc, hr] using ⟨hg, hb⟩

theorem trgConfig_completes {k edges : Nat} (ha : s.admits (.trgConfig k edges) = true) (hk : k ≤ 7) (he : edges ≤ 3)
    (hg : edges ≠ 3 → s.gatesRaw k = false) :
    completes (.trgConfig k edges) s (s.setTrg k { s.trg k with edges := edges }) .ok [] := by
  refine completes_plain (show execTrgConfig k edges s = _ from rfl) ha ?_ ?_ ?_
  · rfl
  · rfl
  · simpa [hk, he] using hg

theorem staInputConfig_completes {first count : Nat} {cfg : StaInCfg} (ha : s.admits (.staInputConfig first count cfg) = true)
    (h1 : 1 ≤ count) (h2 : first + count ≤ 64) (hc : staInRanges cfg = true)
    (hu : ∀ k ∈ numbers first count, s.rowInUse (s.staCfg k).row = true → staInDiffers (s.sta k).cfg cfg = false) :
    completes (.staInputConfig first count cfg) s (s.each (numbers first count) (State.configureSta · cfg ·)) .ok [] := by
  refine completes_plain (show execStaInputConfig first count cfg s = _ from rfl) ha ?_ ?_ ?_
  · exact State.each_release _ (fun _ _ => rfl) _ s
  · rfl
  · simpa [badRange_eq_false h1 h2, hc] using hu

theorem gateProfileSet_completes {p : Nat} {cfg : GateProfile} (ha : s.admits (.gateProfileSet p cfg) = true) (hp : p ≤ 15)
    (ho : cfg.openOffset ≤ 65536000) (ho4 : cfg.openOffset % 4 = 0) (hl : 1024 ≤ cfg.length) (hl' : cfg.length ≤ 65536000)
    (hl4 : cfg.length % 4 = 0) (hb : cfg.binK ≤ 5) (hw : cfg.winStart ≤ 65536000) (hr : s.ranging = false) :
    completes (.gateProfileSet p cfg) s (s.setGateProf p cfg) .ok [] := by
  refine completes_plain (show execGateProfileSet p cfg s = _ from rfl) ha ?_ ?_ ?_
  · rfl
  · rfl
  · simp [within, hp, ho, ho4, hl, hl', hl4, hb, hw, hr]

theorem channelRowSet_completes {first count row : Nat} (ha : s.admits (.channelRowSet first count row) = true) (h1 : 1 ≤ count)
    (h2 : first + count ≤ 512) (hrow : row ≤ 63 ∨ row = 0x7F) (hu : s.rowInUse row = false)
    (hb : ∀ c ∈ numbers first count, (∀ g ∈ (s.chan c).gates, g.inUse = false) ∧ s.rowInUse (s.chan c).row = false)
    (hr : s.groupResetting (numbers first count) = false) :
    completes (.channelRowSet first count row) s
      (s.each (numbers first count) fun s c => s.setChan c { s.chan c with row := row }).refreshFs .ok [] := by
  refine completes_plain (show execChannelRowSet first count row s = _ from rfl) ha ?_ ?_ ?_
  · rw [State.each_release _ fun _ _ => rfl, State.refreshFs_release]; rfl
  · rfl
  · simpa [badRange_eq_false h1 h2, within, hu, hr] using ⟨hrow.resolve_left ∘ Nat.not_le.mpr, hb⟩

theorem rawExportSet_completes {n : Nat} {ins : List Nat} (ha : s.admits (.rawExportSet n ins) = true) (hn : n ≤ 63)
    (hi : ∀ i ∈ ins, i ≤ 584) (hs : s.isResultStream n = false) (hq : ∀ i ∈ s.rebound n ins, (s.input i).queue = [])
    (hr : s.groupResetting ((ins ++ s.rebound n ins).filter (· < 512)) = false) :
    completes (.rawExportSet n ins) s (s.bindRaw n ins) .ok [] := by
  refine completes_plain (show execRawExportSet n ins s = _ from rfl) ha ?_ ?_ ?_
  · unfold State.bindRaw
    dsimp only
    rw [show s.release.rebound n ins = s.rebound n ins from rfl, State.each_release _ fun _ _ => rfl]; rfl
  · rfl
  · simpa [badInput, hn, hs] using ⟨hi, hq, by simpa using hr⟩

theorem gateTapSet_completes {g ch st mon : Nat} (ha : s.admits (.gateTapSet g ch st mon) = true) (hg : g ≤ 7)
    (hch : ch ≤ 63 ∨ ch = 0x7F) (hst : st ≤ 63) (hm : mon ≤ 63) (hraw : (s.stream st).raw = true)
    (hr : s.groupResetting [64 * g] = false) :
    completes (.gateTapSet g ch st mon) s
      (s.setTap g { s.tap g with tapChannel := ch, tapStream := st, monChannel := mon }) .ok [] := by
  refine completes_plain (show execGateTapSet g ch st mon s = _ from rfl) ha ?_ ?_ ?_
  · rfl
  · rfl
  · simpa [within, hg, hst, hm, hraw, hr] using hch.resolve_left ∘ Nat.not_le.mpr

/-- Settles O19: each command's row admits what its hypotheses allow, and its body is what the command sets. -/
theorem receiveSettings : Obligations.ReceiveSettings := by
  unfold Obligations.ReceiveSettings
  refine ⟨?hit, ?table, ?trg, ?sta, ?profile, ?row, ?raw, ?tap⟩
  case hit => exact fun s _ _ cfg ha h1 h2 hc hg hb hr => hitConfig_completes ha h1 h2 hc hg hb hr
  case table => exact fun _ _ _ => rfl
  case trg => exact fun s _ _ ha hk he hg => trgConfig_completes ha hk he hg
  case sta => exact fun s _ _ _ ha h1 h2 hc hu => staInputConfig_completes ha h1 h2 hc hu
  case profile =>
    exact fun s _ _ ha hp ho ho4 hl hl' hl4 hb hw hr => gateProfileSet_completes ha hp ho ho4 hl hl' hl4 hb hw hr
  case row => exact fun s _ _ _ ha h1 h2 hrow hu hb hr => channelRowSet_completes ha h1 h2 hrow hu hb hr
  case raw => exact fun s _ _ ha hn hi hs hq hr => rawExportSet_completes ha hn hi hs hq hr
  case tap => exact fun s _ _ _ _ ha hg hch hst hm hraw hr => gateTapSet_completes ha hg hch hst hm hraw hr

end Sys2Proof.Machine

/-! O13. The edge generator (R33, R42 to R47, R53 to R60, R62, R74, R77, R185, R294). -/

namespace Sys2Proof.Machine

variable {s t : State} {o : Nat} {b : Burst} {e : Entry}

/-! ## A number set twice -/

section
variable {α : Type}

theorem Tab.insert_insert (t : Tab α) (k : Nat) (v w : α) : Tab.insert (Tab.insert t k v) k w = Tab.insert t k w := by
  induction t with
  | nil => simp [Tab.insert]
  | cons p t ih =>
    obtain ⟨j, a⟩ := p
    simp only [Tab.insert]
    split
    · simp [Tab.insert]
    · split
      · simp [Tab.insert]
      next h1 h2 => simp [Tab.insert, h1, h2, ih]

theorem Tab.erase_insert (t : Tab α) (k : Nat) (v : α) : Tab.erase (Tab.insert t k v) k = Tab.erase t k := by
  induction t with
  | nil => simp [Tab.insert, Tab.erase]
  | cons p t ih =>
    obtain ⟨j, a⟩ := p
    simp only [Tab.insert]
    split
    · simp [Tab.erase]
    · split
      next h => simp [Tab.erase, h]
      next h => simp [Tab.erase, ih]

theorem Tab.put_put [DecidableEq α] (d : α) (t : Tab α) (k : Nat) {v : α} (w : α) (hv : v ≠ d) :
    Tab.put d (Tab.put d t k v) k w = Tab.put d t k w := by
  unfold Tab.put
  rw [if_neg hv, Tab.erase_insert, Tab.insert_insert]

end

/-- An output with a burst is listed, so that a second setting of it leaves nothing of the first. -/
theorem State.setOut_setOut (s : State) (o : Nat) {x : OutState} (y : OutState) (hx : x.active ≠ none) :
    (s.setOut o x).setOut o y = s.setOut o y := by
  have hr : x ≠ OutState.reset o := fun h => hx (by rw [h]; rfl)
  exact congrArg (fun l => ({ s with tx := { s.tx with outs := l } } : State)) (Tab.put_put _ s.tx.outs o y hr)

/-! ## What the parts of a burst's life change -/

theorem State.modShot'_shots (s : State) (k : Option Nat) (f : Shot → Shot) :
    ∃ l, s.modShot' k f = { s with tx := { s.tx with shots := l } } := by
  cases k
  · exact ⟨_, rfl⟩
  · exact ⟨_, rfl⟩

theorem State.shot_modShot' {k : Nat} {x : Shot} (h : s.shot k = some x) (f : Shot → Shot) :
    (s.modShot' (some k) f).shot k = some (f x) := by
  refine (State.shot_setShot_self s k _).trans ?_
  rw [h]; rfl

theorem State.countEmission_counts (s : State) (r n : Nat) :
    ∃ l, s.countEmission r n = { s with sv := { s.sv with sectorCounts := l } } := by
  unfold State.countEmission
  split
  · exact ⟨_, rfl⟩
  · exact ⟨_, rfl⟩

theorem State.logPulses_sent (s : State) (o : Nat) (b : Burst) (ps : List (Nat × Tq × Tq)) :
    ∃ l, s.logPulses o b ps = { s with sent := l } := by
  unfold State.logPulses
  induction ps generalizing s with
  | nil => exact ⟨_, rfl⟩
  | cons p ps ih => exact ih (s.log (.pulse o p.2.1 p.2.2 (pLevel b.pol true) b.skewCal))

/-- The dark path changes what of a burst forms, and no other part of it (R57, R58). -/
theorem State.darkenNow_eq (s : State) (b : Burst) :
    ∃ x y z, s.darkenNow b = { b with suppressed := x, darkCuts := y, darkHit := z } := by
  unfold State.darkenNow Burst.darken
  split
  · split
    · exact ⟨_, _, _, rfl⟩
    · exact ⟨_, _, _, rfl⟩
  · exact ⟨_, _, _, rfl⟩

/-- The dark path reaches the bursts of EMITTER outputs alone (R57). -/
theorem State.darkenNow_plain (h : b.emitter = false) : s.darkenNow b = b := by
  unfold State.darkenNow Burst.darken
  rw [h, Bool.false_and, if_neg Bool.false_ne_true, ite_self]

/-! ## The take (R53, R54) -/

theorem exec_edgeGeneratorTake {rest : List Entry} (ho : o ≤ 135) (hw : s.dev.warm = false) (hs : (s.out o).sched = e :: rest)
    (hn : (s.out o).next = none) :
    exec (.edgeGeneratorTake o) s = .next ((s.setOut o { s.out o with sched := rest }).takeEntry o e) := by
  change execEdgeGeneratorTake o s = _
  unfold execEdgeGeneratorTake
  rw [if_neg (by simp [hw, ho])]
  dsimp only
  rw [hs, hn]

theorem takeTest_onTime {x : OutState} {now : Tq} (he : x.cfg.enable = 1) (h : now + 8192 ≤ e.tTrig + edgeShift x.cfg) :
    takeTest x e now = .onTime := by
  simp [takeTest, he, h]

theorem takeTest_late {x : OutState} {now : Tq} (he : x.cfg.enable = 1) (h : e.tTrig + edgeShift x.cfg < now + 8192)
    (hc : x.cfg.cls < 2 ∨ x.cfg.lateExec ≠ 1) : takeTest x e now = .late := by
  have hc' : ¬ (2 ≤ x.cfg.cls ∧ x.cfg.lateExec = 1 ∧ now + 8192 - (e.tTrig + edgeShift x.cfg) ≤ x.cfg.lateMax) :=
    fun ⟨h1, h2, _⟩ => hc.elim (fun h => absurd h (Nat.not_lt.mpr h1)) fun h => h h2
  unfold takeTest
  dsimp only
  rw [if_neg (by simp [he]), if_neg (not_le.mpr h), if_neg hc']

/-- A burst is loaded in the registers of its output, the queues of the lanes and its shot. -/
theorem State.loadBurst_eq (s : State) (o : Nat) (b : Burst) : ∃ lanes shots, s.loadBurst o b =
    ({ s with tx := { s.tx with lanes := lanes, shots := shots } } : State).setOut o
      ({ s.out o with next := some b } : OutState).advance := by
  unfold State.loadBurst
  dsimp only
  split
  · obtain ⟨l, hl⟩ := (s.yieldTests o b).modShot'_shots b.shot fun x => { x with
      took := x.took + 1
      rises := if (s.yieldTests o b).isReference o x && x.ref.isNone then b.rises else x.rises }
    rw [hl]
    exact ⟨_, _, rfl⟩
  · exact ⟨_, _, rfl⟩

theorem State.out_loadBurst (s : State) (o : Nat) (b : Burst) :
    (s.loadBurst o b).out o = ({ s.out o with next := some b } : OutState).advance := by
  obtain ⟨l, h, he⟩ := s.loadBurst_eq o b
  rw [he, State.out_setOut_self]

theorem State.out_loadBurst_ne (s : State) {o j : Nat} (b : Burst) (hj : j ≠ o) : (s.loadBurst o b).out j = s.out j := by
  obtain ⟨l, h, he⟩ := s.loadBurst_eq o b
  rw [he, State.out_setOut_ne _ _ _ _ hj]; rfl

theorem State.takeEntry_onTime (h : takeTest (s.out o) e s.now = .onTime) (ha : (s.out o).active = none) :
    s.takeEntry o e = ((s.setOut o (s.out o)).loadBurst o (burstOf (s.out o) e (s.outSkew o) 0)).answerEntry o e 0 0 := by
  unfold State.takeEntry
  dsimp only
  rw [h, ha]
  rfl

theorem State.takeEntry_late (h : takeTest (s.out o) e s.now = .late) : s.takeEntry o e =
    ((s.setOut o { s.out o with fLate := true, late := (s.out o).late.inc }).publish (prodLate o)
      (e.tTrig + edgeShift (s.out o).cfg) e.gen).answerEntry o e 2
        (s.now + 8192 - (e.tTrig + edgeShift (s.out o).cfg)).toNat := by
  unfold State.takeEntry
  dsimp only
  rw [h]

/-- An answer to an entry changes what answers change. -/
theorem State.tx_answerEntry (s : State) (o : Nat) (e : Entry) (k l : Nat) : (s.answerEntry o e k l).tx = s.tx :=
  State.answerEntry_field (g := State.tx) (fun _ _ => rfl) (fun _ _ h => (congrArg State.tx h :)) s o e k l

theorem State.fab_answerEntry (s : State) (o : Nat) (e : Entry) (k l : Nat) : (s.answerEntry o e k l).fab = s.fab :=
  State.answerEntry_field (g := State.fab) (fun _ _ => rfl) (fun _ _ h => (congrArg State.fab h :)) s o e k l

/-- What is no output's, with what answers change left out. -/
def State.besideOutputs (u s : State) : State := ({ u with tx := s.tx, mbx := s.mbx } : State).core

theorem State.besideOutputs_of_core {u v : State} (h : u.core = v.core) (s : State) : u.besideOutputs s = v.besideOutputs s :=
  (congrArg (fun c : State => ({ c with
    tx := s.tx, mbx := { s.mbx with boxes := [], executing := none, uartFree := 0 } } : State)) h :)

theorem State.besideOutputs_of_tx {u : State} {x : Tx} (h : u = { s with tx := x }) : u.besideOutputs s = s.core := by
  rw [h]; rfl

theorem State.besideOutputs_answerEntry (u s : State) (o : Nat) (e : Entry) (k l : Nat) :
    (u.answerEntry o e k l).besideOutputs s = u.besideOutputs s :=
  State.answerEntry_field (g := (·.besideOutputs s)) (fun _ _ => rfl) (fun _ _ h => State.besideOutputs_of_core h s) u o e k l

/-- On time and with the registers empty an entry becomes the active burst (R42, R53). -/
theorem takes_onTime {rest : List Entry} (ho : o ≤ 135) (hw : s.dev.warm = false) (hs : (s.out o).sched = e :: rest)
    (hn : (s.out o).next = none) (ha : (s.out o).active = none) (he : (s.out o).cfg.enable = 1)
    (hd : s.now + 8192 ≤ e.tTrig + edgeShift (s.out o).cfg) :
    ∃ t b, exec (.edgeGeneratorTake o) s = .next t ∧ (t.out o).active = some b ∧ (t.out o).sched = rest ∧
      (t.out o).next = none ∧ b.w = (e.pulses (s.out o).cfg).2 ∧
      b.rises = (e.pulses (s.out o).cfg).1.map (fun off => e.tTrig + edgeShift (s.out o).cfg + (off : Int)) ∧
      (∀ j, j ≠ o → t.out j = s.out j) ∧ ({ t with tx := s.tx, mbx := s.mbx } : State).core = s.core := by
  let u := s.setOut o { s.out o with sched := rest }
  have hu : u.out o = { s.out o with sched := rest } := State.out_setOut_self s o _
  let b := burstOf (u.out o) e (u.outSkew o) 0
  obtain ⟨lanes, shots, hload⟩ := (u.setOut o (u.out o)).loadBurst_eq o b
  let v := (u.setOut o (u.out o)).loadBurst o b
  have htake : u.takeEntry o e = v.answerEntry o e 0 0 :=
    State.takeEntry_onTime (takeTest_onTime (by rw [hu]; exact he) (by rw [hu]; exact hd)) (by rw [hu]; exact ha)
  have htx : (v.answerEntry o e 0 0).tx = v.tx := State.tx_answerEntry ..
  have hout : (v.answerEntry o e 0 0).out o = { s.out o with sched := rest, active := some b, next := none } := by
    rw [State.out_of_tx htx]
    refine (State.out_loadBurst ..).trans ?_
    rw [State.out_setOut_self, hu, OutState.advance, ha]
  refine ⟨v.answerEntry o e 0 0, b, by rw [exec_edgeGeneratorTake ho hw hs hn, htake], ?_, ?_, ?_, ?_, ?_, fun j hj => ?_, ?_⟩
  · rw [hout]
  · rw [hout]
  · rw [hout]
  · change ((e.pulses (u.out o).cfg).2) = _
    rw [hu]
  · change (e.pulses (u.out o).cfg).1.map (fun off => e.tTrig + edgeShift (u.out o).cfg + (off : Int) + 0) = _
    rw [hu]
    simp only [Int.add_zero]
  · rw [State.out_of_tx htx]
    exact (State.out_loadBurst_ne _ b hj).trans ((State.out_setOut_ne u o j _ hj).trans (State.out_setOut_ne s o j _ hj))
  · obtain ⟨x, hx⟩ : ∃ x, v = { s with tx := x } := ⟨_, hload⟩
    exact (State.besideOutputs_answerEntry v s o e 0 0).trans (State.besideOutputs_of_tx hx)

/-- Too late for an output that never acts late, an entry is not performed (R54). -/
theorem takes_late {rest : List Entry} (ho : o ≤ 135) (hw : s.dev.warm = false) (hs : (s.out o).sched = e :: rest)
    (hn : (s.out o).next = none) (he : (s.out o).cfg.enable = 1) (hd : e.tTrig + edgeShift (s.out o).cfg < s.now + 8192)
    (hc : (s.out o).cfg.cls < 2 ∨ (s.out o).cfg.lateExec ≠ 1) :
    ∃ t, exec (.edgeGeneratorTake o) s = .next t ∧ (t.out o).fLate = true ∧ (t.out o).late = (s.out o).late.inc ∧
      (t.out o).sched = rest ∧ (t.out o).active = (s.out o).active ∧ (t.out o).next = none ∧
      t.fab = (s.publish (prodLate o) (e.tTrig + edgeShift (s.out o).cfg) e.gen).fab ∧
      ({ t with tx := s.tx, mbx := s.mbx, fab := s.fab } : State).core = s.core := by
  let x : OutState := { s.out o with sched := rest }
  let u := s.setOut o x
  have hu : u.out o = x := State.out_setOut_self s o _
  let w := u.setOut o { x with fLate := true, late := x.late.inc }
  let v := w.publish (prodLate o) (e.tTrig + edgeShift x.cfg) e.gen
  let n := (s.now + 8192 - (e.tTrig + edgeShift x.cfg)).toNat
  have htake : u.takeEntry o e = v.answerEntry o e 2 n := by
    rw [State.takeEntry_late (takeTest_late (by rw [hu]; exact he) (by rw [hu]; exact hd) (by rw [hu]; exact hc)), hu]; rfl
  have hout : (v.answerEntry o e 2 n).out o = { x with fLate := true, late := x.late.inc } := by
    rw [State.out_of_tx (State.tx_answerEntry v o e 2 n), State.out_of_tx (State.tx_publish ..)]
    exact State.out_setOut_self ..
  refine ⟨v.answerEntry o e 2 n, by rw [exec_edgeGeneratorTake ho hw hs hn, htake], ?_, ?_, ?_, ?_, ?_, ?_, ?_⟩
  · rw [hout]
  · rw [hout]
  · rw [hout]
  · rw [hout]
  · rw [hout]; exact hn
  · exact (State.fab_answerEntry v o e 2 n).trans (State.publish_fab_congr s w rfl rfl _ _ _)
  · refine (congrArg (fun c : State => ({ c with fab := s.fab } : State)) (State.besideOutputs_answerEntry v s o e 2 n) :).trans ?_
    rw [show v = _ from State.publish_eq w _ _ _]; rfl

/-! ## The first rising edge (R56, R57, R59, R62, R65, R294) -/

/-- The burst once its first rising edge has come. -/
def Burst.begun (b : Burst) : Burst :=
  { b with fired := true, counted := if b.emitter && !b.suppressed.contains 0 then [0] else [] }

/-- The output with its burst begun, and the match windows of an EMITTER output. -/
def State.beginBurst (s : State) (o : Nat) (b : Burst) : State :=
  let u := s.modOut o fun x => { x with active := some b.begun }
  if b.emitter then { u with tx := { u.tx with windows := u.tx.windows ++ u.burstWindows b } } else u

/-- The light of a first edge that formed counts in its sector and is told to its shot. -/
def State.countLight (s : State) (b : Burst) : State :=
  if b.emitter then (s.countEmission b.row 1).modShot' b.shot fun x => { x with formed := true } else s

/-- The output's counters of a first edge that formed. -/
def OutState.countFired (x : OutState) (locked : Bool) : OutState :=
  { x with bursts := x.bursts.inc, holdoverEdges := if locked then x.holdoverEdges else x.holdoverEdges.inc }

/-- The output with a burst begun that formed, and counted. -/
def State.countBurst (s : State) (o : Nat) (b : Burst) : State :=
  (s.beginBurst o b).modOut o (·.countFired (s.beginBurst o b).pll.locked)

theorem State.fireBurst_eq (s : State) (o : Nat) (b : Burst) : s.fireBurst o b =
    if (s.darkenNow b).suppressed.contains 0 then s.beginBurst o (s.darkenNow b)
    else ((s.countBurst o (s.darkenNow b)).countLight (s.darkenNow b)).publish (prodFired o) ((s.darkenNow b).rises.headD 0) (s.darkenNow b).gen := rfl

/-- What `beginBurst` changes: its output and the match windows. -/
theorem State.beginBurst_eq (s : State) (o : Nat) (b : Burst) : s.beginBurst o b =
    ({ s with tx := { s.tx with windows := if b.emitter then s.tx.windows ++ s.burstWindows b else s.tx.windows } } : State
      ).setOut o { s.out o with active := some b.begun } := by
  unfold State.beginBurst
  split <;> rfl

theorem State.countBurst_eq (s : State) (o : Nat) (b : Burst) : ∃ outs, s.countBurst o b = { s with tx := { s.tx with
    windows := if b.emitter then s.tx.windows ++ s.burstWindows b else s.tx.windows, outs := outs } } := by
  unfold State.countBurst
  rw [State.beginBurst_eq]
  exact ⟨_, rfl⟩

theorem State.out_countBurst (s : State) (o : Nat) (b : Burst) : (s.countBurst o b).out o =
    ({ s.out o with active := some b.begun } : OutState).countFired s.pll.locked := by
  unfold State.countBurst
  rw [State.beginBurst_eq]
  refine (State.out_setOut_self _ o _).trans ?_
  rw [State.out_setOut_self]; rfl

theorem State.out_countBurst_ne (s : State) {o j : Nat} (b : Burst) (hj : j ≠ o) : (s.countBurst o b).out j = s.out j := by
  unfold State.countBurst
  rw [State.beginBurst_eq]
  exact (State.out_setOut_ne _ o j _ hj).trans (State.out_setOut_ne _ o j _ hj)

theorem State.countLight_eq (s : State) (b : Burst) : ∃ shots counts, s.countLight b =
    { s with tx := { s.tx with shots := shots }, sv := { s.sv with sectorCounts := counts } } := by
  unfold State.countLight
  split
  · obtain ⟨c, hc⟩ := s.countEmission_counts b.row 1
    obtain ⟨l, hl⟩ := (s.countEmission b.row 1).modShot'_shots b.shot fun x => { x with formed := true }
    rw [hl, hc]
    exact ⟨_, _, rfl⟩
  · exact ⟨_, _, rfl⟩

/-- Light counts in the sector in which the angle lies, with the row's WEIGHT (R294). -/
theorem State.sectorCount_countLight (s : State) (b : Burst) : (s.countLight b).sectorCount s.svSector =
    if b.emitter then s.sectorCount s.svSector + Tab.get 1 s.sv.active.weights b.row else s.sectorCount s.svSector := by
  unfold State.countLight
  split
  · obtain ⟨l, hl⟩ := (s.countEmission b.row 1).modShot'_shots b.shot fun x => { x with formed := true }
    rw [hl]
    refine (State.sectorCount_setSectorCount_self s s.svSector _).trans ?_
    rw [Nat.one_mul]
  · rfl

theorem exec_burstFired (ho : o ≤ 135) (ha : (s.out o).active = some b) (hb : b.fired = false)
    (hr : s.reached (b.rises.headD 0) = true) : exec (.burstFired o) s =
      if (s.out o).fmtBy.isSome ∨ (s.out o).cfg.enable = 0 ∨ s.ballsOff then
        .next (s.modOut o fun x => ({ x with active := none } : OutState).advance)
      else .next (s.fireBurst o b) := by
  change execBurstFired o s = _
  unfold execBurstFired
  rw [if_neg (by omega), ha]
  exact if_pos (by rw [hb, hr]; rfl)

theorem State.emitter_darkenNow (s : State) (b : Burst) : (s.darkenNow b).emitter = b.emitter := by
  obtain ⟨x, y, z, h⟩ := s.darkenNow_eq b
  rw [h]

theorem State.begun_darkenNow_formed (h : (s.darkenNow b).suppressed.contains 0 = false) : (s.darkenNow b).begun =
    { s.darkenNow b with fired := true, counted := if b.emitter then [0] else [] } :=
  congrArg (fun l => ({ s.darkenNow b with fired := true, counted := l } : Burst)) (by
    rw [h, State.emitter_darkenNow, Bool.not_false, Bool.and_true])

theorem State.begun_darkenNow_dark (h : (s.darkenNow b).suppressed.contains 0 = true) : (s.darkenNow b).begun =
    { s.darkenNow b with fired := true, counted := [] } :=
  congrArg (fun l => ({ s.darkenNow b with fired := true, counted := l } : Burst)) (if_neg (by rw [h]; simp))

/-- A first edge that forms is counted and publishes (R56, R59, R62, R65, R294). -/
theorem fires_formed (ho : o ≤ 135) (ha : (s.out o).active = some b) (hb : b.fired = false)
    (hr : s.reached (b.rises.headD 0) = true) (hf : (s.out o).fmtBy = none) (he : (s.out o).cfg.enable = 1)
    (hoff : s.ballsOff = false) (hd : (s.darkenNow b).suppressed.contains 0 = false) :
    ∃ t, exec (.burstFired o) s = .next t ∧
      t.out o = { s.out o with
        active := some { s.darkenNow b with fired := true, counted := if b.emitter then [0] else [] }
        bursts := (s.out o).bursts.inc
        holdoverEdges := if s.pll.locked then (s.out o).holdoverEdges else (s.out o).holdoverEdges.inc } ∧
      t.fab = (s.publish (prodFired o) (b.rises.headD 0) b.gen).fab ∧
      t.tx.windows = (if b.emitter then s.tx.windows ++ s.burstWindows (s.darkenNow b) else s.tx.windows) ∧
      t.sectorCount s.svSector =
        (if b.emitter then s.sectorCount s.svSector + Tab.get 1 s.sv.active.weights b.row else s.sectorCount s.svSector) ∧
      (∀ j, j ≠ o → t.out j = s.out j) ∧ ({ t with tx := s.tx, fab := s.fab, sv := s.sv } : State) = s := by
  obtain ⟨x, y, z, hdark⟩ := s.darkenNow_eq b
  have hem : (s.darkenNow b).emitter = b.emitter := s.emitter_darkenNow b
  have hrises : (s.darkenNow b).rises = b.rises := by rw [hdark]
  have hgen : (s.darkenNow b).gen = b.gen := by rw [hdark]
  have hrow : (s.darkenNow b).row = b.row := by rw [hdark]
  let v := s.countBurst o (s.darkenNow b)
  obtain ⟨outs, hv⟩ : ∃ outs, v = _ := s.countBurst_eq o (s.darkenNow b)
  let w := v.countLight (s.darkenNow b)
  obtain ⟨shots, counts, hw⟩ : ∃ shots counts, w = { v with
    tx := { v.tx with shots := shots }, sv := { v.sv with sectorCounts := counts } } := v.countLight_eq (s.darkenNow b)
  have hexec : exec (.burstFired o) s = .next (w.publish (prodFired o) (b.rises.headD 0) b.gen) := by
    rw [exec_burstFired ho ha hb hr, if_neg (by simp [hf, he, hoff]), State.fireBurst_eq, if_neg (by rw [hd]; exact Bool.false_ne_true), hrises, hgen]
  have hout (j : Nat) : (w.publish (prodFired o) (b.rises.headD 0) b.gen).out j = v.out j :=
    (State.out_of_tx (State.tx_publish ..) j).trans (congrArg (State.out · j) hw :)
  refine ⟨_, hexec, ?_, ?_, ?_, ?_, fun j hj => ?_, ?_⟩
  · rw [hout, State.out_countBurst, State.begun_darkenNow_formed hd]; rfl
  · exact State.publish_fab_congr s w ((congrArg State.fab hw :).trans (congrArg State.fab hv :))
      ((congrArg State.dev hw :).trans (congrArg State.dev hv :)) _ _ _
  · rw [State.tx_publish, show w.tx.windows = v.tx.windows from (congrArg (·.tx.windows) hw :), hv, hem]
  · have hsector := v.sectorCount_countLight (s.darkenNow b)
    rw [hem, hrow, show v.svSector = s.svSector from (congrArg State.svSector hv :),
      show v.sv = s.sv from (congrArg State.sv hv :),
      show v.sectorCount s.svSector = s.sectorCount s.svSector from (congrArg (·.sectorCount s.svSector) hv :)] at hsector
    exact (congrArg (fun y : Supervisor => Tab.get 0 y.sectorCounts s.svSector) (State.sv_publish w ..)).trans hsector
  · rw [hout]; exact State.out_countBurst_ne s _ hj
  · rw [State.publish_eq, hw, hv]

/-- A first edge that the dark path keeps from forming is neither counted nor published (R57). -/
theorem fires_dark (ho : o ≤ 135) (ha : (s.out o).active = some b) (hb : b.fired = false)
    (hr : s.reached (b.rises.headD 0) = true) (hf : (s.out o).fmtBy = none) (he : (s.out o).cfg.enable = 1)
    (hoff : s.ballsOff = false) (hd : (s.darkenNow b).suppressed.contains 0 = true) :
    ∃ t, exec (.burstFired o) s = .next t ∧
      t.out o = { s.out o with active := some { s.darkenNow b with fired := true, counted := [] } } ∧
      ({ t with tx := s.tx } : State) = s := by
  have hu := s.beginBurst_eq o (s.darkenNow b)
  refine ⟨s.beginBurst o (s.darkenNow b), ?_, ?_, ?_⟩
  · rw [exec_burstFired ho ha hb hr, if_neg (by simp [hf, he, hoff]), State.fireBurst_eq, if_pos hd]
  · rw [hu, State.out_setOut_self, State.begun_darkenNow_dark hd]
  · rw [hu]; rfl

/-- With ENABLE 0, while a new format is awaited and with the outputs off a burst that has not begun is dropped (R45, R47). -/
theorem fires_not (ho : o ≤ 135) (ha : (s.out o).active = some b) (hb : b.fired = false)
    (hr : s.reached (b.rises.headD 0) = true) (h : (s.out o).fmtBy ≠ none ∨ (s.out o).cfg.enable = 0 ∨ s.ballsOff = true) :
    exec (.burstFired o) s = .next (s.setOut o { s.out o with active := (s.out o).next, next := none }) := by
  have h' : (s.out o).fmtBy.isSome ∨ (s.out o).cfg.enable = 0 ∨ s.ballsOff := h.imp_left Option.isSome_iff_ne_none.mpr
  rw [exec_burstFired ho ha hb hr, if_pos h']; rfl

/-! ## The end of a burst (R33, R50, R53, R57, R77, R185) -/

/-- The last falling edge of a burst that no step has cut is noted (R77). -/
def State.noteEnd (s : State) (o : Nat) (b : Burst) (limit : Tq) : State :=
  if b.cutAt.isSome then s else s.modOut o fun x => x.noteFall b limit

/-- What an EMITTER burst tells its shot (R185). -/
def State.tellShot (s : State) (b : Burst) (limit : Tq) : State :=
  if b.allDark then s.modShot' b.shot fun x => { x with darkAll := x.darkAll + 1 }
  else if (b.formed limit).isEmpty then s else s.modShot' b.shot fun x => { x with formed := true }

/-- A burst that met dark is counted (R57). -/
def State.noteDark (s : State) (o : Nat) (b : Burst) : State :=
  if b.darkHit then s.modOut o fun x => { x with darkened := x.darkened.inc } else s

/-- The pulses of a burst leave, and its last falling edge is noted. -/
def State.leave (s : State) (o : Nat) (b : Burst) (limit : Tq) : State :=
  (s.logPulses o b (b.formed limit)).noteEnd o b limit

theorem State.endBurst_plain (he : b.emitter = false) (hd : b.darkHit = false) (s : State) (o : Nat) (limit : Tq) :
    s.endBurst o b limit = s.leave o b limit := by
  unfold State.endBurst
  dsimp only
  rw [hd, he]; rfl

theorem State.endBurst_emitter (he : b.emitter = true) (s : State) (o : Nat) (limit : Tq) : s.endBurst o b limit =
    (((s.leave o b limit).countEmission b.row (b.uncounted limit).length).tellShot b limit).noteDark o b := by
  unfold State.endBurst
  dsimp only
  rw [he]; rfl

theorem State.noteEnd_eq (s : State) (o : Nat) (b : Burst) (limit : Tq) :
    ∃ outs, s.noteEnd o b limit = { s with tx := { s.tx with outs := outs } } := by
  unfold State.noteEnd
  split
  · exact ⟨_, rfl⟩
  · exact ⟨_, rfl⟩

theorem State.out_noteEnd (s : State) (o : Nat) (b : Burst) (limit : Tq) : (s.noteEnd o b limit).out o = { s.out o with
    lastFall := if b.cutAt.isSome then (s.out o).lastFall else (b.lastFall limit).or (s.out o).lastFall } := by
  unfold State.noteEnd
  split
  · rfl
  · exact State.out_setOut_self s o _

theorem State.leave_eq (s : State) (o : Nat) (b : Burst) (limit : Tq) :
    ∃ outs l, s.leave o b limit = { s with tx := { s.tx with outs := outs }, sent := l } := by
  obtain ⟨l, hl⟩ := s.logPulses_sent o b (b.formed limit)
  obtain ⟨outs, ho⟩ := (s.logPulses o b (b.formed limit)).noteEnd_eq o b limit
  exact ⟨outs, l, ho.trans (by rw [hl])⟩

theorem State.out_leave (s : State) (o : Nat) (b : Burst) (limit : Tq) : (s.leave o b limit).out o = { s.out o with
    lastFall := if b.cutAt.isSome then (s.out o).lastFall else (b.lastFall limit).or (s.out o).lastFall } := by
  obtain ⟨l, hl⟩ := s.logPulses_sent o b (b.formed limit)
  refine (State.out_noteEnd _ o b limit).trans ?_
  rw [hl]; rfl

theorem State.tellShot_shots (s : State) (b : Burst) (limit : Tq) :
    ∃ l, s.tellShot b limit = { s with tx := { s.tx with shots := l } } := by
  unfold State.tellShot
  split
  · exact s.modShot'_shots ..
  · split
    · exact ⟨_, rfl⟩
    · exact s.modShot'_shots ..

theorem State.shot_tellShot {k : Nat} {x : Shot} (hk : b.shot = some k) (hx : s.shot k = some x) (limit : Tq) :
    (s.tellShot b limit).shot k = some (if b.allDark then { x with darkAll := x.darkAll + 1 }
      else if b.formed limit = [] then x else { x with formed := true }) := by
  unfold State.tellShot
  rw [hk]
  split
  · exact State.shot_modShot' hx _
  · split
    next h => rw [hx, if_pos (List.isEmpty_iff.mp h)]
    next h => rw [State.shot_modShot' hx, if_neg fun hn => h (List.isEmpty_iff.mpr hn)]

theorem State.noteDark_eq (s : State) (o : Nat) (b : Burst) :
    ∃ outs, s.noteDark o b = { s with tx := { s.tx with outs := outs } } := by
  unfold State.noteDark
  split
  · exact ⟨_, rfl⟩
  · exact ⟨_, rfl⟩

theorem State.out_noteDark (s : State) (o : Nat) (b : Burst) : (s.noteDark o b).out o = { s.out o with
    darkened := if b.darkHit then (s.out o).darkened.inc else (s.out o).darkened } := by
  unfold State.noteDark
  split
  · exact State.out_setOut_self s o _
  · rfl

theorem exec_burstComplete (ho : o ≤ 135) (ha : (s.out o).active = some b) (hf : b.fired = true)
    (hc : (b.cutAt.isSome || s.reached b.stop) = true) : exec (.burstComplete o) s =
      .next ((s.endBurst o (s.darkenNow b) (b.cutAt.getD b.stop)).modOut o fun x =>
        ({ x with active := none } : OutState).advance) := by
  change execBurstComplete o s = _
  unfold execBurstComplete
  rw [if_neg (by omega), ha]
  exact if_pos (by rw [hf, hc]; rfl)

/-- The limit of a burst that no step has cut is its last falling edge. -/
theorem Burst.lastFall_limit (b c : Burst) (l : Option Tq) :
    (if b.cutAt.isSome then l else (c.lastFall (b.cutAt.getD b.stop)).or l) =
      if b.cutAt.isSome then l else (c.lastFall b.stop).or l := by
  rcases b.cutAt with _ | t
  · rfl
  · rfl

/-- What is noted of the end of the active burst does not outlast a second setting of the output. -/
theorem State.setOut_noteEnd (ha : (s.out o).active ≠ none) (limit : Tq) (y : OutState) :
    (s.noteEnd o b limit).setOut o y = s.setOut o y := by
  unfold State.noteEnd
  split
  · rfl
  · exact s.setOut_setOut o y ha

/-- Without dark a burst leaves its pulses and its last falling edge (R50, R53, R77). -/
theorem completes_plainBurst (ho : o ≤ 135) (ha : (s.out o).active = some b) (hf : b.fired = true) (he : b.emitter = false)
    (hd : b.darkHit = false) (hc : (b.cutAt.isSome || s.reached b.stop) = true) :
    exec (.burstComplete o) s = .next
      ((s.logPulses o b (b.formed (b.cutAt.getD b.stop))).setOut o { s.out o with
        active := (s.out o).next
        next := none
        lastFall := if b.cutAt.isSome then (s.out o).lastFall else (b.lastFall b.stop).or (s.out o).lastFall }) := by
  rw [exec_burstComplete ho ha hf hc, State.darkenNow_plain he, State.endBurst_plain he hd, State.modOut, State.out_leave,
    Burst.lastFall_limit]
  obtain ⟨l, hl⟩ := s.logPulses_sent o b (b.formed (b.cutAt.getD b.stop))
  have hactive : ((s.logPulses o b (b.formed (b.cutAt.getD b.stop))).out o).active ≠ none := by
    rw [hl]
    exact ha.trans_ne (Option.some_ne_none b)
  unfold State.leave
  rw [State.setOut_noteEnd hactive]
  rfl

/-- A burst of an EMITTER output also tells its shot of its light, and counts where it met dark (R57, R185). -/
theorem completes_emitterBurst (ho : o ≤ 135) (ha : (s.out o).active = some b) (hf : b.fired = true) (he : b.emitter = true)
    (hc : (b.cutAt.isSome || s.reached b.stop) = true) :
    ∃ t, exec (.burstComplete o) s = .next t ∧
      t.out o = { s.out o with
        active := (s.out o).next
        next := none
        lastFall := if b.cutAt.isSome then (s.out o).lastFall
          else ((s.darkenNow b).lastFall b.stop).or (s.out o).lastFall
        darkened := if (s.darkenNow b).darkHit then (s.out o).darkened.inc else (s.out o).darkened } ∧
      (∀ k x, b.shot = some k → s.shot k = some x → t.shot k = some (
        if (s.darkenNow b).allDark then { x with darkAll := x.darkAll + 1 }
        else if (s.darkenNow b).formed (b.cutAt.getD b.stop) = [] then x
        else { x with formed := true })) ∧
      ({ t with tx := s.tx, sv := s.sv, sent := s.sent } : State) = s := by
  obtain ⟨p, q, z, hdark⟩ := s.darkenNow_eq b
  have hshot : (s.darkenNow b).shot = b.shot := by rw [hdark]
  have hcut : (s.darkenNow b).cutAt = b.cutAt := by rw [hdark]
  let d := s.darkenNow b
  let limit := b.cutAt.getD b.stop
  let u := s.leave o d limit
  let v := u.countEmission d.row (d.uncounted limit).length
  let w := v.tellShot d limit
  let y := w.noteDark o d
  have hend : s.endBurst o d limit = y := State.endBurst_emitter ((s.emitter_darkenNow b).trans he) s o limit
  obtain ⟨outs, l, hu⟩ : ∃ outs l, u = { s with tx := { s.tx with outs := outs }, sent := l } := s.leave_eq o d limit
  obtain ⟨counts, hv⟩ : ∃ c, v = { u with sv := { u.sv with sectorCounts := c } } := u.countEmission_counts ..
  obtain ⟨shots, hw⟩ : ∃ l, w = { v with tx := { v.tx with shots := l } } := v.tellShot_shots d limit
  obtain ⟨outs', hy⟩ : ∃ outs, y = { w with tx := { w.tx with outs := outs } } := w.noteDark_eq o d
  have hwout : w.out o = u.out o := (congrArg (·.out o) hw :).trans (congrArg (·.out o) hv :)
  have huout := s.out_leave o d limit
  rw [hcut, Burst.lastFall_limit] at huout
  have hyout := w.out_noteDark o d
  rw [hwout, show u.out o = _ from huout] at hyout
  refine ⟨y.modOut o fun x => ({ x with active := none } : OutState).advance, ?_, ?_, fun k x hk hx => ?_, ?_⟩
  · rw [exec_burstComplete ho ha hf hc, show s.endBurst o (s.darkenNow b) _ = y from hend]
  · refine (State.out_setOut_self y o _).trans ?_
    rw [show y.out o = _ from hyout]; rfl
  · have hvshot : v.shot k = some x := (congrArg (·.shot k) hv :).trans ((congrArg (·.shot k) hu :).trans hx)
    have hwshot : w.shot k = _ := State.shot_tellShot (hshot.trans hk) hvshot limit
    exact (congrArg (·.shot k) hy :).trans hwshot
  · rw [State.modOut, hy, hw, hv, hu]; rfl

/-- Settles O13: a take leaves its burst in a register; a first edge and an end are followed through what each part of them
changes. -/
theorem edgeGenerator : Obligations.EdgeGenerator := by
  unfold Obligations.EdgeGenerator
  refine ⟨?onTime, ?late, ?fired, ?complete, ?emitter, ?format⟩
  case onTime => exact fun s o e rest ho hw hs hn ha he hd => takes_onTime ho hw hs hn ha he hd
  case late => exact fun s o e rest ho hw hs hn he hd hc => takes_late ho hw hs hn he hd hc
  case fired =>
    exact fun s o b ho ha hb hr => ⟨fun hf he hoff hd => fires_formed ho ha hb hr hf he hoff hd,
      fun hf he hoff hd => fires_dark ho ha hb hr hf he hoff hd, fires_not ho ha hb hr⟩
  case complete => exact fun s o b ho ha hf he hd hc => completes_plainBurst ho ha hf he hd hc
  case emitter => exact fun s o b ho ha hf he hc => completes_emitterBurst ho ha hf he hc
  case format => exact fun s o ho => if_neg (by omega)

end Sys2Proof.Machine
/-! SUPPORT. What the operations do to what the device holds within its room (R51, R85, R266): all but those of O6's own part
leave the number of entries at each schedule input, of test records and the learned addresses as they stand. `room_f` says so of `f`;
`simp` takes a state apart that is written out (`room_mk`) and puts it together again (`roomOf_fields`). -/

namespace Sys2Proof.Machine

/-- What is held in outputs `outs`, test records `records` and the MAC table `macs`: the number of entries at each schedule
input and of test records, and the learned addresses. -/
def roomOf (outs : List (Nat × OutState)) (records : List TestRecord) (macs : List (Nat × MacEntry)) :
    (Nat → Nat) × Nat × List Nat :=
  (fun o => (Tab.get (OutState.reset o) outs o).sched.length, records.length, macs.map (·.1))

/-- What the device holds of what has a limited room. -/
def State.room (s : State) : (Nat → Nat) × Nat × List Nat := roomOf s.tx.outs s.tx.records s.net.macs

@[simp] theorem State.roomOf_fields (s : State) : roomOf s.tx.outs s.tx.records s.net.macs = s.room := (rfl)

@[simp] theorem State.room_mk (tb tx sq scan rx hist eng fab pll net motor sv cal regs mbx ret fw dev pending sent reply clock
    fresh) : (State.mk tb tx sq scan rx hist eng fab pll net motor sv cal regs mbx ret fw dev pending sent reply clock
      fresh).room = roomOf tx.outs tx.records net.macs := (rfl)

theorem State.room_of {s t : State} (ht : t.tx = s.tx) (hn : t.net = s.net) : t.room = s.room := by
  rw [State.room, ht, hn, State.room]

@[simp] theorem State.length_sched (s : State) (o : Nat) : (s.out o).sched.length = s.room.1 o := (rfl)

/-! ### Units -/

@[simp] theorem State.room_setAlarm (s : State) (k : Nat) (v : Alarm) : (s.setAlarm k v).room = s.room := (rfl)

@[simp] theorem State.room_setOut (s : State) (k : Nat) (v : OutState) (h : v.sched.length = s.room.1 k) :
    (s.setOut k v).room = s.room := by
  refine Prod.ext (funext fun o => ?_) rfl
  by_cases ho : o = k
  · subst ho
    exact (congrArg (fun x : OutState => x.sched.length) (State.out_setOut_self ..)).trans h
  · exact congrArg (fun x : OutState => x.sched.length) (State.out_setOut_ne _ _ _ _ ho)

@[simp] theorem State.room_setShot (s : State) (k : Nat) (v : Option Shot) : (s.setShot k v).room = s.room := (rfl)
@[simp] theorem State.room_setLane (s : State) (k : Nat) (v : List TestJob) : (s.setLane k v).room = s.room := (rfl)
@[simp] theorem State.room_setSeq (s : State) (k : Nat) (v : SeqState) : (s.setSeq k v).room = s.room := (rfl)
@[simp] theorem State.room_setEncoder (s : State) (k : Nat) (v : Encoder) : (s.setEncoder k v).room = s.room := (rfl)
@[simp] theorem State.room_setMark (s : State) (k : Nat) (v : AngleMark) : (s.setMark k v).room = s.room := (rfl)
@[simp] theorem State.room_setChan (s : State) (k : Nat) (v : Channel) : (s.setChan k v).room = s.room := (rfl)
@[simp] theorem State.room_setInput (s : State) (k : Nat) (v : InputState) : (s.setInput k v).room = s.room := (rfl)
@[simp] theorem State.room_setBank (s : State) (k : Nat) (v : Bank) : (s.setBank k v).room = s.room := (rfl)
@[simp] theorem State.room_setHev (s : State) (k : Nat) (v : Hev) : (s.setHev k v).room = s.room := (rfl)
@[simp] theorem State.room_setHop (s : State) (k : Nat) (v : Option HopEntry) : (s.setHop k v).room = s.room := (rfl)
@[simp] theorem State.room_setSafeInput (s : State) (k : Nat) (v : SafeInput) : (s.setSafeInput k v).room = s.room := (rfl)
@[simp] theorem State.room_setSvEnc (s : State) (k : Nat) (v : SvEncoder) : (s.setSvEnc k v).room = s.room := (rfl)
@[simp] theorem State.room_setSensor (s : State) (k : Nat) (v : Int) : (s.setSensor k v).room = s.room := (rfl)

@[simp] theorem State.room_setCalRunState (s : State) (k : Nat) (v : CalRunState) : (s.setCalRunState k v).room = s.room :=
  (rfl)

@[simp] theorem State.room_setBox (s : State) (k : Nat) (v : Mailbox) : (s.setBox k v).room = s.room := (rfl)

@[simp] theorem State.room_setReadyAll (s : State) (r : BitVec 27) : (s.setReadyAll r).room = s.room :=
  State.room_of (s.tx_setReadyAll r) (s.net_setReadyAll r)

@[simp] theorem State.room_setReady (s : State) (b : Nat) (v : Bool) : (s.setReady b v).room = s.room :=
  State.room_of (s.tx_setReady b v) (s.net_setReady b v)

/-! ### Operations -/

@[simp] theorem State.room_log (s : State) (x : Sent) : (s.log x).room = s.room := (rfl)
@[simp] theorem State.room_draw (s : State) : (s.draw).room = s.room := (rfl)

@[simp] theorem State.room_vector (s : State) (v : Nat) : (s.vector v).room = s.room :=
  State.room_of (s.tx_vector ..) (s.net_vector ..)

@[simp] theorem State.room_cause (s : State) (b : Nat) : (s.cause b).room = s.room :=
  State.room_of (s.tx_cause ..) (s.net_cause ..)

@[simp] theorem State.room_publish (s : State) (p : Nat) (t : Tq) (g : Nat) : (s.publish p t g).room = s.room :=
  State.room_of (s.tx_publish ..) (s.net_publish ..)

@[simp] theorem State.room_refreshSst (s : State) : (s.refreshSst).room = s.room :=
  State.room_of (s.tx_refreshSst) (s.net_refreshSst)

@[simp] theorem State.room_refreshSto (s : State) : (s.refreshSto).room = s.room :=
  State.room_of (s.tx_refreshSto) (s.net_refreshSto)

@[simp] theorem State.room_ite (c : Prop) [Decidable c] (s t : State) :
    (if c then s else t).room = if c then s.room else t.room := apply_ite State.room c s t

@[simp] theorem State.room_foldl {α : Type} (f : State → α → State) (hf : ∀ s a, (f s a).room = s.room) (l : List α)
    (s : State) : (l.foldl f s).room = s.room := State.foldl_field State.room f hf l s

@[simp] theorem State.room_each (f : State → Nat → State) (hf : ∀ s k, (f s k).room = s.room) (ks : List Nat) (s : State) :
    (s.each ks f).room = s.room := s.each_field State.room f ks hf

/-! ### Units -/

@[simp] theorem State.room_modTrg (s : State) (k : Nat) (f : Trg → Trg) : (s.modTrg k f).room = s.room := (rfl)

@[simp] theorem State.room_modOut (s : State) (k : Nat) (f : OutState → OutState)
    (h : (f (s.out k)).sched.length = s.room.1 k) : (s.modOut k f).room = s.room := s.room_setOut k _ h

@[simp] theorem State.room_modRow (s : State) (k : Nat) (f : RowState → RowState) : (s.modRow k f).room = s.room := (rfl)

@[simp] theorem State.room_modShot (s : State) (k : Nat) (f : Option Shot → Option Shot) : (s.modShot k f).room = s.room :=
  (rfl)

@[simp] theorem State.room_modLane (s : State) (k : Nat) (f : List TestJob → List TestJob) : (s.modLane k f).room = s.room :=
  (rfl)

@[simp] theorem State.room_modSeq (s : State) (k : Nat) (f : SeqState → SeqState) : (s.modSeq k f).room = s.room := (rfl)

@[simp] theorem State.room_modEncoder (s : State) (k : Nat) (f : Encoder → Encoder) : (s.modEncoder k f).room = s.room :=
  (rfl)

@[simp] theorem State.room_modEstimator (s : State) (k : Nat) (f : Estimator → Estimator) :
    (s.modEstimator k f).room = s.room := (rfl)

@[simp] theorem State.room_modMark (s : State) (k : Nat) (f : AngleMark → AngleMark) : (s.modMark k f).room = s.room := (rfl)
@[simp] theorem State.room_modChan (s : State) (k : Nat) (f : Channel → Channel) : (s.modChan k f).room = s.room := (rfl)
@[simp] theorem State.room_modSta (s : State) (k : Nat) (f : StaState → StaState) : (s.modSta k f).room = s.room := (rfl)

@[simp] theorem State.room_modInput (s : State) (k : Nat) (f : InputState → InputState) : (s.modInput k f).room = s.room :=
  (rfl)

@[simp] theorem State.room_modTap (s : State) (k : Nat) (f : Tap → Tap) : (s.modTap k f).room = s.room := (rfl)
@[simp] theorem State.room_modBank (s : State) (k : Nat) (f : Bank → Bank) : (s.modBank k f).room = s.room := (rfl)

@[simp] theorem State.room_modHistChan (s : State) (k : Nat) (f : HistChannel → HistChannel) :
    (s.modHistChan k f).room = s.room := (rfl)

@[simp] theorem State.room_modEngine (s : State) (k : Nat) (f : Engine → Engine) : (s.modEngine k f).room = s.room := (rfl)
@[simp] theorem State.room_modStream (s : State) (k : Nat) (f : Stream → Stream) : (s.modStream k f).room = s.room := (rfl)
@[simp] theorem State.room_modEvch (s : State) (k : Nat) (f : EvChannel → EvChannel) : (s.modEvch k f).room = s.room := (rfl)
@[simp] theorem State.room_modHev (s : State) (k : Nat) (f : Hev → Hev) : (s.modHev k f).room = s.room := (rfl)
@[simp] theorem State.room_modCko (s : State) (k : Nat) (f : Cko → Cko) : (s.modCko k f).room = s.room := (rfl)
@[simp] theorem State.room_modPort (s : State) (k : Nat) (f : Port → Port) : (s.modPort k f).room = s.room := (rfl)

@[simp] theorem State.room_modSafeInput (s : State) (k : Nat) (f : SafeInput → SafeInput) :
    (s.modSafeInput k f).room = s.room := (rfl)

@[simp] theorem State.room_modSvEnc (s : State) (k : Nat) (f : SvEncoder → SvEncoder) : (s.modSvEnc k f).room = s.room :=
  (rfl)

@[simp] theorem State.room_modSectorCount (s : State) (k : Nat) (f : Nat → Nat) : (s.modSectorCount k f).room = s.room :=
  (rfl)

@[simp] theorem State.room_modCalStore (s : State) (k : Nat) (f : CalStore → CalStore) : (s.modCalStore k f).room = s.room :=
  (rfl)

@[simp] theorem State.room_modCalWork (s : State) (k : Nat) (f : List CalSet → List CalSet) :
    (s.modCalWork k f).room = s.room := (rfl)

@[simp] theorem State.room_modCalRunState (s : State) (k : Nat) (f : CalRunState → CalRunState) :
    (s.modCalRunState k f).room = s.room := (rfl)

@[simp] theorem State.room_modPace (s : State) (k : Nat) (f : Pace → Pace) : (s.modPace k f).room = s.room := (rfl)
@[simp] theorem State.room_modBox (s : State) (k : Nat) (f : Mailbox → Mailbox) : (s.modBox k f).room = s.room := (rfl)

/-! ### Interrupts and reads -/

@[simp] theorem State.room_setPending (s : State) (v : Nat) (w : Bool) : (s.setPending v w).room = s.room := (rfl)
@[simp] theorem State.room_flushVector (s : State) (v : Nat) : (s.flushVector v).room = s.room := by simp [State.flushVector]
@[simp] theorem State.room_readError (s : State) : s.readError.room = s.room := (rfl)

/-! ### Answers (R351, R355 to R361) -/

@[simp] theorem State.room_sendOwn (s : State) (port pcp : Nat) (b : OwnBody) : (s.sendOwn port pcp b).room = s.room := (rfl)

@[simp] theorem State.room_deliver (s : State) (t : Taken) (r : Response) : (s.deliver t r).room = s.room := by
  unfold State.deliver
  (repeat' split) <;> simp

@[simp] theorem State.room_conclude (s : State) (t : Taken) (r : Response) : (s.conclude t r).room = s.room := by
  simp [State.conclude]

@[simp] theorem State.room_sendBlock (s : State) (t : Taken) (dst : Option Nat) (st : Status) (block : List Byte) :
    (s.sendBlock t dst st block).1.room = s.room := by
  unfold State.sendBlock
  (repeat' split) <;> simp

@[simp] theorem State.room_answerBare (s : State) (op : Nat) (st : Status) (ret : List Fld) (block : List Byte) :
    (s.answerBare op st ret block).room = s.room := (rfl)

@[simp] theorem State.room_answerTaken (s : State) (t : Taken) (dst : Option Nat) (st : Status) (ret : List Fld)
    (block : List Byte) : (s.answerTaken t dst st ret block).room = s.room := by simp [State.answerTaken]

@[simp] theorem State.room_answerWaiting (s : State) (k : WaitKey) (st : Status) (ret : List Fld) :
    (s.answerWaiting k st ret).room = s.room := by
  unfold State.answerWaiting
  refine State.room_foldl _ (fun s w => ?_) _ _
  split <;> simp

@[simp] theorem State.room_answerAllBusy (s : State) : s.answerAllBusy.room = s.room := by
  unfold State.answerAllBusy
  refine State.room_foldl _ (fun s w => ?_) _ _
  split <;> simp

@[simp] theorem State.room_release (s : State) : s.release.room = s.room := (rfl)
@[simp] theorem State.room_denyPair (s : State) (t : Taken) : (s.denyPair t).room = s.room := by simp [State.denyPair]
@[simp] theorem State.room_holdFirst (s : State) (t : Taken) : (s.holdFirst t).room = s.room := by simp [State.holdFirst]

/-! ### Dark and the permit -/

/-- Dark meets the bursts in the registers, and leaves the schedule inputs. -/
def OutState.darken (a b : Tq) (x : OutState) : OutState :=
  { x with active := x.active.map (·.darken a b), next := x.next.map (·.darken a b) }

@[simp] theorem State.room_darkenBursts (s : State) (a b : Tq) : (s.darkenBursts a b).room = s.room := by
  refine Prod.ext (funext fun o => ?_) rfl
  have hmap := Tab.get_map (d := OutState.reset o) (f := OutState.darken a b) rfl s.tx.outs o
  exact (congrArg (fun x : OutState => x.sched.length) hmap :)

/-- Where an operation leaves the MAC table by a lemma of its own, what is left to say is about the outputs and records. -/
theorem State.roomOf_tx {s t : State} (h : t.room = s.room) (macs : List (Nat × MacEntry)) :
    roomOf t.tx.outs t.tx.records macs = roomOf s.tx.outs s.tx.records macs :=
  Prod.ext (congrArg Prod.fst h :) (Prod.ext (congrArg (fun x => x.2.1) h :) rfl)

@[simp] theorem State.roomOf_darkenBursts (s : State) (a b : Tq) (macs : List (Nat × MacEntry)) :
    roomOf (s.darkenBursts a b).tx.outs (s.darkenBursts a b).tx.records macs = roomOf s.tx.outs s.tx.records macs :=
  State.roomOf_tx (s.room_darkenBursts a b) macs

@[simp] theorem State.room_setDark (s : State) (d : Bool) : (s.setDark d).room = s.room := by simp [State.setDark]
@[simp] theorem State.room_refreshDark (s : State) : s.refreshDark.room = s.room := by simp [State.refreshDark]
@[simp] theorem State.room_refreshPermit (s : State) : s.refreshPermit.room = s.room := by simp [State.refreshPermit]
@[simp] theorem State.room_svGo (s : State) (r : SvRun) : (s.svGo r).room = s.room := by simp [State.svGo]

@[simp] theorem State.roomOf_svGo (s : State) (r : SvRun) (macs : List (Nat × MacEntry)) :
    roomOf (s.svGo r).tx.outs (s.svGo r).tx.records macs = roomOf s.tx.outs s.tx.records macs :=
  State.roomOf_tx (s.room_svGo r) macs

/-! ### READY and the supervisor -/

@[simp] theorem State.room_refreshFs (s : State) : s.refreshFs.room = s.room := by simp [State.refreshFs]

@[simp] theorem State.room_stopSequencers (s : State) (why : Reasons) : (s.stopSequencers why).room = s.room := by
  simp [State.stopSequencers]

@[simp] theorem State.room_enterEclipse (s : State) : s.enterEclipse.room = s.room := by simp [State.enterEclipse]
@[simp] theorem State.room_enterDusk (s : State) : s.enterDusk.room = s.room := by simp [State.enterDusk]
@[simp] theorem State.room_enterTwilight (s : State) : s.enterTwilight.room = s.room := by simp [State.enterTwilight]
@[simp] theorem State.room_safeStop (s : State) : s.safeStop.room = s.room := by simp [State.safeStop]
@[simp] theorem State.room_eclipseAtOnce (s : State) : s.eclipseAtOnce.room = s.room := by simp [State.eclipseAtOnce]
@[simp] theorem State.room_warnSupervisor (s : State) : s.warnSupervisor.room = s.room := by simp [State.warnSupervisor]
@[simp] theorem State.room_latch (s : State) (f : SvFault) : (s.latch f).room = s.room := by simp [State.latch]

@[simp] theorem State.room_svFault (s : State) (f : SvFault) : (s.svFault f).room = s.room := by
  unfold State.svFault
  split <;> simp

@[simp] theorem State.room_encoderFault (s : State) (e : Nat) (anew : Bool) : (s.encoderFault e anew).room = s.room := by
  simp [State.encoderFault]

@[simp] theorem State.room_countEmission (s : State) (r n : Nat) : (s.countEmission r n).room = s.room := by
  simp [State.countEmission]

@[simp] theorem State.room_countOutput (s : State) (o : Nat) : (s.countOutput o).room = s.room := by
  unfold State.countOutput
  split <;> simp

@[simp] theorem State.room_countEmitted (s : State) : s.countEmitted.room = s.room := by simp [State.countEmitted]

/-! ### Outputs: entries and bursts -/

@[simp] theorem OutState.sched_noteFall (x : OutState) (b : Burst) (limit : Tq) : (x.noteFall b limit).sched = x.sched := rfl

@[simp] theorem OutState.sched_advance (x : OutState) : x.advance.sched = x.sched := by
  unfold OutState.advance
  split <;> rfl

@[simp] theorem OutState.sched_ite (c : Prop) [Decidable c] (x y : OutState) :
    (if c then x else y).sched = if c then x.sched else y.sched := apply_ite OutState.sched c x y

@[simp] theorem State.room_answerEntry (s : State) (o : Nat) (e : Entry) (outcome lateness : Nat) :
    (s.answerEntry o e outcome lateness).room = s.room := by
  unfold State.answerEntry
  (repeat' split) <;> simp

@[simp] theorem State.room_logPulses (s : State) (o : Nat) (b : Burst) (ps : List (Nat × Tq × Tq)) :
    (s.logPulses o b ps).room = s.room := by
  refine State.room_foldl _ (fun s x => ?_) ps s
  rfl

@[simp] theorem State.room_modShot' (s : State) (k : Option Nat) (f : Shot → Shot) : (s.modShot' k f).room = s.room := by
  unfold State.modShot'
  split <;> simp

@[simp] theorem State.room_endBurst (s : State) (o : Nat) (b : Burst) (limit : Tq) :
    (s.endBurst o b limit).room = s.room := by
  simp [State.endBurst]

@[simp] theorem State.room_closeWindows (s : State) (b : Burst) (limit : Tq) : (s.closeWindows b limit).room = s.room := (rfl)
@[simp] theorem State.room_yieldTests (s : State) (o : Nat) (b : Burst) : (s.yieldTests o b).room = s.room := (rfl)

@[simp] theorem State.room_loadBurst (s : State) (o : Nat) (b : Burst) : (s.loadBurst o b).room = s.room := by
  simp [State.loadBurst]

@[simp] theorem State.room_takeEntry (s : State) (o : Nat) (e : Entry) : (s.takeEntry o e).room = s.room := by
  unfold State.takeEntry
  dsimp only
  split <;> simp

/-! ### Program memory -/

@[simp] theorem State.room_writeProgram (s : State) (a : Nat) (bs : List Byte) : (s.writeProgram a bs).room = s.room := (rfl)

/-! ### Outputs: commands -/

@[simp] theorem State.room_holdInactive (s : State) (o : Nat) : (s.holdInactive o).room = s.room := by
  unfold State.holdInactive
  split <;> simp

@[simp] theorem State.room_clearOutput (s : State) (o : Nat) : (s.clearOutput o).room = s.room := by simp [State.clearOutput]

@[simp] theorem State.room_fireBurst (s : State) (o : Nat) (b : Burst) : (s.fireBurst o b).room = s.room := by
  simp [State.fireBurst]

/-! ### Test pulses -/

@[simp] theorem State.room_markInjected (s : State) (b : Blanking) : (s.markInjected b).room = s.room := (rfl)
@[simp] theorem State.room_keepBlanked (s : State) (b : Blanking) : (s.keepBlanked b).room = s.room := (rfl)

/-! ### Polestar -/

@[simp] theorem State.room_stepAlarm (s : State) (t : Tq) (n : Nat) : (s.stepAlarm t n).room = s.room := by
  unfold State.stepAlarm
  dsimp only
  (repeat' split) <;> simp

@[simp] theorem State.room_settleSync (s : State) : s.settleSync.room = s.room := by
  unfold State.settleSync
  (repeat' split) <;> simp

@[simp] theorem State.room_startBist (s : State) : s.startBist.room = s.room := by simp [State.startBist]
@[simp] theorem State.room_pulseSynco (s : State) (t : Tq) : (s.pulseSynco t).room = s.room := (rfl)

/-! ### Results and records -/

@[simp] theorem State.room_commitWith (s : State) (also : List Nat) (warning : Bool) :
    (s.commitWith also warning).room = s.room := by simp [State.commitWith]

@[simp] theorem State.room_commitJournal (s : State) (warning : Bool) : (s.commitJournal warning).room = s.room := by
  simp [State.commitJournal]

@[simp] theorem State.room_commitResult (s : State) (n : Nat) (r : Result) : (s.commitResult n r).room = s.room := (rfl)

@[simp] theorem State.room_issueSpecial (s : State) (n : Nat) (mk : Nat → Result) : (s.issueSpecial n mk).room = s.room := by
  simp [State.issueSpecial]

@[simp] theorem State.room_closeSkip (s : State) (n : Nat) : (s.closeSkip n).room = s.room := by
  unfold State.closeSkip
  split <;> simp

@[simp] theorem State.room_joinSkip (s : State) (n : Nat) (r : SkipRun) : (s.joinSkip n r).room = s.room := by
  unfold State.joinSkip
  dsimp only
  split <;> simp

@[simp] theorem State.room_reserve (s : State) (n k : Nat) : (s.reserve n k).room = s.room := (rfl)
@[simp] theorem State.room_unreserve (s : State) (n k : Nat) : (s.unreserve n k).room = s.room := (rfl)
@[simp] theorem State.room_useSlots (s : State) (n reserved used : Nat) : (s.useSlots n reserved used).room = s.room := (rfl)
@[simp] theorem State.room_deliverBatch (s : State) (n : Nat) (b : Batch) : (s.deliverBatch n b).room = s.room := (rfl)

/-! ### Estimators and marks -/

@[simp] theorem State.room_disturbStep (s : State) (n : Nat) : (s.disturbStep n).room = s.room := by simp [State.disturbStep]

@[simp] theorem State.room_missMarks (s : State) (enc : Nat) (u : Int) : (s.missMarks enc u).room = s.room := by
  refine State.room_each _ (fun s k => ?_) _ _
  dsimp only
  (repeat' split) <;> rfl

@[simp] theorem State.room_estLost (s : State) (enc : Nat) : (s.estLost enc).room = s.room := by simp [State.estLost]
@[simp] theorem State.room_darkenDue (s : State) (enc : Nat) : (s.darkenDue enc).room = s.room := by simp [State.darkenDue]
@[simp] theorem State.room_estGained (s : State) (enc : Nat) : (s.estGained enc).room = s.room := by simp [State.estGained]

@[simp] theorem State.room_settleEst (s : State) (enc : Nat) (was : Bool) : (s.settleEst enc was).room = s.room := by
  simp [State.settleEst]

@[simp] theorem State.room_estRestart (s : State) (enc : Nat) : (s.estRestart enc).room = s.room := by simp [State.estRestart]

@[simp] theorem State.room_usableEdge (s : State) (enc : Nat) (x : AngleEdge) : (s.usableEdge enc x).room = s.room := by
  simp [State.usableEdge]

@[simp] theorem State.room_countError (s : State) (enc : Nat) : (s.countError enc).room = s.room := by simp [State.countError]
@[simp] theorem State.room_correctCount (s : State) (enc : Nat) (c : Int) : (s.correctCount enc c).room = s.room := (rfl)

/-! ### Angle commands -/

@[simp] theorem State.room_countEdge (s : State) (enc : Nat) (isB level : Bool) (tBall : Tq) :
    (s.countEdge enc isB level tBall).room = s.room := by simp [State.countEdge]

@[simp] theorem State.room_remarkFacets (s : State) (enc : Nat) : (s.remarkFacets enc).room = s.room := by
  simp [State.remarkFacets]

@[simp] theorem State.room_rearmMarks (s : State) (enc : Nat) : (s.rearmMarks enc).room = s.room := by simp [State.rearmMarks]
@[simp] theorem State.room_indexEdge (s : State) (enc : Nat) : (s.indexEdge enc).room = s.room := by simp [State.indexEdge]

/-! ### Gates -/

@[simp] theorem State.room_modDesc (s : State) (bank : Option Nat) (f : Descriptor → Descriptor) :
    (s.modDesc bank f).room = s.room := by
  unfold State.modDesc
  split <;> simp

@[simp] theorem State.room_armGate (s : State) (c : Nat) (g : Gate) : (s.armGate c g).room = s.room := by
  unfold State.armGate
  dsimp only
  split <;> simp

@[simp] theorem State.room_dropGates (s : State) (shot : Nat) : (s.dropGates shot).room = s.room := by simp [State.dropGates]

@[simp] theorem State.room_settleShot (s : State) (shot : Option Nat) : (s.settleShot shot).room = s.room := by
  unfold State.settleShot
  (repeat' split) <;> simp

@[simp] theorem State.room_removeGate (s : State) (c : Nat) (g : Gate) : (s.removeGate c g).room = s.room := by
  simp [State.removeGate]

@[simp] theorem State.room_notOpened (s : State) (c : Nat) (g : Gate) : (s.notOpened c g).room = s.room := by
  simp [State.notOpened]

@[simp] theorem State.room_unlockGates (s : State) : s.unlockGates.room = s.room := by simp [State.unlockGates]
@[simp] theorem State.room_finishBanks (s : State) (n : Nat) : (s.finishBanks n).room = s.room := by simp [State.finishBanks]
@[simp] theorem State.room_cutGate (s : State) (c : Nat) (g : Gate) : (s.cutGate c g).room = s.room := by simp [State.cutGate]

@[simp] theorem State.room_cutBanks (s : State) (n : Nat) : (s.cutBanks n).room = s.room := by
  refine State.room_each _ (fun s b => ?_) _ _
  dsimp only
  split <;> simp

/-! ### The PLL: lock and references -/

@[simp] theorem State.room_refreshRefs (s : State) : s.refreshRefs.room = s.room := (rfl)
@[simp] theorem State.room_correct (s : State) (o : Int) : (s.correct o).room = s.room := (rfl)

@[simp] theorem State.room_correctBy (s : State) (o : Int) : (s.correctBy o).room = s.room := by
  unfold State.correctBy
  split <;> simp

@[simp] theorem State.room_switchRef (s : State) (k : Nat) : (s.switchRef k).room = s.room := by
  unfold State.switchRef
  dsimp only
  split <;> simp

@[simp] theorem State.room_beginAttempt (s : State) : s.beginAttempt.room = s.room := by
  unfold State.beginAttempt
  dsimp only
  (repeat' split) <;> simp

@[simp] theorem State.room_restartAttempt (s : State) : s.restartAttempt.room = s.room := by simp [State.restartAttempt]

@[simp] theorem State.room_checkRef (s : State) : s.checkRef.room = s.room := by
  unfold State.checkRef
  dsimp only
  (repeat' split) <;> simp

@[simp] theorem State.room_gateClocks (s : State) : s.gateClocks.room = s.room := by simp [State.gateClocks]
@[simp] theorem State.room_loadClocks (s : State) (o : Tq) : (s.loadClocks o).room = s.room := by simp [State.loadClocks]

@[simp] theorem State.room_endReset (s : State) : s.endReset.room = s.room := by
  unfold State.endReset
  split <;> simp

@[simp] theorem State.room_dropCals (s : State) : s.dropCals.room = s.room := (rfl)
@[simp] theorem State.room_awaitLock (s : State) : s.awaitLock.room = s.room := (rfl)

/-! ### Slots and steps -/

@[simp] theorem State.room_finishStep (s : State) (n : Nat) : (s.finishStep n).room = s.room := by simp [State.finishStep]

@[simp] theorem State.room_finishRun (s : State) (n : Nat) (f : Frozen) : (s.finishRun n f).room = s.room := by
  simp [State.finishRun]

@[simp] theorem State.room_takeBank (s : State) (n c : Nat) (st : Step) : (s.takeBank n c st).room = s.room := (rfl)

@[simp] theorem State.room_beginStep (s : State) (n : Nat) (g : ListEntry) (index : Nat) (t : Tq) (x : Int)
    (ok due : Bool) : (s.beginStep n g index t x ok due).room = s.room := by simp [State.beginStep]

@[simp] theorem State.room_decide_ (s : State) (n i : Nat) (g : ListEntry) : (s.decide_ n i g).room = s.room := by
  unfold State.decide_
  dsimp only
  split <;> simp

@[simp] theorem State.room_playGranule (s : State) (n i : Nat) (g : ListEntry) (ok : Bool) (x : Int) (t : Tq) :
    (s.playGranule n i g ok x t).room = s.room := by simp [State.playGranule]

@[simp] theorem State.room_darkGranule (s : State) (n : Nat) (t : Tq) : (s.darkGranule n t).room = s.room := (rfl)

@[simp] theorem State.room_enterStep (s : State) (n i index : Nat) (x : Int) (t : Tq) (due resumed : Bool) :
    (s.enterStep n i index x t due resumed).room = s.room := by simp [State.enterStep]

@[simp] theorem State.room_frozenBoundary (s : State) (n : Nat) (f : Frozen) (x : Int) (t : Tq) (due : Bool) :
    (s.frozenBoundary n f x t due).room = s.room := by simp [State.frozenBoundary]

@[simp] theorem State.room_fireRow (s : State) (n r : Nat) (k : Int) (t : Tq) : (s.fireRow n r k t).1.room = s.room := by
  simp [State.fireRow]

/-! ### Sequencer commands -/

@[simp] theorem State.room_addCommitted (s : State) (first count : Nat) : (s.addCommitted first count).room = s.room := (rfl)

@[simp] theorem State.room_startSeq (s : State) (n mode facet : Nat) (time : Tq) :
    (s.startSeq n mode facet time).room = s.room := (rfl)

@[simp] theorem State.room_doorbell (s : State) (seq count : Nat) : (s.doorbell seq count).room = s.room := (rfl)

@[simp] theorem State.room_clearPushErr (s : State) (seq value : Nat) : (s.clearPushErr seq value).room = s.room := by
  simp [State.clearPushErr]

/-! ### Stamps -/

@[simp] theorem State.room_modConv (s : State) (i k : Nat) (f : Converter → Converter) : (s.modConv i k f).room = s.room :=
  (rfl)

@[simp] theorem State.room_lostEdge (s : State) (i : Nat) : (s.lostEdge i).room = s.room := (rfl)
@[simp] theorem State.room_loseRaw (s : State) (i : Nat) : (s.loseRaw i).room = s.room := by simp [State.loseRaw]
@[simp] theorem State.room_pairLost (s : State) (i : Nat) : (s.pairLost i).room = s.room := (rfl)
@[simp] theorem State.room_intoPath (s : State) (i : Nat) (p : PathStamp) : (s.intoPath i p).room = s.room := (rfl)

@[simp] theorem State.room_exportRaw (s : State) (n : Nat) (r : RawStamp) : (s.exportRaw n r).room = s.room := by
  simp [State.exportRaw]

@[simp] theorem State.room_drainRaw (i n : Nat) (s : State) : (State.drainRaw i n s).room = s.room := by
  induction n generalizing s with
  | zero => rfl
  | succ n ih =>
    unfold State.drainRaw
    (repeat' split) <;> simp [ih]

@[simp] theorem State.room_drainAllRaw (s : State) : s.drainAllRaw.room = s.room :=
  State.room_each _ (fun _ i => State.room_drainRaw i _ _) _ s

@[simp] theorem State.room_deliverRaw (s : State) (i : Nat) (p : PathStamp) : (s.deliverRaw i p).room = s.room := by
  unfold State.deliverRaw
  dsimp only
  split
  · simp
  · rw [State.room_drainRaw, State.room_setInput]

@[simp] theorem State.room_tapExport (s : State) (c st : Nat) (p : PathStamp) (t : Tq) (before : Bool) :
    (s.tapExport c st p t before).room = s.room := by simp [State.tapExport]

@[simp] theorem State.room_enterGates (s : State) (c : Nat) (p : PathStamp) : (s.enterGates c p).room = s.room := by
  unfold State.enterGates
  dsimp only
  refine (State.room_foldl _ (fun s g => ?_) _ _).trans ?_
  · split <;> simp
  · split <;> simp

@[simp] theorem State.room_dropStamp (s : State) (c : Nat) (p : PathStamp) : (s.dropStamp c p).room = s.room := by
  simp [State.dropStamp]

@[simp] theorem State.room_popPath (s : State) (i : Nat) : (s.popPath i).room = s.room := (rfl)

@[simp] theorem State.room_timeoutStamp (s : State) (i : Nat) (p : PathStamp) : (s.timeoutStamp i p).room = s.room := by
  simp [State.timeoutStamp]

@[simp] theorem State.room_timeoutStamps (i n : Nat) (s : State) : (State.timeoutStamps i n s).room = s.room := by
  induction n generalizing s with
  | zero => rfl
  | succ n ih =>
    unfold State.timeoutStamps
    (repeat' split) <;> simp [ih]

@[simp] theorem State.room_deliverStamp (s : State) (i : Nat) (p : PathStamp) : (s.deliverStamp i p).room = s.room := by
  simp [State.deliverStamp]

@[simp] theorem State.room_convertHit (s : State) (c : Nat) (falling : Bool) (tBall : Tq) (phase n : Nat) :
    (s.convertHit c falling tBall phase n).room = s.room := by
  unfold State.convertHit
  dsimp only
  split <;> simp

@[simp] theorem State.room_hitEdge (s : State) (c : Nat) (falling : Bool) (tBall : Tq) (phase n : Nat) :
    (s.hitEdge c falling tBall phase n).room = s.room := by simp [State.hitEdge]

/-! ### Input commands -/

@[simp] theorem State.room_configureHit (s : State) (c : Nat) (cfg : HitCfg) : (s.configureHit c cfg).room = s.room := (rfl)
@[simp] theorem State.room_configureSta (s : State) (cfg : StaInCfg) (k : Nat) : (s.configureSta cfg k).room = s.room := (rfl)

@[simp] theorem State.room_clearInput (s : State) (i : Nat) : (s.clearInput i).room = s.room := by
  unfold State.clearInput
  (repeat' split) <;> simp

@[simp] theorem State.room_clearGates (s : State) (c : Nat) : (s.clearGates c).room = s.room := (rfl)

@[simp] theorem State.room_bindRaw (s : State) (n : Nat) (ins : List Nat) : (s.bindRaw n ins).room = s.room := by
  simp [State.bindRaw]

@[simp] theorem State.room_armTap (s : State) (profile stream : Nat) (t : Tq) (c : Nat) :
    (s.armTap profile stream t c).room = s.room := by simp [State.armTap]

/-! ### Converters -/

@[simp] theorem State.room_decideCal (s : State) (c : Nat) (g : Gate) : (s.decideCal c g).room = s.room := by
  simp [State.decideCal]

@[simp] theorem State.room_nextTurn (s : State) (i : Nat) : (s.nextTurn i).room = s.room := by
  unfold State.nextTurn
  (repeat' split) <;> simp

@[simp] theorem State.room_calDone (s : State) (i k m1 m2 : Nat) : (s.calDone i k m1 m2).room = s.room := by
  simp [State.calDone]

@[simp] theorem State.room_roll (s : State) (c k : Nat) : (s.roll c k).room = s.room := (rfl)

@[simp] theorem State.room_applyTables (s : State) (i : Nat) : (s.applyTables i).room = s.room := by
  unfold State.applyTables
  split <;> simp

@[simp] theorem State.room_openGate (s : State) (c : Nat) (g : Gate) : (s.openGate c g).room = s.room := by
  simp [State.openGate]

/-! ### Matches and banks -/

@[simp] theorem State.room_markMulti (s : State) (bank : Option Nat) : (s.markMulti bank).room = s.room := by
  simp [State.markMulti]

@[simp] theorem State.room_accumulate (s : State) (c b : Nat) (tau : Int) (full multi : Bool) :
    (s.accumulate c b tau full multi).1.room = s.room := by
  unfold State.accumulate
  dsimp only
  split <;> simp

@[simp] theorem State.room_keepMatch (s : State) (c : Nat) (g : Gate) (i : Nat) (m : Match) :
    (s.keepMatch c g i m).room = s.room := by
  unfold State.keepMatch
  split <;> simp

@[simp] theorem State.room_settleMatch (s : State) (c id i : Nat) : (s.settleMatch c id i).room = s.room := by
  unfold State.settleMatch
  (repeat' split) <;> simp

@[simp] theorem State.room_settleMatches (s : State) (c : Nat) (g : Gate) : (s.settleMatches c g).room = s.room := by
  simp [State.settleMatches]

@[simp] theorem State.room_acceptMatch (s : State) (c : Nat) (g : Gate) (h : List (Nat × Word)) :
    (s.acceptMatch c g h).room = s.room := by simp [State.acceptMatch]

@[simp] theorem State.room_decideWord (s : State) (c : Nat) (g : Gate) (w : Word) (rest : List Word) :
    (s.decideWord c g w rest).room = s.room := by simp [State.decideWord]

@[simp] theorem State.room_markHead (s : State) (c : Nat) : (s.markHead c).room = s.room := by
  unfold State.markHead
  (repeat' split) <;> simp

@[simp] theorem State.room_drainGate (s : State) (c : Nat) (g : Gate) : (s.drainGate c g).room = s.room := by
  simp [State.drainGate]

@[simp] theorem State.room_testMatch (s : State) (c : Nat) (g : Gate) (i : Nat) : (s.testMatch c g i).room = s.room := by
  unfold State.testMatch
  (repeat' split) <;> simp

/-! ### Calibration objects -/

@[simp] theorem State.room_setItem (s : State) (o k i : Nat) (v : Int) : (s.setItem o k i v).room = s.room := (rfl)

@[simp] theorem State.room_ensureSet (s : State) (k : Nat) (temp : Int) : (s.ensureSet k temp).room = s.room := by
  simp [State.ensureSet]

theorem State.room_concludeRun {s t : State} (h : t.room = s.room) (k : WaitKey) : (s.concludeRun t k).room = s.room := by
  unfold State.concludeRun
  split <;> simp [h]

@[simp] theorem State.room_finishLearn (s : State) (l : StaLearn) : (s.finishLearn l).room = s.room := by
  refine (State.room_concludeRun ?_ _).trans rfl
  simp

@[simp] theorem State.room_learnShot (s : State) (r : Nat) (d : Int) : (s.learnShot r d).room = s.room := by
  simp [State.learnShot]

@[simp] theorem State.room_finishTarget (s : State) (t : TargetRun) : (s.finishTarget t).room = s.room := by
  unfold State.finishTarget
  dsimp only
  split
  · simp
  · refine (State.room_concludeRun ?_ _).trans rfl
    simp

@[simp] theorem State.room_targetJob (s : State) (c : Nat) (time : Tq) (tof : Option (Int × Bool)) :
    (s.targetJob c time tof).room = s.room := by simp [State.targetJob]

/-! ### Start inputs, triggers and SYNC -/

@[simp] theorem State.room_reportEmission (s : State) (r : Nat) (unexpected : Bool) (t : Tq) :
    (s.reportEmission r unexpected t).room = s.room := by simp [State.reportEmission]

@[simp] theorem State.room_staRise (s : State) (k r : Nat) (t : Tq) : (s.staRise k r t).room = s.room := by
  unfold State.staRise
  split <;> simp

@[simp] theorem State.room_staFall (s : State) (k : Nat) (t : Tq) : (s.staFall k t).room = s.room := by
  unfold State.staFall
  split <;> simp

@[simp] theorem State.room_staStamp (s : State) (k : Nat) (rising : Bool) (t : Tq) :
    (s.staStamp k rising t).room = s.room := by
  simp [State.staStamp]

@[simp] theorem State.room_staEdge (s : State) (k : Nat) (falling : Bool) (tBall : Tq) (phase n : Nat) :
    (s.staEdge k falling tBall phase n).room = s.room := by
  unfold State.staEdge
  dsimp only
  split <;> simp

@[simp] theorem State.room_missPulse (s : State) (r : Nat) (w : MatchWin) : (s.missPulse r w).room = s.room := by
  simp [State.missPulse]

@[simp] theorem State.room_chooseRef (s : State) (x : Shot) (dark : Bool) : (s.chooseRef x dark).1.room = s.room := by
  unfold State.chooseRef
  dsimp only
  (repeat' split) <;> simp

@[simp] theorem State.room_fixReference (s : State) (k : Nat) (x : Shot) : (s.fixReference k x).room = s.room := by
  simp [State.fixReference]

/-! ### Histogram commands -/

@[simp] theorem State.room_endHold (s : State) (c : Nat) : (s.endHold c).room = s.room := by
  unfold State.endHold
  split <;> simp

@[simp] theorem State.room_clearHist (s : State) (c : Nat) : (s.clearHist c).room = s.room := (rfl)

/-! ### Engines -/

@[simp] theorem State.room_refreshEngines (s : State) : s.refreshEngines.room = s.room := by simp [State.refreshEngines]
@[simp] theorem State.room_endBank (s : State) (j : Job) : (s.endBank j).room = s.room := by simp [State.endBank]

@[simp] theorem State.room_commitJob (s : State) (j : Job) (kind : ResultKind) (recs : List Rec)
    (tof : Option (Int × Bool)) : (s.commitJob j kind recs tof).room = s.room := by simp [State.commitJob]

@[simp] theorem State.room_notMeasured (s : State) (j : Job) (why : NotMeasured) : (s.notMeasured j why).room = s.room := by
  simp [State.notMeasured]

@[simp] theorem State.room_leaveBank (s : State) (b : Nat) : (s.leaveBank b).room = s.room := by simp [State.leaveBank]

@[simp] theorem State.room_closeBank (s : State) (b : Nat) (st : BankStep) : (s.closeBank b st).room = s.room := by
  unfold State.closeBank
  dsimp only
  split <;> simp

@[simp] theorem State.room_startJob (s : State) (e : Nat) (j : Job) (rest : List Job) : (s.startJob e j rest).room = s.room :=
  (rfl)

@[simp] theorem State.room_countRun (s : State) (e : Nat) (j : Job) (r : KernelRun) : (s.countRun e j r).room = s.room :=
  (rfl)

@[simp] theorem State.room_finishJob (s : State) (e : Nat) (j : Job) : (s.finishJob e j).room = s.room := by
  simp [State.finishJob]

@[simp] theorem State.room_engineFault (s : State) (e : Nat) (j : Job) (why : FaultCause) :
    (s.engineFault e j why).room = s.room := by simp [State.engineFault]

@[simp] theorem State.room_idleFault (s : State) (e : Nat) : (s.idleFault e).room = s.room := by simp [State.idleFault]

@[simp] theorem State.room_endTest (s : State) (e : Nat) (pass : Bool) : (s.endTest e pass).room = s.room := by
  simp [State.endTest]

@[simp] theorem State.room_beginTest (s : State) (e : Nat) : (s.beginTest e).room = s.room := by simp [State.beginTest]

@[simp] theorem State.room_dropTest (s : State) (w : WaitKey × Option Taken) : (s.dropTest w).room = s.room := by
  unfold State.dropTest
  split <;> simp

@[simp] theorem State.room_turnAway (s : State) : s.turnAway.room = s.room := by simp [State.turnAway]

/-! ### Rings -/

@[simp] theorem State.room_modRing (s : State) (n : Nat) (f : Ring → Ring) : (s.modRing n f).room = s.room := (rfl)
@[simp] theorem State.room_writeSlot (s : State) (n : Nat) (b : Batch) : (s.writeSlot n b).room = s.room := (rfl)
@[simp] theorem State.room_writePi (s : State) (n next : Nat) : (s.writePi n next).room = s.room := (rfl)

@[simp] theorem State.room_confirmBatches (s : State) (n k : Nat) : (s.confirmBatches n k).room = s.room := by
  simp [State.confirmBatches]

@[simp] theorem State.room_reconcileRing (s : State) (n k : Nat) : (s.reconcileRing n k).room = s.room := by
  simp [State.reconcileRing]

@[simp] theorem State.room_reconcile (s : State) (reads : List (Option Bool)) : (s.reconcile reads).room = s.room := by
  unfold State.reconcile
  split <;> simp

@[simp] theorem State.room_suspendRings (s : State) : s.suspendRings.room = s.room := by simp [State.suspendRings]
@[simp] theorem State.room_enableMaster (s : State) : s.enableMaster.room = s.room := by simp [State.enableMaster]
@[simp] theorem State.room_refreshPcie (s : State) : s.refreshPcie.room = s.room := by simp [State.refreshPcie]

@[simp] theorem State.room_hostLinkReset (s : State) (kind : LinkReset) : (s.hostLinkReset kind).room = s.room := by
  simp [State.hostLinkReset]

@[simp] theorem State.room_unmask (s : State) (vector : Nat) : (s.unmask vector).room = s.room := by simp [State.unmask]

@[simp] theorem State.room_writeMsix (s : State) (vector word : Nat) (value : BitVec 32) :
    (s.writeMsix vector word value).room = s.room := by simp [State.writeMsix]

/-! ### Event fabric -/

@[simp] theorem State.room_fireChannel (s : State) (c : Nat) : (s.fireChannel c).room = s.room := by simp [State.fireChannel]

@[simp] theorem State.room_writeEvchFire (s : State) (value : Nat) : (s.writeEvchFire value).room = s.room := by
  simp [State.writeEvchFire]

@[simp] theorem State.room_emptyPlaces (s : State) : s.emptyPlaces.room = s.room := (rfl)

@[simp] theorem State.room_hevEvent (s : State) (n : Nat) (p : Nat × Event) : (s.hevEvent n p).room = s.room := by
  simp [State.hevEvent]

/-! ### Stores -/

@[simp] theorem State.room_storeObject (s : State) (id : Nat) (p : CalPayload) (verified : Bool) :
    (s.storeObject id p verified).room = s.room := by simp [State.storeObject]

@[simp] theorem State.room_scanStores (s : State) : s.scanStores.room = s.room := by simp [State.scanStores]

/-! ### The PLL: commands -/

@[simp] theorem State.room_pllFields (s : State) (cfg : PllCfg) : (s.pllFields cfg).room = s.room := (rfl)
@[simp] theorem State.room_refFields (s : State) (cfg : PllRefCfg) : (s.refFields cfg).room = s.room := (rfl)
@[simp] theorem State.room_searchBand (s : State) : s.searchBand.room = s.room := (rfl)

@[simp] theorem State.room_chooseBand (s : State) : s.chooseBand.room = s.room := by
  unfold State.chooseBand
  (repeat' split) <;> simp

@[simp] theorem State.room_renewCals (s : State) : s.renewCals.room = s.room := by simp [State.renewCals]
@[simp] theorem State.room_noteRecal (s : State) : s.noteRecal.room = s.room := by simp [State.noteRecal]

@[simp] theorem State.room_lockPll (s : State) (residual : Int) : (s.lockPll residual).room = s.room := by
  simp [State.lockPll]

@[simp] theorem State.room_syncReset (s : State) (t : Tq) : (s.syncReset t).room = s.room := by simp [State.syncReset]

/-! ### Network -/

@[simp] theorem State.room_refreshPort (s : State) (n : Nat) : (s.refreshPort n).room = s.room := by simp [State.refreshPort]
@[simp] theorem State.room_refreshPorts (s : State) : s.refreshPorts.room = s.room := by simp [State.refreshPorts]
@[simp] theorem State.room_holdRate (s : State) : s.holdRate.room = s.room := (rfl)
@[simp] theorem State.room_loseControl (s : State) : s.loseControl.room = s.room := (rfl)
@[simp] theorem State.room_restartPtp (s : State) : s.restartPtp.room = s.room := (rfl)

@[simp] theorem State.room_selectMaster (s : State) (n : Nat) (a : AnnounceMsg) : (s.selectMaster n a).room = s.room := by
  simp [State.selectMaster]

@[simp] theorem State.room_selectBest (s : State) : s.selectBest.room = s.room := by
  unfold State.selectBest
  (repeat' split) <;> simp

@[simp] theorem State.room_loseMaster (s : State) : s.loseMaster.room = s.room := (rfl)

@[simp] theorem State.room_adoptPort (s : State) (n : Nat) (c : PtpPortCfg) : (s.adoptPort n c).room = s.room := by
  unfold State.adoptPort
  dsimp only
  (repeat' split) <;> simp

@[simp] theorem State.room_stampOn (s : State) (n : Nat) : (s.stampOn n).room = s.room := by
  unfold State.stampOn
  split <;> simp

@[simp] theorem State.room_largeOffset (s : State) (o : Int) : (s.largeOffset o).room = s.room := by
  unfold State.largeOffset
  dsimp only
  split <;> simp

@[simp] theorem State.room_applyOffset (s : State) (o : Int) : (s.applyOffset o).room = s.room := by
  unfold State.applyOffset
  dsimp only
  split <;> simp

@[simp] theorem State.room_adoptPtp (s : State) : s.adoptPtp.room = s.room := by
  unfold State.adoptPtp
  split <;> simp

@[simp] theorem State.room_servo (s : State) (o : Int) : (s.servo o).room = s.room := by
  unfold State.servo
  dsimp only
  (repeat' split) <;> simp

@[simp] theorem State.room_announced (s : State) (n : Nat) (a : AnnounceMsg) : (s.announced n a).room = s.room := by
  simp [State.announced]

@[simp] theorem State.room_hear (s : State) (o : Int) : (s.hear o).room = s.room := by simp [State.hear]

@[simp] theorem State.room_ptpFrame (s : State) (n : Nat) (b : PtpBody) : (s.ptpFrame n b).room = s.room := by
  unfold State.ptpFrame
  dsimp only
  (repeat' split) <;> simp

@[simp] theorem State.room_enqueue (n : Nat) (f : NetFrame) (s : State) (k : Nat) : (State.enqueue n f s k).room = s.room :=
  (rfl)

@[simp] theorem State.room_forward (s : State) (n : Nat) (f : NetFrame) : (s.forward n f).room = s.room := by
  simp [State.forward]

@[simp] theorem State.room_sendFrame (s : State) (k : Nat) : (s.sendFrame k).room = s.room := by
  unfold State.sendFrame
  (repeat' split) <;> simp

@[simp] theorem State.room_pps (s : State) (t : Tq) : (s.pps t).room = s.room := by simp [State.pps]

@[simp] theorem State.room_trgStamp (s : State) (n : Nat) (falling : Bool) (tBall t : Tq) :
    (s.trgStamp n falling tBall t).room = s.room := by
  unfold State.trgStamp
  dsimp only
  split <;> simp

/-! ### Motor -/

@[simp] theorem State.room_updateReference (s : State) : s.updateReference.room = s.room := (rfl)
@[simp] theorem State.room_watchSpeed (s : State) : s.watchSpeed.room = s.room := (rfl)
@[simp] theorem State.room_motorFault (s : State) : s.motorFault.room = s.room := by simp [State.motorFault]
@[simp] theorem State.room_motorStop (s : State) : s.motorStop.room = s.room := by simp [State.motorStop]
@[simp] theorem State.room_resumeMotor (s : State) : s.resumeMotor.room = s.room := by simp [State.resumeMotor]

/-! ### Motor commands -/

@[simp] theorem State.room_motorStart (s : State) (target : Nat) : (s.motorStart target).room = s.room := by
  unfold State.motorStart
  split <;> simp

@[simp] theorem State.room_motorSetSpeed (s : State) (target : Nat) : (s.motorSetSpeed target).room = s.room := by
  simp [State.motorSetSpeed]

@[simp] theorem State.room_motorHalt (s : State) : s.motorHalt.room = s.room := by
  unfold State.motorHalt
  split <;> simp

/-! ### Supervisor: inputs, windows and changes -/

@[simp] theorem State.room_noteReadback (s old : State) : (s.noteReadback old).room = s.room := by simp [State.noteReadback]

@[simp] theorem State.room_sampleReset (s : State) (a b : Bool) : (s.sampleReset a b).room = s.room := by
  simp [State.sampleReset]

@[simp] theorem State.room_countSample (s : State) : s.countSample.room = s.room := (rfl)
@[simp] theorem State.room_svSample (s : State) (l : SafeLevels) : (s.svSample l).room = s.room := by simp [State.svSample]
@[simp] theorem State.room_checkEncoders (s : State) : s.checkEncoders.room = s.room := by simp [State.checkEncoders]
@[simp] theorem State.room_clearInputs (s : State) : s.clearInputs.room = s.room := by simp [State.clearInputs]
@[simp] theorem State.room_countReset (s : State) (accepted : Bool) : (s.countReset accepted).room = s.room := (rfl)
@[simp] theorem State.room_watchAgreement (s : State) : s.watchAgreement.room = s.room := (rfl)
@[simp] theorem State.room_chooseSet (s : State) : s.chooseSet.room = s.room := by simp [State.chooseSet]

@[simp] theorem State.room_checkDusk (s : State) : s.checkDusk.room = s.room := by
  unfold State.checkDusk
  split <;> simp

@[simp] theorem State.room_checkSpeed (s : State) : s.checkSpeed.room = s.room := by simp [State.checkSpeed]
@[simp] theorem State.room_closeSpeedWindow (s : State) : s.closeSpeedWindow.room = s.room := by simp [State.closeSpeedWindow]
@[simp] theorem State.room_reconfigure (s : State) (f : SafetyCfg → SafetyCfg) : (s.reconfigure f).room = s.room := (rfl)

/-! ### Runs of calibration -/

@[simp] theorem State.room_refreshCal (s : State) : s.refreshCal.room = s.room := by
  refine State.room_each _ (fun s o => ?_) _ s
  rfl

@[simp] theorem State.room_scheduleIdle (s : State) (k : Nat) : (s.scheduleIdle k).room = s.room := by
  simp [State.scheduleIdle]

@[simp] theorem State.room_scheduleRuns (s : State) : s.scheduleRuns.room = s.room := by simp [State.scheduleRuns]
@[simp] theorem State.room_watchHeat (s : State) : s.watchHeat.room = s.room := by simp [State.watchHeat]

@[simp] theorem State.room_newVernier (s : State) (i : Nat) (ts : List VernierTables) :
    (s.newVernier i ts).room = s.room := by
  simp [State.newVernier]

@[simp] theorem State.room_nlFailed (s : State) (i : Nat) : (s.nlFailed i).room = s.room := (rfl)

@[simp] theorem State.room_correctSkew (s : State) (isOut : Bool) (u : Nat) (d : Int) :
    (s.correctSkew isOut u d).room = s.room := by simp [State.correctSkew]

@[simp] theorem State.room_trackOut (s : State) (p : Nat × Int) : (s.trackOut p).room = s.room := by simp [State.trackOut]
@[simp] theorem State.room_trackIn (s : State) (p : Nat × Int) : (s.trackIn p).room = s.room := by simp [State.trackIn]

@[simp] theorem State.room_feedUnit (width deadline : Nat) (p : State × List SkewUnit) (u : SkewUnit) :
    (State.feedUnit width deadline p u).1.room = p.1.room := by
  obtain ⟨s, later⟩ := p
  unfold State.feedUnit
  dsimp only
  (repeat' split) <;> simp

@[simp] theorem State.room_feedTrack (s : State) (width deadline : Nat) (r : SkewRun) :
    (s.feedTrack width deadline r).room = s.room := by
  have fed (us : List SkewUnit) (p : State × List SkewUnit) :
      (us.foldl (State.feedUnit width deadline) p).1.room = p.1.room := by
    induction us generalizing p with
    | nil => rfl
    | cons u us ih => rw [List.foldl_cons, ih, State.room_feedUnit]
  exact fed _ _

@[simp] theorem State.room_beginTrack (s : State) (sensor width deadline : Nat) :
    (s.beginTrack sensor width deadline).room = s.room := by simp [State.beginTrack]

@[simp] theorem State.room_endTrack (s : State) (r : SkewRun) : (s.endTrack r).room = s.room := by simp [State.endTrack]

@[simp] theorem State.room_stopTrack (s : State) : s.stopTrack.room = s.room := by
  unfold State.stopTrack
  split <;> simp

@[simp] theorem State.room_stopAuto (s : State) : s.stopAuto.room = s.room := by simp [State.stopAuto]

/-! ### Calibration commands -/

@[simp] theorem State.room_noteSetRead (s : State) (c : Instr) (object len : Nat) (data : Option (List Int)) :
    (s.noteSetRead c object len data).room = s.room := by simp [State.noteSetRead]

/-! ### Resets -/

@[simp] theorem State.room_cutStore (s : State) : s.cutStore.room = s.room := by
  unfold State.cutStore
  split <;> simp

@[simp] theorem State.room_readMode (s : State) : s.readMode.room = s.room := by simp [State.readMode]
@[simp] theorem State.room_noteTest (s : State) (t : SelfTest) (pass : Bool) : (s.noteTest t pass).room = s.room := (rfl)
@[simp] theorem State.room_startSupervisor (s : State) : s.startSupervisor.room = s.room := by simp [State.startSupervisor]

@[simp] theorem State.room_denyHeld (s : State) : s.denyHeld.room = s.room := by
  unfold State.denyHeld
  split <;> simp

@[simp] theorem State.room_dropQueued (s : State) : s.dropQueued.room = s.room := by simp [State.dropQueued]
@[simp] theorem State.room_dropWork (s : State) : s.dropWork.room = s.room := by simp [State.dropWork]

@[simp] theorem State.room_dropTaken (s : State) : s.dropTaken.room = s.room := by
  unfold State.dropTaken
  split <;> simp

@[simp] theorem State.room_issueLost (s : State) (p : Nat × Rec) : (s.issueLost p).room = s.room := by simp [State.issueLost]
@[simp] theorem State.room_deriveLost (s : State) : s.deriveLost.room = s.room := by simp [State.deriveLost]

@[simp] theorem State.room_readFlash (s : State) (fails : Bool) : (s.readFlash fails).room = s.room := by
  refine State.room_foldl _ (fun s k => ?_) _ _
  rfl

@[simp] theorem State.room_stayInBoot (s : State) : s.stayInBoot.room = s.room := by simp [State.stayInBoot]
@[simp] theorem State.room_scheduleMissing (s : State) : s.scheduleMissing.room = s.room := by simp [State.scheduleMissing]
@[simp] theorem State.room_firstStart (s : State) : s.firstStart.room = s.room := by simp [State.firstStart]

/-! ### Tests and function resets -/

@[simp] theorem State.room_startTimebase (s : State) : s.startTimebase.room = s.room := by
  unfold State.startTimebase
  split <;> simp

@[simp] theorem State.room_testReadies (s : State) (t : SelfTest) : (s.testReadies t).room = s.room := by
  unfold State.testReadies
  split <;> simp

@[simp] theorem State.room_endFuncReset (s : State) (b k : Nat) : (s.endFuncReset b k).room = s.room := (rfl)
@[simp] theorem State.room_beginFuncReset (s : State) (b k : Nat) : (s.beginFuncReset b k).room = s.room := (rfl)

@[simp] theorem State.room_firstConverter (k : Nat) (s : State) (n : Nat) (m : Nat × Nat) :
    (State.firstConverter k s n m).room = s.room := by simp [State.firstConverter]

@[simp] theorem State.room_firstCalibration (s : State) (k : Nat) (readings : List (Nat × Nat)) :
    (s.firstCalibration k readings).room = s.room := by simp [State.firstCalibration]

@[simp] theorem State.room_countDiscards (s : State) (c : Nat) : (s.countDiscards c).room = s.room := by
  simp [State.countDiscards]

@[simp] theorem State.room_resetChannel (s : State) (c : Nat) : (s.resetChannel c).room = s.room := by
  unfold State.resetChannel
  dsimp only
  split <;> simp

@[simp] theorem State.room_resetGroup (s : State) (k : Nat) : (s.resetGroup k).room = s.room := by simp [State.resetGroup]
@[simp] theorem State.room_resetSeq (s : State) (n : Nat) : (s.resetSeq n).room = s.room := by simp [State.resetSeq]

@[simp] theorem State.room_bistChannel (bad : List Nat) (s : State) (c : Nat) : (State.bistChannel bad s c).room = s.room :=
  (rfl)

@[simp] theorem State.room_staleBanks (s : State) : s.staleBanks.room = s.room := by simp [State.staleBanks]
@[simp] theorem State.room_bistEngine (s : State) (e : Nat) : (s.bistEngine e).room = s.room := (rfl)

/-! ### System -/

@[simp] theorem State.room_commitImage (s : State) (u : Update) (raiseMin : Nat) : (s.commitImage u raiseMin).room = s.room :=
  (rfl)

/-! ### Supply -/

@[simp] theorem State.room_refreshPace (s : State) : s.refreshPace.room = s.room := by simp [State.refreshPace]

/-! ### Power warning -/

@[simp] theorem State.room_finalRead (s : State) (p : Nat × Bool) : (s.finalRead p).room = s.room := by
  unfold State.finalRead
  dsimp only
  (repeat' split) <;> simp

@[simp] theorem State.room_joinKept (s : State) (n : Nat) : (s.joinKept n).room = s.room := (rfl)

@[simp] theorem State.room_dropBank (s : State) (p : Nat × BankStep × Nat) : (s.dropBank p).room = s.room := by
  simp [State.dropBank]

/-! ### Mailboxes -/

@[simp] theorem State.room_dropIn (s : State) (n : Nat) : (s.dropIn n).room = s.room := (rfl)

@[simp] theorem State.room_embReceive (s : State) (m : Nat) (via : Via) (srcIp srcPort : Nat) (frame : Frame)
    (payload : List Byte) : (s.embReceive m via srcIp srcPort frame payload).room = s.room := by simp [State.embReceive]

@[simp] theorem State.room_replay (s : State) (t : Taken) (j : JournalEntry) : (s.replay t j).room = s.room := by
  simp [State.replay]

@[simp] theorem State.room_execute (s : State) (t : Taken) (p : Option Taken) : (s.execute t p).room = s.room := (rfl)

@[simp] theorem State.room_takeDual (s : State) (t : Taken) : (s.takeDual t).room = s.room := by
  unfold State.takeDual
  split <;> simp

@[simp] theorem State.room_takeNew (s : State) (t : Taken) (p : Option (List Byte)) : (s.takeNew t p).room = s.room := by
  unfold State.takeNew
  split <;> simp

@[simp] theorem State.room_takeFrom (s : State) (n : Nat) (dma : DmaOutcome) : (s.takeFrom n dma).room = s.room := by
  unfold State.takeFrom
  dsimp only
  split <;> simp

@[simp] theorem State.room_noteRead (s : State) (n : Nat) (dma : DmaOutcome) : (s.noteRead n dma).room = s.room := by
  simp [State.noteRead]

/-! ### Registers -/

@[simp] theorem State.room_writeSlotByte (s : State) (a : Nat) (b : Byte) : (s.writeSlotByte a b).room = s.room := by
  simp [State.writeSlotByte]

/-! ### Steps of Polestar, Ready-idle and the supervisor -/

@[simp] theorem State.room_stepBurst (s : State) (o : Nat) (old new : Tq) (b : Burst) :
    (s.stepBurst o old new b).1.room = s.room := by
  unfold State.stepBurst
  dsimp only
  (repeat' split) <;> simp

@[simp] theorem State.room_stepOutput (s : State) (o : Nat) (old new : Tq) : (s.stepOutput o old new).room = s.room := by
  unfold State.stepOutput
  dsimp only
  (repeat' split) <;> simp

@[simp] theorem State.room_stepScale (s : State) (d : Int) (old : Tq) : (s.stepScale d old).room = s.room := by
  refine Prod.ext (funext fun o => ?_) rfl
  have hmap := Tab.get_map (d := OutState.reset o) (f := fun x => { x with lastFall := x.lastFall.map (· + d) }) rfl s.tx.outs o
  exact (congrArg (fun x : OutState => x.sched.length) hmap :)

@[simp] theorem State.room_stepOutputs (s : State) (old new : Tq) : (s.stepOutputs old new).room = s.room := by
  simp [State.stepOutputs]

@[simp] theorem State.room_polestarStep (s : State) (d : Int) : (s.polestarStep d).room = s.room := by
  simp [State.polestarStep]

@[simp] theorem State.room_setSecHi (s : State) (v : BitVec 16) : (s.setSecHi v).room = s.room := by simp [State.setSecHi]

@[simp] theorem State.room_applySecHi (s : State) : s.applySecHi.room = s.room := by
  unfold State.applySecHi
  split <;> simp

@[simp] theorem State.room_count (s : State) : s.count.room = s.room := by simp [State.count]
@[simp] theorem State.room_runLoop (s : State) : s.runLoop.room = s.room := by simp [State.runLoop]
@[simp] theorem State.room_tick (s : State) : s.tick.room = s.room := by simp [State.tick]
@[simp] theorem State.room_cycle (s : State) : s.cycle.room = s.room := by simp [State.cycle]
@[simp] theorem State.room_enterReadyIdle (s : State) : s.enterReadyIdle.room = s.room := by simp [State.enterReadyIdle]
@[simp] theorem State.room_leaveRanging (s : State) : s.leaveRanging.room = s.room := by simp [State.leaveRanging]
@[simp] theorem State.room_enterLockout (s : State) : s.enterLockout.room = s.room := by simp [State.enterLockout]
@[simp] theorem State.room_safetyReset (s : State) : s.safetyReset.room = s.room := by simp [State.safetyReset]
@[simp] theorem State.room_finishRetest (s : State) : s.finishRetest.room = s.room := by simp [State.finishRetest]
@[simp] theorem State.room_resume (s : State) : s.resume.room = s.room := by simp [State.resume]

end Sys2Proof.Machine
/-! SUPPORT. What a row does to what has a limited room: a row of a mailbox command does what its body does, and all but the
rows that `inBounds_exec` names leave it as it stands. -/

namespace Sys2Proof.Machine

/-- What a row answers leaves what has a limited room as it stands in `s`. -/
def KeepsRoom (s : State) (o : Out) : Prop := ∀ t, o = .next t → t.room = s.room

@[simp] theorem keepsRoom_next (s t : State) : KeepsRoom s (.next t) ↔ t.room = s.room := by
  simp [KeepsRoom]

@[simp] theorem keepsRoom_ite (s : State) (c : Prop) [Decidable c] (a b : Out) :
    KeepsRoom s (if c then a else b) ↔ if c then KeepsRoom s a else KeepsRoom s b := by
  split <;> rfl

theorem keepsRoom_hostWrite (f : State → Out) (s : State) (hf : ∀ s, KeepsRoom s (f s)) : KeepsRoom s (hostWrite f s) := by
  unfold hostWrite
  split
  · exact hf s
  · simp

/-- `o` is a next state that holds what `s` holds, or what the body `b` gives on a state that holds the same as `s`: what a row
of a mailbox command can do to what has a limited room. -/
def RowRoom (b : State → Body) (s : State) (o : Out) : Prop :=
  ∃ t, o = .next t ∧ (t.room = s.room ∨ ∃ u : State, u.room = s.room ∧ t.room = (b u).run.state.room)

theorem State.room_runBare (s : State) (c : Instr) (b : Body) :
    (s.runBare c b).room = s.room ∨ (s.runBare c b).room = b.run.state.room := by
  unfold State.runBare
  split
  · split
    next h => exact .inr (by simp [h])
    next h => exact .inr (by simp [h])
  · exact .inl (by simp)

theorem State.room_runTaken (s : State) (c : Instr) (t : Taken) (p : Option Taken) (b : Body) :
    (s.runTaken c t p b).room = s.room ∨ (s.runTaken c t p b).room = b.run.state.room := by
  unfold State.runTaken
  dsimp only
  split
  · split
    next h => exact .inr (by cases p <;> simp [h])
    next h =>
      split
      · exact .inl (by cases p <;> simp)
      · exact .inr (by simp [h])
  · exact .inl (by cases p <;> simp)

theorem rowRoom_cmdRow (c : Instr) (b : State → Body) (s : State) : RowRoom b s (cmdRow c b s) := by
  unfold cmdRow
  split
  · split
    · exact ⟨_, rfl, (s.room_runBare c (b s)).imp_right fun h => ⟨s, rfl, h⟩⟩
    · exact ⟨_, rfl, (s.release.room_runTaken c _ _ (b s.release)).imp_right fun h => ⟨s.release, rfl, h⟩⟩
  · exact ⟨s, rfl, .inl rfl⟩

theorem rowRoom_dualRow (c : Instr) (b : State → Body) (s : State) : RowRoom b s (dualRow c b s) := by
  unfold dualRow
  split
  · split
    · split
      · exact ⟨_, rfl, .inl (by simp)⟩
      · exact ⟨_, rfl, (s.release.room_runTaken c _ _ (b s.release)).imp_right fun h => ⟨s.release, rfl, h⟩⟩
    · exact rowRoom_cmdRow c b s
    · split <;> exact ⟨_, rfl, .inl (by simp)⟩
  · exact ⟨s, rfl, .inl rfl⟩

theorem RowRoom.keepsRoom {b : State → Body} {s : State} {o : Out} (h : RowRoom b s o)
    (hb : ∀ u, (b u).run.state.room = u.room) : KeepsRoom s o := by
  obtain ⟨t, rfl, e | ⟨u, hu, e⟩⟩ := h
  · rw [keepsRoom_next, e]
  · rw [keepsRoom_next, e, hb, hu]

theorem keepsRoom_cmdRow {c : Instr} {b : State → Body} {s : State} (hb : ∀ u, (b u).run.state.room = u.room) :
    KeepsRoom s (cmdRow c b s) := (rowRoom_cmdRow c b s).keepsRoom hb

theorem keepsRoom_dualRow {c : Instr} {b : State → Body} {s : State} (hb : ∀ u, (b u).run.state.room = u.room) :
    KeepsRoom s (dualRow c b s) := (rowRoom_dualRow c b s).keepsRoom hb

@[simp] theorem State.room_storeDeviceId (s : State) (id : Nat) (verified : Bool) :
    (s.storeDeviceId id verified).state.room = s.room := by
  unfold State.storeDeviceId
  split <;> rfl

/-- A store changes what has a limited room only as what follows it does. -/
theorem State.room_storing (s : State) (id : Nat) (p : CalPayload) (verified : Bool) (good : State → State × List Fld)
    (hg : ∀ s, (good s).1.room = s.room) : (s.storing id p verified good).state.room = s.room := by
  unfold State.storing
  dsimp only
  split <;> simp [hg]

/-! ### Outputs: commands -/

@[simp] theorem keepsRoom_execOutConfig (output : Nat) (cfg : OutCfg) (s : State) :
    KeepsRoom s (execOutConfig output cfg s) := keepsRoom_cmdRow fun u => by simp

@[simp] theorem keepsRoom_execOutFormat (output fmt swing : Nat) (s : State) :
    KeepsRoom s (execOutFormat output fmt swing s) := keepsRoom_cmdRow fun u => by simp

@[simp] theorem keepsRoom_execFormatTakesEffect (output : Nat) (s : State) :
    KeepsRoom s (execFormatTakesEffect output s) := by
  simp [execFormatTakesEffect]

@[simp] theorem keepsRoom_execOutStatus (output dst : Nat) (s : State) : KeepsRoom s (execOutStatus output dst s) :=
  keepsRoom_cmdRow fun _ => rfl

@[simp] theorem keepsRoom_execOutCountersClear (first count : Nat) (s : State) :
    KeepsRoom s (execOutCountersClear first count s) := keepsRoom_cmdRow fun u => by simp

@[simp] theorem keepsRoom_execStaConfig (sta : Nat) (cfg : StaCfg) (s : State) : KeepsRoom s (execStaConfig sta cfg s) :=
  keepsRoom_cmdRow fun _ => rfl

@[simp] theorem keepsRoom_execCodeProfileSet (profile : Nat) (cfg : CodeProfile) (s : State) :
    KeepsRoom s (execCodeProfileSet profile cfg s) := keepsRoom_cmdRow fun _ => rfl

@[simp] theorem keepsRoom_execBurstFired (output : Nat) (s : State) : KeepsRoom s (execBurstFired output s) := by
  unfold execBurstFired
  (repeat' split) <;> simp

@[simp] theorem keepsRoom_execBurstComplete (output : Nat) (s : State) : KeepsRoom s (execBurstComplete output s) := by
  unfold execBurstComplete
  (repeat' split) <;> simp

/-! ### Test pulses -/

@[simp] theorem keepsRoom_execTestConfig (output : Nat) (cfg : TestCfg) (s : State) :
    KeepsRoom s (execTestConfig output cfg s) := keepsRoom_cmdRow fun _ => rfl

@[simp] theorem keepsRoom_execTestPulseRequest (req : TestReq) (s : State) : KeepsRoom s (execTestPulseRequest req s) :=
  keepsRoom_cmdRow fun _ => rfl

@[simp] theorem keepsRoom_execTestResultRead (testId : Nat) (s : State) : KeepsRoom s (execTestResultRead testId s) :=
  keepsRoom_cmdRow fun _ => rfl

/-! ### Polestar -/

@[simp] theorem keepsRoom_execTimeStatus (s : State) : KeepsRoom s (execTimeStatus s) := keepsRoom_cmdRow fun _ => rfl

@[simp] theorem keepsRoom_execSnapshotCapture (s : State) : KeepsRoom s (execSnapshotCapture s) := by
  simp [execSnapshotCapture]

@[simp] theorem keepsRoom_execAlarmSet (alarm : Nat) (cfg : AlarmCfg) (s : State) :
    KeepsRoom s (execAlarmSet alarm cfg s) := keepsRoom_cmdRow fun _ => rfl

@[simp] theorem keepsRoom_execAlarmCancel (alarm : Nat) (s : State) : KeepsRoom s (execAlarmCancel alarm s) :=
  keepsRoom_cmdRow fun _ => rfl

@[simp] theorem keepsRoom_execAlarmInstance (alarm : Nat) (s : State) : KeepsRoom s (execAlarmInstance alarm s) := by
  simp [execAlarmInstance]

@[simp] theorem keepsRoom_execSyncConfig (cfg : SyncCfg) (s : State) : KeepsRoom s (execSyncConfig cfg s) :=
  keepsRoom_cmdRow fun u => by simp

@[simp] theorem keepsRoom_execSyncResult (s : State) : KeepsRoom s (execSyncResult s) :=
  keepsRoom_cmdRow fun u => by dsimp only; split <;> simp

@[simp] theorem keepsRoom_execSyncoPulse (s : State) : KeepsRoom s (execSyncoPulse s) := by
  unfold execSyncoPulse
  dsimp only
  split <;> simp

@[simp] theorem keepsRoom_execSyncMissing (s : State) : KeepsRoom s (execSyncMissing s) := by simp [execSyncMissing]

/-! ### Angle commands -/

@[simp] theorem keepsRoom_execAngleConfig (encoder : Nat) (cfg : AngleCfg) (s : State) :
    KeepsRoom s (execAngleConfig encoder cfg s) := keepsRoom_cmdRow fun u => by simp

@[simp] theorem keepsRoom_execMeridianSet (encoder facets : Nat) (meridians : List Nat) (s : State) :
    KeepsRoom s (execMeridianSet encoder facets meridians s) :=
  keepsRoom_cmdRow fun u => by simp

@[simp] theorem keepsRoom_execAngleMarkSet (mark : Nat) (cfg : MarkCfg) (s : State) :
    KeepsRoom s (execAngleMarkSet mark cfg s) := keepsRoom_cmdRow fun _ => rfl

@[simp] theorem keepsRoom_execAngleStatus (encoder dst : Nat) (s : State) : KeepsRoom s (execAngleStatus encoder dst s) :=
  keepsRoom_cmdRow fun _ => rfl

@[simp] theorem keepsRoom_execEncoderEdge (encoder : Nat) (isB level : Bool) (tBall : Tq) (heldNs : Nat) (s : State) :
    KeepsRoom s (execEncoderEdge encoder isB level tBall heldNs s) := by simp [execEncoderEdge]

@[simp] theorem keepsRoom_execEncoderIndexEdge (encoder : Nat) (tBall : Tq) (s : State) :
    KeepsRoom s (execEncoderIndexEdge encoder tBall s) := by simp [execEncoderIndexEdge]

@[simp] theorem keepsRoom_execEstimatorTimeout (encoder : Nat) (s : State) :
    KeepsRoom s (execEstimatorTimeout encoder s) := by
  simp [execEstimatorTimeout]

@[simp] theorem keepsRoom_execAngleMarkCrossing (mark : Nat) (s : State) : KeepsRoom s (execAngleMarkCrossing mark s) := by
  unfold execAngleMarkCrossing
  dsimp only
  (repeat' split) <;> simp

/-! ### Sequencer commands -/

@[simp] theorem keepsRoom_execSeqConfig (seq : Nat) (cfg : SeqCfg) (s : State) : KeepsRoom s (execSeqConfig seq cfg s) :=
  keepsRoom_cmdRow fun u => by simp

@[simp] theorem keepsRoom_execProgWrite (first count src : Nat) (data : Option (List Byte)) (s : State) :
    KeepsRoom s (execProgWrite first count src data s) := keepsRoom_cmdRow fun _ => rfl

@[simp] theorem keepsRoom_execProgCommit (first count : Nat) (s : State) : KeepsRoom s (execProgCommit first count s) :=
  keepsRoom_cmdRow fun u => by split <;> simp

@[simp] theorem keepsRoom_execProgramMemoryWrite (offset : Nat) (data : List Byte) (s : State) :
    KeepsRoom s (execProgramMemoryWrite offset data s) := keepsRoom_hostWrite _ s fun u => by simp

@[simp] theorem keepsRoom_execSeqStart (seq mode facet : Nat) (time : FullTime) (s : State) :
    KeepsRoom s (execSeqStart seq mode facet time s) := keepsRoom_cmdRow fun u => by dsimp only; split <;> simp

@[simp] theorem keepsRoom_execSeqStop (seq mode : Nat) (s : State) : KeepsRoom s (execSeqStop seq mode s) :=
  keepsRoom_cmdRow fun u => by split <;> simp

@[simp] theorem keepsRoom_execSeqJump (seq target : Nat) (s : State) : KeepsRoom s (execSeqJump seq target s) :=
  keepsRoom_cmdRow fun _ => rfl

@[simp] theorem keepsRoom_execSeqStatus (seq dst : Nat) (s : State) : KeepsRoom s (execSeqStatus seq dst s) :=
  keepsRoom_cmdRow fun _ => rfl

@[simp] theorem keepsRoom_execSeqCountersClear (seq : Nat) (s : State) : KeepsRoom s (execSeqCountersClear seq s) :=
  keepsRoom_cmdRow fun _ => rfl

@[simp] theorem keepsRoom_execSeqStreamPush (seq count : Nat) (s : State) : KeepsRoom s (execSeqStreamPush seq count s) :=
  keepsRoom_cmdRow fun _ => rfl

@[simp] theorem keepsRoom_execSeqPush (seq value : Nat) (s : State) : KeepsRoom s (execSeqPush seq value s) :=
  keepsRoom_hostWrite _ s fun u => by simp

@[simp] theorem keepsRoom_execStreamPushErrClear (seq value : Nat) (s : State) :
    KeepsRoom s (execStreamPushErrClear seq value s) := keepsRoom_hostWrite _ s fun u => by simp

@[simp] theorem keepsRoom_execSeqGridSet (seq : Nat) (g0 : FullTime) (trim : Int) (s : State) :
    KeepsRoom s (execSeqGridSet seq g0 trim s) := keepsRoom_cmdRow fun _ => rfl

/-! ### Stamps -/

@[simp] theorem keepsRoom_execStampDelivery (input : Nat) (s : State) : KeepsRoom s (execStampDelivery input s) := by
  unfold execStampDelivery
  (repeat' split) <;> simp

@[simp] theorem keepsRoom_execStampTimeout (input : Nat) (s : State) : KeepsRoom s (execStampTimeout input s) := by
  unfold execStampTimeout
  (repeat' split) <;> simp

@[simp] theorem keepsRoom_execHitEdge (channel : Nat) (falling : Bool) (tBall : Tq) (phase n : Nat) (s : State) :
    KeepsRoom s (execHitEdge channel falling tBall phase n s) := by simp [execHitEdge]

/-! ### Input commands -/

@[simp] theorem keepsRoom_execHitConfig (first count : Nat) (cfg : HitCfg) (s : State) :
    KeepsRoom s (execHitConfig first count cfg s) := keepsRoom_cmdRow fun u => by simp

@[simp] theorem keepsRoom_execTrgConfig (trg edges : Nat) (s : State) : KeepsRoom s (execTrgConfig trg edges s) :=
  keepsRoom_cmdRow fun _ => rfl

@[simp] theorem keepsRoom_execStaInputConfig (first count : Nat) (cfg : StaInCfg) (s : State) :
    KeepsRoom s (execStaInputConfig first count cfg s) := keepsRoom_cmdRow fun u => by simp

@[simp] theorem keepsRoom_execInputStatus (input dst : Nat) (s : State) : KeepsRoom s (execInputStatus input dst s) :=
  keepsRoom_cmdRow fun _ => rfl

@[simp] theorem keepsRoom_execInputCountersClear (first count : Nat) (s : State) :
    KeepsRoom s (execInputCountersClear first count s) := keepsRoom_cmdRow fun u => by simp

@[simp] theorem keepsRoom_execGateProfileSet (profile : Nat) (cfg : GateProfile) (s : State) :
    KeepsRoom s (execGateProfileSet profile cfg s) := keepsRoom_cmdRow fun _ => rfl

@[simp] theorem keepsRoom_execChannelRowSet (first count row : Nat) (s : State) :
    KeepsRoom s (execChannelRowSet first count row s) := keepsRoom_cmdRow fun u => by simp

@[simp] theorem keepsRoom_execGateStatus (channel dst : Nat) (s : State) : KeepsRoom s (execGateStatus channel dst s) :=
  keepsRoom_cmdRow fun _ => rfl

@[simp] theorem keepsRoom_execGateCountersClear (first count : Nat) (s : State) :
    KeepsRoom s (execGateCountersClear first count s) := keepsRoom_cmdRow fun u => by simp

@[simp] theorem keepsRoom_execRawExportSet (stream : Nat) (inputs : List Nat) (s : State) :
    KeepsRoom s (execRawExportSet stream inputs s) := keepsRoom_cmdRow fun u => by simp

@[simp] theorem keepsRoom_execGateTapSet (group tapChannel tapStream monChannel : Nat) (s : State) :
    KeepsRoom s (execGateTapSet group tapChannel tapStream monChannel s) := keepsRoom_cmdRow fun _ => rfl

@[simp] theorem keepsRoom_execGateArm (first count profile stream : Nat) (tOpen : FullTime) (s : State) :
    KeepsRoom s (execGateArm first count profile stream tOpen s) := keepsRoom_cmdRow fun u => by simp

/-! ### Converters -/

@[simp] theorem keepsRoom_execGateCalDecision (channel gate : Nat) (s : State) :
    KeepsRoom s (execGateCalDecision channel gate s) := by
  unfold execGateCalDecision
  (repeat' split) <;> simp

@[simp] theorem keepsRoom_execConverterCalDone (input conv m1 m2 : Nat) (s : State) :
    KeepsRoom s (execConverterCalDone input conv m1 m2 s) := by simp [execConverterCalDone]

@[simp] theorem keepsRoom_execRollingCalDue (channel : Nat) (s : State) : KeepsRoom s (execRollingCalDue channel s) := by
  unfold execRollingCalDue
  (repeat' split) <;> simp

@[simp] theorem keepsRoom_execGateOpen (channel gate : Nat) (s : State) : KeepsRoom s (execGateOpen channel gate s) := by
  unfold execGateOpen
  (repeat' split) <;> simp

/-! ### Matches and banks -/

@[simp] theorem keepsRoom_execMatchDecision (channel gate : Nat) (s : State) :
    KeepsRoom s (execMatchDecision channel gate s) := by
  unfold execMatchDecision
  (repeat' split) <;> simp

@[simp] theorem keepsRoom_execGateDrain (channel gate : Nat) (s : State) : KeepsRoom s (execGateDrain channel gate s) := by
  unfold execGateDrain
  (repeat' split) <;> simp

@[simp] theorem keepsRoom_execNeighbourTest (channel gate : Nat) (s : State) :
    KeepsRoom s (execNeighbourTest channel gate s) := by
  unfold execNeighbourTest
  (repeat' split) <;> simp

/-! ### Start inputs, triggers and SYNC -/

@[simp] theorem keepsRoom_execStaEdge (sta : Nat) (falling : Bool) (tBall : Tq) (phase n : Nat) (s : State) :
    KeepsRoom s (execStaEdge sta falling tBall phase n s) := by simp [execStaEdge]

@[simp] theorem keepsRoom_execStaWindowClose (row : Nat) (s : State) : KeepsRoom s (execStaWindowClose row s) := by
  unfold execStaWindowClose
  (repeat' split) <;> simp

@[simp] theorem keepsRoom_execEmissionReferenceFixed (shot : Nat) (s : State) :
    KeepsRoom s (execEmissionReferenceFixed shot s) := by
  unfold execEmissionReferenceFixed
  split <;> simp

/-! ### Histogram commands -/

@[simp] theorem keepsRoom_execMatchProfileSet (profile : Nat) (cfg : MatchProfile) (s : State) :
    KeepsRoom s (execMatchProfileSet profile cfg s) := keepsRoom_cmdRow fun _ => rfl

@[simp] theorem keepsRoom_execHistStatus (channel dst : Nat) (s : State) : KeepsRoom s (execHistStatus channel dst s) :=
  keepsRoom_cmdRow fun _ => rfl

@[simp] theorem keepsRoom_execHistRead (channel bank dst : Nat) (s : State) :
    KeepsRoom s (execHistRead channel bank dst s) := keepsRoom_cmdRow fun _ => rfl

@[simp] theorem keepsRoom_execHistHold (channel mode : Nat) (s : State) : KeepsRoom s (execHistHold channel mode s) :=
  keepsRoom_cmdRow fun u => by simp

@[simp] theorem keepsRoom_execHistCountersClear (first count : Nat) (s : State) :
    KeepsRoom s (execHistCountersClear first count s) := keepsRoom_cmdRow fun u => by simp

/-! ### Engine commands -/

@[simp] theorem keepsRoom_execStreamConfig (stream : Nat) (cfg : StreamCfg) (s : State) :
    KeepsRoom s (execStreamConfig stream cfg s) := keepsRoom_cmdRow fun _ => rfl

@[simp] theorem keepsRoom_execKernelConfig (stream : Nat) (cfg : KernelCfg) (s : State) :
    KeepsRoom s (execKernelConfig stream cfg s) := keepsRoom_cmdRow fun _ => rfl

@[simp] theorem keepsRoom_execEngineStatus (first count dst : Nat) (s : State) :
    KeepsRoom s (execEngineStatus first count dst s) := keepsRoom_cmdRow fun _ => rfl

@[simp] theorem keepsRoom_execStreamStatus (stream dst : Nat) (s : State) : KeepsRoom s (execStreamStatus stream dst s) :=
  keepsRoom_cmdRow fun _ => rfl

@[simp] theorem keepsRoom_execEngineCountersClear (s : State) : KeepsRoom s (execEngineCountersClear s) :=
  keepsRoom_cmdRow fun u => by simp

@[simp] theorem keepsRoom_execEngineRetest (engine : Nat) (s : State) : KeepsRoom s (execEngineRetest engine s) :=
  keepsRoom_cmdRow fun u => by simp

@[simp] theorem keepsRoom_execBankClose (channel bank : Nat) (s : State) : KeepsRoom s (execBankClose channel bank s) := by
  unfold execBankClose
  dsimp only
  (repeat' split) <;> simp

@[simp] theorem keepsRoom_execIssueLimitCommit (stream : Nat) (s : State) :
    KeepsRoom s (execIssueLimitCommit stream s) := by
  simp [execIssueLimitCommit]

@[simp] theorem keepsRoom_execEngineJobStart (engine : Nat) (s : State) : KeepsRoom s (execEngineJobStart engine s) := by
  unfold execEngineJobStart
  (repeat' split) <;> simp

@[simp] theorem keepsRoom_execEngineJobDone (engine : Nat) (s : State) : KeepsRoom s (execEngineJobDone engine s) := by
  unfold execEngineJobDone
  (repeat' split) <;> simp

@[simp] theorem keepsRoom_execEngineFault (engine : Nat) (cause : EngineFault) (s : State) :
    KeepsRoom s (execEngineFault engine cause s) := by
  unfold execEngineFault
  (repeat' split) <;> simp

@[simp] theorem keepsRoom_execJobTimeout (engine : Nat) (s : State) : KeepsRoom s (execJobTimeout engine s) := by
  unfold execJobTimeout
  (repeat' split) <;> simp

@[simp] theorem keepsRoom_execEngineSelftestDone (engine : Nat) (pass : Bool) (s : State) :
    KeepsRoom s (execEngineSelftestDone engine pass s) := by simp [execEngineSelftestDone]

@[simp] theorem keepsRoom_execEngineSelftestDue (engine : Nat) (s : State) :
    KeepsRoom s (execEngineSelftestDue engine s) := by
  simp [execEngineSelftestDue]

@[simp] theorem keepsRoom_execNoEngineInServiceTimeout (s : State) : KeepsRoom s (execNoEngineInServiceTimeout s) := by
  unfold execNoEngineInServiceTimeout
  split <;> simp

@[simp] theorem keepsRoom_execBatchTimeout (stream : Nat) (s : State) : KeepsRoom s (execBatchTimeout stream s) := by
  unfold execBatchTimeout
  (repeat' split) <;> simp

/-! ### Rings -/

@[simp] theorem keepsRoom_execRingBatchWrite (stream : Nat) (s : State) : KeepsRoom s (execRingBatchWrite stream s) := by
  unfold execRingBatchWrite
  dsimp only
  (repeat' split) <;> simp

@[simp] theorem keepsRoom_execRingInterrupt (stream : Nat) (s : State) : KeepsRoom s (execRingInterrupt stream s) := by
  simp [execRingInterrupt]

@[simp] theorem keepsRoom_execConfirmationRead (stream : Nat) (s : State) :
    KeepsRoom s (execConfirmationRead stream s) := by
  unfold execConfirmationRead
  dsimp only
  (repeat' split) <;> simp

@[simp] theorem keepsRoom_execBatchConfirmed (stream : Nat) (ok : Bool) (s : State) :
    KeepsRoom s (execBatchConfirmed stream ok s) := by
  unfold execBatchConfirmed
  (repeat' split) <;> simp

@[simp] theorem keepsRoom_execRingReconciliation (reads : List (Option Bool)) (s : State) :
    KeepsRoom s (execRingReconciliation reads s) := by simp [execRingReconciliation]

@[simp] theorem keepsRoom_execRingResume (reads : List (Option Bool)) (s : State) : KeepsRoom s (execRingResume reads s) :=
  keepsRoom_cmdRow fun u => by split <;> simp

@[simp] theorem keepsRoom_execHostLinkReset (kind : LinkReset) (s : State) : KeepsRoom s (execHostLinkReset kind s) := by
  simp [execHostLinkReset]

@[simp] theorem keepsRoom_execMsixUnmask (vector : Nat) (s : State) : KeepsRoom s (execMsixUnmask vector s) :=
  keepsRoom_hostWrite _ s fun u => by simp

@[simp] theorem keepsRoom_execRingCi (stream value : Nat) (s : State) : KeepsRoom s (execRingCi stream value s) :=
  keepsRoom_hostWrite _ s fun u => by simp

@[simp] theorem keepsRoom_execCiErrClear (stream value : Nat) (s : State) : KeepsRoom s (execCiErrClear stream value s) :=
  keepsRoom_hostWrite _ s fun u => by simp

@[simp] theorem keepsRoom_execRingConfig (stream : Nat) (cfg : RingCfg) (s : State) :
    KeepsRoom s (execRingConfig stream cfg s) := keepsRoom_cmdRow fun _ => rfl

@[simp] theorem keepsRoom_execRingStatus (stream dst : Nat) (s : State) : KeepsRoom s (execRingStatus stream dst s) :=
  keepsRoom_cmdRow fun _ => rfl

@[simp] theorem keepsRoom_execStreamUdpSet (stream : Nat) (cfg : UdpCfg) (s : State) :
    KeepsRoom s (execStreamUdpSet stream cfg s) := keepsRoom_cmdRow fun _ => rfl

@[simp] theorem keepsRoom_execSmiurnSend (stream : Nat) (s : State) : KeepsRoom s (execSmiurnSend stream s) := by
  unfold execSmiurnSend
  dsimp only
  (repeat' split) <;> simp

/-! ### Event fabric -/

@[simp] theorem keepsRoom_execEvchConfig (channel source : Nat) (s : State) :
    KeepsRoom s (execEvchConfig channel source s) := keepsRoom_cmdRow fun _ => rfl

@[simp] theorem keepsRoom_execEvchSubscribe (consumer slot channel enable : Nat) (s : State) :
    KeepsRoom s (execEvchSubscribe consumer slot channel enable s) := keepsRoom_cmdRow fun _ => rfl

@[simp] theorem keepsRoom_execEvchLock (channel : Nat) (s : State) : KeepsRoom s (execEvchLock channel s) :=
  keepsRoom_cmdRow fun _ => rfl

@[simp] theorem keepsRoom_execEvchStatus (first count dst : Nat) (s : State) :
    KeepsRoom s (execEvchStatus first count dst s) := keepsRoom_cmdRow fun _ => rfl

@[simp] theorem keepsRoom_execEvchCountersClear (first count : Nat) (s : State) :
    KeepsRoom s (execEvchCountersClear first count s) := keepsRoom_cmdRow fun u => by simp

@[simp] theorem keepsRoom_execEvchFire (value : Nat) (s : State) : KeepsRoom s (execEvchFire value s) :=
  keepsRoom_hostWrite _ s fun u => by simp

@[simp] theorem keepsRoom_execFireRejectedClear (value : Nat) (s : State) : KeepsRoom s (execFireRejectedClear value s) :=
  keepsRoom_hostWrite _ s fun u => by simp

@[simp] theorem keepsRoom_execHevValidClear (n value : Nat) (s : State) : KeepsRoom s (execHevValidClear n value s) :=
  keepsRoom_hostWrite _ s fun u => by simp

@[simp] theorem keepsRoom_execHevOverrunClear (n value : Nat) (s : State) : KeepsRoom s (execHevOverrunClear n value s) :=
  keepsRoom_hostWrite _ s fun u => by simp

/-! ### The PLL: commands -/

@[simp] theorem keepsRoom_execPllHopStore (entry : Nat) (verified : Bool) (s : State) :
    KeepsRoom s (execPllHopStore entry verified s) := keepsRoom_cmdRow fun u => by
    dsimp only
    rw [Body.run_gives, u.room_storing _ _ _ _ fun _ => rfl]

@[simp] theorem keepsRoom_execPllSyncArm (arm : Nat) (s : State) : KeepsRoom s (execPllSyncArm arm s) :=
  keepsRoom_cmdRow fun u => by simp

@[simp] theorem keepsRoom_execPllStatus (dst : Nat) (s : State) : KeepsRoom s (execPllStatus dst s) :=
  keepsRoom_cmdRow fun _ => rfl

@[simp] theorem keepsRoom_execPllCountersClear (s : State) : KeepsRoom s (execPllCountersClear s) :=
  keepsRoom_cmdRow fun _ => rfl

@[simp] theorem keepsRoom_execCkoConfig (cko : Nat) (cfg : CkoCfg) (s : State) : KeepsRoom s (execCkoConfig cko cfg s) :=
  keepsRoom_cmdRow fun _ => rfl

@[simp] theorem keepsRoom_execRefMeasurementWindow (hzA hzB : Nat) (s : State) :
    KeepsRoom s (execRefMeasurementWindow hzA hzB s) := by simp [execRefMeasurementWindow]

@[simp] theorem keepsRoom_execRefEdgeGap (ref : Nat) (s : State) : KeepsRoom s (execRefEdgeGap ref s) := by
  simp [execRefEdgeGap]

@[simp] theorem keepsRoom_execRevertHoldExpiry (s : State) : KeepsRoom s (execRevertHoldExpiry s) := by
  simp [execRevertHoldExpiry]

@[simp] theorem keepsRoom_execPllLock (residual : Int) (s : State) : KeepsRoom s (execPllLock residual s) := by
  simp [execPllLock]

@[simp] theorem keepsRoom_execSynciEdge (tBall : Tq) (s : State) : KeepsRoom s (execSynciEdge tBall s) := by
  simp [execSynciEdge]

/-! ### Network -/

@[simp] theorem keepsRoom_execPhyLinkChange (port : Nat) (up : Bool) (s : State) :
    KeepsRoom s (execPhyLinkChange port up s) := by simp [execPhyLinkChange]

@[simp] theorem keepsRoom_execPtpConfig (cfg : PtpCfg) (s : State) : KeepsRoom s (execPtpConfig cfg s) :=
  keepsRoom_cmdRow fun u => by dsimp only; split <;> simp

@[simp] theorem keepsRoom_execPtpPortConfig (port : Nat) (cfg : PtpPortCfg) (s : State) :
    KeepsRoom s (execPtpPortConfig port cfg s) := keepsRoom_cmdRow fun _ => rfl

@[simp] theorem keepsRoom_execPtpFrameReceived (port : Nat) (frame : PtpFrame) (s : State) :
    KeepsRoom s (execPtpFrameReceived port frame s) := by
  unfold execPtpFrameReceived
  (repeat' split) <;> simp

@[simp] theorem keepsRoom_execAnnounceTimeout (port : Nat) (s : State) : KeepsRoom s (execAnnounceTimeout port s) := by
  unfold execAnnounceTimeout
  dsimp only
  (repeat' split) <;> simp

@[simp] theorem keepsRoom_execPpsTimeout (s : State) : KeepsRoom s (execPpsTimeout s) := by simp [execPpsTimeout]

@[simp] theorem keepsRoom_execPtpMessageTransmit (port : Nat) (message : PtpMessage) (s : State) :
    KeepsRoom s (execPtpMessageTransmit port message s) := by
  unfold execPtpMessageTransmit
  (repeat' split) <;> simp

@[simp] theorem keepsRoom_execPtpStatus (dst : Nat) (s : State) : KeepsRoom s (execPtpStatus dst s) :=
  keepsRoom_cmdRow fun _ => rfl

@[simp] theorem keepsRoom_execBridgeStatus (dst : Nat) (s : State) : KeepsRoom s (execBridgeStatus dst s) :=
  keepsRoom_cmdRow fun _ => rfl

@[simp] theorem keepsRoom_execBridgeFault (s : State) : KeepsRoom s (execBridgeFault s) := by simp [execBridgeFault]

@[simp] theorem keepsRoom_execNetConfig (cfg : NetCfg) (s : State) : KeepsRoom s (execNetConfig cfg s) :=
  keepsRoom_cmdRow fun _ => rfl

@[simp] theorem keepsRoom_execTrgEdge (trg : Nat) (falling : Bool) (tBall : Tq) (s : State) :
    KeepsRoom s (execTrgEdge trg falling tBall s) := by simp [execTrgEdge]

/-! ### Motor commands -/

@[simp] theorem keepsRoom_execMotorConfig (cfg : MotorCfg) (s : State) : KeepsRoom s (execMotorConfig cfg s) :=
  keepsRoom_cmdRow fun _ => rfl

@[simp] theorem keepsRoom_execMotorRun (action dir target : Nat) (s : State) :
    KeepsRoom s (execMotorRun action dir target s) := keepsRoom_cmdRow fun u => by simp

@[simp] theorem keepsRoom_execMotorStatus (dst : Nat) (s : State) : KeepsRoom s (execMotorStatus dst s) :=
  keepsRoom_cmdRow fun _ => rfl

@[simp] theorem keepsRoom_execMotorCountersClear (s : State) : KeepsRoom s (execMotorCountersClear s) :=
  keepsRoom_cmdRow fun _ => rfl

@[simp] theorem keepsRoom_execMfltNFault (level : Bool) (s : State) : KeepsRoom s (execMfltNFault level s) := by
  simp [execMfltNFault]

@[simp] theorem keepsRoom_execMrdyChange (level : Bool) (s : State) : KeepsRoom s (execMrdyChange level s) := by
  simp [execMrdyChange]

@[simp] theorem keepsRoom_execReadyTimeout (s : State) : KeepsRoom s (execReadyTimeout s) := by simp [execReadyTimeout]

@[simp] theorem keepsRoom_execAtSpeed (s : State) : KeepsRoom s (execAtSpeed s) := by
  unfold execAtSpeed
  split <;> simp

@[simp] theorem keepsRoom_execMotorStopped (s : State) : KeepsRoom s (execMotorStopped s) := by simp [execMotorStopped]

@[simp] theorem keepsRoom_execMotorRefUpdate (s : State) : KeepsRoom s (execMotorRefUpdate s) := by
  simp [execMotorRefUpdate]

/-! ### Supervisor commands -/

@[simp] theorem keepsRoom_execEvchKeylock (channel action key : Nat) (verified : Bool) (s : State) :
    KeepsRoom s (execEvchKeylock channel action key verified s) := keepsRoom_dualRow fun u => by
    simp only [Body.run_gives]
    split
    · rfl
    · rw [u.room_storing _ _ _ _ fun s => State.room_reconfigure ..]

@[simp] theorem keepsRoom_execSvConfig (cfg : SvCfg) (s : State) : KeepsRoom s (execSvConfig cfg s) :=
  keepsRoom_dualRow fun _ => rfl

@[simp] theorem keepsRoom_execSvInputConfig (input : Nat) (cfg : SvInputCfg) (s : State) :
    KeepsRoom s (execSvInputConfig input cfg s) := keepsRoom_dualRow fun _ => rfl

@[simp] theorem keepsRoom_execSvLimitSet (set : Nat) (cfg : LimitSet) (s : State) :
    KeepsRoom s (execSvLimitSet set cfg s) := keepsRoom_dualRow fun _ => rfl

@[simp] theorem keepsRoom_execSvRowWeight (first count : Nat) (weights : List Nat) (s : State) :
    KeepsRoom s (execSvRowWeight first count weights s) := keepsRoom_dualRow fun _ => rfl

@[simp] theorem keepsRoom_execSvSlpWindow (set window : Nat) (cfg : SlpWindow) (s : State) :
    KeepsRoom s (execSvSlpWindow set window cfg s) := keepsRoom_dualRow fun _ => rfl

@[simp] theorem keepsRoom_execSvStatus (dst : Nat) (s : State) : KeepsRoom s (execSvStatus dst s) :=
  keepsRoom_cmdRow fun u => by simp

@[simp] theorem keepsRoom_execSvSafeStop (s : State) : KeepsRoom s (execSvSafeStop s) := keepsRoom_cmdRow fun u => by simp

@[simp] theorem keepsRoom_execSvCountersClear (s : State) : KeepsRoom s (execSvCountersClear s) :=
  keepsRoom_cmdRow fun u => by simp

@[simp] theorem keepsRoom_execSvSampleTick (levels : SafeLevels) (s : State) : KeepsRoom s (execSvSampleTick levels s) := by
  simp [execSvSampleTick]

@[simp] theorem keepsRoom_execDiscrepancyFault (input : Nat) (s : State) : KeepsRoom s (execDiscrepancyFault input s) := by
  simp [execDiscrepancyFault]

@[simp] theorem keepsRoom_execSpeedWindow (s : State) : KeepsRoom s (execSpeedWindow s) := by simp [execSpeedWindow]

@[simp] theorem keepsRoom_execAgreementFault (s : State) : KeepsRoom s (execAgreementFault s) := by
  simp [execAgreementFault]

@[simp] theorem keepsRoom_execStandstill (s : State) : KeepsRoom s (execStandstill s) := by simp [execStandstill]

@[simp] theorem keepsRoom_execRampTimeExpiry (s : State) : KeepsRoom s (execRampTimeExpiry s) := by
  unfold execRampTimeExpiry
  split <;> simp

@[simp] theorem keepsRoom_execTwilightTimeout (s : State) : KeepsRoom s (execTwilightTimeout s) := by
  simp [execTwilightTimeout]

@[simp] theorem keepsRoom_execBudgetWindowEnd (s : State) : KeepsRoom s (execBudgetWindowEnd s) := by
  simp [execBudgetWindowEnd]

@[simp] theorem keepsRoom_execSectorBudgetReached (sector : Nat) (s : State) :
    KeepsRoom s (execSectorBudgetReached sector s) := by simp [execSectorBudgetReached]

@[simp] theorem keepsRoom_execSupervisorFault (finding : SvFinding) (s : State) :
    KeepsRoom s (execSupervisorFault finding s) := by simp [execSupervisorFault]

@[simp] theorem keepsRoom_execEncoderPairFault (receiver : PairReceiver) (s : State) :
    KeepsRoom s (execEncoderPairFault receiver s) := by simp [execEncoderPairFault]

@[simp] theorem keepsRoom_execEncoderPairRestored (encoder : Nat) (s : State) :
    KeepsRoom s (execEncoderPairRestored encoder s) := by simp [execEncoderPairRestored]

@[simp] theorem keepsRoom_execCountErrorNotCleared (encoder : Nat) (s : State) :
    KeepsRoom s (execCountErrorNotCleared encoder s) := by simp [execCountErrorNotCleared]

/-! ### Calibration commands -/

@[simp] theorem keepsRoom_execCalConfig (cfg : CalCfg) (s : State) : KeepsRoom s (execCalConfig cfg s) :=
  keepsRoom_cmdRow fun u => by simp

@[simp] theorem keepsRoom_execCalStatus (dst : Nat) (s : State) : KeepsRoom s (execCalStatus dst s) :=
  keepsRoom_cmdRow fun _ => rfl

@[simp] theorem keepsRoom_execCalSetWrite (object set : Nat) (temp : Int) (len src : Nat) (data : Option (List Int))
    (s : State) : KeepsRoom s (execCalSetWrite object set temp len src data s) := by
  intro t e
  unfold execCalSetWrite at e
  rw [keepsRoom_cmdRow (fun _ => rfl) t e, State.room_noteSetRead]

@[simp] theorem keepsRoom_execCalSetRead (object set dst : Nat) (s : State) :
    KeepsRoom s (execCalSetRead object set dst s) := keepsRoom_cmdRow fun _ => rfl

@[simp] theorem keepsRoom_execCalTarget (mode set first count range steps : Nat) (s : State) :
    KeepsRoom s (execCalTarget mode set first count range steps s) := keepsRoom_cmdRow fun _ => rfl

@[simp] theorem keepsRoom_execCalStaLearn (set shots : Nat) (rows : BitVec 64) (s : State) :
    KeepsRoom s (execCalStaLearn set shots rows s) := keepsRoom_cmdRow fun _ => rfl

@[simp] theorem keepsRoom_execCalStore (object : Nat) (verified : Bool) (s : State) :
    KeepsRoom s (execCalStore object verified s) := keepsRoom_cmdRow fun u => by
    dsimp only
    rw [Body.run_gives, u.room_storing _ _ _ _ fun _ => rfl]

@[simp] theorem keepsRoom_execNonlinearityRun (input : Nat) (counts : List (List Nat)) (result : NonlinearityResult)
    (s : State) : KeepsRoom s (execNonlinearityRun input counts result s) := by
  unfold execNonlinearityRun
  (repeat' split) <;> simp

@[simp] theorem keepsRoom_execSkewTracking (sensor width deadline : Nat) (s : State) :
    KeepsRoom s (execSkewTracking sensor width deadline s) := by
  unfold execSkewTracking
  (repeat' split) <;> simp

/-! ### Tests and function resets -/

@[simp] theorem keepsRoom_execRstNRise (s : State) : KeepsRoom s (execRstNRise s) := by simp [execRstNRise]

@[simp] theorem keepsRoom_execPciePerst (level : Bool) (s : State) : KeepsRoom s (execPciePerst level s) := by
  simp [execPciePerst]

@[simp] theorem keepsRoom_execPcieLinkUp (s : State) : KeepsRoom s (execPcieLinkUp s) := by simp [execPcieLinkUp]
@[simp] theorem keepsRoom_execRetest (s : State) : KeepsRoom s (execRetest s) := keepsRoom_cmdRow fun _ => rfl

@[simp] theorem keepsRoom_execSelftestStatus (dst : Nat) (s : State) : KeepsRoom s (execSelftestStatus dst s) :=
  keepsRoom_cmdRow fun _ => rfl

/-! ### System -/

@[simp] theorem keepsRoom_execSysInfo (s : State) : KeepsRoom s (execSysInfo s) := keepsRoom_cmdRow fun _ => rfl

@[simp] theorem keepsRoom_execDeviceIdSet (id : Nat) (verified : Bool) (s : State) :
    KeepsRoom s (execDeviceIdSet id verified s) := keepsRoom_cmdRow fun u => by simp

@[simp] theorem keepsRoom_execUartConfig (baud : Nat) (s : State) : KeepsRoom s (execUartConfig baud s) :=
  keepsRoom_cmdRow fun _ => rfl

@[simp] theorem keepsRoom_execMbxStatus (mailbox dst : Nat) (s : State) : KeepsRoom s (execMbxStatus mailbox dst s) :=
  keepsRoom_cmdRow fun _ => rfl

@[simp] theorem keepsRoom_execFwUpdateBegin (length : Nat) (s : State) : KeepsRoom s (execFwUpdateBegin length s) :=
  keepsRoom_cmdRow fun _ => rfl

@[simp] theorem keepsRoom_execFwSlotEraseDone (s : State) : KeepsRoom s (execFwSlotEraseDone s) := by
  simp [execFwSlotEraseDone]

@[simp] theorem keepsRoom_execFwUpdateWrite (offset : Nat) (data : List Byte) (s : State) :
    KeepsRoom s (execFwUpdateWrite offset data s) := keepsRoom_cmdRow fun u => by split <;> simp

@[simp] theorem keepsRoom_execFwUpdateCommit (raiseMin : Nat) (s : State) : KeepsRoom s (execFwUpdateCommit raiseMin s) :=
  keepsRoom_cmdRow fun u => by split <;> simp

@[simp] theorem keepsRoom_execFwStatus (dst : Nat) (s : State) : KeepsRoom s (execFwStatus dst s) :=
  keepsRoom_cmdRow fun _ => rfl

@[simp] theorem keepsRoom_execDebugUnlock (certificate : List Byte) (s : State) :
    KeepsRoom s (execDebugUnlock certificate s) := keepsRoom_cmdRow fun u => by simp

/-! ### Supply -/

@[simp] theorem keepsRoom_execPaceWindow (margins : List (Option Int)) (s : State) :
    KeepsRoom s (execPaceWindow margins s) := by simp [execPaceWindow]

@[simp] theorem keepsRoom_execPmbusConfig (cfg : PmbusCfg) (s : State) : KeepsRoom s (execPmbusConfig cfg s) :=
  keepsRoom_cmdRow fun u => by simp

@[simp] theorem keepsRoom_execPmbusStatus (s : State) : KeepsRoom s (execPmbusStatus s) := keepsRoom_cmdRow fun _ => rfl

@[simp] theorem keepsRoom_execVddaAdjust (readMv : Option Nat) (s : State) : KeepsRoom s (execVddaAdjust readMv s) := by
  unfold execVddaAdjust
  (repeat' split) <;> simp

@[simp] theorem keepsRoom_execPmbusFault (s : State) : KeepsRoom s (execPmbusFault s) := by simp [execPmbusFault]

/-! ### Power warning -/

@[simp] theorem keepsRoom_execPeriodicJournalCommit (s : State) : KeepsRoom s (execPeriodicJournalCommit s) := by
  simp [execPeriodicJournalCommit]

@[simp] theorem keepsRoom_execPfailWarning (finalReads : List Bool) (s : State) :
    KeepsRoom s (execPfailWarning finalReads s) := by simp [execPfailWarning]

/-! ### Mailboxes -/

@[simp] theorem keepsRoom_execCmdPi (mailbox value : Nat) (frames : List Frame) (s : State) :
    KeepsRoom s (execCmdPi mailbox value frames s) := keepsRoom_hostWrite _ s fun u => by simp

@[simp] theorem keepsRoom_execRspCi (mailbox value : Nat) (s : State) : KeepsRoom s (execRspCi mailbox value s) :=
  keepsRoom_hostWrite _ s fun u => by simp

@[simp] theorem keepsRoom_execMbErrClear (mailbox value : Nat) (s : State) : KeepsRoom s (execMbErrClear mailbox value s) :=
  keepsRoom_hostWrite _ s fun u => by simp

@[simp] theorem keepsRoom_execEmbDatagram (udpPort : Nat) (via : Via) (srcIp srcPort : Nat) (frame : Frame)
    (payload : List Byte) (s : State) : KeepsRoom s (execEmbDatagram udpPort via srcIp srcPort frame payload s) := by
  unfold execEmbDatagram
  split <;> simp

@[simp] theorem keepsRoom_execUartPacket (frame : Frame) (payload : List Byte) (crc : Nat) (s : State) :
    KeepsRoom s (execUartPacket frame payload crc s) := by simp [execUartPacket]

@[simp] theorem keepsRoom_execUartGapTimeout (s : State) : KeepsRoom s (execUartGapTimeout s) := by
  simp [execUartGapTimeout]

@[simp] theorem keepsRoom_execCommandTake (dma : DmaOutcome) (s : State) : KeepsRoom s (execCommandTake dma s) := by
  unfold execCommandTake
  (repeat' split) <;> simp

@[simp] theorem keepsRoom_execDualSubmissionTimeout (s : State) : KeepsRoom s (execDualSubmissionTimeout s) := by
  unfold execDualSubmissionTimeout
  split <;> simp

/-! ### Registers -/

@[simp] theorem keepsRoom_execRegisterWrite (offset size value : Nat) (s : State) :
    KeepsRoom s (execRegisterWrite offset size value s) := keepsRoom_hostWrite _ s fun u => by simp

@[simp] theorem keepsRoom_execSnapTrigger (value : Nat) (s : State) : KeepsRoom s (execSnapTrigger value s) :=
  keepsRoom_hostWrite _ s fun u => by simp

@[simp] theorem keepsRoom_execPaceLowClear (value : Nat) (s : State) : KeepsRoom s (execPaceLowClear value s) :=
  keepsRoom_hostWrite _ s fun u => by simp

@[simp] theorem keepsRoom_execCountersClear (value : Nat) (s : State) : KeepsRoom s (execCountersClear value s) :=
  keepsRoom_hostWrite _ s fun u => by simp

@[simp] theorem keepsRoom_execIntStatusClear (value : Nat) (s : State) : KeepsRoom s (execIntStatusClear value s) :=
  keepsRoom_hostWrite _ s fun u => by simp

@[simp] theorem keepsRoom_execIntMaskWrite (value : Nat) (s : State) : KeepsRoom s (execIntMaskWrite value s) :=
  keepsRoom_hostWrite _ s fun u => by simp

/-! ### Rows that move Polestar, commit a safety configuration or reset the supervisor -/

@[simp] theorem keepsRoom_execSecCarry (s : State) : KeepsRoom s (execSecCarry s) := by simp [execSecCarry]

@[simp] theorem keepsRoom_execTimeSet (time : FullTime) (s : State) : KeepsRoom s (execTimeSet time s) :=
  keepsRoom_cmdRow fun u => by simp

@[simp] theorem keepsRoom_execTimeSetSecHi (secHi : Nat) (s : State) : KeepsRoom s (execTimeSetSecHi secHi s) :=
  keepsRoom_cmdRow fun u => by simp

@[simp] theorem keepsRoom_execTimeStepAccept (s : State) : KeepsRoom s (execTimeStepAccept s) :=
  keepsRoom_cmdRow fun u => by simp

@[simp] theorem keepsRoom_execEncConfig (encoder : Nat) (cfg : EncCfg) (verified : Bool) (s : State) :
    KeepsRoom s (execEncConfig encoder cfg verified s) :=
  keepsRoom_dualRow fun u => by
    simp only [Body.run_gives]
    exact State.room_storing _ _ _ _ _ fun v => by simp

@[simp] theorem keepsRoom_execSvCommit (verified : Bool) (s : State) : KeepsRoom s (execSvCommit verified s) :=
  keepsRoom_dualRow fun u => by
    simp only [Body.run_gives]
    exact State.room_storing _ _ _ _ _ fun v => by simp

@[simp] theorem keepsRoom_execSafetyReset (s : State) : KeepsRoom s (execSafetyReset s) := by simp [execSafetyReset]

end Sys2Proof.Machine
/-! O6. What the device holds stays within its room (R51, R85, R266). -/

namespace Sys2Proof.Machine

variable {s t : State}

/-! ### Room -/

/-- Four entries at each schedule input, 256 test records, and 1,024 learned addresses, each once. -/
def WithinRoom (r : (Nat → Nat) × Nat × List Nat) : Prop :=
  (∀ o, r.1 o ≤ 4) ∧ r.2.1 ≤ 256 ∧ r.2.2.length ≤ 1024 ∧ r.2.2.Nodup

theorem State.boundsInv_iff : s.boundsInv ↔ WithinRoom s.room := by
  unfold State.boundsInv WithinRoom State.room roomOf
  rw [List.length_map]
  rfl

theorem State.boundsInv.of_room (h : s.boundsInv) (e : t.room = s.room) : t.boundsInv := by
  rw [State.boundsInv_iff, e]
  exact State.boundsInv_iff.mp h

theorem State.boundsInv.ite {c : Prop} [Decidable c] (hs : s.boundsInv) (ht : t.boundsInv) :
    (if c then s else t).boundsInv := by
  split
  · exact hs
  · exact ht

theorem State.boundsInv.foldl {α : Type} (h : s.boundsInv) {f : State → α → State}
    (hf : ∀ u a, u.boundsInv → (f u a).boundsInv) (l : List α) : (l.foldl f s).boundsInv := by
  induction l generalizing s with
  | nil => exact h
  | cons a l ih => exact ih (hf s a h)

theorem State.boundsInv.each (h : s.boundsInv) {f : State → Nat → State} (hf : ∀ u k, u.boundsInv → (f u k).boundsInv)
    (ks : List Nat) : (s.each ks f).boundsInv := h.foldl hf ks

theorem State.boundsInv.setOut (h : s.boundsInv) (k : Nat) {v : OutState} (hv : v.sched.length ≤ 4) :
    (s.setOut k v).boundsInv := by
  obtain ⟨hsched, hrecords, hmacs⟩ := h
  refine ⟨fun o => ?_, hrecords, hmacs⟩
  by_cases ho : o = k
  · rw [ho, State.out_setOut_self]
    exact hv
  · rw [State.out_setOut_ne _ _ _ _ ho]
    exact hsched o

theorem State.boundsInv.modOut (h : s.boundsInv) (k : Nat) {f : OutState → OutState}
    (hf : (f (s.out k)).sched.length ≤ 4) : (s.modOut k f).boundsInv := h.setOut k hf

/-- A MAC table in which each address of another stands once more keeps to its room where that one does. -/
theorem State.boundsInv.setMacs (h : s.boundsInv) {n : Net} (hlen : n.macs.length ≤ 1024) (hnd : (n.macs.map (·.1)).Nodup) :
    ({ s with net := n } : State).boundsInv := ⟨h.1, h.2.1, hlen, hnd⟩

theorem State.boundsInv.filterMacs (h : s.boundsInv) {n : Net} (p : Nat × MacEntry → Bool) (hn : n.macs = s.net.macs.filter p) :
    ({ s with net := n } : State).boundsInv := by
  obtain ⟨-, -, hlen, hnd⟩ := id h
  refine h.setMacs ?_ ?_ <;> rw [hn]
  · exact (List.length_filter_le _ _).trans hlen
  · exact hnd.sublist (List.filter_sublist.map _)

/-! ### Schedule inputs (R51, R59) -/

theorem length_insertBy {α : Type} (le : α → α → Bool) (x : α) (l : List α) : (insertBy le x l).length = l.length + 1 := by
  induction l with
  | nil => rfl
  | cons y l ih =>
    unfold insertBy
    split
    · rw [List.length_cons, ih, List.length_cons]
    · rfl

/-- An entry that finds room is the fifth at most before the last is discarded. -/
theorem State.boundsInv.arrive (h : s.boundsInv) (o : Nat) (e : Entry) : (s.arrive o e).1.boundsInv := by
  have hfour : ((insertBy waitLe e (s.out o).sched).take 4).length ≤ 4 := List.length_take_le ..
  unfold State.arrive
  dsimp only
  split
  · exact h.ite (h.of_room (by simp))
  · split
    · exact h
    · split
      next hroom => exact h.setOut o (by rw [length_insertBy]; omega)
      next =>
        split
        · exact h.setOut o hfour
        · split
          · exact h.setOut o hfour
          · exact (State.boundsInv.setOut h o hfour).of_room (State.room_answerEntry ..)

theorem State.boundsInv.arriveAll (h : s.boundsInv) (es : List (Nat × Entry)) : (s.arriveAll es).boundsInv :=
  h.foldl (fun _ p hu => hu.arrive p.1 p.2) _

theorem State.boundsInv.stopOutput (h : s.boundsInv) (counts : Bool) (o : Nat) : (s.stopOutput counts o).boundsInv := by
  unfold State.stopOutput
  refine State.boundsInv.foldl (State.boundsInv.modOut (h.of_room ?_) o (Nat.zero_le _)) (fun u e hu => hu.of_room (by simp)) _
  split <;> simp

theorem State.boundsInv.stopFiring (h : s.boundsInv) (counts : Bool) : (s.stopFiring counts).boundsInv := by
  have stopped : (s.each outputNumbers fun s o => if s.stopsWithPll o then s.stopOutput counts o else s).boundsInv :=
    h.each (fun _ o hu => .ite (hu.stopOutput counts o) hu) _
  exact stopped.of_room (by simp [State.stopFiring])

theorem State.boundsInv.quietOutput (h : s.boundsInv) (o : Nat) : (s.quietOutput o).boundsInv := by
  unfold State.quietOutput
  refine State.boundsInv.modOut (h.of_room ?_) o (Nat.zero_le _)
  split <;> simp

/-! ### Test records (R85) -/

/-- Where a lane serves its next request: what the pulse injected marks gates and blanks edges. -/
theorem State.room_served (s : State) (lane : Nat) (j : TestJob) : (match j.placed with
    | some p => if s.reached (p.rise - 2048) then s.keepBlanked (s.injection lane j p) else s
    | none => s).room = s.room := by
  split <;> simp

theorem State.boundsInv.finishTest (h : s.boundsInv) (lane : Nat) (j : TestJob) (status : Nat) (measured : Int) :
    (s.finishTest lane j status measured).boundsInv := by
  have served := State.boundsInv.of_room (h.of_room (State.room_modLane s lane fun q => q.drop 1)) (State.room_served _ lane j)
  unfold State.finishTest
  dsimp only
  split
  next =>
    obtain ⟨hsched, -, hmacs⟩ := served
    exact ⟨hsched, List.length_take_le .., hmacs⟩
  next => exact .ite (served.of_room rfl) served

theorem State.boundsInv.dropTests (h : s.boundsInv) : s.dropTests.boundsInv :=
  h.each (fun _ _ hu => hu.foldl (fun _ _ hv => hv.finishTest ..) _) _

/-! ### The MAC table (R266, R267) -/

theorem State.boundsInv.learn (h : s.boundsInv) (n mac : Nat) : (s.learn n mac).boundsInv := by
  obtain ⟨-, -, hlen, hnd⟩ := id h
  let others := s.net.macs.filter fun m => decide (m.1 ≠ mac)
  have hroom (hc : (s.net.macs.any fun m => decide (m.1 = mac)) = true ∨ s.net.macs.length < 1024) : others.length < 1024 := by
    rcases hc with hknown | hfree
    · obtain ⟨m, hm, hmac⟩ := List.any_eq_true.mp hknown
      exact (List.length_filter_lt_length_iff_exists.mpr ⟨m, hm, by simpa using hmac⟩).trans_le hlen
    · exact (List.length_filter_le _ _).trans_lt hfree
  unfold State.learn
  split
  · exact h
  · dsimp only
    split
    next hc =>
      refine h.setMacs (hroom hc) (List.nodup_cons.mpr ⟨?_, hnd.sublist (List.filter_sublist.map _)⟩)
      simp
    next => exact h.of_room (by simp)

theorem State.boundsInv.bridgeFrame (h : s.boundsInv) (n : Nat) (f : NetFrame) : (s.bridgeFrame n f).boundsInv := by
  refine (h.learn n f.src).of_room ?_
  unfold State.bridgeFrame
  dsimp only
  (repeat' split) <;> simp

theorem State.boundsInv.resetPort (h : s.boundsInv) (n : Nat) : (s.resetPort n).boundsInv := by
  let u := if (s.port n).run = .slave then s.loseMaster else s
  have lost : u.boundsInv := h.of_room (by simp [u])
  have aged : ({ u.beginFuncReset 2 n with net := { u.net with macs := u.net.macs.filter fun m => decide (m.2.port ≠ n) } } :
      State).boundsInv := (lost.of_room (by simp) : (u.beginFuncReset 2 n).boundsInv).filterMacs _ rfl
  refine aged.of_room ?_
  unfold State.resetPort
  simp [u]

/-! ### Loss of lock, resets and Nadir -/

theorem State.boundsInv.loseLock (h : s.boundsInv) : s.loseLock.boundsInv := by
  refine State.boundsInv.of_room (State.boundsInv.each ?_ (fun u n hu => hu.of_room (by simp)) _) (State.room_publish ..)
  refine State.boundsInv.of_room (State.boundsInv.dropTests ?_) (State.room_dropCals _)
  exact State.boundsInv.of_room (State.boundsInv.stopFiring (h.of_room (by simp)) true) (State.room_unlockGates _)

theorem State.boundsInv.unlockFor (h : s.boundsInv) : s.unlockFor.boundsInv := .ite h.loseLock (h.of_room (by simp))

theorem State.boundsInv.performPll (h : s.boundsInv) (r : PllRequest) : (s.performPll r).boundsInv :=
  h.unlockFor.of_room (by simp [State.performPll])

theorem State.boundsInv.runForced (h : s.boundsInv) : s.runForced.boundsInv := by
  unfold State.runForced
  split
  next => exact h
  next r _ => exact .ite h ((h.performPll r).of_room (by simp))

theorem State.boundsInv.changePlan (h : s.boundsInv) (r : PllRequest) : (s.changePlan r).boundsInv :=
  .ite (h.of_room (by simp)) (h.performPll r)

theorem State.boundsInv.enterNadir (h : s.boundsInv) : s.enterNadir.boundsInv := by
  refine State.boundsInv.of_room (.of_room ?_ (State.room_refreshPcie _)) (State.room_readMode _)
  refine State.boundsInv.of_room (State.boundsInv.each (h.of_room ?_) (fun _ o hu => hu.quietOutput o) _) (State.room_cause ..)
  simp

theorem State.boundsInv.testFailed (h : s.boundsInv) (t : SelfTest) : (s.testFailed t).boundsInv :=
  State.boundsInv.enterNadir (h.of_room (by simp))

theorem State.boundsInv.warmReset (h : s.boundsInv) : s.warmReset.boundsInv := by
  refine State.boundsInv.of_room (.of_room ?_ (State.room_refreshPcie _)) (State.room_refreshFs _)
  have dropped : (s.turnAway.denyHeld.dropTaken.dropQueued.dropWork.stopSequencers Reasons.forced).boundsInv :=
    h.of_room (by simp)
  have quiet := ((dropped.stopFiring false).of_room (State.room_emptyPlaces _)).of_room (State.room_suspendRings _)
  exact quiet.of_room (by simp)

theorem State.boundsInv.lockstepMismatch (h : s.boundsInv) : s.lockstepMismatch.boundsInv :=
  h.warmReset.of_room (by simp [State.lockstepMismatch])

theorem State.boundsInv_reset : State.reset.boundsInv :=
  ⟨fun _ => Nat.zero_le _, Nat.zero_le _, Nat.zero_le _, List.nodup_nil⟩

theorem State.boundsInv_coldReset (s : State) (marker : Bool) : (s.coldReset marker).boundsInv :=
  State.boundsInv_reset.of_room ((State.room_refreshCal _).trans rfl)

/-! ### Sequencers that stop or are issued -/

theorem State.boundsInv.afterStop (h : s.boundsInv) : s.afterStop.boundsInv :=
  State.boundsInv.runForced (h.of_room (by simp))

theorem State.boundsInv.stopSeq (h : s.boundsInv) (n : Nat) (why : Option Reasons) : (s.stopSeq n why).boundsInv := by
  unfold State.stopSeq
  refine State.boundsInv.afterStop (h.of_room ?_)
  simp only [State.room_answerWaiting, State.room_modSeq, State.room_closeSkip]
  (repeat' split) <;> simp

theorem State.boundsInv.haltSeq (h : s.boundsInv) (n : Nat) (t : Tq) : (s.haltSeq n t).boundsInv :=
  State.boundsInv.stopSeq (h.of_room (by simp)) n none

theorem State.boundsInv.plainBoundary (h : s.boundsInv) (n : Nat) (x : Int) (t : Tq) (due : Bool) :
    (s.plainBoundary n x t due).boundsInv := by
  refine .ite (h.haltSeq n t) (h.of_room ?_)
  dsimp only
  split <;> simp

theorem State.boundsInv.boundary (h : s.boundsInv) (n : Nat) (x : Int) (t : Tq) (due : Bool) :
    (s.boundary n x t due).boundsInv := by
  unfold State.boundary
  split
  · exact h.stopSeq n _
  · exact h.of_room (by simp)
  · exact h.plainBoundary n x t due

theorem State.room_fireRows (s : State) (n : Nat) (k : Int) (t : Tq) (rows : List Nat) :
    (s.fireRows n k t rows).1.room = s.room := by
  have fired (p : State × List (Nat × Entry)) : (rows.foldl (fun p row =>
      ((p.1.fireRow n row k t).1, p.2 ++ (p.1.fireRow n row k t).2)) p).1.room = p.1.room := by
    induction rows generalizing p with
    | nil => rfl
    | cons r rows ih => exact (ih _).trans (State.room_fireRow ..)
  exact fired (s, [])

theorem State.boundsInv.fireSlot (h : s.boundsInv) (n : Nat) (k : Int) (t : Tq) : (s.fireSlot n k t).boundsInv := by
  rw [State.fireSlot_eq]
  exact State.boundsInv.arriveAll (h.of_room ((State.room_fireRows ..).trans (State.room_setSeq ..))) _

theorem State.boundsInv.playSlot (h : s.boundsInv) (n : Nat) (t : Tq) (due : Bool) : (s.playSlot n t due).boundsInv := by
  rw [State.playSlot_eq]
  have noted (q : SeqState) : (s.setSeq n q).boundsInv := h.of_room (State.room_setSeq ..)
  exact State.boundsInv.of_room (.ite ((noted _).fireSlot ..) (noted _)) (State.room_modSeq ..)

theorem State.boundsInv.issueSlot (h : s.boundsInv) (n : Nat) : (s.issueSlot n).boundsInv := by
  have played (u : State) (hu : u.boundsInv) (t : Tq) (due : Bool) :
      (if (u.seq n).running then u.playSlot n t due else u).boundsInv := .ite (hu.playSlot n t due) hu
  unfold State.issueSlot
  dsimp only
  split
  · refine .ite h (.ite (.ite (h.stopSeq n none) h) ?_)
    split
    · exact h.stopSeq n _
    · exact h
  · refine .ite h (played _ (.ite (State.boundsInv.boundary ?_ ..) ?_) ..)
    all_goals exact h.of_room (by simp)

/-! ### Tests of a start -/

theorem State.boundsInv.retestStep (h : s.boundsInv) : s.retestStep.boundsInv := by
  refine .ite (h.of_room (by simp)) (.ite (State.boundsInv.performPll (h.of_room ?_) _) h)
  rfl

theorem State.boundsInv.testsDone (h : s.boundsInv) : s.testsDone.boundsInv :=
  .ite (.ite (h.of_room (by simp)) h.retestStep) (.ite (h.of_room (by simp)) h)

theorem State.boundsInv.functionFailed (h : s.boundsInv) (t : SelfTest) : (s.functionFailed t).boundsInv :=
  .ite (h.testFailed t) (h.of_room (by simp))

/-- A function's test that has its result. -/
theorem State.boundsInv.functionResult (h : s.boundsInv) (t : SelfTest) (pass : Bool) :
    (if pass then (s.noteTest t true).testsDone else s.functionFailed t).boundsInv :=
  .ite (State.boundsInv.testsDone (h.of_room (by simp))) (h.functionFailed t)

theorem State.boundsInv.functionTest (h : s.boundsInv) (t : SelfTest) (pass : Bool) (readings : List (Nat × Nat)) :
    (s.functionTest t pass readings).boundsInv := by
  refine .ite h ?_
  dsimp only
  split
  case _ e => exact .ite (State.boundsInv.functionResult (h.of_room (by simp)) ..) h
  case _ => exact .ite h (.ite (h.functionFailed _) (.ite (State.boundsInv.testsDone (h.of_room (by simp))) h))
  case _ k =>
    refine .ite (.ite (State.boundsInv.testsDone (h.of_room ?_)) (State.boundsInv.functionFailed (h.of_room ?_) _)) h <;> simp
  case _ n => exact .ite (State.boundsInv.functionResult (h.of_room (by simp)) ..) h
  case _ => exact .ite (State.boundsInv.functionResult (h.of_room (by simp)) ..) h
  case _ => exact h

theorem State.boundsInv.startFirmware (h : s.boundsInv) (k : Nat) : (s.startFirmware k).boundsInv :=
  State.boundsInv.of_room (State.boundsInv.testsDone (h.of_room (by simp))) (State.room_refreshDark _)

theorem State.boundsInv.bistDone (h : s.boundsInv) (r : BistResult) : (s.bistDone r).boundsInv :=
  .ite (h.of_room (by simp)) (State.boundsInv.enterNadir (h.of_room (by simp)))

theorem State.boundsInv.startIdle (h : s.boundsInv) : s.startIdle.boundsInv :=
  .ite (State.boundsInv.performPll (h.of_room (by simp)) _) (h.of_room (by simp))

theorem State.boundsInv.askRun (h : s.boundsInv) (function first count : Nat) : (s.askRun function first count).boundsInv :=
  .ite (.ite (h.changePlan _) (h.of_room (by simp)))
    (.ite (h.of_room (by simp)) (.ite (h.of_room (by simp)) (h.of_room (by simp))))

/-! ### Events (R43, R223) -/

theorem State.boundsInv.arriveAt (h : s.boundsInv) (i : Nat) (es : Wave) : (s.arriveAt i es).boundsInv :=
  .ite (h.arriveAll _) (.ite h (.ite (h.of_room (by simp)) (h.of_room (by simp))))

/-! ### What a row answers -/

/-- Every next state that a row answers stays within its room. -/
def InBounds (o : Out) : Prop := ∀ t, o = .next t → t.boundsInv

theorem State.boundsInv.next (h : t.boundsInv) : InBounds (.next t) := by
  intro u e
  cases e
  exact h

theorem InBounds.ite {c : Prop} [Decidable c] {a b : Out} (ha : InBounds a) (hb : InBounds b) :
    InBounds (if c then a else b) := by
  split
  · exact ha
  · exact hb

/-- A row that leaves what has a limited room as it stands. -/
theorem State.boundsInv.of_keepsRoom (h : s.boundsInv) {o : Out} (k : KeepsRoom s o) : InBounds o :=
  fun t e => h.of_room (k t e)

/-- A row of a mailbox command whose body stays within its room. -/
theorem State.boundsInv.cmdRow (h : s.boundsInv) (c : Instr) {b : State → Body}
    (hb : ∀ u : State, u.boundsInv → (b u).run.state.boundsInv) : InBounds (cmdRow c b s) := by
  obtain ⟨t, ht, e | ⟨u, hu, e⟩⟩ := rowRoom_cmdRow c b s
  · rw [ht]
    exact (h.of_room e).next
  · rw [ht]
    exact (State.boundsInv.of_room (hb u (h.of_room hu)) e).next

/-! ### The rows that fill or empty what has a limited room -/

theorem inBounds_execOutSchedule (h : s.boundsInv) (output n w : Nat) (time : FullTime) (offsets : List Nat) :
    InBounds (execOutSchedule output n w time offsets s) :=
  h.cmdRow _ fun u hu => by
    rw [Body.run_gives]
    split <;> exact hu.arrive ..

theorem inBounds_execEdgeGeneratorTake (h : s.boundsInv) (output : Nat) : InBounds (execEdgeGeneratorTake output s) := by
  refine .ite h.next ?_
  dsimp only
  split
  next e rest hs _ =>
    have hfour := h.1 output
    rw [hs, List.length_cons] at hfour
    have taken : (s.setOut output { s.out output with sched := rest }).boundsInv := h.setOut output (Nat.le_of_succ_le hfour)
    exact (taken.of_room (State.room_takeEntry ..)).next
  next => exact h.next

theorem inBounds_execTestPulsePlace (h : s.boundsInv) (lane : Nat) : InBounds (execTestPulsePlace lane s) := by
  refine .ite h.next (.ite h.next ?_)
  split
  · exact h.next
  · split
    · exact .ite h.next (.ite (h.finishTest ..).next (State.boundsInv.next (h.of_room (by simp))))
    · exact h.next

theorem inBounds_execTestPulseResult (h : s.boundsInv) (lane : Nat) (stamp : Option Tq) :
    InBounds (execTestPulseResult lane stamp s) := by
  refine .ite h.next ?_
  split
  · exact h.next
  · split
    · exact h.next
    · refine .ite h.next ?_
      split <;> exact .ite (h.finishTest ..).next h.next

theorem inBounds_execTestPulseDeadline (h : s.boundsInv) (lane : Nat) : InBounds (execTestPulseDeadline lane s) := by
  refine .ite h.next ?_
  split
  · exact h.next
  · exact .ite (h.finishTest ..).next h.next

theorem inBounds_execSlotIssue (h : s.boundsInv) (n : Nat) : InBounds (execSlotIssue n s) :=
  .ite h.next (.ite (h.issueSlot n).next h.next)

theorem inBounds_execDeliveryWave (h : s.boundsInv) : InBounds (execDeliveryWave s) := by
  refine .ite h.next (State.boundsInv.next (State.boundsInv.foldl (h.of_room (State.room_emptyPlaces s)) (fun u c hu => ?_) _))
  split
  · exact hu
  · exact hu.arriveAt ..

theorem inBounds_execBridgeConfig (h : s.boundsInv) (cfg : BridgeCfg) (flush : Nat) : InBounds (execBridgeConfig cfg flush s) :=
  h.cmdRow _ fun u hu => by
    rw [Body.state_plain]
    obtain ⟨-, -, hlen, hnd⟩ := id hu
    refine hu.setMacs ?_ ?_ <;> dsimp only <;> split
    · exact Nat.zero_le _
    · exact hlen
    · exact List.nodup_nil
    · exact hnd

theorem inBounds_execBridgeFrameReceived (h : s.boundsInv) (port : Nat) (frame : NetFrame) :
    InBounds (execBridgeFrameReceived port frame s) :=
  .ite h.next (.ite (.ite (State.boundsInv.next (h.of_room (by simp))) (h.bridgeFrame ..).next) h.next)

theorem inBounds_execMacEntryAgeing (h : s.boundsInv) (mac : Nat) : InBounds (execMacEntryAgeing mac s) :=
  (h.filterMacs _ rfl).next

/-! ### The rows of the PLL -/

theorem inBounds_execPllConfig (h : s.boundsInv) (cfg : PllCfg) : InBounds (execPllConfig cfg s) :=
  h.cmdRow _ fun u hu => by
    have fields : (u.pllFields cfg).boundsInv := hu.of_room (State.room_pllFields ..)
    dsimp only
    split
    · exact fields
    · exact fields.changePlan _

theorem inBounds_execPllRefConfig (h : s.boundsInv) (cfg : PllRefCfg) : InBounds (execPllRefConfig cfg s) :=
  h.cmdRow _ fun u hu => by
    have fields : (u.refFields cfg).refreshRefs.boundsInv := hu.of_room (by simp)
    dsimp only
    split
    · exact fields.changePlan _
    · exact fields.of_room (State.room_checkRef _)

theorem inBounds_execPllRecal (h : s.boundsInv) : InBounds (execPllRecal s) := h.cmdRow _ fun _ hu => hu.changePlan _

theorem inBounds_execPllHop (h : s.boundsInv) (entry : Nat) : InBounds (execPllHop entry s) :=
  h.cmdRow _ fun _ hu => hu.changePlan _

theorem inBounds_execPllTestMode (h : s.boundsInv) (enable : Nat) : InBounds (execPllTestMode enable s) :=
  h.cmdRow _ fun u hu => by
    rw [Body.state_plain]
    have test : ({ u with pll := { u.pll with run := .test } } : State).boundsInv := hu
    have stopped := test.stopFiring false
    exact .ite (stopped.of_room (State.room_refreshFs _)) (.ite (hu.of_room (by simp)) hu)

theorem inBounds_execPllUnlock (h : s.boundsInv) (cause : UnlockCause) : InBounds (execPllUnlock cause s) := by
  have lost : ({ s with pll := { s.pll with unlocks := s.pll.unlocks.inc } } : State).loseLock.boundsInv :=
    State.boundsInv.loseLock (h.of_room rfl)
  exact .ite h.next (.ite (lost.of_room (State.room_beginAttempt _)).next (State.boundsInv.next (h.of_room (by simp))))

/-! ### The rows of runs, tests and resets -/

theorem inBounds_execCalRun (h : s.boundsInv) (function force first count : Nat) :
    InBounds (execCalRun function force first count s) := h.cmdRow _ fun _ hu => hu.askRun ..

theorem inBounds_execTemperatureUpdate (h : s.boundsInv) (readings : List Int) :
    InBounds (execTemperatureUpdate readings s) := by
  refine .ite h.next (.ite ?_ (State.boundsInv.next (h.of_room (by simp))))
  exact (State.boundsInv.of_room (State.boundsInv.startIdle (h.of_room (by simp))) (State.room_watchHeat _)).next

theorem inBounds_execWholeMemoryBist (h : s.boundsInv) (result : BistResult) : InBounds (execWholeMemoryBist result s) :=
  .ite (h.bistDone result).next h.next

theorem inBounds_execFirmwareStart (h : s.boundsInv) : InBounds (execFirmwareStart s) := by
  refine .ite h.next ?_
  dsimp only
  split
  · exact State.boundsInv.next (h.of_room (by simp))
  · exact (State.boundsInv.startFirmware (h.of_room (by simp)) _).next

theorem inBounds_execDeviceTestComplete (h : s.boundsInv) (test : SelfTest) (pass : Bool) :
    InBounds (execDeviceTestComplete test pass s) :=
  .ite (State.boundsInv.next (.ite (State.boundsInv.testsDone (h.of_room (by simp))) (h.testFailed test)))
    (.ite h.lockstepMismatch.next h.next)

theorem inBounds_execSvSelftestComplete (h : s.boundsInv) (pass : Bool) : InBounds (execSvSelftestComplete pass s) :=
  .ite (.ite (State.boundsInv.testsDone (h.of_room (by simp))).next (h.testFailed _).next)
    (.ite (.ite (State.boundsInv.testsDone (h.of_room (by simp))).next (h.testFailed _).next) h.next)

theorem inBounds_execFunctionTestComplete (h : s.boundsInv) (test : SelfTest) (r : FunctionResult) :
    InBounds (execFunctionTestComplete test r s) := .ite (h.functionTest ..).next h.next

theorem inBounds_execFuncReset (h : s.boundsInv) (block index : Nat) : InBounds (execFuncReset block index s) :=
  h.cmdRow _ fun u hu => by
    rw [Body.state_plain]
    exact .ite (hu.of_room (by simp)) (.ite (hu.of_room (by simp)) (hu.resetPort _))

theorem inBounds_execWarmReset (h : s.boundsInv) (force : Nat) : InBounds (execWarmReset force s) :=
  h.cmdRow _ fun u hu => by
    rw [Body.state_plain]
    exact hu.warmReset

theorem inBounds_execWatchdogExpiry (h : s.boundsInv) : InBounds (execWatchdogExpiry s) := by
  refine .ite h.next (State.boundsInv.next ?_)
  have expired : ({ s with
      dev := { s.dev with watchdogs := s.clock :: s.dev.watchdogs.filter fun t => decide (s.clock ≤ t + 1000000000) }
      regs := { s.regs with watchdogExpiries := s.regs.watchdogExpiries.inc } } : State).boundsInv := h.of_room rfl
  exact .ite expired.warmReset.enterNadir expired.warmReset

theorem inBounds_execPfailRelease (h : s.boundsInv) : InBounds (execPfailRelease s) :=
  .ite (State.boundsInv.next (State.boundsInv.warmReset (h.of_room (by simp)))) h.next

theorem inBounds_execRstNFall (h : s.boundsInv) : InBounds (execRstNFall s) := .ite h.next (s.boundsInv_coldReset true).next

theorem inBounds_execSupplyOutOfRange (h : s.boundsInv) : InBounds (execSupplyOutOfRange s) :=
  .ite h.next (s.boundsInv_coldReset false).next

/-! ### Every row, and every step -/

theorem inBounds_exec (h : s.boundsInv) (c : Instr) : InBounds (exec c s) := by
  cases c
  case outSchedule o n w time offs => exact inBounds_execOutSchedule h o n w time offs
  case edgeGeneratorTake o => exact inBounds_execEdgeGeneratorTake h o
  case testPulsePlace l => exact inBounds_execTestPulsePlace h l
  case testPulseResult l stamp => exact inBounds_execTestPulseResult h l stamp
  case testPulseDeadline l => exact inBounds_execTestPulseDeadline h l
  case slotIssue n => exact inBounds_execSlotIssue h n
  case deliveryWave => exact inBounds_execDeliveryWave h
  case bridgeConfig cfg flush => exact inBounds_execBridgeConfig h cfg flush
  case bridgeFrameReceived p f => exact inBounds_execBridgeFrameReceived h p f
  case macEntryAgeing mac => exact inBounds_execMacEntryAgeing h mac
  case pllConfig cfg => exact inBounds_execPllConfig h cfg
  case pllRefConfig cfg => exact inBounds_execPllRefConfig h cfg
  case pllRecal => exact inBounds_execPllRecal h
  case pllHop e => exact inBounds_execPllHop h e
  case pllTestMode e => exact inBounds_execPllTestMode h e
  case pllUnlock cause => exact inBounds_execPllUnlock h cause
  case calRun function force first count => exact inBounds_execCalRun h function force first count
  case temperatureUpdate readings => exact inBounds_execTemperatureUpdate h readings
  case wholeMemoryBist r => exact inBounds_execWholeMemoryBist h r
  case firmwareStart => exact inBounds_execFirmwareStart h
  case deviceTestComplete test pass => exact inBounds_execDeviceTestComplete h test pass
  case svSelftestComplete pass => exact inBounds_execSvSelftestComplete h pass
  case functionTestComplete test r => exact inBounds_execFunctionTestComplete h test r
  case funcReset block index => exact inBounds_execFuncReset h block index
  case warmReset force => exact inBounds_execWarmReset h force
  case watchdogExpiry => exact inBounds_execWatchdogExpiry h
  case pfailRelease => exact inBounds_execPfailRelease h
  case rstNFall => exact inBounds_execRstNFall h
  case supplyOutOfRange => exact inBounds_execSupplyOutOfRange h
  all_goals exact h.of_keepsRoom (by simp [exec])

/-- Settles O6: an empty queue lets one cycle pass, which moves nothing that has a limited room; and every row either leaves
that as it stands, or empties it, or discards what would find no room. -/
theorem everyStepKeepsBounds : Obligations.EveryStepKeepsBounds := by
  unfold Obligations.EveryStepKeepsBounds
  intro s t h e
  unfold step at e
  split at e
  · cases e
    exact h.of_room (State.room_cycle s)
  · have queued (q : List Instr) : (s.withQueue q).boundsInv := h
    exact inBounds_exec (queued _) _ t e

end Sys2Proof.Machine

/-! O8. The state right after a reset (R47, R161, R199, R218, R314, R349). -/

namespace Sys2Proof.Machine

/-! ### The invariants -/

theorem State.timeInv_reset : State.reset.timeInv := Nat.zero_le _

theorem State.memInv_reset : State.reset.memInv := rfl

/-- No permit, dark asserted, no torque and no status pair. -/
theorem State.safetyInv_reset : State.reset.safetyInv := by
  refine ⟨fun h => ?_, fun _ => rfl, fun h => ?_, fun h => ?_⟩
  · cases h
  · cases h
  · rcases h with h | h <;> cases h

/-! ### What is numbered holds its reset value -/

theorem State.stream_reset (n : Nat) : State.reset.stream n = Stream.reset := rfl
theorem State.out_reset (o : Nat) : State.reset.out o = OutState.reset o := rfl
theorem State.chan_reset (c : Nat) : State.reset.chan c = Channel.reset c := rfl

/-- No sequencer runs, so that no stream is in use. -/
theorem State.anyRunning_reset : State.reset.anyRunning = false := rfl

theorem State.streamRunning_reset (n : Nat) : State.reset.streamRunning n = false := rfl

/-- An output is not enabled, has the first format of its kind, and swing 2 (R47). -/
theorem OutState.reset_settings (o : Nat) :
    (OutState.reset o).cfg.enable = 0 ∧ (o ≤ 127 → (OutState.reset o).fmt = 0) ∧ (OutState.reset o).swing = 2 :=
  ⟨rfl, fun h => if_pos (Nat.lt_succ_of_le h), rfl⟩

/-- Settles O8: the four invariants, the values of the units that the device has once, and those of the numbered units, which
are unlisted. -/
theorem resetState : Obligations.ResetState := by
  unfold Obligations.ResetState
  refine ⟨State.timeInv_reset, State.memInv_reset, State.boundsInv_reset, State.safetyInv_reset, ?_⟩
  refine ⟨rfl, rfl, rfl, rfl, rfl, rfl, rfl, rfl, rfl, rfl, rfl, rfl, rfl, fun i => rfl, fun k => rfl, fun r => rfl,
    fun w => rfl, rfl, fun n => ?stream, fun n => ?ring, State.anyRunning_reset, rfl, fun o _ => ?output, fun c _ => ?channel,
    fun c => rfl, fun m => ⟨rfl, rfl, rfl⟩, fun d => rfl⟩
  case stream =>
    rw [State.stream_reset]
    exact ⟨rfl, rfl, rfl, rfl, rfl, rfl, rfl, State.streamRunning_reset n⟩
  case ring =>
    rw [State.stream_reset]
    exact ⟨rfl, rfl, rfl, rfl⟩
  case output =>
    rw [State.out_reset]
    exact OutState.reset_settings o
  case channel =>
    rw [State.chan_reset]
    rfl

end Sys2Proof.Machine

/-! O12. Four entries at a schedule input, and a fifth (R51, R52). -/

namespace Sys2Proof.Machine

variable {s : State} {o : Nat} {e : Entry}

/-- Entries are taken at output `o`: it is not stopped, and the device is in a state in which entries are taken (R59, R395,
R398, R401). -/
def State.listens (s : State) (o : Nat) : Prop :=
  s.dev.run ≠ .nadir ∧ s.dev.warm = false ∧ s.ballsOff = false ∧ (s.stopsWithPll o && s.firingStopped) = false

theorem State.not_deaf (h : s.listens o) : ¬ (s.dev.run = .nadir ∨ s.dev.warm = true ∨ s.ballsOff = true) := by
  obtain ⟨hnadir, hwarm, hoff, -⟩ := h
  rw [hwarm, hoff]
  simpa using hnadir

/-- An entry that finds a place waits in it. -/
theorem State.arrive_waits (h : s.listens o) (hroom : (s.out o).sched.length < 4) (e : Entry) :
    s.arrive o e = (s.setOut o { s.out o with sched := insertBy waitLe e (s.out o).sched }, .waits) := by
  have hstop := h.2.2.2
  unfold State.arrive
  dsimp only
  rw [hstop, if_neg Bool.false_ne_true, if_neg (State.not_deaf h), if_pos hroom]

/-- The output when an entry finds none: the last in the order of R52 is discarded, and counted. -/
def OutState.overrunBy (x : OutState) (e : Entry) : OutState :=
  { x with sched := (insertBy waitLe e x.sched).take 4, fOverrun := true, overrun := x.overrun.inc }

theorem State.arrive_overruns (h : s.listens o) (hfull : (s.out o).sched.length = 4) (e : Entry) :
    (s.arrive o e).1 = match (insertBy waitLe e (s.out o).sched)[4]? with
      | none => s.setOut o ((s.out o).overrunBy e)
      | some d => if d = e then s.setOut o ((s.out o).overrunBy e)
          else (s.setOut o ((s.out o).overrunBy e)).answerEntry o d 3 0 := by
  have hstop := h.2.2.2
  unfold State.arrive
  dsimp only
  rw [hstop, if_neg Bool.false_ne_true, if_neg (State.not_deaf h), if_neg (by omega)]
  cases (insertBy waitLe e (s.out o).sched)[4]? with
  | none => rfl
  | some d => exact apply_ite Prod.fst _ _ _

theorem insertBy_last {l : List Entry} (h : ∀ x ∈ l, x.came < e.came) : insertBy waitLe e l = l ++ [e] := by
  induction l with
  | nil => rfl
  | cons y l ih =>
    have hy : waitLe y e = true := by simp [waitLe, h y List.mem_cons_self]
    rw [insertBy, if_pos hy, ih fun x hx => h x (List.mem_cons_of_mem _ hx), List.cons_append]

/-- An entry that comes when four wait that came before it is the one that is discarded. -/
theorem State.arrive_discards (h : s.listens o) (hfull : (s.out o).sched.length = 4)
    (hcame : ∀ x ∈ (s.out o).sched, x.came < e.came) :
    (s.arrive o e).1 = s.setOut o { s.out o with fOverrun := true, overrun := (s.out o).overrun.inc } := by
  have hins := insertBy_last hcame
  have hlast : ((s.out o).sched ++ [e])[4]? = some e := by rw [← hfull, List.getElem?_concat_length]
  have htake : ((s.out o).sched ++ [e]).take 4 = (s.out o).sched := by rw [← hfull, List.take_left]
  rw [State.arrive_overruns h hfull, hins, hlast]
  dsimp only
  rw [if_pos rfl, OutState.overrunBy, hins, htake]

theorem State.out_arrive_overruns (h : s.listens o) (hfull : (s.out o).sched.length = 4) (e : Entry) :
    (s.arrive o e).1.out o = (s.out o).overrunBy e := by
  have hset : (s.setOut o ((s.out o).overrunBy e)).out o = (s.out o).overrunBy e := State.out_setOut_self ..
  rw [State.arrive_overruns h hfull]
  split
  · exact hset
  · split
    · exact hset
    · rw [State.out_of_tx (State.tx_answerEntry ..), hset]

/-- Settles O12: an entry that finds a place waits, one that came last is discarded, and of those that came together the last
is. -/
theorem scheduleInputDepth : Obligations.ScheduleInputDepth := by
  unfold Obligations.ScheduleInputDepth
  intro s o e hnadir hwarm hoff hstop
  have h : s.listens o := ⟨hnadir, hwarm, hoff, hstop⟩
  refine ⟨fun hroom => ?_, fun hfull hcame => State.arrive_discards h hfull hcame,
    fun hfull => State.out_arrive_overruns h hfull e⟩
  rw [State.arrive_waits h hroom]

end Sys2Proof.Machine

/-! SUPPORT. A release of the mailbox in execution passes through what holds an output inactive (R45, R47), and what that leaves
of the output. -/

namespace Sys2Proof.Machine

variable {s : State}

theorem State.logPulses_release (s : State) (o : Nat) (b : Burst) (ps : List (Nat × Tq × Tq)) :
    s.release.logPulses o b ps = (s.logPulses o b ps).release := by
  unfold State.logPulses
  induction ps generalizing s with
  | nil => rfl
  | cons p ps ih =>
    rw [List.foldl_cons, List.foldl_cons, ← ih]
    rfl

theorem State.modOut_release (s : State) (k : Nat) (f : OutState → OutState) :
    s.release.modOut k f = (s.modOut k f).release := rfl

theorem State.countEmission_release (s : State) (r n : Nat) : s.release.countEmission r n = (s.countEmission r n).release := by
  unfold State.countEmission
  rw [State.release_ite]
  rfl

theorem State.modShot'_release (s : State) (k : Option Nat) (f : Shot → Shot) :
    s.release.modShot' k f = (s.modShot' k f).release := by
  cases k <;> rfl

theorem State.endBurst_release (s : State) (o : Nat) (b : Burst) (limit : Tq) :
    s.release.endBurst o b limit = (s.endBurst o b limit).release := by
  unfold State.endBurst
  dsimp only
  simp only [State.release_ite, ← State.modOut_release, ← State.modShot'_release, ← State.countEmission_release,
    ← State.logPulses_release]

theorem State.closeWindows_release (s : State) (b : Burst) (limit : Tq) :
    s.release.closeWindows b limit = (s.closeWindows b limit).release := rfl

theorem State.holdInactive_release (s : State) (o : Nat) : s.release.holdInactive o = (s.holdInactive o).release := by
  unfold State.holdInactive
  rw [show s.release.out o = s.out o from rfl]
  split
  · rfl
  · dsimp only
    rw [State.release_ite, ← State.modOut_release, ← State.endBurst_release, ← State.closeWindows_release]
    rfl

/-! ### The format of an output that is held inactive -/

theorem State.out_modShot' (s : State) (k : Option Nat) (f : Shot → Shot) (o : Nat) : (s.modShot' k f).out o = s.out o := by
  cases k <;> rfl

theorem State.out_countEmission (s : State) (r n o : Nat) : (s.countEmission r n).out o = s.out o := by
  obtain ⟨l, hl⟩ := s.countEmission_counts r n
  rw [hl]
  rfl

theorem State.out_logPulses (s : State) (o : Nat) (b : Burst) (ps : List (Nat × Tq × Tq)) (j : Nat) :
    (s.logPulses o b ps).out j = s.out j := by
  obtain ⟨l, hl⟩ := s.logPulses_sent o b ps
  rw [hl]
  rfl

theorem State.fmt_modOut (s : State) (k : Nat) (f : OutState → OutState) (o : Nat) (hf : ∀ x, (f x).fmt = x.fmt) :
    ((s.modOut k f).out o).fmt = (s.out o).fmt := by
  unfold State.modOut
  by_cases h : o = k
  · rw [h, State.out_setOut_self, hf]
  · rw [State.out_setOut_ne _ _ _ _ h]

theorem OutState.fmt_advance (x : OutState) : x.advance.fmt = x.fmt := by
  unfold OutState.advance
  split <;> rfl

theorem State.fmt_endBurst (s : State) (o : Nat) (b : Burst) (limit : Tq) (j : Nat) :
    ((s.endBurst o b limit).out j).fmt = (s.out j).fmt := by
  unfold State.endBurst
  dsimp only
  (repeat' split) <;>
    simp [State.fmt_modOut, State.out_modShot', State.out_countEmission, State.out_logPulses, OutState.noteFall]

theorem State.fmt_holdInactive (s : State) (o : Nat) : ((s.holdInactive o).out o).fmt = (s.out o).fmt := by
  unfold State.holdInactive
  split
  · rfl
  next b _ =>
    split
    · have hend := State.fmt_endBurst (s.closeWindows b s.now) o (s.darkenNow b) s.now o
      exact (State.fmt_modOut _ o (fun x => ({ x with active := none } : OutState).advance) o fun x =>
        OutState.fmt_advance _).trans hend
    · rfl

end Sys2Proof.Machine

/-! O10. Settings of outputs, start inputs and code profiles (R45, R46, R47, R61, R69). -/

namespace Sys2Proof.Machine

variable {s : State} {o k p : Nat}

/-- With ENABLE 0 an output is held inactive (R45). -/
theorem outConfig_completes {c : OutCfg} (ha : s.admits (.outConfig o c) = true) (hbad : s.outConfigBad o c = false)
    (hcls : s.dev.classLocked = true → c.cls = (s.out o).cfg.cls) (hfmt : c.enable = 1 → (s.out o).fmtBy = none) :
    completes (.outConfig o c) s
      (if c.enable = 0 then (s.holdInactive o).setOut o { (s.holdInactive o).out o with cfg := c }
       else s.setOut o { s.out o with cfg := c }) .ok [] := by
  refine completes_plain (show execOutConfig o c s = _ from rfl) ha ?_ ?_ ?_
  · rw [State.holdInactive_release, ← State.release_ite, State.modOut_release, apply_ite (State.modOut · o _)]
    rfl
  · rfl
  · simpa [hbad] using ⟨hcls, hfmt⟩

theorem outFormat_completes {f w : Nat} (ha : s.admits (.outFormat o f w) = true) (ho : o ≤ 135) (hf : f ≤ 3) (hw : w ≤ 7)
    (hmrk : 128 ≤ o → f = 3) (hwidth : f = 3 → o < 128 → 2048 ≤ (s.out o).cfg.width)
    (hamp : f = 3 → o < 128 → (s.out o).cfg.cls = 0 →
      ∀ q ∈ s.sq.seqs, q.2.running = true → q.2.cfg.rows.getLsbD (s.out o).cfg.row = true → s.lowAmp q.2 = false)
    (hen : (s.out o).cfg.enable ≠ 1) :
    completes (.outFormat o f w) s
      (if f = (s.out o).fmt then s.setOut o { s.out o with fmt := f, swing := w }
       else (s.holdInactive o).setOut o
         { (s.holdInactive o).out o with fmt := f, swing := w, fmtBy := some (s.clock + 10000) }) .ok [] := by
  refine completes_plain (show execOutFormat o f w s = _ from rfl) ha ?_ ?_ ?_
  · dsimp only
    rw [show s.release.out o = s.out o from rfl]
    split
    next h =>
      subst h
      rw [State.modOut_release, State.modOut, if_pos rfl]
    next h =>
      rw [State.holdInactive_release, State.modOut_release, State.modOut, State.fmt_holdInactive, if_neg h]
      rfl
  · rfl
  · have hrange : ¬ 135 < o ∧ ¬ 3 < f ∧ ¬ 7 < w := ⟨by omega, by omega, by omega⟩
    simpa [hrange, hen] using ⟨⟨hmrk, hwidth⟩, fun hc h3 ho' a b hq => hamp h3 ho' hc (a, b) hq⟩

theorem staConfig_completes {c : StaCfg} (ha : s.admits (.staConfig k c) = true) (hk : k ≤ 63)
    (hrow : c.row ≤ 63 ∨ c.row = 0x7F) (hmin : c.latMin ≤ 1024000) (hlo : c.latMin + 512 ≤ c.latMax)
    (hhi : c.latMax ≤ c.latMin + 8192) (hw : c.widthTol ≤ 65535) (hm : 1 ≤ c.missLimit) (hm' : c.missLimit ≤ 255)
    (hbind : c.row ≠ 0x7F → (∀ p ∈ s.tx.stas, p.1 ≠ k → p.2.row ≠ c.row) ∧ (s.emittersOf c.row).length = 1 ∧
      s.rowInUse c.row = false)
    (hold : (s.staCfg k).row = 0x7F ∨ s.rowInUse (s.staCfg k).row = false) :
    completes (.staConfig k c) s (s.setStaCfg k c) .ok [] := by
  refine completes_plain (show execStaConfig k c s = _ from rfl) ha rfl rfl ?_
  by_cases hfree : c.row = 0x7F
  · simpa [hfree, within, hk, hmin, hlo, hhi, hw, hm, hm'] using hold.resolve_left
  · obtain ⟨htaken, hone, hidle⟩ := hbind hfree
    simpa [hfree, hrow.resolve_right hfree, within, hk, hmin, hlo, hhi, hw, hm, hm', hone, hidle] using
      ⟨fun a b hb => htaken (a, b) hb, hold.resolve_left⟩

theorem codeProfileSet_completes {c : CodeProfile} (ha : s.admits (.codeProfileSet p c) = true) (hp : p ≤ 15) (hn : 1 ≤ c.n)
    (hn' : c.n ≤ 4) (hmode : c.mode ≤ 1) (h1 : within 8 40 c.spacing1 = true) (h2 : within 8 40 c.spacing2 = true)
    (h3 : within 8 40 c.spacing3 = true) (hr : s.ranging = false) :
    completes (.codeProfileSet p c) s (s.setCode p c) .ok [] := by
  have hn4 : within 1 4 c.n = true := by simp [within, hn, hn']
  refine completes_plain (show execCodeProfileSet p c s = _ from rfl) ha rfl rfl ?_
  simpa [hp, hn4, h1, h2, h3, hr, isBit] using hmode

/-- Settles O10: each command's row admits what its hypotheses allow, and its body sets what the command carries. -/
theorem outputSettings : Obligations.OutputSettings := by
  unfold Obligations.OutputSettings
  refine ⟨?config, ?format, ?sta, ?code⟩
  case config => exact fun s _ _ ha hbad hcls hfmt => outConfig_completes ha hbad hcls hfmt
  case format => exact fun s _ _ _ ha ho hf hw hmrk hwidth hamp hen => outFormat_completes ha ho hf hw hmrk hwidth hamp hen
  case sta =>
    exact fun s _ _ ha hk hrow hmin hlo hhi hw hm hm' hbind hold =>
      staConfig_completes ha hk hrow hmin hlo hhi hw hm hm' hbind hold
  case code => exact fun s _ _ ha hp hn hn' hmode h1 h2 h3 hr => codeProfileSet_completes ha hp hn hn' hmode h1 h2 h3 hr

end Sys2Proof.Machine

/-! O11. OUT_SCHEDULE and OUT_COUNTERS_CLEAR (R51, R65, R377). -/

namespace Sys2Proof.Machine

variable {s : State} {o : Nat}

/-- What OUT_SCHEDULE does once its checks have passed. -/
def State.scheduleRun (s : State) (o : Nat) (e : Entry) : Answer :=
  match (s.arrive o e).2 with
  | .waits => .waits (s.arrive o e).1 (.schedule o e)
  | .overrun => .done (s.arrive o e).1 (outcomeStatus 3) (outcomeRet 3 0) []
  | .stopped => .done (s.arrive o e).1 (outcomeStatus 5) (outcomeRet 5 0) []
  | .notTaken => .done (s.arrive o e).1 (outcomeStatus 5) (outcomeRet 5 0) []

theorem exec_outSchedule (o n w : Nat) (time : FullTime) (offs : List Nat) (s : State) : exec (.outSchedule o n w time offs) s =
    cmdRow (.outSchedule o n w time offs) (fun s =>
      .gives [(s.scheduleBad o n w time offs, .badArg)] (s.scheduleRun o (s.commandEntry n w time offs))) s := rfl

/-- The entry of OUT_SCHEDULE waits in the input, and its answer for the take. -/
theorem outSchedule_waits {n w : Nat} {time : FullTime} {offs : List Nat}
    (ha : s.admitsWait (.outSchedule o n w time offs) = true) (hbad : s.scheduleBad o n w time offs = false)
    (h : s.listens o) (hroom : (s.out o).sched.length < 4) :
    waitsFor (.outSchedule o n w time offs) s
      (s.setOut o { s.out o with sched := insertBy waitLe (s.commandEntry n w time offs) (s.out o).sched })
      (.schedule o (s.commandEntry n w time offs)) := by
  let e := s.commandEntry n w time offs
  let t := s.setOut o { s.out o with sched := insertBy waitLe e (s.out o).sched }
  have harrive : s.release.arrive o e = (t.release, .waits) := State.arrive_waits (s := s.release) h hroom e
  have hrun : s.release.scheduleRun o e = .waits t.release (.schedule o e) := by
    rw [State.scheduleRun, harrive]
  have hrow : waitsFor (.outSchedule o n w time offs) s t.release (.schedule o e) :=
    waitsFor_row (exec_outSchedule o n w time offs s) ha rfl hrun (List.forall_mem_singleton.mpr hbad)
  exact waitsFor_of_core hrow t.core_release rfl

/-- An output whose counters and flags are cleared (R65). -/
def OutState.cleared (x : OutState) : OutState :=
  { x with
    fOverrun := false, fLate := false, fLateExec := false, fConflict := false, overrun := 0, late := 0, lateExec := 0,
    conflict := 0, darkened := 0, refStop := 0, holdoverEdges := 0, bursts := 0 }

theorem State.clearOutput_other (s : State) (h : (s.out o).cfg.cls ≠ 0) : s.clearOutput o = s.setOut o (s.out o).cleared := by
  have hemitter : s.isEmitter o = false := decide_eq_false h
  unfold State.clearOutput
  rw [hemitter]
  rfl

theorem State.clearOutput_emitter (s : State) (h : (s.out o).cfg.cls = 0) :
    s.clearOutput o =
      (s.setRow (s.out o).cfg.row { s.row (s.out o).cfg.row with missing := 0, unexpected := 0, overwidth := 0 }).setOut o
        (s.out o).cleared := by
  have hemitter : s.isEmitter o = true := decide_eq_true h
  unfold State.clearOutput
  rw [hemitter]
  rfl

theorem State.clearOutput_release (s : State) (o : Nat) : s.release.clearOutput o = (s.clearOutput o).release := by
  by_cases hcls : (s.out o).cfg.cls = 0
  · rw [s.clearOutput_emitter hcls]
    exact s.release.clearOutput_emitter hcls
  · rw [s.clearOutput_other hcls]
    exact s.release.clearOutput_other hcls

theorem outCountersClear_completes {first count : Nat} (ha : s.admits (.outCountersClear first count) = true) (h1 : 1 ≤ count)
    (h2 : first + count ≤ 136) :
    completes (.outCountersClear first count) s (s.each (numbers first count) State.clearOutput) .ok [] := by
  refine completes_plain (show execOutCountersClear first count s = _ from rfl) ha ?_ rfl ?_
  · exact State.each_release _ State.clearOutput_release _ _
  · simp
    omega

/-- Settles O11: the entry finds a place in the input, and OUT_COUNTERS_CLEAR goes output by output, with the row of one of
class EMITTER. -/
theorem outputCommands : Obligations.OutputCommands := by
  unfold Obligations.OutputCommands
  refine ⟨?schedule, ?clear, ?plain, ?emitter⟩
  case schedule =>
    exact fun s o n w time offs ha hbad hnadir hwarm hoff hstop hroom =>
      outSchedule_waits ha hbad ⟨hnadir, hwarm, hoff, hstop⟩ hroom
  case clear => exact fun s first count ha h1 h2 => outCountersClear_completes ha h1 h2
  case plain => exact fun s o hcls => s.clearOutput_other hcls
  case emitter => exact fun s o hcls => s.clearOutput_emitter hcls

end Sys2Proof.Machine

/-! SUPPORT. A safe stop leaves the rows of the start inputs, and in the supervisor the latched faults, the emission fault and
the configuration in force (R296, R297). -/

namespace Sys2Proof.Machine

variable (s : State)

/-- What the supervisor holds of its faults, with its configuration. -/
def Supervisor.latched (v : Supervisor) : List SvFault × Bool × SafetyCfg := (v.faults, v.emissionFault, v.active)

@[simp] theorem State.rows_setDark (d : Bool) : (s.setDark d).tx.rows = s.tx.rows := by
  unfold State.setDark
  split
  · rfl
  · split <;> simp [State.darkenBursts]

@[simp] theorem State.latched_setDark (d : Bool) : (s.setDark d).sv.latched = s.sv.latched := by
  unfold State.setDark
  split
  · rfl
  · split <;> simp [Supervisor.latched]

@[simp] theorem State.rows_refreshDark : s.refreshDark.tx.rows = s.tx.rows := by
  unfold State.refreshDark
  dsimp only
  rw [State.rows_setDark]
  split <;> rfl

@[simp] theorem State.latched_refreshDark : s.refreshDark.sv.latched = s.sv.latched := by
  unfold State.refreshDark
  dsimp only
  rw [State.latched_setDark]
  split <;> rfl

@[simp] theorem State.latched_refreshSst : s.refreshSst.sv.latched = s.sv.latched := by
  unfold State.refreshSst
  dsimp only
  split
  · rfl
  · rw [State.sv_cause]; rfl

@[simp] theorem State.latched_refreshSto : s.refreshSto.sv.latched = s.sv.latched := by
  unfold State.refreshSto
  dsimp only
  split <;> rfl

@[simp] theorem State.rows_refreshPermit : s.refreshPermit.tx.rows = s.tx.rows := by
  unfold State.refreshPermit
  dsimp only
  split <;> simp

@[simp] theorem State.latched_refreshPermit : s.refreshPermit.sv.latched = s.sv.latched := by
  unfold State.refreshPermit
  dsimp only
  rw [State.latched_refreshSst, State.latched_refreshDark, State.sv_setReady]
  split <;> rfl

@[simp] theorem State.rows_svGo (r : SvRun) : (s.svGo r).tx.rows = s.tx.rows := by
  unfold State.svGo
  split <;> simp

@[simp] theorem State.latched_svGo (r : SvRun) : (s.svGo r).sv.latched = s.sv.latched := by
  unfold State.svGo
  split
  · rfl
  · dsimp only
    rw [State.latched_refreshPermit, State.latched_refreshSto, State.sv_cause, State.sv_publish]
    rfl

@[simp] theorem State.tx_stopSequencers (why : Reasons) : (s.stopSequencers why).tx = s.tx :=
  s.each_field State.tx _ _ fun _ _ => rfl

@[simp] theorem State.rows_enterEclipse : s.enterEclipse.tx.rows = s.tx.rows := by simp [State.enterEclipse]

@[simp] theorem State.latched_enterEclipse : s.enterEclipse.sv.latched = s.sv.latched := by
  have hgo := s.latched_svGo .eclipse
  rw [← State.svRun_stopSequencers (s.svGo .eclipse) Reasons.safety] at hgo
  exact hgo

@[simp] theorem State.rows_enterDusk : s.enterDusk.tx.rows = s.tx.rows := by
  unfold State.enterDusk
  dsimp only
  split <;> simp

@[simp] theorem State.latched_enterDusk : s.enterDusk.sv.latched = s.sv.latched := by
  unfold State.enterDusk
  dsimp only
  split <;> exact s.latched_svGo .dusk

@[simp] theorem State.rows_enterTwilight : s.enterTwilight.tx.rows = s.tx.rows := s.rows_svGo .twilight

@[simp] theorem State.rows_safeStop : s.safeStop.tx.rows = s.tx.rows := by
  unfold State.safeStop
  (repeat' split) <;> simp

@[simp] theorem State.latched_safeStop : s.safeStop.sv.latched = s.sv.latched := by
  unfold State.safeStop
  (repeat' split) <;> simp

@[simp] theorem State.rows_eclipseAtOnce : s.eclipseAtOnce.tx.rows = s.tx.rows := by
  unfold State.eclipseAtOnce
  (repeat' split) <;> simp

@[simp] theorem State.latched_eclipseAtOnce : s.eclipseAtOnce.sv.latched = s.sv.latched := by
  unfold State.eclipseAtOnce
  (repeat' split) <;> simp

/-! ## The faults of the start inputs (R295, R296) -/

@[simp] theorem State.tx_latch (f : SvFault) : (s.latch f).tx = s.tx := by
  unfold State.latch
  split <;> rfl

@[simp] theorem State.rows_svFault (f : SvFault) : (s.svFault f).tx.rows = s.tx.rows := by
  unfold State.svFault
  dsimp only
  (repeat' split) <;> simp

/-- A fault that is latched stands with the others; nothing else of the supervisor changes. -/
theorem State.sv_latch (f : SvFault) : ∃ l, (s.latch f).sv = { s.sv with faults := l } ∧ l.contains f = true ∧
    ∀ g, s.sv.faults.contains g = true → l.contains g = true := by
  unfold State.latch
  split
  next h => exact ⟨s.sv.faults, rfl, h, fun _ => id⟩
  next h => exact ⟨s.sv.faults ++ [f], rfl, by simp, fun g hg => by simp_all⟩

/-- The stop fault of an emission in the dark is latched, and the device dark for it (R296). -/
theorem State.svFault_emission : (s.svFault .emission).sv.faults.contains .emission = true ∧
    (s.svFault .emission).sv.emissionFault = true ∧ (s.svFault .emission).sv.active = s.sv.active := by
  obtain ⟨l, hl, hmem, -⟩ := s.sv_latch .emission
  have h : (s.svFault .emission).sv.latched = (l, true, s.sv.active) := by
    change (State.refreshSst (State.eclipseAtOnce _)).sv.latched = _
    rw [State.latched_refreshSst, State.latched_eclipseAtOnce]
    simp [Supervisor.latched, hl]
  obtain ⟨hfaults, hfault, hactive⟩ : _ ∧ _ ∧ _ := by simpa [Supervisor.latched] using h
  exact ⟨hfaults ▸ hmem, hfault, hactive⟩

/-- The demand of EMIS_LIMIT emissions is latched beside the faults that stand (R295). -/
theorem State.svFault_emisLimit : (s.svFault .emisLimit).sv.faults.contains .emisLimit = true ∧
    (s.svFault .emisLimit).sv.emissionFault = s.sv.emissionFault ∧
    ∀ g, s.sv.faults.contains g = true → (s.svFault .emisLimit).sv.faults.contains g = true := by
  obtain ⟨l, hl, hmem, hold⟩ := s.sv_latch .emisLimit
  have h : (s.svFault .emisLimit).sv.latched = (l, s.sv.emissionFault, s.sv.active) := by
    change (State.safeStop _).sv.latched = _
    rw [State.latched_safeStop, hl]
    rfl
  obtain ⟨hfaults, hfault, -⟩ : _ ∧ _ ∧ _ := by simpa [Supervisor.latched] using h
  exact ⟨hfaults ▸ hmem, hfault, hfaults ▸ hold⟩

/-- The emissions of row `r` within 100 ms, with one that is reported now (R295). -/
def State.recentEmissions (s : State) (r : Nat) : List Nat :=
  (s.clock :: Tab.get [] s.sv.emissions r).filter fun x => decide (s.clock ≤ x + emissionSpan)

/-- The state in which an emission is noted, before the supervisor answers it. -/
def State.noteEmission (s : State) (r : Nat) : State :=
  { s with sv := { s.sv with emissions := Tab.put [] s.sv.emissions r (s.recentEmissions r) } }

/-- The supervisor at an emission of row `r`, before it looks at EMIS_LIMIT. -/
def State.darkEmission (s : State) (r : Nat) (unexpected : Bool) (t : Tq) : State :=
  if unexpected && s.darkAt t then (s.noteEmission r).svFault .emission else s.noteEmission r

theorem State.reportEmission_eq (r : Nat) (unexpected : Bool) (t : Tq) : s.reportEmission r unexpected t =
    if (s.darkEmission r unexpected t).sv.active.sv.emisLimit ≤ (s.recentEmissions r).length then
      (s.darkEmission r unexpected t).svFault .emisLimit else s.darkEmission r unexpected t := rfl

theorem State.active_darkEmission (r : Nat) (unexpected : Bool) (t : Tq) :
    (s.darkEmission r unexpected t).sv.active = s.sv.active := by
  unfold State.darkEmission
  split
  · exact (s.noteEmission r).svFault_emission.2.2
  · rfl

@[simp] theorem State.rows_reportEmission (r : Nat) (unexpected : Bool) (t : Tq) :
    (s.reportEmission r unexpected t).tx.rows = s.tx.rows := by
  have hdark : (s.darkEmission r unexpected t).tx.rows = s.tx.rows := by
    unfold State.darkEmission
    split
    · exact (s.noteEmission r).rows_svFault _
    · rfl
  rw [State.reportEmission_eq]
  split
  · rw [State.rows_svFault, hdark]
  · exact hdark

variable {s} {r : Nat} {t : Tq}

/-- An unexpected emission with dark asserted is a stop fault (R296). -/
theorem State.reportEmission_dark (h : s.darkAt t = true) : (s.reportEmission r true t).sv.faults.contains .emission = true ∧
    (s.reportEmission r true t).sv.emissionFault = true := by
  have hdark : s.darkEmission r true t = (s.noteEmission r).svFault .emission := if_pos h
  obtain ⟨hmem, hfault, -⟩ := (s.noteEmission r).svFault_emission
  obtain ⟨-, hkeep, hold⟩ := State.svFault_emisLimit ((s.noteEmission r).svFault .emission)
  rw [State.reportEmission_eq, hdark]
  split
  · exact ⟨hold _ hmem, hkeep.trans hfault⟩
  · exact ⟨hmem, hfault⟩

/-- EMIS_LIMIT emissions within 100 ms are a demand (R295). -/
theorem State.reportEmission_limit {u : Bool} (h : s.sv.active.sv.emisLimit ≤ (s.recentEmissions r).length) :
    (s.reportEmission r u t).sv.faults.contains .emisLimit = true := by
  rw [State.reportEmission_eq, State.active_darkEmission, if_pos h]
  exact (State.svFault_emisLimit _).1

/-- Below EMIS_LIMIT an emission without dark is noted, and nothing more (R295, R296). -/
theorem State.reportEmission_below {u : Bool} (hdark : s.darkAt t = false)
    (h : (s.recentEmissions r).length < s.sv.active.sv.emisLimit) : s.reportEmission r u t = s.noteEmission r := by
  have hnote : s.darkEmission r u t = s.noteEmission r := by
    unfold State.darkEmission
    rw [hdark, Bool.and_false, if_neg Bool.false_ne_true]
  rw [State.reportEmission_eq, State.active_darkEmission, if_neg (Nat.not_le.mpr h), hnote]

end Sys2Proof.Machine

/-! O24. Start inputs match emissions (R62 to R64, R295, R296). -/

namespace Sys2Proof.Machine

variable {s : State} {k r : Nat} {τ : Tq}

theorem exec_staEdge {falling : Bool} {tBall : Tq} {phase n : Nat} (hk : k ≤ 63) (he : (s.sta k).cfg.enable = 1)
    (hh : s.heard tBall = true) : exec (.staEdge k falling tBall phase n) s = .next (s.staEdge k falling tBall phase n) := by
  change execStaEdge k falling tBall phase n s = _
  unfold execStaEdge
  rw [if_neg (Nat.not_lt.mpr hk), if_pos ⟨he, hh⟩]

/-- The states differ in the inputs of the receive side alone. -/
def State.inputsOnly (s t : State) : Prop := ∃ l, t = { s with rx := { s.rx with inputs := l } }

theorem State.inputsOnly.modInput {t : State} (h : s.inputsOnly t) (i : Nat) (f : InputState → InputState) :
    s.inputsOnly (t.modInput i f) := by
  obtain ⟨l, rfl⟩ := h
  exact ⟨_, rfl⟩

theorem State.inputsOnly.ite {c : Prop} [Decidable c] {t u : State} (ht : s.inputsOnly t) (hu : s.inputsOnly u) :
    s.inputsOnly (if c then t else u) := by
  split
  · exact ht
  · exact hu

/-- A stamp that a free converter makes reaches the row of its start input, rising where the edge has the input's polarity (R62,
R142). -/
theorem State.staEdge_stamped {falling : Bool} {tBall : Tq} {phase n v : Nat}
    (hv : s.freeConv (512 + k) (if falling then 2 else 0) 2
      (if falling then (s.input (512 + k)).rrFall else (s.input (512 + k)).rr) tBall = some v)
    (hτ : τ = (s.conv (512 + k) v).stamp tBall phase n ((s.sta k).cfg.skewBoard + s.staSkew k)) :
    ∃ u, s.inputsOnly u ∧ s.staEdge k falling tBall phase n =
      u.staStamp k (decide (falling = decide ((s.sta k).cfg.pol = 1))) τ := by
  have hconv (f : Converter → Converter) : s.inputsOnly (s.modConv (512 + k) v f) := State.inputsOnly.modInput ⟨_, rfl⟩ _ _
  unfold State.staEdge idxSta
  dsimp only
  rw [hv, hτ]
  exact ⟨_, .ite (((hconv _).modInput _ _).modInput _ _) (((hconv _).modInput _ _).modInput _ _), rfl⟩

/-! ## A rising stamp -/

/-- A stamp in an open window takes the window and enters the shot of its pulse. -/
theorem State.staRise_matches {w : MatchWin} (h : s.windowOf r τ = some w) : ∃ l, s.staRise k r τ =
    ((({ s with tx := { s.tx with windows := s.tx.windows.erase w, shots := l } } : State).modRow r fun x =>
      { x with missRun := 0 }).modSta k fun x => { x with lastRise := some (τ, some (r, w.w)) }) ∧
    ∀ j x, w.shot = some j → s.shot j = some x → Tab.get none l j = some { x with stamps := x.stamps ++ [(w.k, τ)] } := by
  let u : State := { s with tx := { s.tx with windows := s.tx.windows.erase w } }
  let f (x : Shot) : Shot := { x with stamps := x.stamps ++ [(w.k, τ)] }
  obtain ⟨l, hl⟩ := u.modShot'_shots w.shot f
  refine ⟨l, ?_, fun j x hj hx => ?_⟩
  · unfold State.staRise
    rw [h]
    dsimp only
    rw [hl]
  · have hshot : (u.modShot' (some j) f).shot j = some (f x) := State.shot_modShot' hx f
    rw [← hj, hl] at hshot
    exact hshot

/-- A stamp outside every window is counted at its row and publishes; its input notes that it matched nothing. -/
def State.countUnexpected (s : State) (k r : Nat) (t : Tq) : State :=
  ((s.modRow r fun x => { x with unexpected := x.unexpected.inc }).publish (prodUnexpected r) t 0).modSta k fun x =>
    { x with lastRise := some (t, none) }

theorem State.staRise_unexpected (h : s.windowOf r τ = none) :
    s.staRise k r τ = (s.countUnexpected k r τ).reportEmission r true τ := by
  unfold State.staRise
  rw [h]
  rfl

@[simp] theorem State.sv_countUnexpected (s : State) (k r : Nat) (t : Tq) : (s.countUnexpected k r t).sv = s.sv :=
  State.sv_publish ..

@[simp] theorem State.clock_countUnexpected (s : State) (k r : Nat) (t : Tq) : (s.countUnexpected k r t).clock = s.clock :=
  State.clock_publish ..

theorem State.fab_countUnexpected (s : State) (k r : Nat) (t : Tq) :
    (s.countUnexpected k r t).fab = (s.publish (prodUnexpected r) t 0).fab :=
  State.publish_fab_congr s (s.modRow r fun x => { x with unexpected := x.unexpected.inc }) rfl rfl (prodUnexpected r) t 0

theorem State.row_countUnexpected (s : State) (k r : Nat) (t : Tq) :
    (s.countUnexpected k r t).row r = { s.row r with unexpected := (s.row r).unexpected.inc } := by
  have htx : (s.countUnexpected k r t).tx = (s.modRow r fun x => { x with unexpected := x.unexpected.inc }).tx :=
    State.tx_publish ..
  rw [State.row, htx]
  exact State.row_setRow_self ..

theorem State.darkAt_of_sv {t : State} (h : t.sv = s.sv) (x : Tq) : t.darkAt x = s.darkAt x := by
  rw [State.darkAt, h, State.darkAt]

theorem State.recentEmissions_of {t : State} (hc : t.clock = s.clock) (h : t.sv = s.sv) (r : Nat) :
    t.recentEmissions r = s.recentEmissions r := by
  rw [State.recentEmissions, hc, h, State.recentEmissions]

theorem State.row_of_rows {t : State} (h : t.tx.rows = s.tx.rows) (r : Nat) : t.row r = s.row r := by
  rw [State.row, h, State.row]

/-- What an unexpected emission does (R64, R295, R296). -/
theorem State.reports_unexpected (s : State) (k r : Nat) (τ : Tq) (t : State)
    (ht : t = (s.countUnexpected k r τ).reportEmission r true τ) :
    (t.row r).unexpected = (s.row r).unexpected.inc ∧
      (s.darkAt τ = true → t.sv.faults.contains .emission = true ∧ t.sv.emissionFault = true) ∧
      (s.sv.active.sv.emisLimit ≤ (s.recentEmissions r).length → t.sv.faults.contains .emisLimit = true) ∧
      (s.darkAt τ = false → (s.recentEmissions r).length < s.sv.active.sv.emisLimit →
        t.fab = (s.publish (prodUnexpected r) τ 0).fab) := by
  have hdark := State.darkAt_of_sv (s.sv_countUnexpected k r τ) τ
  have hrecent := State.recentEmissions_of (s.clock_countUnexpected k r τ) (s.sv_countUnexpected k r τ) r
  have hlimit := congrArg (·.active.sv.emisLimit) (s.sv_countUnexpected k r τ)
  subst ht
  refine ⟨?_, fun h => State.reportEmission_dark (hdark.trans h), fun h => ?_, fun hd h => ?_⟩
  · rw [State.row_of_rows (State.rows_reportEmission ..), State.row_countUnexpected]
  · exact State.reportEmission_limit (by rw [hrecent, hlimit]; exact h)
  · rw [State.reportEmission_below (hdark.trans hd) (by rw [hrecent, hlimit]; exact h)]
    exact s.fab_countUnexpected k r τ

/-! ## A falling stamp -/

/-- The pulse of a matched rising edge that is too long is counted at the row of its window (R62). -/
theorem State.overwidth_staFall {w : Nat} {t0 : Tq} (hr : (s.sta k).lastRise = some (t0, some (r, w)))
    (hlong : (w : Int) + (s.staCfg k).widthTol < τ - t0) :
    ((s.staFall k τ).row r).overwidth = (s.row r).overwidth.inc := by
  let u := s.modSta k fun x => { x with lastRise := none }
  have hfall : s.staFall k τ = (u.modRow r fun x => { x with overwidth := x.overwidth.inc }).reportEmission r false τ := by
    unfold State.staFall
    rw [hr]
    exact if_pos hlong
  rw [hfall, State.row_of_rows (State.rows_reportEmission ..)]
  exact congrArg RowState.overwidth (State.row_setRow_self ..)

/-! ## A window closes -/

theorem exec_staWindowClose {w : MatchWin} (hr : r ≤ 63)
    (hw : earliest (s.tx.windows.filter fun w => decide (w.row = r ∧ w.hi < s.now)) = some w) :
    exec (.staWindowClose r) s = .next (s.missPulse r w) := by
  change execStaWindowClose r s = _
  unfold execStaWindowClose
  rw [if_neg (Nat.not_lt.mpr hr), hw]

/-- MISS_LIMIT of the start input that monitors row `r`, 0 for none (R63). -/
def State.missLimit (s : State) (r : Nat) : Nat :=
  match s.staOfRow r with
  | some k => (s.staCfg k).missLimit
  | none => 0

/-- The missing emission of a window that closes: the window is gone and the row has counted it. -/
def State.countMissing (s : State) (r : Nat) (w : MatchWin) (run : Nat) : State :=
  ({ s with tx := { s.tx with windows := s.tx.windows.erase w } } : State).modRow r fun x =>
    { x with missing := x.missing.inc, missRun := run }

theorem State.missPulse_dark {w : MatchWin} (h : s.isDarkWindow w = true) :
    s.missPulse r w = { s with tx := { s.tx with windows := s.tx.windows.erase w } } := if_pos h

theorem State.missPulse_eq {w : MatchWin} (h : s.isDarkWindow w = false) : s.missPulse r w =
    let full := decide (0 < s.missLimit r ∧ s.missLimit r ≤ (s.row r).missRun + 1)
    let t := s.countMissing r w (if full then 0 else (s.row r).missRun + 1)
    if full then t.publish (prodMissing r) w.hi 0 else t := by
  unfold State.missPulse
  dsimp only
  rw [h]
  rfl

theorem State.missPulse_publishes {w : MatchWin} (h : s.isDarkWindow w = false) (hpos : 0 < s.missLimit r)
    (hl : s.missLimit r ≤ (s.row r).missRun + 1) :
    s.missPulse r w = (s.countMissing r w 0).publish (prodMissing r) w.hi 0 := by
  have hfull : decide (0 < s.missLimit r ∧ s.missLimit r ≤ (s.row r).missRun + 1) = true := decide_eq_true ⟨hpos, hl⟩
  rw [State.missPulse_eq h, hfull]
  rfl

theorem State.missPulse_counts {w : MatchWin} (h : s.isDarkWindow w = false)
    (hl : ¬ (0 < s.missLimit r ∧ s.missLimit r ≤ (s.row r).missRun + 1)) :
    s.missPulse r w = s.countMissing r w ((s.row r).missRun + 1) := by
  rw [State.missPulse_eq h, decide_eq_false hl]
  rfl

theorem State.row_countMissing (s : State) (r : Nat) (w : MatchWin) (run : Nat) :
    (s.countMissing r w run).row r = { s.row r with missing := (s.row r).missing.inc, missRun := run } :=
  State.row_setRow_self ..

/-- A window that closes is taken out, counted as missing and, MISS_LIMIT in succession, published (R63). -/
theorem State.missPulse_missing {w : MatchWin} (h : s.isDarkWindow w = false) :
    (s.missPulse r w).tx.windows = s.tx.windows.erase w ∧ ((s.missPulse r w).row r).missing = (s.row r).missing.inc ∧
      (s.missPulse r w).sq = s.sq ∧ (s.missPulse r w).rx = s.rx ∧ (s.missPulse r w).sv = s.sv := by
  by_cases hl : 0 < s.missLimit r ∧ s.missLimit r ≤ (s.row r).missRun + 1
  · obtain ⟨y, hy⟩ := (s.countMissing r w 0).publish_fab (prodMissing r) w.hi 0
    rw [State.missPulse_publishes h hl.1 hl.2, hy]
    exact ⟨rfl, congrArg RowState.missing (s.row_countMissing r w 0), rfl, rfl, rfl⟩
  · rw [State.missPulse_counts h hl]
    exact ⟨rfl, congrArg RowState.missing (s.row_countMissing r w _), rfl, rfl, rfl⟩

theorem State.missPulse_full {w : MatchWin} (h : s.isDarkWindow w = false) (hpos : 0 < s.missLimit r)
    (hl : s.missLimit r ≤ (s.row r).missRun + 1) :
    ((s.missPulse r w).row r).missRun = 0 ∧ (s.missPulse r w).fab = (s.publish (prodMissing r) w.hi 0).fab := by
  rw [State.missPulse_publishes h hpos hl]
  refine ⟨?_, State.publish_fab_congr s (s.countMissing r w 0) rfl rfl _ _ _⟩
  rw [State.row_of_rows (congrArg Tx.rows (State.tx_publish ..)), State.row_countMissing]

theorem State.missPulse_fewer {w : MatchWin} (h : s.isDarkWindow w = false) (hl : (s.row r).missRun + 1 < s.missLimit r) :
    ((s.missPulse r w).row r).missRun = (s.row r).missRun + 1 ∧ (s.missPulse r w).fab = s.fab := by
  rw [State.missPulse_counts h fun hfull => by omega, State.row_countMissing]
  exact ⟨rfl, rfl⟩

theorem State.missLimit_of_sta (h : s.staOfRow r = some k) : s.missLimit r = (s.staCfg k).missLimit := by
  rw [State.missLimit, h]

/-! ## The clauses -/

theorem State.staStamp_rises (hrow : (s.staCfg k).row ≤ 63) : s.staStamp k true τ = s.staRise k (s.staCfg k).row τ := by
  rw [State.staStamp, if_neg (Nat.not_lt.mpr hrow), if_pos rfl]

theorem State.staStamp_falls (hrow : (s.staCfg k).row ≤ 63) : s.staStamp k false τ = s.staFall k τ := by
  rw [State.staStamp, if_neg (Nat.not_lt.mpr hrow), if_neg Bool.false_ne_true]

/-- The edge that ends a pulse has the other polarity. -/
theorem falls_of_polarity {falling : Bool} {pol : Nat} (h : falling = decide (pol = 0)) (hp : pol ≤ 1) :
    decide (falling = decide (pol = 1)) = false := by
  subst h
  by_cases hpol : pol = 0
  · simp [hpol]
  · have : pol = 1 := by omega
    simp [this]

section
variable {falling : Bool} {tBall : Tq} {phase n v : Nat} (hk : k ≤ 63) (he : (s.sta k).cfg.enable = 1)
  (hh : s.heard tBall = true) (hrow : (s.staCfg k).row ≤ 63)
  (hv : s.freeConv (512 + k) (if falling then 2 else 0) 2
    (if falling then (s.input (512 + k)).rrFall else (s.input (512 + k)).rr) tBall = some v)
  (hτ : τ = (s.conv (512 + k) v).stamp tBall phase n ((s.sta k).cfg.skewBoard + s.staSkew k))
include hk he hh hrow hv hτ

theorem staEdge_rises (hf : falling = decide ((s.sta k).cfg.pol = 1)) :
    ∃ u, s.inputsOnly u ∧ exec (.staEdge k falling tBall phase n) s = .next (u.staRise k (s.staCfg k).row τ) := by
  obtain ⟨u, hu, hedge⟩ := State.staEdge_stamped hv hτ
  refine ⟨u, hu, (exec_staEdge hk he hh).trans ?_⟩
  obtain ⟨l, rfl⟩ := hu
  rw [hedge, decide_eq_true hf]
  exact congrArg _ (State.staStamp_rises hrow)

theorem staEdge_falls (hf : falling = decide ((s.sta k).cfg.pol = 0)) (hp : (s.sta k).cfg.pol ≤ 1) :
    ∃ u, s.inputsOnly u ∧ exec (.staEdge k falling tBall phase n) s = .next (u.staFall k τ) := by
  obtain ⟨u, hu, hedge⟩ := State.staEdge_stamped hv hτ
  refine ⟨u, hu, (exec_staEdge hk he hh).trans ?_⟩
  obtain ⟨l, rfl⟩ := hu
  rw [hedge, falls_of_polarity hf hp]
  exact congrArg _ (State.staStamp_falls hrow)

end

/-- Settles O24: an edge is one stamp, and what it does depends on whether a window holds it; a window that closes is either
dark or counted. -/
theorem startInputs : Obligations.StartInputs := by
  unfold Obligations.StartInputs
  refine ⟨?matched, ?unexpected, ?overwidth, ?missing, ?dark⟩
  case matched =>
    intro s k phase n v falling tBall τ w hk he hh _ hf hrow hv hτ hw
    obtain ⟨u, ⟨inputs, rfl⟩, hexec⟩ := staEdge_rises hk he hh hrow hv hτ hf
    obtain ⟨l, hrise, hshot⟩ := State.staRise_matches (s := { s with rx := { s.rx with inputs := inputs } }) (k := k) hw
    rw [hrise] at hexec
    exact ⟨_, hexec, rfl, hshot, State.row_setRow_self .., rfl, rfl⟩
  case unexpected =>
    intro s k phase n v falling tBall τ hk he hh _ hf hrow hv hτ hw
    obtain ⟨u, ⟨inputs, rfl⟩, hexec⟩ := staEdge_rises hk he hh hrow hv hτ hf
    let u : State := { s with rx := { s.rx with inputs := inputs } }
    rw [State.staRise_unexpected (s := u) hw] at hexec
    obtain ⟨hcount, hdark, hlimit, hbelow⟩ := u.reports_unexpected k (s.staCfg k).row τ _ rfl
    exact ⟨_, hexec, hcount, hdark, hlimit, fun hd h =>
      (hbelow hd h).trans (State.publish_fab_congr s u rfl rfl _ _ _)⟩
  case overwidth =>
    intro s k phase n v r w falling tBall τ t0 hk he hh _ hf hp hrow hv hτ hr hlong
    obtain ⟨u, ⟨inputs, rfl⟩, hexec⟩ := staEdge_falls hk he hh hrow hv hτ hf hp
    exact ⟨_, hexec, State.overwidth_staFall (s := { s with rx := { s.rx with inputs := inputs } }) hr hlong⟩
  case missing =>
    intro s r w hr hw hd
    obtain ⟨hwindows, hmissing, hsq, hrx, hsv⟩ := State.missPulse_missing (r := r) hd
    refine ⟨_, exec_staWindowClose hr hw, hwindows, hmissing, fun k hk hpos => ?_, hsq, hrx, hsv⟩
    rw [← State.missLimit_of_sta hk] at hpos ⊢
    exact ⟨State.missPulse_full hd hpos, State.missPulse_fewer hd⟩
  case dark =>
    intro s r w hr hw hd
    rw [exec_staWindowClose hr hw, State.missPulse_dark hd]

end Sys2Proof.Machine

/-! O34. A delivery wave that finds a subscription of no task input (R43, R222, R226). -/

namespace Sys2Proof.Machine

/-- Ready-idle with OUT 0 subscribed to channel 2, on which nothing waits, beside a subscription by 0, which names no task input
(R222), to channel 1, on which an event waits. -/
def strayed : State := { State.reset with
  dev := { State.reset.dev with run := .readyIdle, rstLow := false, ready := BitVec.twoPow 27 readyFabric }
  pll := { State.reset.pll with run := .locked, locked := true }
  fab := { State.reset.fab with
    channels := [(1, { EvChannel.reset with holding := some { time := 7, gen := 0 } })]
    subs := [(0, { Subs.reset with sub0 := { channel := 1, enable := true } }),
      (0x800, { Subs.reset with sub0 := { channel := 2, enable := true } })] } }

/-- What the task input of OUT 0 is subscribed to in `strayed`. -/
def straySubs : Subs := strayed.subs 0x800

/-- What the wave makes of `strayed`. -/
def strayWave : State :=
  strayed.fab.subs.foldl (fun s c => match c.2.arrivals strayed.wave with
    | [] => s
    | es => s.arriveAt c.1 es) strayed.emptyPlaces

theorem exec_strayed : exec .deliveryWave strayed = .next strayWave := rfl

/-- Nothing waits for the task input of OUT 0. -/
theorem arrivals_straySubs : straySubs.arrivals strayed.wave = [] := by decide

/-- The event of the stray subscription stands in the schedule input of OUT 0: its identifier is below 0x800, from which those
of the outputs count. -/
theorem sched_strayWave : (strayWave.out 0).sched.length = 1 := by decide

theorem sched_strayed : (strayed.out 0).sched.length = 0 := by decide

/-- Refutes O34: its clause of the schedule inputs supposes of the subscriptions only that no identifier stands twice. One below
0x800, which EVCH_SUBSCRIBE refuses as no task input (R222), the model's wave takes for OUT 0: that output gets an entry beside
those of its own task input. -/
theorem not_deliveryWaves : ¬ Obligations.DeliveryWaves := by
  unfold Obligations.DeliveryWaves
  intro h
  obtain ⟨-, -, -, -, -, -, -, -, -, -, -, -, -, -, houts, -⟩ := h
  obtain ⟨t, ht, hout⟩ := houts strayed 0 straySubs (by decide) (by decide) (by decide) (by decide)
  obtain rfl : strayWave = t := Host.Outcome.next.inj (exec_strayed.symm.trans ht)
  have hsched := congrArg (·.sched.length) hout
  rw [arrivals_straySubs] at hsched
  exact absurd (sched_strayWave.symm.trans (hsched.trans sched_strayed)) (by decide)

end Sys2Proof.Machine

/-! O21. A raw stamp of a start input that stands in the table of the inputs twice (R172). -/

namespace Sys2Proof.Machine

/-- A stamp of the present time. -/
def strayStamp : PathStamp :=
  { id := 0, t := 0, gated := [], tEdge := 0, conv := 0, suspect := false, falling := false, epoch := 0,
    cfg := HitCfg.reset, moved := 0, backed := false }

/-- A start input that is bound to no raw stream, with nothing but a stamp in its path. -/
def unboundInput : InputState := { InputState.reset with path := [strayStamp] }

/-- The reset state, but that the table of the inputs, which lists each number once in its canonical form, lists start input 0
twice. -/
def listedTwice : State := { State.reset with
  rx := { State.reset.rx with inputs := [(512, unboundInput), (512, unboundInput)] } }

/-- What the delivery of that stamp makes of `listedTwice`. -/
def deliveredTwice : State := (listedTwice.popPath 512).deliverRaw 512 strayStamp

theorem exec_listedTwice : exec (.stampDelivery 512) listedTwice = .next deliveredTwice := rfl

/-- Without its stamp the input reads as one that is not listed, which takes both its places off the table; that it has lost a
stamp lists it once. -/
theorem inputs_deliveredTwice : deliveredTwice.rx.inputs.length = 1 := by decide

/-- Set at once to what it becomes, the input takes the first of its places, and keeps the second. -/
theorem inputs_setInput_listedTwice (x : InputState) (h : x ≠ InputState.reset) :
    (listedTwice.setInput 512 x).rx.inputs.length = 2 := by
  simp [State.setInput, listedTwice, Tab.put, Tab.insert, h]

/-- Refutes O21: its last clause has the state after the loss of a raw stamp as one setting of the input, for a table of inputs of
any form. The model sets the input once for the stamp that leaves its path and again for the loss; where the first leaves it at
its reset value, every place of it leaves the table. `listedTwice`, whose table is in no canonical form, keeps the second place
in the clause's state and not in the model's. -/
theorem not_hitsReachGates : ¬ Obligations.HitsReachGates := by
  unfold Obligations.HitsReachGates
  intro h
  obtain ⟨-, -, -, -, -, -, -, -, -, -, hraw⟩ := h
  have ht := hraw listedTwice 512 strayStamp [] (by decide) (by decide) rfl (by decide) rfl
  have hstate := Host.Outcome.next.inj (exec_listedTwice.symm.trans ht)
  have hlength := congrArg (·.rx.inputs.length) hstate
  have hone := inputs_deliveredTwice
  have htwo := inputs_setInput_listedTwice { listedTwice.input 512 with
    path := [], rawDropped := (listedTwice.input 512).rawDropped.inc, droppedBefore := true } (by decide)
  exact absurd (hone.symm.trans (hlength.trans htwo)) (by decide)

end Sys2Proof.Machine

/-! SUPPORT. A command whose data do not verify answers INTEGRITY and does nothing (R361). -/

namespace Sys2Proof.Machine

variable {s : State} {c : Instr}

/-- INTEGRITY is the strongest outcome. -/
theorem verdict_integrity {cs : List (Bool × Status)} (h : (true, Status.integrity) ∈ cs) : verdict cs = .integrity := by
  have hany : (cs.any fun c => c.1 && decide (c.2 = Status.integrity)) = true := List.any_eq_true.mpr ⟨_, h, rfl⟩
  simp [verdict, Status.order, hany]

theorem State.journal_answerTaken_empty (s : State) (t : Taken) (st : Status) :
    ((s.answerTaken t none st [] []).box t.mailbox).journal.head?.map (·.response) = some (responseOf t st [] []) := by
  refine (State.journal_conclude _ _ _).trans ?_
  rw [ite_self]

theorem completes_integrity {b : State → Body} (he : exec c s = cmdRow c b s) (ha : s.admits c = true)
    (hc : (true, Status.integrity) ∈ (b s.release).checks) :
    completes c s s .integrity [] := by
  have hverdict (t : Option Taken) : s.release.checkBody c t (b s.release) = .integrity :=
    verdict_integrity (List.mem_cons_of_mem _ (List.mem_append_right _ hc))
  have hr := (State.runs_of_admits ha).1
  rcases hx : s.mbx.executing with _ | ⟨t, p⟩
  · have hs : s.release = s := by unfold State.release; rw [← hx]
    rw [hs] at hverdict
    simp only [State.runs, hx, Bool.not_eq_true'] at hr
    refine ⟨s.answerBare (opcodeOf c) .integrity [] [], ?_, rfl, ?_⟩
    · rw [he, cmdRow_bare c b s hx hr, State.runBare, hverdict]
    · simp [answered, hx, State.answerBare]
  · simp only [State.runs, hx, Bool.and_eq_true, Option.isNone_iff_eq_none, Bool.not_eq_true'] at hr
    obtain ⟨⟨rfl, hi⟩, hp⟩ := hr
    refine ⟨s.release.answerTaken t none .integrity [] [], ?_, State.core_answerTaken _ _ _ _ _ _ (.inl rfl), ?_⟩
    · rw [he, cmdRow_taken c b s t none hx hi hp, State.runTaken, hverdict]
    · simp only [answered, hx]
      exact State.journal_answerTaken_empty _ _ _

end Sys2Proof.Machine

/-! O55. The commands of the system group, the regulator's, and firmware updates (R67, R345 to R347, R363, R364, R372). -/

namespace Sys2Proof.Machine

variable {s : State} {u : Update} {k : Nat}

/-! ## Identification, the UART and the regulator -/

theorem sysInfo_completes (ha : s.admits .sysInfo = true) :
    completes .sysInfo s s .ok [fU8 s.deviceCode, fU8 Config.stepping, fU16 s.tx.deviceId, fU32 s.dev.ready.toNat,
      fU16 s.fwVersion, fU8 s.enginesReady] :=
  completes_row (show execSysInfo s = _ from rfl) ha rfl rfl (by decide) s.core_release (List.forall_mem_nil _)

theorem deviceIdSet_completes {id : Nat} (ha : s.admits (.deviceIdSet id true) = true) (hid : id ≤ 511)
    (hr : s.ranging = false) (hret : s.isReady readyRetention = true) :
    completes (.deviceIdSet id true) s
      { s with tx := { s.tx with deviceId := id }, ret := { s.ret with deviceId := id } } .ok [] := by
  refine completes_row (show execDeviceIdSet id true s = _ from rfl) ha rfl rfl (by decide) rfl ?_
  have hrel : s.release.ranging = false := hr
  have hready : s.release.isReady readyRetention = true := hret
  simp [Body.gives, State.noStore, hrel, hready, hid]

theorem uartConfig_completes {baud : Nat} (ha : s.admits (.uartConfig baud) = true) (hb : baud ∈ [115200, 921600, 3000000]) :
    completes (.uartConfig baud) s { s with mbx := { s.mbx with baud := baud } } .ok [] := by
  refine completes_plain (show execUartConfig baud s = _ from rfl) ha rfl rfl (List.forall_mem_singleton.mpr ?_)
  exact congrArg not (List.contains_iff_mem.mpr hb)

theorem State.refreshPace_release : s.release.refreshPace = s.refreshPace.release := by
  unfold State.refreshPace
  dsimp only
  rw [State.release_ite, ← State.cause_release]
  rfl

/-- PACE_WARN is what it should be once it has been brought up to date. -/
theorem State.paceWarn_refreshPace (s : State) : s.refreshPace.regs.paceWarn = s.refreshPace.paceWarnDue := by
  obtain ⟨i, p, hregs⟩ := s.refreshPace_regs
  have hmargin : s.refreshPace.lowestMargin = s.lowestMargin := by
    unfold State.lowestMargin State.pace
    rw [hregs]
  unfold State.paceWarnDue
  rw [hmargin, hregs]
  rfl

/-- The regulator with a new table, its requests going on after a fault. -/
def State.configurePmbus (s : State) (c : PmbusCfg) : State :=
  { s with regs := { s.regs with pmbus := { s.regs.pmbus with cfg := c, tries := 0, fault := false } } }

theorem pmbusConfig_completes {c : PmbusCfg} (ha : s.admits (.pmbusConfig c) = true) (hc : pmbusRanges c = true) :
    completes (.pmbusConfig c) s (s.configurePmbus c).refreshPace .ok [] := by
  refine completes_plain (show execPmbusConfig c s = _ from rfl) ha ?_ rfl ?_
  · exact State.refreshPace_release (s := s.configurePmbus c)
  · simp [hc]

theorem pmbusStatus_completes (ha : s.admits .pmbusStatus = true) :
    completes .pmbusStatus s s .ok [fU16 s.regs.pmbus.vReq, fU16 s.regs.pmbus.vRead, fBool s.regs.pmbus.fault,
      fU32 s.regs.pmbus.writes, fU32 s.regs.pmbus.retries] :=
  completes_row (show execPmbusStatus s = _ from rfl) ha rfl rfl (by decide) s.core_release (List.forall_mem_nil _)

/-! ## Image slots -/

theorem Firmware.slot_setSlot_self (f : Firmware) (k : Nat) (x : ImageSlot) : (f.setSlot k x).slot k = x := by
  unfold Firmware.setSlot Firmware.slot
  split <;> rfl

theorem Firmware.slot_setSlot_other (f : Firmware) (hk : k ≤ 1) (x : ImageSlot) :
    (f.setSlot k x).slot (1 - k) = f.slot (1 - k) := by
  obtain rfl | rfl : k = 0 ∨ k = 1 := by omega
  · rfl
  · rfl

theorem Firmware.setSlot_keeps (f : Firmware) (k : Nat) (x : ImageSlot) :
    (f.setSlot k x).running = f.running ∧ (f.setSlot k x).minSec = f.minSec := by
  unfold Firmware.setSlot
  split
  · exact ⟨rfl, rfl⟩
  · exact ⟨rfl, rfl⟩

/-! ## Firmware updates (R363, R364) -/

theorem fwUpdateBegin_completes {length : Nat} (ha : s.admits (.fwUpdateBegin length) = true)
    (hl : length ≤ Config.imageSlotSize) (hu : s.fw.update = none) :
    completes (.fwUpdateBegin length) s { s with
      fw := { s.fw.setSlot s.fw.target ImageSlot.empty with
        update := some { slot := s.fw.target, length := length, written := 0, erased := false } } } .accepted [] := by
  refine completes_row (show execFwUpdateBegin length s = _ from rfl) ha rfl rfl (by decide) rfl ?_
  have hrel : s.release.fw.update = none := hu
  simp [Body.gives, hrel, hl]

/-- What FW_UPDATE_WRITE does while an update is open. -/
theorem fwUpdateWrite_completes {data : List Byte} (ha : s.admits (.fwUpdateWrite u.written data) = true)
    (hu : s.fw.update = some u) (he : u.erased = true) (hl : u.written + data.length ≤ u.length) :
    completes (.fwUpdateWrite u.written data) s { s with fw := s.fw.append u data } .ok [] := by
  refine completes_row (s' := { s.release with fw := s.fw.append u data }) (show execFwUpdateWrite u.written data s = _ from rfl)
    ha ?_ ?_ (by decide) rfl ?_
  all_goals
    rw [show s.release.fw.update = some u from hu]
  · rfl
  · rfl
  · simp [Body.plain, he, hl]

theorem Firmware.append_writes (f : Firmware) (u : Update) (data : List Byte) :
    ((f.append u data).slot u.slot).data = (f.slot u.slot).data ++ data ∧
      (f.append u data).update = some { u with written := u.written + data.length } ∧
      (f.append u data).running = f.running ∧ (f.append u data).minSec = f.minSec := by
  obtain ⟨hrunning, hmin⟩ := f.setSlot_keeps u.slot { f.slot u.slot with data := (f.slot u.slot).data ++ data }
  exact ⟨congrArg ImageSlot.data (f.slot_setSlot_self ..), rfl, hrunning, hmin⟩

/-- The image that a commit makes of what an update has written. -/
def Firmware.committed (f : Firmware) (u : Update) : ImageSlot :=
  { valid := true
    version := (Config.imageVersion (f.slot u.slot).data).toNat
    secVersion := Config.imageSecVersion (f.slot u.slot).data
    generation := ((f.running.map fun k => (f.slot k).generation).getD 0) + 1
    data := (f.slot u.slot).data }

theorem Firmware.slot_commit_self (f : Firmware) (u : Update) (raise : Nat) :
    (f.commit u raise).slot u.slot = f.committed u := f.slot_setSlot_self u.slot (f.committed u)

theorem Firmware.minSec_commit (f : Firmware) (u : Update) (raise : Nat) : (f.commit u raise).minSec =
    if raise = 1 then ((f.running.map fun k => max f.minSec (f.slot k).secVersion).getD f.minSec) else f.minSec := rfl

/-- An image that verifies: its slot holds it, with the generation after the running one's; the fused minimum rises where that
is asked for, and never falls. -/
theorem Firmware.commit_image (f : Firmware) (raise : Nat) (hs : u.slot ≤ 1) :
    (f.commit u raise).update = none ∧ (f.commit u raise).running = f.running ∧ f.minSec ≤ (f.commit u raise).minSec ∧
      (raise = 0 → (f.commit u raise).minSec = f.minSec) ∧
      (∀ k, f.running = some k → raise = 1 → (f.commit u raise).minSec = max f.minSec (f.slot k).secVersion) ∧
      (f.commit u raise).slot (1 - u.slot) = f.slot (1 - u.slot) ∧ ((f.commit u raise).slot u.slot).valid = true ∧
      ((f.commit u raise).slot u.slot).data = (f.slot u.slot).data ∧
      ∀ k, f.running = some k → ((f.commit u raise).slot u.slot).generation = (f.slot k).generation + 1 := by
  rw [f.slot_commit_self]
  refine ⟨rfl, (f.setSlot_keeps ..).1, ?_, ?_, ?_, f.slot_setSlot_other hs _, rfl, rfl, fun k hk => ?_⟩
  · rw [Firmware.minSec_commit]
    split
    · cases f.running with
      | none => exact le_rfl
      | some k => exact le_max_left ..
    · exact le_rfl
  · rintro rfl
    rfl
  · rintro k hk rfl
    rw [Firmware.minSec_commit, if_pos rfl, hk]
    rfl
  · rw [Firmware.committed, hk]
    rfl

theorem fwUpdateCommit_commits {raise : Nat} (ha : s.admits (.fwUpdateCommit raise) = true) (hr : raise ≤ 1)
    (hu : s.fw.update = some u) (hv : s.fw.verifies u = true) :
    completes (.fwUpdateCommit raise) s (s.commitImage u raise) .ok [] := by
  have hverifies : s.fw.updateVerifies = true := by rw [Firmware.updateVerifies, hu]; exact hv
  refine completes_plain (show execFwUpdateCommit raise s = _ from rfl) ha ?_ rfl ?_
  · rw [show s.release.fw.update = some u from hu]
    rfl
  · simp [hverifies, isBit, hr]

theorem fwUpdateCommit_fails {raise : Nat} (ha : s.admits (.fwUpdateCommit raise) = true)
    (hv : ∀ u, s.fw.update = some u → s.fw.verifies u = false) : completes (.fwUpdateCommit raise) s s .integrity [] := by
  have hverifies : s.release.fw.updateVerifies = false := by
    change s.fw.update.any s.fw.verifies = false
    cases hu : s.fw.update with
    | none => rfl
    | some u => exact hv u hu
  refine completes_integrity (show execFwUpdateCommit raise s = _ from rfl) ha ?_
  simp [Body.plain, hverifies]

/-- Settles O55: each command's row admits what its hypotheses allow; an update's commands follow the state of the update. -/
theorem systemCommands : Obligations.SystemCommands := by
  unfold Obligations.SystemCommands
  refine ⟨?info, ?id, ?pmbus, ?status, ?uart, ?begin, ?erased, ?write, ?commit, ?fails⟩
  case info => exact fun s ha => sysInfo_completes ha
  case id => exact fun s id ha hid hr hret => deviceIdSet_completes ha hid hr hret
  case pmbus =>
    intro s c ha hc
    obtain ⟨htx, hsq, hsv⟩ := (s.configurePmbus c).refreshPace_frame
    exact ⟨_, pmbusConfig_completes ha hc, State.pmbus_refreshPace _, State.paceWarn_refreshPace _, htx, hsq, hsv,
      State.tb_refreshPace _⟩
  case status => exact fun s ha => pmbusStatus_completes ha
  case uart => exact fun s baud ha hb => uartConfig_completes ha hb
  case begin => exact fun s length ha hl hu => fwUpdateBegin_completes ha hl hu
  case erased =>
    intro s u hu
    change execFwSlotEraseDone s = _
    rw [execFwSlotEraseDone, hu]
    rfl
  case write =>
    intro s u data ha hu he hl
    exact ⟨_, fwUpdateWrite_completes ha hu he hl, s.fw.append_writes u data⟩
  case commit =>
    intro s u raise ha hr hu hs
    cases hv : s.fw.verifies u with
    | true =>
      obtain ⟨hupdate, hrunning, hmin, hkeep, hraise, hother, hvalid, hdata, hgen⟩ := s.fw.commit_image raise hs
      exact ⟨_, fwUpdateCommit_commits ha hr hu hv, fun _ => ⟨hupdate, hrunning, hmin, hkeep, hraise, hother, hvalid, hdata,
        hgen, rfl, rfl⟩, fun h => absurd h (by decide)⟩
    | false =>
      exact ⟨s, fwUpdateCommit_fails ha fun v h => Option.some.inj (hu.symm.trans h) ▸ hv, fun h => absurd h (by decide),
        fun _ => rfl⟩
  case fails => exact fun s raise ha hv => fwUpdateCommit_fails ha hv

end Sys2Proof.Machine

/-! SUPPORT. The first place that is clear of every protected interval (R77, R78). -/

namespace Sys2Proof.Machine

variable {w : Int} {t x : Tq} {i : Tq × Tq} {is : List (Tq × Tq)} {n : Nat}

/-- What begins at `t` and lasts `w` meets none of the intervals; one that only touches is not met. -/
def clearOf (w : Int) (is : List (Tq × Tq)) (t : Tq) : Prop := ∀ i ∈ is, i.2 ≤ t ∨ t + w ≤ i.1

theorem not_met_iff : ¬ (t < i.2 ∧ i.1 < t + w) ↔ i.2 ≤ t ∨ t + w ≤ i.1 := by rw [not_and_or, not_lt, not_lt]

/-- The intervals that end after `t`. -/
def ahead (t : Tq) (is : List (Tq × Tq)) : List (Tq × Tq) := is.filter fun i => decide (t < i.2)

theorem clearOf_of_ahead_nil (h : ahead t is = []) : clearOf w is t := fun i hi =>
  .inl (Int.not_lt.mp fun hlt => by simpa using (List.filter_eq_nil_iff.mp h) i hi (decide_eq_true hlt))

theorem length_ahead_lt (ht : t ≤ x) (hi : i ∈ is) (hbefore : t < i.2) (hbehind : i.2 ≤ x) :
    (ahead x is).length < (ahead t is).length := by
  have hsub : ahead x is = (ahead t is).filter fun i => decide (x < i.2) := by
    rw [ahead, ahead, List.filter_filter]
    refine List.filter_congr fun k _ => ?_
    rw [← Bool.decide_and]
    exact decide_eq_decide.mpr ⟨fun h => ⟨h, lt_of_le_of_lt ht h⟩, And.left⟩
  rw [hsub, List.length_filter_lt_length_iff_exists]
  exact ⟨i, List.mem_filter.mpr ⟨hi, decide_eq_true hbefore⟩, by simpa using hbehind⟩

/-! ## One pass over the intervals -/

theorem pushPast_met (h : t < i.2 ∧ i.1 < t + w) : pushPast w t (i :: is) = pushPast w i.2 is :=
  congrArg (pushPast w · is) (if_pos h)

theorem pushPast_clear (h : ¬ (t < i.2 ∧ i.1 < t + w)) : pushPast w t (i :: is) = pushPast w t is :=
  congrArg (pushPast w · is) (if_neg h)

theorem le_pushPast (w : Int) (t : Tq) (is : List (Tq × Tq)) : t ≤ pushPast w t is := by
  induction is generalizing t with
  | nil => exact le_rfl
  | cons i is ih =>
    by_cases h : t < i.2 ∧ i.1 < t + w
    · rw [pushPast_met h]
      exact h.1.le.trans (ih _)
    · rw [pushPast_clear h]
      exact ih _

/-- Every time that a pass leaves behind meets an interval. -/
theorem pushPast_least {y : Tq} (hy : t ≤ y) (hlt : y < pushPast w t is) : ∃ i ∈ is, y < i.2 ∧ i.1 < y + w := by
  induction is generalizing t with
  | nil => exact absurd hlt (not_lt.mpr hy)
  | cons i is ih =>
    have tail {u : Tq} (hu : u ≤ y) (h : y < pushPast w u is) : ∃ k ∈ i :: is, y < k.2 ∧ k.1 < y + w := by
      obtain ⟨k, hk, hmeet⟩ := ih hu h
      exact ⟨k, List.mem_cons_of_mem _ hk, hmeet⟩
    by_cases h : t < i.2 ∧ i.1 < t + w
    · rw [pushPast_met h] at hlt
      by_cases hend : i.2 ≤ y
      · exact tail hend hlt
      · exact ⟨i, List.mem_cons_self, not_le.mp hend, h.2.trans_le (by linarith)⟩
    · rw [pushPast_clear h] at hlt
      exact tail hy hlt

theorem pushPast_of_clearOf (h : clearOf w is t) : pushPast w t is = t := by
  induction is with
  | nil => rfl
  | cons i is ih =>
    obtain ⟨hi, his⟩ := List.forall_mem_cons.mp h
    rw [pushPast_clear (not_met_iff.mpr hi), ih his]

/-- A pass from a time that is not clear leaves an interval behind. -/
theorem pushPast_passes (h : ¬ clearOf w is t) : ∃ i ∈ is, t < i.2 ∧ i.2 ≤ pushPast w t is := by
  induction is with
  | nil => exact absurd (fun i hi => absurd hi List.not_mem_nil) h
  | cons i is ih =>
    by_cases hi : t < i.2 ∧ i.1 < t + w
    · rw [pushPast_met hi]
      exact ⟨i, List.mem_cons_self, hi.1, le_pushPast ..⟩
    · rw [pushPast_clear hi]
      obtain ⟨k, hk, hpass⟩ := ih fun his => h (List.forall_mem_cons.mpr ⟨not_met_iff.mp hi, his⟩)
      exact ⟨k, List.mem_cons_of_mem _ hk, hpass⟩

/-! ## As many passes as there are intervals -/

theorem le_firstClear (w : Int) (is : List (Tq × Tq)) (n : Nat) (t : Tq) : t ≤ firstClear w is n t := by
  induction n generalizing t with
  | zero => exact le_rfl
  | succ n ih => exact (le_pushPast w t is).trans (ih _)

theorem firstClear_least {y : Tq} (hy : t ≤ y) (hlt : y < firstClear w is n t) : ∃ i ∈ is, y < i.2 ∧ i.1 < y + w := by
  induction n generalizing t with
  | zero => exact absurd hlt (not_lt.mpr hy)
  | succ n ih =>
    by_cases hpass : pushPast w t is ≤ y
    · exact ih hpass hlt
    · exact pushPast_least hy (not_le.mp hpass)

theorem firstClear_of_clearOf (h : clearOf w is t) : firstClear w is n t = t := by
  induction n with
  | zero => rfl
  | succ n ih => rw [firstClear, pushPast_of_clearOf h, ih]

/-- Each pass that moves leaves an interval behind, so that one pass for each of those ahead is enough. -/
theorem clearOf_firstClear (h : (ahead t is).length ≤ n) : clearOf w is (firstClear w is n t) := by
  induction n generalizing t with
  | zero => exact clearOf_of_ahead_nil (List.length_eq_zero_iff.mp (Nat.le_zero.mp h))
  | succ n ih =>
    by_cases hclear : clearOf w is t
    · rw [firstClear_of_clearOf hclear]
      exact hclear
    · obtain ⟨i, hi, hbefore, hbehind⟩ := pushPast_passes hclear
      exact ih (by have := length_ahead_lt (le_pushPast w t is) hi hbefore hbehind; omega)

end Sys2Proof.Machine

/-! O14. Test pulses: settings, requests, places and results (R76 to R79, R83 to R85). -/

namespace Sys2Proof.Machine

variable {s : State} {l o : Nat} {j : TestJob} {rest : List TestJob} {p : PlacedTest}

/-! ## Commands (R76, R84, R85) -/

theorem testConfig_completes {c : TestCfg} (ha : s.admits (.testConfig o c) = true) (ho : o ≤ 127) (hallow : c.testAllow ≤ 1)
    (hmin : 2048 ≤ c.guard) (hmax : c.guard ≤ 20480) (hoff : c.testOffset ≤ 1024000) :
    completes (.testConfig o c) s (s.setTestCfg o c) .ok [] := by
  refine completes_plain (show execTestConfig o c s = _ from rfl) ha rfl rfl ?_
  simp [isBit, within, ho, hallow, hmin, hmax, hoff]

theorem testPulseRequest_completes {r : TestReq} (ha : s.admits (.testPulseRequest r) = true) (hid : r.testId ≤ 65535)
    (ho : r.output ≤ 127) (hl : r.lane ≤ 7) (hc : r.channel ≤ 63) (hw : within 512 32768 r.width = true) (hm : r.mode ≤ 1)
    (hok : r.earliest.ok = true) (hd : within 1024 1024000000 r.deadline = true) (hp : s.testPending r.testId = false)
    (hallow : (s.testCfg r.output).testAllow ≠ 0) (hroom : (s.lane r.lane).length < 16) (hpll : s.isReady readyPll = true)
    (hhg : s.isReady (readyHg r.lane) = true) (hlate : s.now < s.earliestOf r + r.deadline) :
    completes (.testPulseRequest r) s (s.setLane r.lane (s.lane r.lane ++ [s.testJob r none])) .accepted [] := by
  refine completes_row (show execTestPulseRequest r s = _ from rfl) ha rfl rfl (by decide) rfl ?_
  have hp' : s.release.testPending r.testId = false := hp
  have hallow' : (s.release.testCfg r.output).testAllow ≠ 0 := hallow
  have hroom' : (s.release.lane r.lane).length < 16 := hroom
  have hpll' : s.release.isReady readyPll = true := hpll
  have hhg' : s.release.isReady (readyHg r.lane) = true := hhg
  have hlate' : s.release.now < s.release.earliestOf r + r.deadline := hlate
  simp [Body.gives, isBit, hid, ho, hl, hc, hw, hm, hok, hd, hp', hallow', hroom', hpll', hhg', hlate']

theorem testResultRead_completes {i : Nat} {r : TestRecord} (ha : s.admits (.testResultRead i) = true)
    (hp : s.testPending i = false) (hr : (s.tx.records.find? fun x => decide (x.testId = i)) = some r) :
    completes (.testResultRead i) s s .ok (testRecordFields r) := by
  have hp' : s.release.testPending i = false := hp
  have hr' : (s.release.tx.records.find? fun x => decide (x.testId = i)) = some r := hr
  refine completes_row (s' := s.release) (show execTestResultRead i s = _ from rfl) ha rfl ?_ (by decide) s.core_release ?_
  · dsimp only
    rw [hr']
    rfl
  · simp [Body.returns, hp', hr']

/-! ## Places (R76 to R79) -/

/-- Where a request that may be placed from `t` on finds its place. -/
def State.placeFrom (s : State) (j : TestJob) (t : Tq) : Tq :=
  firstClear j.req.width (s.protectedOf j.req.output) (s.protectedOf j.req.output).length t

/-- A request placed at `x`. -/
def State.placedAt (s : State) (j : TestJob) (x : Tq) : TestJob :=
  { j with placed := some { rise := x, fall := x + j.req.width, cut := false, shortGuard := false,
                            guard := (s.testCfg j.req.output).guard, inSlot := decide (j.req.mode = 1 ∧ j.retries = 0) } }

/-- The time from which a request may be placed: in GAP mode, or when it has been suppressed before, from now or its own time
on, in SLOT mode from its place in the test slot (R78, R79). -/
theorem State.testFrom_of {t : Tq} (h : (j.req.mode = 0 ∨ 0 < j.retries) ∧ t = max j.notBefore s.now ∨
    (j.req.mode ≠ 0 ∧ j.retries = 0 ∧ s.now ≤ t ∧ ∃ n slot, s.seqOfOutput j.req.output = some n ∧
      (s.seq n).testSlot = some slot ∧ t = slot + (s.testCfg j.req.output).testOffset)) : s.testFrom j = some t := by
  unfold State.testFrom
  rcases h with ⟨hgap, rfl⟩ | ⟨hmode, hfirst, hnow, n, slot, hseq, hslot, rfl⟩
  · exact if_pos hgap
  · rw [if_neg (by omega), hseq]
    dsimp only
    rw [hslot]
    exact if_pos hnow

section
variable {t : Tq} (hl : l ≤ 7) (hlock : s.pll.locked = true) (hj : s.lane l = j :: rest) (hp : j.placed = none)
  (hfrom : s.testFrom j = some t)
include hl hlock hj hp hfrom

theorem exec_testPulsePlace : exec (.testPulsePlace l) s =
    if (s.testCfg j.req.output).testAllow = 0 then .next s
    else if j.deadline < s.placeFrom j t + j.req.width then .next (s.finishTest l j 2 0)
    else .next (s.setLane l (s.placedAt j (s.placeFrom j t) :: rest)) := by
  change execTestPulsePlace l s = _
  unfold execTestPulsePlace
  rw [if_neg (Nat.not_lt.mpr hl), hlock, hj]
  dsimp only
  rw [hp, hfrom]
  rfl

theorem testPulsePlace_notAllowed (ha : (s.testCfg j.req.output).testAllow = 0) : exec (.testPulsePlace l) s = .next s := by
  rw [exec_testPulsePlace hl hlock hj hp hfrom, if_pos ha]

theorem testPulsePlace_places (ha : (s.testCfg j.req.output).testAllow ≠ 0)
    (hd : s.placeFrom j t + j.req.width ≤ j.deadline) :
    exec (.testPulsePlace l) s = .next (s.setLane l (s.placedAt j (s.placeFrom j t) :: rest)) := by
  rw [exec_testPulsePlace hl hlock hj hp hfrom, if_neg ha, if_neg (not_lt.mpr hd)]

theorem testPulsePlace_expires (ha : (s.testCfg j.req.output).testAllow ≠ 0)
    (hd : j.deadline < s.placeFrom j t + j.req.width) : exec (.testPulsePlace l) s = .next (s.finishTest l j 2 0) := by
  rw [exec_testPulsePlace hl hlock hj hp hfrom, if_neg ha, if_pos hd]

end

/-! ## Protected intervals (R77) -/

/-- What an output protects about a burst that it holds. -/
def State.protects (s : State) (o : Nat) (b : Burst) : Tq × Tq := (b.rises.headD 0 - s.guardOf o, b.stop + s.guardOf o)

theorem State.protects_mem {b : Burst} (h : b ∈ s.heldBursts o) (hcut : b.cutAt = none) : s.protects o b ∈ s.protectedOf o :=
  List.mem_append_right _ (List.mem_map_of_mem (List.mem_filter.mpr ⟨h, by rw [hcut]; rfl⟩))

theorem State.register_mem_heldBursts {b : Burst} (h : (s.out o).active = some b ∨ (s.out o).next = some b) :
    b ∈ s.heldBursts o := by
  refine List.mem_append_left _ ?_
  rcases h with h | h
  · exact List.mem_append_left _ (Option.mem_toList.mpr h)
  · exact List.mem_append_right _ (Option.mem_toList.mpr h)

theorem State.entry_mem_heldBursts {e : Entry} (h : e ∈ (s.out o).sched) : burstOf (s.out o) e 0 0 ∈ s.heldBursts o :=
  List.mem_append_right _ (List.mem_map_of_mem h)

theorem State.lastFall_protected {f : Tq} (h : (s.out o).lastFall = some f) : (f, f + s.guardOf o) ∈ s.protectedOf o :=
  List.mem_append_left _ (List.mem_map_of_mem (f := fun f => (f, f + s.guardOf o)) (Option.mem_toList.mpr h))

/-! ## A request ends (R82 to R85) -/

/-- The lane of a request that ends serves the next one; what the pulse injected marks gates and blanks edges. -/
def State.laneServed (s : State) (l : Nat) (j : TestJob) : State :=
  let s := s.modLane l fun q => q.drop 1
  match j.placed with
  | some p => if s.reached (p.rise - 2048) then s.keepBlanked (s.injection l j p) else s
  | none => s

theorem State.finishTest_request (hu : j.unit = none) (st : Nat) (m : Int) : s.finishTest l j st m =
    { s.laneServed l j with tx := { (s.laneServed l j).tx with
        records := ((s.laneServed l j).testRecord l j st m :: (s.laneServed l j).tx.records).take 256 } } := by
  unfold State.finishTest
  rw [hu]
  rfl

theorem State.laneServed_unplaced (hj : s.lane l = j :: rest) (hp : j.placed = none) : s.laneServed l j = s.setLane l rest := by
  unfold State.laneServed
  rw [hp]
  dsimp only
  rw [State.modLane, hj]
  rfl

theorem State.laneServed_frame (s : State) (l : Nat) (j : TestJob) :
    (s.laneServed l j).sq = s.sq ∧ (s.laneServed l j).tb = s.tb ∧ (s.laneServed l j).sv = s.sv := by
  unfold State.laneServed
  dsimp only
  split
  · split
    · exact ⟨rfl, rfl, rfl⟩
    · exact ⟨rfl, rfl, rfl⟩
  · exact ⟨rfl, rfl, rfl⟩

/-- The record of a request that ends is the newest. -/
theorem State.finishTest_record (s : State) (l : Nat) (hu : j.unit = none) (st : Nat) (m : Int) :
    ∃ r, (s.finishTest l j st m).tx.records.head? = some r ∧ r.testId = j.req.testId ∧ r.status = st ∧ r.measured = m ∧
      (∀ p, j.placed = some p → r.rise = p.rise) ∧ (s.finishTest l j st m).sq = s.sq ∧ (s.finishTest l j st m).tb = s.tb ∧
      (s.finishTest l j st m).sv = s.sv := by
  obtain ⟨hsq, htb, hsv⟩ := s.laneServed_frame l j
  rw [State.finishTest_request hu]
  refine ⟨_, rfl, rfl, rfl, rfl, fun p hp => ?_, hsq, htb, hsv⟩
  rw [State.testRecord, hp]

/-- The end of a request that was never placed changes its lane and the records alone. -/
theorem State.finishTest_unplaced (hj : s.lane l = j :: rest) (hp : j.placed = none) (hu : j.unit = none) (st : Nat) (m : Int) :
    s.finishTest l j st m =
      { s.setLane l rest with tx := { (s.setLane l rest).tx with records := (s.finishTest l j st m).tx.records } } := by
  rw [State.finishTest_request hu, State.laneServed_unplaced hj hp]

theorem exec_testPulseResult_stamp {x : Tq} (hl : l ≤ 7) (hj : s.lane l = j :: rest) (hp : j.placed = some p)
    (hcut : p.cut = false) (hfall : s.reached p.fall = true) (hx : p.rise ≤ x ∧ x ≤ p.rise + 65536) :
    exec (.testPulseResult l (some x)) s = .next (s.finishTest l j 0 (x - p.rise - s.laneDelay l)) := by
  change execTestPulseResult l (some x) s = _
  unfold execTestPulseResult
  rw [if_neg (Nat.not_lt.mpr hl), hj]
  dsimp only
  rw [hp]
  dsimp only
  rw [hfall, hcut, if_pos hx]
  rfl

theorem exec_testPulseResult_noHit (hl : l ≤ 7) (hj : s.lane l = j :: rest) (hp : j.placed = some p)
    (hfall : s.reached p.fall = true) (hover : s.reached (p.rise + 65536) = true) :
    exec (.testPulseResult l none) s = .next (s.finishTest l j 3 0) := by
  change execTestPulseResult l none s = _
  unfold execTestPulseResult
  rw [if_neg (Nat.not_lt.mpr hl), hj]
  dsimp only
  rw [hp]
  dsimp only
  rw [hfall, hover]
  rfl

theorem exec_testPulseDeadline (hl : l ≤ 7) (hj : s.lane l = j :: rest) (hp : j.placed = none)
    (hover : s.reached j.deadline = true) : exec (.testPulseDeadline l) s = .next (s.finishTest l j 2 0) := by
  change execTestPulseDeadline l s = _
  unfold execTestPulseDeadline
  rw [if_neg (Nat.not_lt.mpr hl), hj]
  dsimp only
  rw [hp, hover]
  rfl

/-- Settles O14: the place of a request is the first that is clear, and the end of a request is told by its record. -/
theorem testPulses : Obligations.TestPulses := by
  unfold Obligations.TestPulses
  refine ⟨?config, ?request, ?read, ?place, ?protect, ?stamp, ?noHit, ?deadline⟩
  case config => exact fun s o c ha ho hallow hmin hmax hoff => testConfig_completes ha ho hallow hmin hmax hoff
  case request =>
    intro s r ha hid ho hl hc hw hw' hm hok hd hd' hp hallow hroom hpll hhg hlate
    exact testPulseRequest_completes ha hid ho hl hc (decide_eq_true ⟨hw, hw'⟩) hm hok (decide_eq_true ⟨hd, hd'⟩) hp hallow
      hroom hpll hhg hlate
  case read => exact fun s i r ha hp hr => testResultRead_completes ha hp hr
  case place =>
    rintro s l j rest w t hl hlock hj hp rfl ht
    have hfrom := State.testFrom_of ht
    refine ⟨fun ha => ⟨s.placeFrom j t, le_firstClear .., clearOf_firstClear (List.length_filter_le ..),
      fun y hy hlt => firstClear_least hy hlt, testPulsePlace_places hl hlock hj hp hfrom ha, fun hd hu => ?_⟩,
      testPulsePlace_notAllowed hl hlock hj hp hfrom⟩
    obtain ⟨r, hr, hid, hst, -, -, hsq, htb, hsv⟩ := s.finishTest_record l hu 2 0
    refine ⟨_, r, testPulsePlace_expires hl hlock hj hp hfrom ha hd, hr, hid, hst, ?_, hsq, htb, hsv⟩
    rw [State.finishTest_unplaced hj hp hu]
    exact State.lane_setLane_self ..
  case protect =>
    exact fun s o => ⟨fun b hb hcut => State.protects_mem (State.register_mem_heldBursts hb) hcut,
      fun e he => State.protects_mem (State.entry_mem_heldBursts he) rfl, fun f hf => State.lastFall_protected hf⟩
  case stamp =>
    intro s l j rest p x hl hj hp hu hcut hfall hlo hhi
    obtain ⟨r, hr, hid, hst, hm, hrise, hframe⟩ := s.finishTest_record l hu 0 (x - p.rise - s.laneDelay l)
    exact ⟨_, r, exec_testPulseResult_stamp hl hj hp hcut hfall ⟨hlo, hhi⟩, hr, hid, hst, hm, hrise p hp, hframe⟩
  case noHit =>
    intro s l j rest p hl hj hp hu hfall hover
    obtain ⟨r, hr, hid, hst, -, -, hframe⟩ := s.finishTest_record l hu 3 0
    exact ⟨_, r, exec_testPulseResult_noHit hl hj hp hfall hover, hr, hid, hst, hframe⟩
  case deadline =>
    intro s l j rest hl hj hp hu hover
    obtain ⟨r, hr, hid, hst, -⟩ := s.finishTest_record l hu 2 0
    exact ⟨_, r, exec_testPulseDeadline hl hj hp hover, hr, hid, hst,
      congrArg State.core (State.finishTest_unplaced hj hp hu 2 0)⟩

end Sys2Proof.Machine

/-! SUPPORT. Readings, values in force, runs that are due, and over-temperature (R312, R315, R446). -/

namespace Sys2Proof.Machine

variable {s : State} {k : Nat} {t : Int} {rs : List Int}

/-! ## Readings and values (R312) -/

/-- The sensors with their readings. -/
def State.readSensors (s : State) (rs : List Int) : State :=
  ((List.range 16).zip rs).foldl (fun s p => s.setSensor p.1 p.2) s

/-- Readings from number `a` on: each of those sensors has its own, and no other changes. -/
theorem State.setSensors_from (s : State) (a : Nat) (rs : List Int) :
    (∃ l, ((List.range' a rs.length).zip rs).foldl (fun s p => s.setSensor p.1 p.2) s =
      { s with cal := { s.cal with sensors := l } }) ∧
    ∀ k, (((List.range' a rs.length).zip rs).foldl (fun s p => s.setSensor p.1 p.2) s).sensor k =
      if k < a then s.sensor k else rs.getD (k - a) (s.sensor k) := by
  induction rs generalizing s a with
  | nil => exact ⟨⟨_, rfl⟩, fun k => by simp⟩
  | cons r rs ih =>
    obtain ⟨⟨l, hl⟩, hread⟩ := ih (s.setSensor a r) (a + 1)
    refine ⟨⟨l, hl⟩, fun k => (hread k).trans ?_⟩
    rcases Nat.lt_trichotomy k a with hlt | rfl | hgt
    · rw [if_pos (by omega), if_pos hlt, State.sensor_setSensor_ne _ _ _ _ hlt.ne]
    · simp
    · obtain ⟨d, rfl⟩ := Nat.exists_eq_add_of_lt hgt
      rw [if_neg (by omega), if_neg (by omega), State.sensor_setSensor_ne _ _ _ _ hgt.ne']
      simp [show a + d + 1 - (a + 1) = d by omega, show a + d + 1 - a = d + 1 by omega]

theorem State.readSensors_eq (s : State) (hl : rs.length = 16) :
    (∃ l, s.readSensors rs = { s with cal := { s.cal with sensors := l } }) ∧
    ∀ k < 16, (s.readSensors rs).sensor k = rs.getD k 0 := by
  have hall : s.readSensors rs = ((List.range' 0 rs.length).zip rs).foldl (fun s p => s.setSensor p.1 p.2) s := by
    rw [hl, ← List.range_eq_range']
    rfl
  obtain ⟨hstate, hread⟩ := s.setSensors_from 0 rs
  rw [hall]
  refine ⟨hstate, fun k hk => (hread k).trans ?_⟩
  simp [hl, hk]

/-- The sensors with their readings, and what follows from them in force. -/
def State.warmed (s : State) (rs : List Int) : State := (s.readSensors rs).refreshCal

theorem State.calValues_setCalForce (s : State) (k : Nat) (v : Tab Int) (o : Nat) :
    (s.setCalForce k v).calValues o = s.calValues o := rfl

/-- Each object of temperature sets has its interpolation in force. -/
theorem State.calForce_refreshCal (s : State) :
    ∀ o ∈ [calOut, calIn, calLane, calTof], s.refreshCal.calForce o = s.refreshCal.calValues o := by
  simp only [State.refreshCal, State.each, List.foldl_cons, List.foldl_nil, State.calValues_setCalForce]
  simp [State.calForce_setCalForce_ne, calOut, calIn, calLane, calTof]

theorem State.refreshCal_eq (s : State) : ∃ f, s.refreshCal = { s with cal := { s.cal with inForce := f } } := by
  refine State.each_keeps s (fun t => ∃ f, t = { s with cal := { s.cal with inForce := f } }) _ _ ?_ ⟨s.cal.inForce, rfl⟩
  rintro t o - ⟨f, rfl⟩
  exact ⟨_, rfl⟩

theorem State.warmed_eq (s : State) (hl : rs.length = 16) :
    (∃ l f, s.warmed rs = { s with cal := { s.cal with sensors := l, inForce := f } }) ∧
    (∀ k < 16, (s.warmed rs).sensor k = rs.getD k 0) ∧
    ∀ o ∈ [calOut, calIn, calLane, calTof], (s.warmed rs).calForce o = (s.warmed rs).calValues o := by
  obtain ⟨⟨l, hstate⟩, hread⟩ := s.readSensors_eq hl
  obtain ⟨f, hforce⟩ := (s.readSensors rs).refreshCal_eq
  refine ⟨⟨l, f, ?_⟩, fun k hk => ?_, State.calForce_refreshCal _⟩
  · rw [State.warmed, hforce, hstate]
  · rw [State.warmed, hforce, ← hread k hk]
    rfl

/-! ## Runs that are due (R314, R315) -/

/-- A function that has not run yet is not scheduled by the die temperature. -/
theorem State.scheduleIdle_unrun (h : (s.calRunState k).done = false) : s.scheduleIdle k = s := by
  unfold State.scheduleIdle
  dsimp only
  rw [h, Bool.false_and]
  rfl

theorem State.scheduleIdle_moved (hd : (s.calRunState k).done = true)
    (hm : 8 * s.cal.cfg.deltaT < (s.dieTemp - (s.calRunState k).reading 0).natAbs) :
    s.scheduleIdle k = s.setCalRunState k ((s.calRunState k).ask [0]) := by
  unfold State.scheduleIdle
  dsimp only
  rw [hd, decide_eq_true hm]
  rfl

theorem CalRunState.mem_scheduled_ask (r : CalRunState) (u : Nat) : u ∈ (r.ask [u]).scheduled := by
  by_cases h : u ∈ r.scheduled
  · exact List.mem_append_left _ h
  · exact List.mem_append_right _ (by simp [h])

theorem State.scheduleIdle_runs (s : State) (k : Nat) : ∃ r, s.scheduleIdle k = { s with cal := { s.cal with runs := r } } := by
  unfold State.scheduleIdle
  dsimp only
  split
  · exact ⟨_, rfl⟩
  · exact ⟨s.cal.runs, rfl⟩

/-- Nonlinearity runs and skew tracking that the temperature calls for are scheduled, where AUTO allows. -/
def State.scheduleAuto (s : State) : State :=
  let a := s.cal.cfg.auto
  let nl := s.calRunState 0
  let sk := s.calRunState 1
  let s := if a % 2 = 1 then
      s.setCalRunState 0 (nl.ask ((List.range nlInputs).filter fun i => s.moved nl i (inSensor i)))
    else s
  if a / 2 % 2 = 1 then s.setCalRunState 1 (sk.ask ((List.range 16).filter fun k => s.moved sk k k)) else s

theorem State.scheduleRuns_eq (s : State) : s.scheduleRuns = (s.scheduleAuto.scheduleIdle 3).scheduleIdle 4 := rfl

theorem State.scheduleAuto_runs (s : State) : (∃ r, s.scheduleAuto = { s with cal := { s.cal with runs := r } }) ∧
    ∀ k, 1 < k → s.scheduleAuto.calRunState k = s.calRunState k := by
  have hset (u : State) (j : Nat) (hj : j ≤ 1) (v : CalRunState) (k : Nat) (hk : 1 < k) :
      (u.setCalRunState j v).calRunState k = u.calRunState k := State.calRunState_setCalRunState_ne _ _ _ _ (by omega)
  unfold State.scheduleAuto
  dsimp only
  split
  · split
    · exact ⟨⟨_, rfl⟩, fun k hk => (hset _ 1 le_rfl _ k hk).trans (hset _ 0 (by omega) _ k hk)⟩
    · exact ⟨⟨_, rfl⟩, hset s 1 le_rfl _⟩
  · split
    · exact ⟨⟨_, rfl⟩, hset s 0 (by omega) _⟩
    · exact ⟨⟨s.cal.runs, rfl⟩, fun _ _ => rfl⟩

theorem State.scheduleRuns_runs (s : State) : ∃ r, s.scheduleRuns = { s with cal := { s.cal with runs := r } } := by
  obtain ⟨⟨a, hauto⟩, -⟩ := s.scheduleAuto_runs
  obtain ⟨b, hbist⟩ := s.scheduleAuto.scheduleIdle_runs 3
  obtain ⟨c, hrecal⟩ := (s.scheduleAuto.scheduleIdle 3).scheduleIdle_runs 4
  exact ⟨c, by rw [State.scheduleRuns_eq, hrecal, hbist, hauto]⟩

/-- Neither idle-only function is scheduled, and none has run. -/
def State.idleUnrun (s : State) : Prop :=
  ∀ k ∈ [(3 : Nat), 4], (s.calRunState k).scheduled = [] ∧ (s.calRunState k).done = false

theorem State.calRunState_scheduleRuns (h : s.idleUnrun) :
    ∀ k ∈ [(3 : Nat), 4], s.scheduleRuns.calRunState k = s.calRunState k := by
  obtain ⟨-, hauto⟩ := s.scheduleAuto_runs
  have hdone (k : Nat) (hk : k ∈ [(3 : Nat), 4]) (h1 : 1 < k) : (s.scheduleAuto.calRunState k).done = false := by
    rw [hauto k h1]
    exact (h k hk).2
  rw [State.scheduleRuns_eq, State.scheduleIdle_unrun (hdone 3 (by decide) (by decide)),
    State.scheduleIdle_unrun (hdone 4 (by decide) (by decide))]
  exact fun k hk => hauto k (by simp at hk; omega)

/-- Idle-only functions begin in Ready-idle alone, where they are scheduled. -/
theorem State.startIdle_none (h : s.dev.run = .readyIdle → ∀ k ∈ [(3 : Nat), 4], (s.calRunState k).scheduled = []) :
    s.startIdle = s := by
  by_cases hr : s.dev.run = .readyIdle
  · have hbist : s.startBist = s := if_pos (.inl (by rw [h hr 3 (by decide)]; rfl))
    unfold State.startIdle
    dsimp only
    rw [hbist, h hr 4 (by decide)]
    exact if_neg (by simp)
  · have hbist : s.startBist = s := if_pos (.inr (.inr (.inl hr)))
    unfold State.startIdle
    dsimp only
    rw [hbist]
    exact if_neg fun hidle => hr hidle.1

/-! ## Over-temperature (R446) -/

/-- Some sensor reads `t` or more. -/
def State.heated (s : State) (t : Int) : Bool := (List.range 16).any fun k => decide (t ≤ s.sensor k)

theorem State.watchHeat_eq (s : State) : s.watchHeat =
    let hot := s.heated 1080 || (s.cal.hot && s.heated 1040)
    let u : State := { s with cal := { s.cal with hot := hot } }
    let u := if hot then u.safeStop else u
    if s.heated 1080 && !s.cal.hot then u.cause 3 else u := rfl

theorem State.heated_iff (hl : rs.length = 16) (hr : ∀ k < 16, s.sensor k = rs.getD k 0) :
    s.heated t = true ↔ ∃ r ∈ rs, t ≤ r := by
  simp only [State.heated, List.any_eq_true, List.mem_range, decide_eq_true_eq]
  constructor
  · rintro ⟨k, hk, hle⟩
    rw [hr k hk, List.getD_eq_getElem _ _ (hl ▸ hk)] at hle
    exact ⟨_, List.getElem_mem _, hle⟩
  · rintro ⟨r, hmem, hle⟩
    obtain ⟨k, hk, rfl⟩ := List.getElem_of_mem hmem
    refine ⟨k, hl ▸ hk, ?_⟩
    rw [hr k (hl ▸ hk), List.getD_eq_getElem _ _ hk]
    exact hle

theorem State.watchHeat_cool (h : s.heated 1040 = false) (h' : s.heated 1080 = false) :
    s.watchHeat = { s with cal := { s.cal with hot := false } } := by
  rw [State.watchHeat_eq, h, h', Bool.and_false]
  rfl

theorem State.watchHeat_begins (hot : s.cal.hot = false) (h : s.heated 1080 = true) :
    s.watchHeat = ({ s with cal := { s.cal with hot := true } } : State).safeStop.cause 3 := by
  rw [State.watchHeat_eq, h, hot]
  rfl

/-! ## TEMPERATURE_UPDATE -/

theorem exec_temperatureUpdate (hl : rs.length = 16) (hr : s.dev.rstLow = false) : exec (.temperatureUpdate rs) s =
    if s.dev.fwRunning then .next (s.warmed rs).scheduleRuns.startIdle.watchHeat else .next (s.warmed rs) := by
  change execTemperatureUpdate rs s = _
  unfold execTemperatureUpdate
  obtain ⟨⟨l, f, hwarm⟩, -, -⟩ := s.warmed_eq hl
  have hfw : (s.warmed rs).dev.fwRunning = s.dev.fwRunning := by rw [hwarm]
  rw [hr, if_neg Bool.false_ne_true, ← hfw]
  rfl

/-- With the firmware: readings, values in force and runs that are due, before the watch on the heat. -/
theorem temperatureUpdate_schedules (hl : rs.length = 16) (hr : s.dev.rstLow = false) (hf : s.dev.fwRunning = true)
    (hidle : s.dev.run = .readyIdle → s.idleUnrun) :
    ∃ u : State, exec (.temperatureUpdate rs) s = .next u.watchHeat ∧ (∀ k < 16, u.sensor k = rs.getD k 0) ∧
      (∀ o ∈ [calOut, calIn, calLane, calTof], u.calForce o = u.calValues o) ∧
      u = { s with cal := { s.cal with sensors := u.cal.sensors, inForce := u.cal.inForce, runs := u.cal.runs } } := by
  obtain ⟨⟨l, f, hwarm⟩, hread, hforce⟩ := s.warmed_eq hl
  have hexec := exec_temperatureUpdate hl hr
  rw [if_pos hf] at hexec
  generalize s.warmed rs = w at hwarm hread hforce hexec
  have hruns (k : Nat) : w.calRunState k = s.calRunState k := by rw [hwarm]; rfl
  obtain ⟨r, hsched⟩ := w.scheduleRuns_runs
  have hstart : w.scheduleRuns.startIdle = w.scheduleRuns := by
    refine State.startIdle_none fun hready k hk => ?_
    rw [hsched, hwarm] at hready
    have hunrun : w.idleUnrun := fun k hk => hruns k ▸ hidle hready k hk
    rw [State.calRunState_scheduleRuns hunrun k hk]
    exact (hunrun k hk).1
  refine ⟨w.scheduleRuns, hstart ▸ hexec, ?_, ?_, ?_⟩
  · rw [hsched]
    exact hread
  · rw [hsched]
    exact hforce
  · rw [hsched, hwarm]

end Sys2Proof.Machine

/-! SUPPORT. Nonlinearity runs and skew tracking (R82, R308, R315 to R317). -/

namespace Sys2Proof.Machine

variable {s : State} {i k : Nat} {hs : List (List Nat)}

/-! ## Nonlinearity runs (R82, R308, R315, R316) -/

theorem exec_nonlinearityRun (hi : i < 576) (hf : s.dev.fwRunning = true) (hm : i ∈ (s.calRunState 0).scheduled) :
    exec (.nonlinearityRun i hs ⟨none⟩) s =
      .next (if runPasses hs then s.newVernier i (hs.map tablesOf) else s.nlFailed i) := by
  change execNonlinearityRun i hs ⟨none⟩ s = _
  unfold execNonlinearityRun nlInputs
  rw [if_neg (Nat.not_le.mpr hi), if_pos ⟨hf, List.contains_iff_mem.mpr hm⟩]

/-- A run that injected during gates marks them and blanks edges, and is else as one that found a gap. -/
theorem exec_nonlinearityRun_during (hi : i < 512) (hf : s.dev.fwRunning = true) (hm : i ∈ (s.calRunState 0).scheduled)
    (a b : Tq) : exec (.nonlinearityRun i hs ⟨some (a, b)⟩) s = exec (.nonlinearityRun i hs ⟨none⟩)
      (s.keepBlanked { channel := i, lo := a, hi := b, interleaved := true }) := by
  refine Eq.trans ?_ (exec_nonlinearityRun (s := s.keepBlanked _) (by omega) hf hm).symm
  change execNonlinearityRun i hs ⟨some (a, b)⟩ s = _
  unfold execNonlinearityRun nlInputs
  rw [if_neg (by omega), if_pos ⟨hf, List.contains_iff_mem.mpr hm⟩]
  dsimp only
  rw [if_pos hi]

/-- The states differ in input `i` alone. -/
def State.inputOnly (s t : State) (i : Nat) : Prop := s.inputsOnly t ∧ ∀ j, j ≠ i → t.input j = s.input j

theorem State.inputOnly.modInput {t : State} (h : s.inputOnly t i) (f : InputState → InputState) :
    s.inputOnly (t.modInput i f) i := by
  obtain ⟨hstate, hother⟩ := h
  exact ⟨hstate.modInput i f, fun j hj => (State.input_setInput_ne _ _ _ _ hj).trans (hother j hj)⟩

theorem State.conv_modConv_self (s : State) (i k : Nat) (f : Converter → Converter) :
    (s.modConv i k f).conv i k = f (s.conv i k) := by
  rw [State.conv, State.modConv, State.modInput, State.input_setInput_self, Tab.get_put_self]
  rfl

theorem State.conv_modConv_ne (s : State) (i : Nat) {k j : Nat} (hj : j ≠ k) (f : Converter → Converter) :
    (s.modConv i k f).conv i j = s.conv i j := by
  rw [State.conv, State.modConv, State.modInput, State.input_setInput_self, Tab.get_put_ne _ _ _ _ _ _ hj]
  rfl

/-- Each of the four converters of an input changed. -/
theorem State.conv_each_modConv (s : State) (i : Nat) (f : Nat → Converter → Converter) (hk : k < 4) :
    (s.each (List.range 4) fun s k => s.modConv i k (f k)).conv i k = f k (s.conv i k) := by
  change ((((s.modConv i 0 (f 0)).modConv i 1 (f 1)).modConv i 2 (f 2)).modConv i 3 (f 3)).conv i k = _
  obtain rfl | rfl | rfl | rfl : k = 0 ∨ k = 1 ∨ k = 2 ∨ k = 3 := by omega
  all_goals simp [State.conv_modConv_self, State.conv_modConv_ne]

/-- The four converters of an input with tables of their own. -/
def State.setTables (s : State) (i : Nat) (ts : List VernierTables) : State :=
  s.each (List.range 4) fun s k => s.modConv i k fun v => { v with tables := ts.getD k v.tables }

theorem State.applyTables_some {ts : List VernierTables} (h : (s.input i).newTables = some ts) :
    s.applyTables i = (s.setTables i ts).modInput i fun x => { x with newTables := none, table := x.table + 1 } := by
  unfold State.applyTables
  rw [h]
  rfl

theorem State.conv_setTables {ts : List VernierTables} {v : VernierTables} (hk : k < 4) (hv : ts[k]? = some v) :
    ((s.setTables i ts).conv i k).tables = v := by
  rw [State.setTables, State.conv_each_modConv s i (fun k x => { x with tables := ts.getD k x.tables }) hk]
  simp [List.getD_eq_getElem?_getD, hv]

/-- An input with new tables: in force at once where it opens no gates. -/
def State.renewTables (s : State) (i : Nat) (ts : List VernierTables) : State :=
  let s := s.modInput i fun x => { x with newTables := some ts }
  if s.opensGates i then s else s.applyTables i

theorem State.newVernier_eq (s : State) (i : Nat) (ts : List VernierTables) : s.newVernier i ts =
    (s.renewTables i ts).modCalRunState 0 fun r =>
      r.ran i ((s.renewTables i ts).sensor (inSensor i)) (s.renewTables i ts).now := rfl

/-- New tables wait at an input that opens gates. -/
theorem State.renewTables_waits {ts : List VernierTables} (h : s.opensGates i = true) :
    s.renewTables i ts = s.modInput i fun x => { x with newTables := some ts } := if_pos h

/-- New tables of an input that opens no gates are in force at once. -/
theorem State.renewTables_applies {ts : List VernierTables} (h : s.opensGates i = false) : s.renewTables i ts =
    ((s.modInput i fun x => { x with newTables := some ts }).setTables i ts).modInput i fun x =>
      { x with newTables := none, table := x.table + 1 } := by
  have hopens : (s.modInput i fun x => { x with newTables := some ts }).opensGates i = false := h
  have hnew : ((s.modInput i fun x => { x with newTables := some ts }).input i).newTables = some ts :=
    congrArg InputState.newTables (State.input_setInput_self ..)
  unfold State.renewTables
  dsimp only
  rw [hopens, if_neg Bool.false_ne_true, State.applyTables_some hnew]

theorem State.inputOnly_renewTables (s : State) (i : Nat) (ts : List VernierTables) : s.inputOnly (s.renewTables i ts) i := by
  have hstored := State.inputOnly.modInput (s := s) (t := s) (i := i) ⟨⟨_, rfl⟩, fun _ _ => rfl⟩
    fun x => { x with newTables := some ts }
  cases h : s.opensGates i with
  | true =>
    rw [State.renewTables_waits h]
    exact hstored
  | false =>
    rw [State.renewTables_applies h]
    exact State.inputOnly.modInput (State.each_keeps _ (s.inputOnly · i) _ _ (fun _ _ _ ht => ht.modInput _) hstored) _

theorem State.conv_clearNewTables (s : State) (i k : Nat) :
    (s.modInput i fun x => { x with newTables := none, table := x.table + 1 }).conv i k = s.conv i k := by
  rw [State.conv, State.modInput, State.input_setInput_self, State.conv]

theorem State.conv_renewTables {ts : List VernierTables} (h : s.opensGates i = false) :
    ((s.renewTables i ts).input i).newTables = none ∧
      ∀ k < 4, ∀ v, ts[k]? = some v → ((s.renewTables i ts).conv i k).tables = v := by
  rw [State.renewTables_applies h]
  refine ⟨congrArg InputState.newTables (State.input_setInput_self ..), fun k hk v hv => ?_⟩
  rw [State.conv_clearNewTables]
  exact State.conv_setTables hk hv

/-- An input whose run passes has its new tables, and its run is noted. -/
theorem State.newVernier_passes (s : State) (i : Nat) (ts : List VernierTables) (t : State) (ht : t = s.newVernier i ts) :
    i ∉ (t.calRunState 0).scheduled ∧ (t.calRunState 0).lastTime = s.now ∧
      (t.calRunState 0).lastReading = s.sensor (inSensor i) ∧ (t.calRunState 0).reading i = s.sensor (inSensor i) ∧
      (s.opensGates i = true → (t.input i).newTables = some ts ∧ (t.input i).convs = (s.input i).convs) ∧
      (s.opensGates i = false → (t.input i).newTables = none ∧ ∀ k < 4, ∀ v, ts[k]? = some v →
        (Tab.get Converter.reset (t.input i).convs k).tables = v) ∧
      (∀ j, j ≠ i → t.input j = s.input j) ∧
      t = { s with cal := { s.cal with runs := t.cal.runs }, rx := { s.rx with inputs := t.rx.inputs } } := by
  obtain ⟨⟨l, hstate⟩, hother⟩ := s.inputOnly_renewTables i ts
  have hinput (j : Nat) : t.input j = (s.renewTables i ts).input j := by rw [ht]; rfl
  have hruns : t.calRunState 0 = (s.calRunState 0).ran i (s.sensor (inSensor i)) s.now := by
    rw [ht, State.newVernier_eq, hstate]
    exact State.calRunState_setCalRunState_self ..
  rw [hruns]
  refine ⟨by simp [CalRunState.ran, CalRunState.ended, CalRunState.drop], rfl, rfl, Tab.get_put_self .., fun h => ?_, fun h => ?_,
    fun j hj => (hinput j).trans (hother j hj), ?_⟩
  · rw [hinput, State.renewTables_waits h, State.modInput, State.input_setInput_self]
    exact ⟨rfl, rfl⟩
  · rw [hinput]
    exact State.conv_renewTables h
  · rw [ht, State.newVernier_eq, hstate]
    rfl

/-! ## Skew tracking (R315, R317) -/

/-- The states differ in the lanes' queues alone. -/
def State.lanesOnly (s t : State) : Prop := ∃ l, t = { s with tx := { s.tx with lanes := l } }

theorem State.lanesOnly_feedUnit (w d : Nat) {p : State × List SkewUnit} (h : s.lanesOnly p.1) (u : SkewUnit) :
    s.lanesOnly (State.feedUnit w d p u).1 := by
  obtain ⟨l, hl⟩ := h
  unfold State.feedUnit
  dsimp only
  split
  · exact ⟨l, hl⟩
  · split
    · exact ⟨l, hl⟩
    · rw [hl]
      exact ⟨_, rfl⟩

theorem State.lanesOnly_feedUnits (w d : Nat) (us : List SkewUnit) {p : State × List SkewUnit} (h : s.lanesOnly p.1) :
    s.lanesOnly (us.foldl (State.feedUnit w d) p).1 := by
  induction us generalizing p with
  | nil => exact h
  | cons u us ih => exact ih (State.lanesOnly_feedUnit w d h u)

/-- A run that begins has measured nothing yet; what can be measured now is in the lanes' queues. -/
theorem State.beginTrack_eq (s : State) (k w d : Nat) : ∃ r l, s.beginTrack k w d =
    { s with cal := { s.cal with track := some r }, tx := { s.tx with lanes := l } } ∧ r.sensor = k ∧ r.outM = [] ∧
      r.inM = [] := by
  let r : SkewRun := { sensor := k, todo := skewUnits k, outM := [], inM := [] }
  let u : State := { s with cal := { s.cal with track := some r } }
  obtain ⟨l, hl⟩ := State.lanesOnly_feedUnits (s := u) w d r.todo (p := (u, [])) ⟨_, rfl⟩
  refine ⟨{ r with todo := (r.todo.foldl (State.feedUnit w d) (u, [])).2 }, l, ?_, rfl, rfl, rfl⟩
  change ({ (r.todo.foldl (State.feedUnit w d) (u, [])).1 with cal := { (r.todo.foldl (State.feedUnit w d) (u, [])).1.cal with
    track := (r.todo.foldl (State.feedUnit w d) (u, [])).1.cal.track.map fun x =>
      { x with todo := (r.todo.foldl (State.feedUnit w d) (u, [])).2 } } } : State) = _
  rw [hl]
  rfl

section
variable {w d : Nat} (hk : k ≤ 15) (hw : 512 ≤ w ∧ w ≤ 32768) (hd : 1024 ≤ d ∧ d ≤ 1024000000)
  (hf : s.dev.fwRunning = true) (ht : s.tracks = true) (hm : k ∈ (s.calRunState 1).scheduled)
include hk hw hd hf ht hm

/-- The scheduled run of a sensor begins where none is under way. -/
theorem exec_skewTracking_begins (hr : s.cal.track = none) :
    exec (.skewTracking k w d) s = .next (s.beginTrack k w d) := by
  change execSkewTracking k w d s = _
  unfold execSkewTracking
  rw [if_neg (by simp [within, hk, hw, hd]), if_pos ⟨hf, ht, List.contains_iff_mem.mpr hm⟩, hr]

/-- A run ends once all that it asked for has been served. -/
theorem exec_skewTracking_ends {r : SkewRun} (hr : s.cal.track = some r) (hs : r.sensor = k) (htodo : r.todo = [])
    (hlanes : ∀ l < 8, s.laneTracks l = false) : exec (.skewTracking k w d) s = .next (s.endTrack r) := by
  have hdone : s.trackDone r = true := by simpa [State.trackDone, htodo] using hlanes
  change execSkewTracking k w d s = _
  unfold execSkewTracking
  rw [if_neg (by simp [within, hk, hw, hd]), if_pos ⟨hf, ht, List.contains_iff_mem.mpr hm⟩, hr]
  dsimp only
  rw [if_neg (not_not.mpr hs), if_pos hdone]

end

/-- A measurement beyond ±64 tq is counted, one within corrects (R317). -/
theorem State.correctSkew_out (s : State) (o : Nat) (d : Int) : s.correctSkew true o d = { s with cal := { s.cal with
    outCorr := if d.natAbs ≤ 64 then Tab.put 0 s.cal.outCorr o d else s.cal.outCorr
    driftLimit := if d.natAbs ≤ 64 then s.cal.driftLimit else s.cal.driftLimit.inc } } := by
  unfold State.correctSkew
  by_cases h : d.natAbs ≤ 64
  · rw [if_neg (Nat.not_lt.mpr h), if_pos h, if_pos h]
    rfl
  · rw [if_pos (Nat.lt_of_not_le h), if_neg h, if_neg h]

theorem State.correctSkew_in (s : State) (c : Nat) (d : Int) : s.correctSkew false c d = { s with cal := { s.cal with
    inCorr := if d.natAbs ≤ 64 then Tab.put 0 s.cal.inCorr c d else s.cal.inCorr
    driftLimit := if d.natAbs ≤ 64 then s.cal.driftLimit else s.cal.driftLimit.inc } } := by
  unfold State.correctSkew
  by_cases h : d.natAbs ≤ 64
  · rw [if_neg (Nat.not_lt.mpr h), if_pos h, if_pos h]
    rfl
  · rw [if_pos (Nat.lt_of_not_le h), if_neg h, if_neg h]

theorem State.endTrack_out {o : Nat} (ho : o ≤ 127) (m : Int) :
    s.endTrack { sensor := k, todo := [], outM := [(o, m)], inM := [] } =
    (({ s with cal := { s.cal with
        track := none
        outCorr := if (m - Tab.get 0 (s.calForce calOut) (136 + o)).natAbs ≤ 64
          then Tab.put 0 s.cal.outCorr o (m - Tab.get 0 (s.calForce calOut) (136 + o)) else s.cal.outCorr
        driftLimit := if (m - Tab.get 0 (s.calForce calOut) (136 + o)).natAbs ≤ 64
          then s.cal.driftLimit else s.cal.driftLimit.inc } } : State).setCalRunState 1
      ((s.calRunState 1).ran k (s.sensor k) s.now)) := by
  have htrack : s.trackOut (o, m) = s.correctSkew true o (m - Tab.get 0 (s.calForce calOut) (136 + o)) :=
    if_neg (Nat.not_lt.mpr ho)
  unfold State.endTrack
  simp only [List.foldl_cons, List.foldl_nil]
  rw [htrack, State.correctSkew_out]
  rfl

theorem State.endTrack_in {c : Nat} {x : Int} (hc : c ≤ 511) (m : Int) (hx : x = m - Tab.get 0 (s.calForce calIn) (576 + c) -
      Tab.get 0 s.cal.outCorr (s.cal.cfg.refOut.getD (c / 64) 0)) :
    s.endTrack { sensor := k, todo := [], outM := [], inM := [(c, m)] } =
    (({ s with cal := { s.cal with
        track := none
        inCorr := if x.natAbs ≤ 64 then Tab.put 0 s.cal.inCorr c x else s.cal.inCorr
        driftLimit := if x.natAbs ≤ 64 then s.cal.driftLimit else s.cal.driftLimit.inc } } : State).setCalRunState 1
      ((s.calRunState 1).ran k (s.sensor k) s.now)) := by
  have htrack : s.trackIn (c, m) = s.correctSkew false c x := by
    rw [hx]
    exact if_neg (Nat.not_lt.mpr hc)
  unfold State.endTrack
  simp only [List.foldl_cons, List.foldl_nil]
  rw [htrack, State.correctSkew_in]
  rfl

end Sys2Proof.Machine

/-! SUPPORT. The whole-memory BIST and Nadir (R390, R392, R395). -/

namespace Sys2Proof.Machine

variable {s : State} {r : BistResult}

/-! ## Tables and runs over a list -/

theorem Tab.get_of_unlisted {α : Type} (d : α) (t : Tab α) (k : Nat) (h : k ∉ t.map (·.1)) : Tab.get d t k = d := by
  induction t with
  | nil => rfl
  | cons p t ih =>
    obtain ⟨j, a⟩ := p
    have hj : j ≠ k := fun e => h (e ▸ List.mem_cons_self)
    exact (if_neg hj).trans (ih fun ht => h (List.mem_cons_of_mem _ ht))

/-- A run over a list brings about at one of its members what the others do not undo. -/
theorem State.each_reaches (s : State) (I P : State → Prop) (f : State → Nat → State) (hI : ∀ t k, I t → I (f t k))
    (hP : ∀ t k, P t → P (f t k)) {k : Nat} (hk : ∀ t, I t → P (f t k)) {ks : List Nat} (hmem : k ∈ ks) (h : I s) :
    P (s.each ks f) := by
  induction ks generalizing s with
  | nil => exact absurd hmem List.not_mem_nil
  | cons j ks ih =>
    rcases List.mem_cons.mp hmem with rfl | hrest
    · exact State.each_keeps _ P f ks (fun t i _ ht => hP t i ht) (hk s h)
    · exact ih _ hrest (hI s j h)

/-! ## Stages of the BIST (R392) -/

/-- The channels whose memory the BIST reports on: those in use, and those that failed. -/
def State.bistChannels (s : State) (r : BistResult) : List Nat :=
  (s.rx.channels.map (·.1)) ++ (r.channels ++ r.pools).filter fun c => decide (c < 512) && !(s.rx.channels.any (·.1 = c))

theorem State.mem_bistChannels (s : State) {c : Nat} (hc : c ∈ r.channels ++ r.pools) (h512 : c < 512) :
    c ∈ s.bistChannels r := by
  by_cases hlisted : c ∈ s.rx.channels.map (·.1)
  · exact List.mem_append_left _ hlisted
  · have hany : s.rx.channels.any (·.1 = c) = false :=
      List.any_eq_false.mpr fun p hp hpc => hlisted (of_decide_eq_true hpc ▸ List.mem_map_of_mem hp)
    refine List.mem_append_right _ (List.mem_filter.mpr ⟨hc, ?_⟩)
    rw [hany, decide_eq_true h512]
    rfl

/-- The channels with the result of the BIST. -/
def State.bistQueues (s : State) (r : BistResult) : State :=
  s.each (s.bistChannels r) (State.bistChannel (r.channels ++ r.pools))

/-- Channels, banks and engines with the result of the BIST. -/
def State.bistParts (s : State) (r : BistResult) : State :=
  (s.bistQueues r).staleBanks.each (r.engines.filter (· < engineCount)) State.bistEngine

/-- The device goes on from the BIST. -/
def State.bistOver (s : State) (r : BistResult) : State :=
  let u := s.bistParts r
  let v : State := { u with dev := { u.dev with
    bist := false
    bistResult := some r
    bistUntested := (List.range 512).filter fun c => (s.histChan c).held.isSome } }
  ((v.setReadyAll (u.dev.ready ||| (u.dev.bistReady &&& BitVec.ofNat 27 (255 * 4)))).refreshEngines).refreshFs

/-- The BIST is noted as a run. -/
def State.noteBist (s : State) (r : BistResult) : State :=
  s.modCalRunState 3 fun x => if bistPasses r then x.ran 0 s.dieTemp s.now else x.ended 0 s.dieTemp s.now

theorem State.bistDone_eq (s : State) (r : BistResult) : s.bistDone r =
    if r.bufferOk then (s.bistOver r).noteBist r else ((s.bistOver r).noteBist r).enterNadir := rfl

theorem exec_wholeMemoryBist (hb : s.dev.bist = true) (hf : s.dev.fwRunning = true) :
    exec (.wholeMemoryBist r) s = .next (s.bistDone r) := if_pos (by rw [hb, hf]; rfl)

/-! ## Channels, banks and engines -/

theorem State.bistQueues_rx (s : State) (r : BistResult) : ∃ x, s.bistQueues r = { s with rx := x } := by
  refine State.each_keeps s (fun t => ∃ x, t = { s with rx := x }) _ _ ?_ ⟨s.rx, rfl⟩
  rintro t c - ⟨x, rfl⟩
  exact ⟨_, rfl⟩

theorem State.staleBanks_hist (s : State) : ∃ x, s.staleBanks = { s with hist := x } := by
  refine State.each_keeps s (fun t => ∃ x, t = { s with hist := x }) _ _ ?_ ⟨s.hist, rfl⟩
  rintro t b - ⟨x, rfl⟩
  split
  · exact ⟨x, rfl⟩
  · exact ⟨_, rfl⟩

theorem State.bistEngines_eng (s : State) (es : List Nat) : ∃ x, s.each es State.bistEngine = { s with eng := x } := by
  refine State.each_keeps s (fun t => ∃ x, t = { s with eng := x }) _ _ ?_ ⟨s.eng, rfl⟩
  rintro t e - ⟨x, rfl⟩
  exact ⟨_, rfl⟩

theorem State.bistParts_eq (s : State) (r : BistResult) : ∃ x y z, s.bistParts r = { s with rx := x, hist := y, eng := z } ∧
    x = (s.bistQueues r).rx ∧ y = (s.bistQueues r).staleBanks.hist := by
  obtain ⟨x, hx⟩ := s.bistQueues_rx r
  obtain ⟨y, hy⟩ := (s.bistQueues r).staleBanks_hist
  obtain ⟨z, hz⟩ := (s.bistQueues r).staleBanks.bistEngines_eng (r.engines.filter (· < engineCount))
  refine ⟨x, y, z, ?_, by rw [hx], by rw [hy]⟩
  rw [State.bistParts, hz, hy, hx]

/-- A channel whose memory failed is out of service. -/
theorem State.failed_bistQueues (s : State) {c : Nat} (hc : c ∈ r.channels ++ r.pools) (h512 : c < 512) :
    ((s.bistQueues r).chan c).failed = true := by
  have hset (t : State) : ((t.bistChannel (r.channels ++ r.pools) c).chan c).failed = true :=
    (congrArg Channel.failed (State.chan_setChan_self ..)).trans (List.contains_iff_mem.mpr hc)
  refine State.each_reaches s (fun _ => True) (fun t => (t.chan c).failed = true) _ (fun _ _ _ => trivial) (fun t k ht => ?_)
    (fun t _ => hset t) (s.mem_bistChannels hc h512) trivial
  by_cases hk : c = k
  · exact hk ▸ hset t
  · exact (congrArg Channel.failed (State.chan_setChan_ne _ _ _ _ hk)).trans ht

/-- Of the banks none but a held one keeps its content. -/
theorem State.bank_staleBanks (s : State) {b : Nat} (h : (s.bank b).state ≠ .held) : s.staleBanks.bank b = Bank.reset := by
  have step (t : State) (k : Nat) : (t.bank b).state ≠ .held →
      (if (t.bank k).state = .held then t else t.setBank k Bank.released).bank b = if b = k then Bank.reset else t.bank b := by
    intro ht
    by_cases hk : b = k
    · rw [← hk, if_neg ht, if_pos rfl]
      exact State.bank_setBank_self ..
    · rw [if_neg hk]
      split
      · rfl
      · exact State.bank_setBank_ne _ _ _ _ hk
  have stale (t : State) (k : Nat) (ht : t.bank b = Bank.reset) :
      (if (t.bank k).state = .held then t else t.setBank k Bank.released).bank b = Bank.reset := by
    rw [step t k (by rw [ht]; decide), ht, ite_self]
  by_cases hlisted : b ∈ s.hist.banks.map (·.1)
  · refine State.each_reaches s (fun t => (t.bank b).state ≠ .held) (fun t => t.bank b = Bank.reset) _ (fun t k ht => ?_) stale
      (fun t ht => (step t b ht).trans (if_pos rfl)) hlisted h
    rw [step t k ht]
    split
    · decide
    · exact ht
  · exact State.each_keeps s (fun t => t.bank b = Bank.reset) _ _ (fun t k _ ht => stale t k ht)
      (Tab.get_of_unlisted _ _ _ hlisted)

/-- An engine whose memory failed is QUARANTINED. -/
theorem State.quarantined_bistParts (s : State) {e : Nat} (he : e ∈ r.engines) (h96 : e < 96) :
    ((s.bistParts r).engine e).run = .quarantined := by
  have hset (t : State) : ((t.bistEngine e).engine e).run = .quarantined :=
    congrArg Engine.run (State.engine_setEngine_self ..)
  refine State.each_reaches _ (fun _ => True) (fun t => (t.engine e).run = .quarantined) _ (fun _ _ _ => trivial)
    (fun t k ht => ?_) (fun t _ => hset t) (List.mem_filter.mpr ⟨he, decide_eq_true h96⟩) trivial
  by_cases hk : e = k
  · exact hk ▸ hset t
  · exact (congrArg Engine.run (State.engine_setEngine_ne _ _ _ _ hk)).trans ht

/-! ## What the device goes on with -/

/-- Beside READY, and what the BIST itself says, the state is that of its parts. -/
theorem State.bistOver_keeps (s : State) (r : BistResult) : (s.bistOver r).tb = s.tb ∧ (s.bistOver r).tx = s.tx ∧
    (s.bistOver r).sq = s.sq ∧ (s.bistOver r).rx = (s.bistQueues r).rx ∧
    (s.bistOver r).hist = (s.bistQueues r).staleBanks.hist ∧ (s.bistOver r).eng.engines = (s.bistParts r).eng.engines ∧
    (s.bistOver r).sv = s.sv ∧ (s.bistOver r).cal = s.cal := by
  obtain ⟨x, y, z, hparts, hx, hy⟩ := s.bistParts_eq r
  unfold State.bistOver
  dsimp only
  rw [← hx, ← hy, hparts]
  simp [State.refreshEngines, State.refreshFs]

theorem State.bistOver_dev (s : State) (r : BistResult) : ∃ x l, (s.bistOver r).dev =
    { s.dev with ready := x, bist := false, bistResult := some r, bistUntested := l } := by
  obtain ⟨x, y, z, hparts, -, -⟩ := s.bistParts_eq r
  unfold State.bistOver State.refreshEngines State.refreshFs
  dsimp only
  generalize (List.range 512).filter _ = held
  rw [State.dev_setReadyAll, State.dev_setReady, State.dev_setReadyAll, hparts]
  exact ⟨_, held, rfl⟩

theorem State.noteBist_runs (s : State) (r : BistResult) : (∃ x, s.noteBist r = { s with cal := { s.cal with runs := x } }) ∧
    ((s.noteBist r).calRunState 3).lastTime = s.now ∧ ((s.noteBist r).calRunState 3).lastReading = s.dieTemp := by
  refine ⟨⟨_, rfl⟩, ?_⟩
  rw [State.noteBist, State.modCalRunState, State.calRunState_setCalRunState_self]
  split
  · exact ⟨rfl, rfl⟩
  · exact ⟨rfl, rfl⟩

/-! ## Nadir (R390, R395) -/

/-- The state of the device with that of the supervisor. -/
def State.runStates (s : State) : DevRun × SvRun := (s.dev.run, s.sv.run)

theorem State.untouched_runStates : UntouchedByStops State.runStates where
  tx _ _ := rfl
  rx _ _ := rfl
  hist _ _ := rfl
  eng _ _ := rfl
  cal _ _ := rfl
  sent _ _ := rfl
  seqs _ _ := rfl
  sectors _ _ := rfl
  waiting _ _ := rfl
  core _ _ h := (congrArg State.runStates h :)

theorem State.runStates_setReady (s : State) (b : Nat) (v : Bool) : (s.setReady b v).runStates = s.runStates := by
  simp [State.runStates]

theorem State.runStates_cause (s : State) (b : Nat) : (s.cause b).runStates = s.runStates := by
  simp [State.runStates]

theorem State.runStates_quietOutput (s : State) (o : Nat) : (s.quietOutput o).runStates = s.runStates := by
  have hg := State.untouched_runStates
  unfold State.quietOutput
  refine (hg.tx _ _).trans ?_
  split
  · split
    · exact (hg.endBurst ..).trans (hg.tx s _)
    · rfl
  · rfl

theorem State.runStates_readMode (s : State) : s.readMode.runStates = s.runStates := by
  unfold State.readMode
  split
  · rfl
  · rfl

/-- In Nadir are the device and the supervisor. -/
theorem State.runStates_enterNadir (s : State) : s.enterNadir.runStates = (.nadir, .nadir) := by
  have hg := State.untouched_runStates
  unfold State.enterNadir
  dsimp only
  rw [State.runStates_readMode, State.refreshPcie, State.runStates_setReady]
  rw [State.runStates_cause, State.each_field _ State.runStates _ _ State.runStates_quietOutput,
    State.turnAway_field _ State.runStates hg.eng State.runStates_setReady (hg.waiting · []) fun s t h _ => hg.core s t h]
  obtain ⟨x, hdev⟩ := State.dev_svGo
    { s with dev := { s.dev with run := .nadir, warm := false, retesting := false }, motor := s.motor.setD s.clock 0 } .nadir
  exact Prod.ext (by rw [State.runStates, hdev]) (State.svRun_svGo ..)

/-! ## The row -/

theorem wholeMemoryBist_passes (hb : s.dev.bist = true) (hf : s.dev.fwRunning = true) (hr : r.bufferOk = true) :
    ∃ t, exec (.wholeMemoryBist r) s = .next t ∧ t.dev.bist = false ∧ t.dev.bistResult = some r ∧ t.dev.run = s.dev.run ∧
      (∀ c ∈ r.channels ++ r.pools, c < 512 → (t.chan c).failed = true) ∧
      (∀ e ∈ r.engines, e < 96 → (t.engine e).run = .quarantined) ∧ (t.calRunState 3).lastTime = s.now ∧
      (t.calRunState 3).lastReading = s.dieTemp ∧
      (∀ b, (s.bank b).state ≠ .held → t.bank b = Bank.reset) ∧ t.tx = s.tx ∧ t.sq = s.sq ∧ t.tb = s.tb ∧ t.sv = s.sv := by
  obtain ⟨htb, htx, hsq, hrx, hhist, heng, hsv, hcal⟩ := s.bistOver_keeps r
  obtain ⟨x, l, hdev⟩ := s.bistOver_dev r
  obtain ⟨⟨runs, hnote⟩, htime, hreading⟩ := (s.bistOver r).noteBist_runs r
  obtain ⟨y, hqueues⟩ := s.bistQueues_rx r
  rw [exec_wholeMemoryBist hb hf, State.bistDone_eq, if_pos hr]
  generalize s.bistOver r = u at htb htx hsq hrx hhist heng hsv hcal hdev hnote htime hreading ⊢
  refine ⟨_, rfl, ?_, ?_, ?_, fun c hc h512 => ?_, fun e he h96 => ?_, ?_, ?_, fun b hheld => ?_, ?_⟩
  · rw [hnote, hdev]
  · rw [hnote, hdev]
  · rw [hnote, hdev]
  · rw [hnote, ← s.failed_bistQueues hc h512, ← State.chan_of_rx hrx]
    rfl
  · rw [hnote, ← s.quarantined_bistParts he h96, State.engine, State.engine, heng]
  · rw [htime, State.now, htb, State.now]
  · rw [hreading]
    simp only [State.dieTemp, State.sensor, hcal]
  · rw [hnote, ← (s.bistQueues r).bank_staleBanks (b := b) (by rw [hqueues]; exact hheld), State.bank, State.bank, hhist]
  · rw [hnote]
    exact ⟨htx, hsq, htb, hsv⟩

theorem wholeMemoryBist_fails (hb : s.dev.bist = true) (hf : s.dev.fwRunning = true) (hr : r.bufferOk = false) :
    ∃ t, exec (.wholeMemoryBist r) s = .next t ∧ t.dev.run = .nadir ∧ t.sv.run = .nadir := by
  have hruns := ((s.bistOver r).noteBist r).runStates_enterNadir
  refine ⟨_, ?_, congrArg Prod.fst hruns, congrArg Prod.snd hruns⟩
  rw [exec_wholeMemoryBist hb hf, State.bistDone_eq, hr]
  rfl

end Sys2Proof.Machine

/-! O51. Temperature updates, calibration runs and the memory BIST (R82, R308, R312, R315 to R317, R392, R446). -/

namespace Sys2Proof.Machine

/-- Settles O51: what each of the four happenings leaves, by its cases. -/
theorem calibrationRuns : Obligations.CalibrationRuns := by
  unfold Obligations.CalibrationRuns
  refine ⟨?bare, ?cool, ?hot, ?idle, ?passes, ?fails, ?during, ?begins, ?outputs, ?inputs, ?bist, ?buffer⟩
  case bare =>
    intro s rs hl hr hf
    obtain ⟨⟨l, f, hwarm⟩, hread, hforce⟩ := s.warmed_eq hl
    refine ⟨s.warmed rs, ?_, hread, hforce, by rw [hwarm]⟩
    rw [exec_temperatureUpdate hl hr, hf]
    rfl
  case cool =>
    intro s rs hl hr hf hcool hidle
    obtain ⟨u, hexec, hread, hforce, hu⟩ := temperatureUpdate_schedules hl hr hf hidle
    have cool (t : Int) (ht : 1040 ≤ t) : u.heated t = false := by
      rw [Bool.eq_false_iff, ne_eq, State.heated_iff hl hread]
      rintro ⟨x, hx, hle⟩
      exact absurd (hcool x hx) (by omega)
    rw [State.watchHeat_cool (cool 1040 le_rfl) (cool 1080 (by decide))] at hexec
    refine ⟨_, hexec, hread, hforce, rfl, ?_⟩
    rw [hu]
  case hot =>
    intro s rs hl hr hf hot hheat hidle
    obtain ⟨u, hexec, hread, -, hu⟩ := temperatureUpdate_schedules hl hr hf hidle
    have hbegins : u.cal.hot = false := by rw [hu]; exact hot
    rw [State.watchHeat_begins hbegins ((State.heated_iff hl hread).mpr hheat)] at hexec
    refine ⟨_, hexec, hread, rfl, ?_⟩
    rw [hu]
  case idle =>
    intro s k _ hd hm
    rw [State.scheduleIdle_moved hd hm, State.calRunState_setCalRunState_self]
    exact CalRunState.mem_scheduled_ask _ 0
  case passes =>
    rintro s i hs ts hi hf hm hp rfl
    refine ⟨_, exec_nonlinearityRun hi hf hm, ?_⟩
    rw [if_pos hp]
    exact s.newVernier_passes i (hs.map tablesOf) _ rfl
  case fails =>
    intro s i hs hi hf hm hp
    rw [exec_nonlinearityRun hi hf hm, hp]
    rfl
  case during => exact fun s i hs a b hi hf hm => exec_nonlinearityRun_during hi hf hm a b
  case begins =>
    intro s k w d hk hw hd hf ht hm hr
    obtain ⟨r, l, hbegin, hsensor, hout, hin⟩ := s.beginTrack_eq k w d
    refine ⟨_, r, exec_skewTracking_begins hk hw hd hf ht hm hr, ?_, hsensor, hout, hin, ?_⟩
    · rw [hbegin]
    · rw [hbegin]
  case outputs =>
    intro s k w d o m hk hw hd ho hf ht hm hr hlanes
    rw [exec_skewTracking_ends hk hw hd hf ht hm hr rfl rfl hlanes, State.endTrack_out ho]
  case inputs =>
    intro s k w d c m x hk hw hd hc hf ht hm hr hlanes hx
    rw [exec_skewTracking_ends hk hw hd hf ht hm hr rfl rfl hlanes, State.endTrack_in hc m hx]
  case bist => exact fun s r hb hf hr => wholeMemoryBist_passes hb hf hr
  case buffer => exact fun s r hb hf hr => wholeMemoryBist_fails hb hf hr

end Sys2Proof.Machine

/-! SUPPORT. What the operations do to program memory (R86): all but those that write it, clear it or reset the device leave it
as it stands. `sq_f` says that `f` leaves the sequencers and their memory, `mem_f` that it leaves the memory. An equation that
holds by definition is given as `(rfl)`, so that `simp` rewrites with it and does not unfold the state. -/

namespace Sys2Proof.Machine

/-! ### Branches and runs over a list -/

@[simp] theorem Sequencers.mem_ite (c : Prop) [Decidable c] (x y : Sequencers) :
    (if c then x else y).mem = if c then x.mem else y.mem := apply_ite Sequencers.mem c x y

@[simp] theorem State.mem_foldl {α : Type} (f : State → α → State) (hf : ∀ s a, (f s a).sq.mem = s.sq.mem)
    (l : List α) (s : State) : (l.foldl f s).sq.mem = s.sq.mem := State.foldl_field (fun s : State => s.sq.mem) f hf l s

@[simp] theorem State.mem_each (f : State → Nat → State) (hf : ∀ s k, (f s k).sq.mem = s.sq.mem) (ks : List Nat)
    (s : State) : (s.each ks f).sq.mem = s.sq.mem := s.each_field (fun s : State => s.sq.mem) f ks hf

variable (s : State)

/-! ### Units -/

@[simp] theorem State.sq_modAlarm (k : Nat) (f : Alarm → Alarm) : (s.modAlarm k f).sq = s.sq := (rfl)
@[simp] theorem State.sq_modTrg (k : Nat) (f : Trg → Trg) : (s.modTrg k f).sq = s.sq := (rfl)
@[simp] theorem State.sq_modRow (k : Nat) (f : RowState → RowState) : (s.modRow k f).sq = s.sq := (rfl)
@[simp] theorem State.mem_setSeq (k : Nat) (v : SeqState) : (s.setSeq k v).sq.mem = s.sq.mem := (rfl)
@[simp] theorem State.mem_modSeq (k : Nat) (f : SeqState → SeqState) : (s.modSeq k f).sq.mem = s.sq.mem := (rfl)
@[simp] theorem State.sq_modEncoder (k : Nat) (f : Encoder → Encoder) : (s.modEncoder k f).sq = s.sq := (rfl)
@[simp] theorem State.sq_modEstimator (k : Nat) (f : Estimator → Estimator) : (s.modEstimator k f).sq = s.sq := (rfl)
@[simp] theorem State.sq_modMark (k : Nat) (f : AngleMark → AngleMark) : (s.modMark k f).sq = s.sq := (rfl)
@[simp] theorem State.sq_modSta (k : Nat) (f : StaState → StaState) : (s.modSta k f).sq = s.sq := (rfl)
@[simp] theorem State.sq_modInput (k : Nat) (f : InputState → InputState) : (s.modInput k f).sq = s.sq := (rfl)
@[simp] theorem State.sq_modTap (k : Nat) (f : Tap → Tap) : (s.modTap k f).sq = s.sq := (rfl)
@[simp] theorem State.sq_modBank (k : Nat) (f : Bank → Bank) : (s.modBank k f).sq = s.sq := (rfl)
@[simp] theorem State.sq_modHistChan (k : Nat) (f : HistChannel → HistChannel) : (s.modHistChan k f).sq = s.sq := (rfl)
@[simp] theorem State.sq_modEngine (k : Nat) (f : Engine → Engine) : (s.modEngine k f).sq = s.sq := (rfl)
@[simp] theorem State.sq_modStream (k : Nat) (f : Stream → Stream) : (s.modStream k f).sq = s.sq := (rfl)
@[simp] theorem State.sq_modEvch (k : Nat) (f : EvChannel → EvChannel) : (s.modEvch k f).sq = s.sq := (rfl)
@[simp] theorem State.sq_modPort (k : Nat) (f : Port → Port) : (s.modPort k f).sq = s.sq := (rfl)
@[simp] theorem State.sq_modSafeInput (k : Nat) (f : SafeInput → SafeInput) : (s.modSafeInput k f).sq = s.sq := (rfl)
@[simp] theorem State.sq_modSvEnc (k : Nat) (f : SvEncoder → SvEncoder) : (s.modSvEnc k f).sq = s.sq := (rfl)
@[simp] theorem State.sq_modCalStore (k : Nat) (f : CalStore → CalStore) : (s.modCalStore k f).sq = s.sq := (rfl)
@[simp] theorem State.sq_modCalWork (k : Nat) (f : List CalSet → List CalSet) : (s.modCalWork k f).sq = s.sq := (rfl)
@[simp] theorem State.sq_modPace (k : Nat) (f : Pace → Pace) : (s.modPace k f).sq = s.sq := (rfl)
@[simp] theorem State.sq_modBox (k : Nat) (f : Mailbox → Mailbox) : (s.modBox k f).sq = s.sq := (rfl)

/-! ### Reads (R323) -/

@[simp] theorem State.mem_readError : s.readError.sq.mem = s.sq.mem := (rfl)

/-! ### Answers (R351, R355 to R361) -/

@[simp] theorem State.mem_sendOwn (port pcp : Nat) (b : OwnBody) : (s.sendOwn port pcp b).sq.mem = s.sq.mem := (rfl)

@[simp] theorem State.mem_deliver (t : Taken) (r : Response) : (s.deliver t r).sq.mem = s.sq.mem := by
  unfold State.deliver
  (repeat' split) <;> simp

@[simp] theorem State.mem_sendBlock (t : Taken) (dst : Option Nat) (st : Status) (block : List Byte) :
    (s.sendBlock t dst st block).1.sq.mem = s.sq.mem := by
  unfold State.sendBlock
  (repeat' split) <;> simp

@[simp] theorem State.mem_answerBare (op : Nat) (st : Status) (ret : List Fld) (block : List Byte) :
    (s.answerBare op st ret block).sq.mem = s.sq.mem := (rfl)

@[simp] theorem State.mem_answerTaken (t : Taken) (dst : Option Nat) (st : Status) (ret : List Fld) (block : List Byte) :
    (s.answerTaken t dst st ret block).sq.mem = s.sq.mem := by simp [State.answerTaken, State.conclude]

@[simp] theorem State.mem_answerWaiting (k : WaitKey) (st : Status) (ret : List Fld) :
    (s.answerWaiting k st ret).sq.mem = s.sq.mem := by
  unfold State.answerWaiting
  refine State.mem_foldl _ (fun s w => ?_) _ _
  split <;> simp

@[simp] theorem State.mem_answerAllBusy : s.answerAllBusy.sq.mem = s.sq.mem := by
  unfold State.answerAllBusy
  refine State.mem_foldl _ (fun s w => ?_) _ _
  split <;> simp

@[simp] theorem State.mem_release : s.release.sq.mem = s.sq.mem := (rfl)
@[simp] theorem State.mem_denyPair (t : Taken) : (s.denyPair t).sq.mem = s.sq.mem := by simp [State.denyPair]

/-! ### The supervisor -/

@[simp] theorem State.mem_stopSequencers (why : Reasons) : (s.stopSequencers why).sq.mem = s.sq.mem := by
  simp [State.stopSequencers]

@[simp] theorem State.mem_enterEclipse : s.enterEclipse.sq.mem = s.sq.mem := by simp [State.enterEclipse]
@[simp] theorem State.mem_safeStop : s.safeStop.sq.mem = s.sq.mem := by simp [State.safeStop, State.enterDusk]

@[simp] theorem State.mem_svFault (f : SvFault) : (s.svFault f).sq.mem = s.sq.mem := by
  unfold State.svFault
  split <;> simp [State.enterTwilight, State.eclipseAtOnce, State.enterDusk, State.latch]

@[simp] theorem State.mem_encoderFault (e : Nat) (anew : Bool) : (s.encoderFault e anew).sq.mem = s.sq.mem := by
  simp [State.encoderFault]

@[simp] theorem State.mem_countOutput (o : Nat) : (s.countOutput o).sq.mem = s.sq.mem := by
  unfold State.countOutput
  split <;> simp

@[simp] theorem State.mem_countEmitted : s.countEmitted.sq.mem = s.sq.mem := by simp [State.countEmitted]

/-! ### Outputs -/

@[simp] theorem State.mem_arrive (o : Nat) (e : Entry) : (s.arrive o e).1.sq.mem = s.sq.mem :=
  (congrArg Sequencers.mem (untouchedBySlots_sq.arrive s o e) :)

@[simp] theorem State.mem_takeEntry (o : Nat) (e : Entry) : (s.takeEntry o e).sq.mem = s.sq.mem := by
  unfold State.takeEntry
  dsimp only
  split <;> simp [State.loadBurst, State.yieldTests]

@[simp] theorem State.mem_holdInactive (o : Nat) : (s.holdInactive o).sq.mem = s.sq.mem := by
  unfold State.holdInactive
  split <;> simp

/-! ### Polestar and Ready-idle -/

@[simp] theorem State.mem_polestarStep (d : Int) : (s.polestarStep d).sq.mem = s.sq.mem := by
  simp [State.polestarStep, State.stepOutputs, State.stepScale]

@[simp] theorem State.mem_applySecHi : s.applySecHi.sq.mem = s.sq.mem := by
  unfold State.applySecHi
  split <;> simp [State.setSecHi]

@[simp] theorem State.mem_enterReadyIdle : s.enterReadyIdle.sq.mem = s.sq.mem := by simp [State.enterReadyIdle]
@[simp] theorem State.mem_count : s.count.sq.mem = s.sq.mem := by simp [State.count]

/-! ### Results and records -/

@[simp] theorem State.mem_commitWith (also : List Nat) (warning : Bool) : (s.commitWith also warning).sq.mem = s.sq.mem := by
  simp [State.commitWith]

@[simp] theorem State.mem_commitResult (n : Nat) (r : Result) : (s.commitResult n r).sq.mem = s.sq.mem := (rfl)

@[simp] theorem State.mem_closeSkip (n : Nat) : (s.closeSkip n).sq.mem = s.sq.mem := by
  unfold State.closeSkip
  split <;> simp [State.issueSpecial]

@[simp] theorem State.mem_joinSkip (n : Nat) (r : SkipRun) : (s.joinSkip n r).sq.mem = s.sq.mem := by
  unfold State.joinSkip
  dsimp only
  split <;> simp

/-! ### Estimators and marks -/

@[simp] theorem State.mem_missMarks (enc : Nat) (u : Int) : (s.missMarks enc u).sq.mem = s.sq.mem := by
  unfold State.missMarks
  refine State.mem_each _ (fun s k => ?_) _ _
  dsimp only
  (repeat' split) <;> rfl

@[simp] theorem State.mem_estLost (enc : Nat) : (s.estLost enc).sq.mem = s.sq.mem := by
  simp [State.estLost, State.disturbStep]

@[simp] theorem State.mem_darkenDue (enc : Nat) : (s.darkenDue enc).sq.mem = s.sq.mem := by simp [State.darkenDue]

@[simp] theorem State.mem_settleEst (enc : Nat) (was : Bool) : (s.settleEst enc was).sq.mem = s.sq.mem := by
  simp [State.settleEst, State.estGained]

@[simp] theorem State.mem_countError (enc : Nat) : (s.countError enc).sq.mem = s.sq.mem := by simp [State.countError]

@[simp] theorem State.mem_correctCount (enc : Nat) (n : Int) : (s.correctCount enc n).sq.mem = s.sq.mem := (rfl)

@[simp] theorem State.mem_indexEdge (enc : Nat) : (s.indexEdge enc).sq.mem = s.sq.mem := by
  simp [State.indexEdge, State.rearmMarks]

/-! ### Gates -/

@[simp] theorem State.mem_armGate (c : Nat) (g : Gate) : (s.armGate c g).sq.mem = s.sq.mem := by
  unfold State.armGate
  dsimp only
  split <;> simp

@[simp] theorem State.mem_cutBanks (n : Nat) : (s.cutBanks n).sq.mem = s.sq.mem := by
  refine State.mem_each _ (fun s b => ?_) _ _
  dsimp only
  split <;> simp [State.unreserve, State.cutGate]

/-! ### The PLL -/

@[simp] theorem State.mem_refreshRefs : s.refreshRefs.sq.mem = s.sq.mem := (rfl)
@[simp] theorem State.mem_beginAttempt : s.beginAttempt.sq.mem = s.sq.mem := by simp [State.beginAttempt]

@[simp] theorem State.mem_endReset : s.endReset.sq.mem = s.sq.mem := by
  unfold State.endReset
  split <;> simp [State.loadClocks]

@[simp] theorem State.mem_loseLock : s.loseLock.sq.mem = s.sq.mem := by
  simp [State.loseLock, State.disturbStep, State.dropCals]

@[simp] theorem State.mem_performPll (r : PllRequest) : (s.performPll r).sq.mem = s.sq.mem := by
  simp [State.performPll, State.unlockFor]

/-! ### Slots and steps -/

@[simp] theorem State.mem_afterStop : s.afterStop.sq.mem = s.sq.mem := by
  simp [State.afterStop, State.leaveRanging, State.sq_runForced]

@[simp] theorem State.mem_finishBanks (n : Nat) : (s.finishBanks n).sq.mem = s.sq.mem := by simp [State.finishBanks]
@[simp] theorem State.mem_finishStep (n : Nat) : (s.finishStep n).sq.mem = s.sq.mem := by simp [State.finishStep]

@[simp] theorem State.mem_stopSeq (n : Nat) (why : Option Reasons) : (s.stopSeq n why).sq.mem = s.sq.mem := by
  cases hf : (s.seq n).frozen with
  | none =>
    have ended : (s.endStep n why).sq.mem = s.sq.mem := by cases why <;> simp [State.endStep]
    simp [State.stopSeq_eq hf, ended]
  | some f => simp [State.stopSeq, hf, State.finishRun]

@[simp] theorem State.mem_decide_ (n i : Nat) (g : ListEntry) : (s.decide_ n i g).sq.mem = s.sq.mem := by
  unfold State.decide_
  dsimp only
  split <;> simp

@[simp] theorem State.mem_enterStep (n i index : Nat) (x : Int) (t : Tq) (due resumed : Bool) :
    (s.enterStep n i index x t due resumed).sq.mem = s.sq.mem := by
  simp [State.enterStep, State.beginStep, State.reserve, State.takeBank, State.playGranule, State.darkGranule]

@[simp] theorem State.mem_boundary (n : Nat) (x : Int) (t : Tq) (due : Bool) : (s.boundary n x t due).sq.mem = s.sq.mem := by
  unfold State.boundary
  split <;> simp [State.frozenBoundary, State.finishRun, State.darkGranule, State.plainBoundary, State.haltSeq,
    State.playGranule]

@[simp] theorem State.mem_fireSlot (n : Nat) (k : Int) (t : Tq) : (s.fireSlot n k t).sq.mem = s.sq.mem :=
  (congrArg Sequencers.mem (untouchedBySlots_sq.fireSlot s n k t) :)

@[simp] theorem State.mem_issueSlot (n : Nat) : (s.issueSlot n).sq.mem = s.sq.mem := by
  unfold State.issueSlot
  dsimp only
  split
  · split
    · rfl
    · split <;> split <;> simp
  · simp [State.playSlot]

/-! ### Stamps -/

@[simp] theorem State.mem_modConv (i k : Nat) (f : Converter → Converter) : (s.modConv i k f).sq.mem = s.sq.mem := (rfl)
@[simp] theorem State.mem_lostEdge (i : Nat) : (s.lostEdge i).sq.mem = s.sq.mem := (rfl)
@[simp] theorem State.mem_intoPath (i : Nat) (p : PathStamp) : (s.intoPath i p).sq.mem = s.sq.mem := (rfl)

@[simp] theorem State.mem_drainRaw (i n : Nat) (s : State) : (State.drainRaw i n s).sq.mem = s.sq.mem := by
  induction n generalizing s with
  | zero => rfl
  | succ n ih =>
    unfold State.drainRaw
    (repeat' split) <;> simp [State.exportRaw, State.issueSpecial, ih]

@[simp] theorem State.mem_enterGates (c : Nat) (p : PathStamp) : (s.enterGates c p).sq.mem = s.sq.mem := by
  unfold State.enterGates
  dsimp only
  refine (State.mem_foldl _ (fun s g => ?_) _ _).trans ?_
  · split <;> simp [State.tapExport, State.exportRaw, State.issueSpecial]
  · split <;> simp [State.tapExport, State.exportRaw, State.issueSpecial]

@[simp] theorem State.mem_timeoutStamp (i : Nat) (p : PathStamp) : (s.timeoutStamp i p).sq.mem = s.sq.mem := by
  simp [State.timeoutStamp, State.loseRaw, State.dropStamp, State.popPath]

@[simp] theorem State.mem_timeoutStamps (i n : Nat) (s : State) : (State.timeoutStamps i n s).sq.mem = s.sq.mem := by
  induction n generalizing s with
  | zero => rfl
  | succ n ih =>
    unfold State.timeoutStamps
    (repeat' split) <;> simp [ih]

@[simp] theorem State.mem_convertHit (c : Nat) (falling : Bool) (tBall : Tq) (phase n : Nat) :
    (s.convertHit c falling tBall phase n).sq.mem = s.sq.mem := by
  unfold State.convertHit
  dsimp only
  split <;> simp [State.pairLost]

/-! ### Input commands -/

@[simp] theorem State.mem_configureSta (cfg : StaInCfg) (k : Nat) : (s.configureSta cfg k).sq.mem = s.sq.mem := (rfl)

/-! ### Converters -/

@[simp] theorem State.mem_nextTurn (i : Nat) : (s.nextTurn i).sq.mem = s.sq.mem := by
  unfold State.nextTurn
  (repeat' split) <;> simp

@[simp] theorem State.mem_applyTables (i : Nat) : (s.applyTables i).sq.mem = s.sq.mem := by
  unfold State.applyTables
  split <;> simp

/-! ### Matches -/

@[simp] theorem State.mem_accumulate (c b : Nat) (tau : Int) (full multi : Bool) :
    (s.accumulate c b tau full multi).1.sq.mem = s.sq.mem := by
  unfold State.accumulate
  dsimp only
  split <;> simp

@[simp] theorem State.mem_keepMatch (c : Nat) (g : Gate) (i : Nat) (m : Match) :
    (s.keepMatch c g i m).sq.mem = s.sq.mem := by
  unfold State.keepMatch
  split <;> simp

@[simp] theorem State.mem_settleMatch (c id i : Nat) : (s.settleMatch c id i).sq.mem = s.sq.mem := by
  unfold State.settleMatch
  (repeat' split) <;> simp

@[simp] theorem State.mem_settleMatches (c : Nat) (g : Gate) : (s.settleMatches c g).sq.mem = s.sq.mem := by
  simp [State.settleMatches]

@[simp] theorem State.mem_markHead (c : Nat) : (s.markHead c).sq.mem = s.sq.mem := by
  unfold State.markHead
  (repeat' split) <;> simp [State.markInjected]

@[simp] theorem State.mem_testMatch (c : Nat) (g : Gate) (i : Nat) : (s.testMatch c g i).sq.mem = s.sq.mem := by
  unfold State.testMatch
  (repeat' split) <;> simp

/-! ### Calibration objects -/

@[simp] theorem State.mem_finishLearn (l : StaLearn) : (s.finishLearn l).sq.mem = s.sq.mem := by
  simp [State.finishLearn, State.concludeRun, State.ensureSet, State.setItem]

@[simp] theorem State.mem_finishTarget (t : TargetRun) : (s.finishTarget t).sq.mem = s.sq.mem := by
  simp [State.finishTarget, State.concludeRun, State.ensureSet, State.setItem]

/-! ### Start inputs -/

@[simp] theorem State.mem_staRise (k r : Nat) (t : Tq) : (s.staRise k r t).sq.mem = s.sq.mem := by
  unfold State.staRise
  split <;> simp [State.reportEmission]

@[simp] theorem State.mem_staFall (k : Nat) (t : Tq) : (s.staFall k t).sq.mem = s.sq.mem := by
  unfold State.staFall
  split <;> simp [State.reportEmission]

@[simp] theorem State.mem_staEdge (k : Nat) (falling : Bool) (tBall : Tq) (phase n : Nat) :
    (s.staEdge k falling tBall phase n).sq.mem = s.sq.mem := by
  unfold State.staEdge
  dsimp only
  split <;> simp [State.pairLost, State.staStamp]

@[simp] theorem State.mem_chooseRef (x : Shot) (dark : Bool) : (s.chooseRef x dark).1.sq.mem = s.sq.mem := by
  unfold State.chooseRef
  dsimp only
  (repeat' split) <;> simp [State.learnShot]

@[simp] theorem State.mem_fixReference (k : Nat) (x : Shot) : (s.fixReference k x).sq.mem = s.sq.mem := by
  simp [State.fixReference]

/-! ### Banks -/

@[simp] theorem State.mem_endHold (c : Nat) : (s.endHold c).sq.mem = s.sq.mem := by
  unfold State.endHold
  split <;> simp

/-! ### Engines -/

@[simp] theorem State.mem_refreshEngines : s.refreshEngines.sq.mem = s.sq.mem := by simp [State.refreshEngines]

@[simp] theorem State.mem_commitJob (j : Job) (kind : ResultKind) (recs : List Rec) (tof : Option (Int × Bool)) :
    (s.commitJob j kind recs tof).sq.mem = s.sq.mem := by
  simp [State.commitJob, State.useSlots, State.targetJob, State.endBank]

@[simp] theorem State.mem_notMeasured (j : Job) (why : NotMeasured) : (s.notMeasured j why).sq.mem = s.sq.mem := by
  simp [State.notMeasured]

@[simp] theorem State.mem_closeBank (b : Nat) (st : BankStep) : (s.closeBank b st).sq.mem = s.sq.mem := by
  unfold State.closeBank
  dsimp only
  split <;> simp [State.leaveBank]

@[simp] theorem State.mem_engineFault (e : Nat) (j : Job) (why : FaultCause) :
    (s.engineFault e j why).sq.mem = s.sq.mem := by simp [State.engineFault]

@[simp] theorem State.mem_beginTest (e : Nat) : (s.beginTest e).sq.mem = s.sq.mem := by simp [State.beginTest]

@[simp] theorem State.mem_endTest (e : Nat) (pass : Bool) : (s.endTest e pass).sq.mem = s.sq.mem := by
  simp [State.endTest]

@[simp] theorem State.mem_dropTest (w : WaitKey × Option Taken) : (s.dropTest w).sq.mem = s.sq.mem := by
  unfold State.dropTest
  split <;> simp

@[simp] theorem State.mem_turnAway : s.turnAway.sq.mem = s.sq.mem := by simp [State.turnAway]

/-! ### Rings -/

@[simp] theorem State.mem_releaseStream (n : Nat) : (s.releaseStream n).sq.mem = s.sq.mem := by simp [State.releaseStream]
@[simp] theorem State.mem_modRing (n : Nat) (f : Ring → Ring) : (s.modRing n f).sq.mem = s.sq.mem := (rfl)

@[simp] theorem State.mem_confirmBatches (n k : Nat) : (s.confirmBatches n k).sq.mem = s.sq.mem := by
  simp [State.confirmBatches, State.deliverBatch, State.drainAllRaw]

@[simp] theorem State.mem_writeSlot (n : Nat) (b : Batch) : (s.writeSlot n b).sq.mem = s.sq.mem := (rfl)

@[simp] theorem State.mem_reconcileRing (n k : Nat) : (s.reconcileRing n k).sq.mem = s.sq.mem := by
  simp [State.reconcileRing, State.writePi]

@[simp] theorem State.mem_reconcile (reads : List (Option Bool)) : (s.reconcile reads).sq.mem = s.sq.mem := by
  unfold State.reconcile
  split <;> simp

@[simp] theorem State.mem_suspendRings : s.suspendRings.sq.mem = s.sq.mem := by simp [State.suspendRings]
@[simp] theorem State.mem_refreshPcie : s.refreshPcie.sq.mem = s.sq.mem := by simp [State.refreshPcie]

@[simp] theorem State.mem_hostLinkReset (kind : LinkReset) : (s.hostLinkReset kind).sq.mem = s.sq.mem := by
  simp [State.hostLinkReset]

/-! ### Event fabric -/

@[simp] theorem State.mem_hevEvent (n : Nat) (p : Nat × Event) : (s.hevEvent n p).sq.mem = s.sq.mem := by
  simp [State.hevEvent]

@[simp] theorem State.mem_arriveAt (i : Nat) (es : Wave) : (s.arriveAt i es).sq.mem = s.sq.mem := by
  simp [State.arriveAt, State.arriveAll]

/-! ### The PLL: commands -/

@[simp] theorem State.mem_changePlan (r : PllRequest) : (s.changePlan r).sq.mem = s.sq.mem := by simp [State.changePlan]

@[simp] theorem State.mem_chooseBand : s.chooseBand.sq.mem = s.sq.mem := by
  unfold State.chooseBand
  (repeat' split) <;> simp [State.searchBand]

/-! ### Network -/

@[simp] theorem State.mem_refreshPort (n : Nat) : (s.refreshPort n).sq.mem = s.sq.mem := by simp [State.refreshPort]
@[simp] theorem State.mem_loseControl : s.loseControl.sq.mem = s.sq.mem := (rfl)

@[simp] theorem State.mem_selectBest : s.selectBest.sq.mem = s.sq.mem := by
  unfold State.selectBest
  (repeat' split) <;> simp [State.selectMaster]

@[simp] theorem State.mem_loseMaster : s.loseMaster.sq.mem = s.sq.mem := (rfl)

@[simp] theorem State.mem_stampOn (n : Nat) : (s.stampOn n).sq.mem = s.sq.mem := by
  unfold State.stampOn
  split <;> simp [State.adoptPort]

@[simp] theorem State.mem_adoptPtp : s.adoptPtp.sq.mem = s.sq.mem := by
  unfold State.adoptPtp
  split <;> simp

@[simp] theorem State.mem_servo (o : Int) : (s.servo o).sq.mem = s.sq.mem := by
  simp [State.servo, State.largeOffset, State.holdRate, State.applyOffset, State.correct]

@[simp] theorem State.mem_ptpFrame (n : Nat) (b : PtpBody) : (s.ptpFrame n b).sq.mem = s.sq.mem := by
  unfold State.ptpFrame
  dsimp only
  (repeat' split) <;> simp [State.announced, State.hear]

@[simp] theorem State.mem_forward (n : Nat) (f : NetFrame) : (s.forward n f).sq.mem = s.sq.mem := by
  simp [State.forward, State.enqueue]

@[simp] theorem State.mem_sendFrame (k : Nat) : (s.sendFrame k).sq.mem = s.sq.mem := by
  unfold State.sendFrame
  (repeat' split) <;> simp

/-! ### Motor -/

@[simp] theorem State.mem_motorFault : s.motorFault.sq.mem = s.sq.mem := by simp [State.motorFault]

@[simp] theorem State.mem_motorStart (target : Nat) : (s.motorStart target).sq.mem = s.sq.mem := by
  unfold State.motorStart
  split <;> simp

@[simp] theorem State.mem_motorHalt : s.motorHalt.sq.mem = s.sq.mem := by
  unfold State.motorHalt
  split <;> simp [State.motorStop]

/-! ### Encoders and windows of the supervisor -/

@[simp] theorem State.mem_checkEncoders : s.checkEncoders.sq.mem = s.sq.mem := by simp [State.checkEncoders]

@[simp] theorem State.mem_checkDusk : s.checkDusk.sq.mem = s.sq.mem := by
  unfold State.checkDusk
  split <;> simp

/-! ### Runs of calibration -/

@[simp] theorem State.mem_refreshCal : s.refreshCal.sq.mem = s.sq.mem := by
  refine State.mem_each _ (fun s o => ?_) _ s
  rfl

@[simp] theorem State.mem_feedUnit (width deadline : Nat) (p : State × List SkewUnit) (u : SkewUnit) :
    (State.feedUnit width deadline p u).1.sq.mem = p.1.sq.mem := by
  obtain ⟨s, later⟩ := p
  unfold State.feedUnit
  dsimp only
  (repeat' split) <;> simp

@[simp] theorem State.mem_feedTrack (width deadline : Nat) (r : SkewRun) :
    (s.feedTrack width deadline r).sq.mem = s.sq.mem := by
  have fed (us : List SkewUnit) (p : State × List SkewUnit) :
      (us.foldl (State.feedUnit width deadline) p).1.sq.mem = p.1.sq.mem := by
    induction us generalizing p with
    | nil => rfl
    | cons u us ih => rw [List.foldl_cons, ih, State.mem_feedUnit]
  exact fed _ _

@[simp] theorem State.mem_stopTrack : s.stopTrack.sq.mem = s.sq.mem := by
  unfold State.stopTrack
  split <;> simp

@[simp] theorem State.mem_scheduleRuns : s.scheduleRuns.sq.mem = s.sq.mem := by
  simp [State.scheduleRuns, State.scheduleIdle]

@[simp] theorem State.mem_startIdle : s.startIdle.sq.mem = s.sq.mem := by simp [State.startIdle]
@[simp] theorem State.mem_watchHeat : s.watchHeat.sq.mem = s.sq.mem := by simp [State.watchHeat]

/-! ### Resets -/

@[simp] theorem State.mem_cutStore : s.cutStore.sq.mem = s.sq.mem := by
  unfold State.cutStore
  split <;> simp

@[simp] theorem State.mem_quietOutput (o : Nat) : (s.quietOutput o).sq.mem = s.sq.mem := by
  unfold State.quietOutput
  dsimp only
  split <;> simp

@[simp] theorem State.mem_enterNadir : s.enterNadir.sq.mem = s.sq.mem := by simp [State.enterNadir, State.readMode]
@[simp] theorem State.mem_noteTest (t : SelfTest) (pass : Bool) : (s.noteTest t pass).sq.mem = s.sq.mem := (rfl)

@[simp] theorem State.mem_testsDone : s.testsDone.sq.mem = s.sq.mem := by
  simp [State.testsDone, State.resumeMotor, State.readMode, State.retestStep, State.resume, State.finishRetest,
    State.refreshPorts, State.startSupervisor]

@[simp] theorem State.mem_testFailed (t : SelfTest) : (s.testFailed t).sq.mem = s.sq.mem := by simp [State.testFailed]

@[simp] theorem State.mem_denyHeld : s.denyHeld.sq.mem = s.sq.mem := by
  unfold State.denyHeld
  split <;> simp

@[simp] theorem State.mem_dropTaken : s.dropTaken.sq.mem = s.sq.mem := by
  unfold State.dropTaken
  split <;> simp

@[simp] theorem State.mem_warmReset : s.warmReset.sq.mem = s.sq.mem := by
  simp [State.warmReset, State.emptyPlaces, State.dropQueued, State.dropWork]

@[simp] theorem State.mem_readFlash (fails : Bool) : (s.readFlash fails).sq.mem = s.sq.mem := by
  refine State.mem_foldl _ (fun s k => ?_) _ _
  rfl

/-! ### Tests and function resets -/

@[simp] theorem State.mem_beginFuncReset (b k : Nat) : (s.beginFuncReset b k).sq.mem = s.sq.mem := (rfl)

@[simp] theorem State.mem_functionFailed (t : SelfTest) : (s.functionFailed t).sq.mem = s.sq.mem := by
  simp [State.functionFailed]

@[simp] theorem State.mem_firstCalibration (k : Nat) (readings : List (Nat × Nat)) :
    (s.firstCalibration k readings).sq.mem = s.sq.mem := by
  simp [State.firstCalibration, State.firstConverter, State.calDone]

@[simp] theorem State.mem_functionTest (t : SelfTest) (pass : Bool) (readings : List (Nat × Nat)) :
    (s.functionTest t pass readings).sq.mem = s.sq.mem := by
  unfold State.functionTest
  dsimp only
  split
  · rfl
  · split <;> simp [State.endFuncReset]

@[simp] theorem State.mem_resetChannel (c : Nat) : (s.resetChannel c).sq.mem = s.sq.mem := by
  unfold State.resetChannel
  dsimp only
  split <;> simp [State.countDiscards]

/-! ### Supply -/

@[simp] theorem State.mem_refreshPace : s.refreshPace.sq.mem = s.sq.mem := by simp [State.refreshPace]

/-! ### Power warning -/

@[simp] theorem State.mem_finalRead (p : Nat × Bool) : (s.finalRead p).sq.mem = s.sq.mem := by
  unfold State.finalRead
  dsimp only
  (repeat' split) <;> simp

/-! ### Mailboxes -/

@[simp] theorem State.mem_takeDual (t : Taken) : (s.takeDual t).sq.mem = s.sq.mem := by
  unfold State.takeDual
  split <;> simp [State.execute]

@[simp] theorem State.mem_takeNew (t : Taken) (p : Option (List Byte)) : (s.takeNew t p).sq.mem = s.sq.mem := by
  unfold State.takeNew
  split <;> simp [State.execute]

@[simp] theorem State.mem_takeFrom (n : Nat) (dma : DmaOutcome) : (s.takeFrom n dma).sq.mem = s.sq.mem := by
  unfold State.takeFrom
  dsimp only
  split <;> simp [State.replay]

/-! ### One cycle -/

theorem State.mem_cycle : s.cycle.sq.mem = s.sq.mem := by simp [State.cycle, State.tick, State.runLoop]

end Sys2Proof.Machine

/-! SUPPORT. What a row does to program memory: every row but those that write it, clear it or reset the device leaves it as it
stands in each next state that it answers. -/

namespace Sys2Proof.Machine

/-! ### What a row answers -/

/-- What a row answers leaves program memory as it stands in `s`. -/
def KeepsMem (s : State) (o : Out) : Prop := ∀ t, o = .next t → t.sq.mem = s.sq.mem

@[simp] theorem keepsMem_next (s t : State) : KeepsMem s (.next t) ↔ t.sq.mem = s.sq.mem := by
  simp [KeepsMem]

theorem KeepsMem.of_mem {s u : State} {o : Out} (h : KeepsMem u o) (e : u.sq.mem = s.sq.mem) : KeepsMem s o :=
  fun t ht => (h t ht).trans e

@[simp] theorem keepsMem_ite (s : State) (c : Prop) [Decidable c] (a b : Out) :
    KeepsMem s (if c then a else b) ↔ if c then KeepsMem s a else KeepsMem s b := by
  split <;> rfl

@[simp] theorem keepsMem_hostWrite (f : State → Out) (s : State) (hf : KeepsMem s (f s)) : KeepsMem s (hostWrite f s) := by
  unfold hostWrite
  split
  · exact hf
  · simp

@[simp] theorem Answer.state_ite (c : Prop) [Decidable c] (a b : Answer) :
    (if c then a else b).state = if c then a.state else b.state := apply_ite Answer.state c a b

theorem State.mem_runBare (s : State) (c : Instr) (b : Body) :
    (s.runBare c b).sq.mem = s.sq.mem ∨ (s.runBare c b).sq.mem = b.run.state.sq.mem := by
  unfold State.runBare
  split
  · split
    next h => exact .inr (by simp [h])
    next h => exact .inr (by simp [h])
  · exact .inl (by simp)

theorem State.mem_runTaken (s : State) (c : Instr) (t : Taken) (p : Option Taken) (b : Body) :
    (s.runTaken c t p b).sq.mem = s.sq.mem ∨ (s.runTaken c t p b).sq.mem = b.run.state.sq.mem := by
  unfold State.runTaken
  dsimp only
  split
  · split
    next h => exact .inr (by cases p <;> simp [h])
    next h =>
      split
      · exact .inl (by cases p <;> simp)
      · exact .inr (by simp [h])
  · exact .inl (by cases p <;> simp)

/-- A row of a mailbox command leaves program memory as it stands, or does to it what its body does. -/
theorem mem_cmdRow (c : Instr) (b : State → Body) (s : State) :
    ∃ t, cmdRow c b s = .next t ∧
      (t.sq.mem = s.sq.mem ∨ ∃ u : State, u.sq.mem = s.sq.mem ∧ t.sq.mem = (b u).run.state.sq.mem) := by
  unfold cmdRow
  split
  · split
    · exact ⟨_, rfl, (s.mem_runBare c (b s)).imp_right fun h => ⟨s, rfl, h⟩⟩
    · exact ⟨_, rfl, (s.release.mem_runTaken c _ _ (b s.release)).imp_right fun h => ⟨s.release, rfl, h⟩⟩
  · exact ⟨s, rfl, .inl rfl⟩

@[simp] theorem keepsMem_cmdRow (c : Instr) (b : State → Body) (s : State) (hb : ∀ u, (b u).run.state.sq.mem = u.sq.mem) :
    KeepsMem s (cmdRow c b s) := by
  obtain ⟨t, ht, h | ⟨u, hu, h⟩⟩ := mem_cmdRow c b s
  · rw [ht, keepsMem_next, h]
  · rw [ht, keepsMem_next, h, hb, hu]

@[simp] theorem keepsMem_dualRow (c : Instr) (b : State → Body) (s : State) (hb : ∀ u, (b u).run.state.sq.mem = u.sq.mem) :
    KeepsMem s (dualRow c b s) := by
  unfold dualRow
  split
  · split
    · split
      · simp [State.holdFirst]
      · rw [keepsMem_next]
        exact (s.release.mem_runTaken c _ none (b s.release)).elim id fun h => h.trans (hb s.release)
    · exact keepsMem_cmdRow c b s hb
    · split <;> simp
  · simp

@[simp] theorem State.mem_storeDeviceId (s : State) (id : Nat) (verified : Bool) :
    (s.storeDeviceId id verified).state.sq.mem = s.sq.mem := by
  unfold State.storeDeviceId
  split <;> rfl

/-- A store changes program memory only as what follows it does. -/
@[simp] theorem State.mem_storing (s : State) (id : Nat) (p : CalPayload) (verified : Bool)
    (good : State → State × List Fld) (hg : ∀ s, (good s).1.sq.mem = s.sq.mem) :
    (s.storing id p verified good).state.sq.mem = s.sq.mem := by
  unfold State.storing
  dsimp only
  split <;> simp [hg, State.storeObject]

/-! ### The rows that take a case split, in the order of the chapters -/

/-! ### Outputs and test pulses -/

@[simp] theorem keepsMem_execOutSchedule (output n w : Nat) (time : FullTime) (offsets : List Nat) (s : State) :
    KeepsMem s (execOutSchedule output n w time offsets s) :=
  keepsMem_cmdRow _ _ _ fun u => by
    dsimp only
    split <;> simp

@[simp] theorem keepsMem_execEdgeGeneratorTake (output : Nat) (s : State) : KeepsMem s (execEdgeGeneratorTake output s) := by
  unfold execEdgeGeneratorTake
  dsimp only
  (repeat' split) <;> simp

@[simp] theorem keepsMem_execBurstFired (output : Nat) (s : State) : KeepsMem s (execBurstFired output s) := by
  unfold execBurstFired
  (repeat' split) <;> simp [State.fireBurst]

@[simp] theorem keepsMem_execBurstComplete (output : Nat) (s : State) : KeepsMem s (execBurstComplete output s) := by
  unfold execBurstComplete
  (repeat' split) <;> simp

@[simp] theorem keepsMem_execTestPulsePlace (lane : Nat) (s : State) : KeepsMem s (execTestPulsePlace lane s) := by
  unfold execTestPulsePlace
  (repeat' split) <;> simp

@[simp] theorem keepsMem_execTestPulseResult (lane : Nat) (stamp : Option Tq) (s : State) :
    KeepsMem s (execTestPulseResult lane stamp s) := by
  unfold execTestPulseResult
  (repeat' split) <;> simp

@[simp] theorem keepsMem_execTestPulseDeadline (lane : Nat) (s : State) : KeepsMem s (execTestPulseDeadline lane s) := by
  unfold execTestPulseDeadline
  (repeat' split) <;> simp

/-! ### Polestar -/

@[simp] theorem keepsMem_execSyncResult (s : State) : KeepsMem s (execSyncResult s) :=
  keepsMem_cmdRow _ _ _ fun u => by
    dsimp only
    split <;> simp

@[simp] theorem keepsMem_execSyncoPulse (s : State) : KeepsMem s (execSyncoPulse s) := by
  unfold execSyncoPulse
  dsimp only
  split <;> simp [State.pulseSynco]

/-! ### Angle -/

@[simp] theorem keepsMem_execAngleMarkCrossing (mark : Nat) (s : State) : KeepsMem s (execAngleMarkCrossing mark s) := by
  unfold execAngleMarkCrossing
  dsimp only
  (repeat' split) <;> simp

/-! ### Sequencers -/

@[simp] theorem keepsMem_execProgCommit (first count : Nat) (s : State) : KeepsMem s (execProgCommit first count s) :=
  keepsMem_cmdRow _ _ _ fun u => by split <;> simp [State.addCommitted]

/-! ### Stamps and inputs -/

@[simp] theorem keepsMem_execStampDelivery (input : Nat) (s : State) : KeepsMem s (execStampDelivery input s) := by
  unfold execStampDelivery
  (repeat' split) <;> simp [State.deliverStamp, State.deliverRaw, State.loseRaw, State.dropStamp, State.popPath]

@[simp] theorem keepsMem_execStampTimeout (input : Nat) (s : State) : KeepsMem s (execStampTimeout input s) := by
  unfold execStampTimeout
  (repeat' split) <;> simp

/-! ### Converters and matches -/

@[simp] theorem keepsMem_execGateCalDecision (channel gate : Nat) (s : State) :
    KeepsMem s (execGateCalDecision channel gate s) := by
  unfold execGateCalDecision
  (repeat' split) <;> simp [State.decideCal]

@[simp] theorem keepsMem_execRollingCalDue (channel : Nat) (s : State) : KeepsMem s (execRollingCalDue channel s) := by
  unfold execRollingCalDue
  (repeat' split) <;> simp [State.roll]

@[simp] theorem keepsMem_execGateOpen (channel gate : Nat) (s : State) : KeepsMem s (execGateOpen channel gate s) := by
  unfold execGateOpen
  (repeat' split) <;> simp [State.openGate]

@[simp] theorem keepsMem_execGateDrain (channel gate : Nat) (s : State) : KeepsMem s (execGateDrain channel gate s) := by
  unfold execGateDrain
  (repeat' split) <;> simp [State.drainGate, State.removeGate]

@[simp] theorem keepsMem_execMatchDecision (channel gate : Nat) (s : State) :
    KeepsMem s (execMatchDecision channel gate s) := by
  unfold execMatchDecision
  (repeat' split) <;> simp [State.decideWord, State.acceptMatch, State.markMulti]

@[simp] theorem keepsMem_execNeighbourTest (channel gate : Nat) (s : State) :
    KeepsMem s (execNeighbourTest channel gate s) := by
  unfold execNeighbourTest
  (repeat' split) <;> simp

/-! ### Start inputs -/

@[simp] theorem keepsMem_execStaWindowClose (row : Nat) (s : State) : KeepsMem s (execStaWindowClose row s) := by
  unfold execStaWindowClose
  (repeat' split) <;> simp [State.missPulse]

@[simp] theorem keepsMem_execEmissionReferenceFixed (shot : Nat) (s : State) :
    KeepsMem s (execEmissionReferenceFixed shot s) := by
  unfold execEmissionReferenceFixed
  split <;> simp

/-! ### Histograms and engines -/

@[simp] theorem keepsMem_execBankClose (channel bank : Nat) (s : State) : KeepsMem s (execBankClose channel bank s) := by
  unfold execBankClose
  dsimp only
  (repeat' split) <;> simp

@[simp] theorem keepsMem_execEngineJobStart (engine : Nat) (s : State) : KeepsMem s (execEngineJobStart engine s) := by
  unfold execEngineJobStart
  (repeat' split) <;> simp [State.startJob]

@[simp] theorem keepsMem_execEngineJobDone (engine : Nat) (s : State) : KeepsMem s (execEngineJobDone engine s) := by
  unfold execEngineJobDone
  (repeat' split) <;> simp [State.finishJob, State.countRun]

@[simp] theorem keepsMem_execEngineFault (engine : Nat) (cause : EngineFault) (s : State) :
    KeepsMem s (execEngineFault engine cause s) := by
  unfold execEngineFault
  (repeat' split) <;> simp [State.idleFault]

@[simp] theorem keepsMem_execJobTimeout (engine : Nat) (s : State) : KeepsMem s (execJobTimeout engine s) := by
  unfold execJobTimeout
  (repeat' split) <;> simp

@[simp] theorem keepsMem_execBatchTimeout (stream : Nat) (s : State) : KeepsMem s (execBatchTimeout stream s) := by
  unfold execBatchTimeout
  (repeat' split) <;> simp

@[simp] theorem keepsMem_execNoEngineInServiceTimeout (s : State) : KeepsMem s (execNoEngineInServiceTimeout s) := by
  unfold execNoEngineInServiceTimeout
  split <;> simp

/-! ### Rings -/

@[simp] theorem keepsMem_execRingResume (reads : List (Option Bool)) (s : State) : KeepsMem s (execRingResume reads s) :=
  keepsMem_cmdRow _ _ _ fun u => by split <;> simp

@[simp] theorem keepsMem_execRingBatchWrite (stream : Nat) (s : State) : KeepsMem s (execRingBatchWrite stream s) := by
  unfold execRingBatchWrite
  dsimp only
  (repeat' split) <;> simp [State.writePi]

@[simp] theorem keepsMem_execConfirmationRead (stream : Nat) (s : State) : KeepsMem s (execConfirmationRead stream s) := by
  unfold execConfirmationRead
  dsimp only
  (repeat' split) <;> simp

@[simp] theorem keepsMem_execBatchConfirmed (stream : Nat) (ok : Bool) (s : State) :
    KeepsMem s (execBatchConfirmed stream ok s) := by
  unfold execBatchConfirmed
  (repeat' split) <;> simp

@[simp] theorem keepsMem_execSmiurnSend (stream : Nat) (s : State) : KeepsMem s (execSmiurnSend stream s) := by
  unfold execSmiurnSend
  dsimp only
  (repeat' split) <;> simp [State.deliverBatch, State.drainAllRaw]

/-! ### Event fabric -/

@[simp] theorem keepsMem_execDeliveryWave (s : State) : KeepsMem s (execDeliveryWave s) := by
  unfold execDeliveryWave
  dsimp only
  split
  · simp
  · rw [keepsMem_next]
    refine State.mem_foldl _ (fun u c => ?_) _ _
    split <;> simp

/-! ### The PLL -/

@[simp] theorem keepsMem_execPllRefConfig (cfg : PllRefCfg) (s : State) : KeepsMem s (execPllRefConfig cfg s) :=
  keepsMem_cmdRow _ _ _ fun u => by split <;> simp [State.refFields]

@[simp] theorem keepsMem_execPllConfig (cfg : PllCfg) (s : State) : KeepsMem s (execPllConfig cfg s) :=
  keepsMem_cmdRow _ _ _ fun u => by split <;> simp [State.pllFields]

/-! ### Motor -/

@[simp] theorem keepsMem_execAtSpeed (s : State) : KeepsMem s (execAtSpeed s) := by
  unfold execAtSpeed
  split <;> simp

/-! ### The supervisor -/

@[simp] theorem keepsMem_execRampTimeExpiry (s : State) : KeepsMem s (execRampTimeExpiry s) := by
  unfold execRampTimeExpiry
  split <;> simp

/-! ### Calibration -/

@[simp] theorem keepsMem_execCalSetWrite (object set : Nat) (temp : Int) (len src : Nat) (data : Option (List Int))
    (s : State) : KeepsMem s (execCalSetWrite object set temp len src data s) := by
  unfold execCalSetWrite
  refine KeepsMem.of_mem (keepsMem_cmdRow _ _ _ fun u => ?_) ?_
  · simp
  · simp [State.noteSetRead]

@[simp] theorem keepsMem_execTemperatureUpdate (readings : List Int) (s : State) :
    KeepsMem s (execTemperatureUpdate readings s) := by
  have read : (((List.range 16).zip readings).foldl (fun s p => s.setSensor p.1 p.2) s).sq.mem = s.sq.mem :=
    State.mem_foldl (fun s (p : Nat × Int) => s.setSensor p.1 p.2) (fun _ _ => rfl) _ s
  simp [execTemperatureUpdate, read]

@[simp] theorem keepsMem_execNonlinearityRun (input : Nat) (counts : List (List Nat)) (result : NonlinearityResult)
    (s : State) : KeepsMem s (execNonlinearityRun input counts result s) := by
  unfold execNonlinearityRun
  (repeat' split) <;> simp [State.newVernier, State.nlFailed]

@[simp] theorem keepsMem_execSkewTracking (sensor width deadline : Nat) (s : State) :
    KeepsMem s (execSkewTracking sensor width deadline s) := by
  unfold execSkewTracking
  (repeat' split) <;> simp [State.beginTrack, State.endTrack, State.trackOut, State.correctSkew, State.trackIn]

/-! ### Tests and resets -/

@[simp] theorem keepsMem_execFirmwareStart (s : State) : KeepsMem s (execFirmwareStart s) := by
  unfold execFirmwareStart
  dsimp only
  (repeat' split) <;> simp [State.stayInBoot, State.startFirmware, State.scanStores, State.firstStart, State.deriveLost,
    State.issueLost, State.scheduleMissing]

/-! ### System, supply and the power warning -/

@[simp] theorem keepsMem_execFwUpdateWrite (offset : Nat) (data : List Byte) (s : State) :
    KeepsMem s (execFwUpdateWrite offset data s) :=
  keepsMem_cmdRow _ _ _ fun u => by split <;> simp

@[simp] theorem keepsMem_execFwUpdateCommit (raiseMin : Nat) (s : State) : KeepsMem s (execFwUpdateCommit raiseMin s) :=
  keepsMem_cmdRow _ _ _ fun u => by split <;> simp [State.commitImage]

@[simp] theorem keepsMem_execVddaAdjust (readMv : Option Nat) (s : State) : KeepsMem s (execVddaAdjust readMv s) := by
  unfold execVddaAdjust
  (repeat' split) <;> simp

/-! ### Mailboxes and registers -/

@[simp] theorem keepsMem_execEmbDatagram (udpPort : Nat) (via : Via) (srcIp srcPort : Nat) (frame : Frame)
    (payload : List Byte) (s : State) : KeepsMem s (execEmbDatagram udpPort via srcIp srcPort frame payload s) := by
  unfold execEmbDatagram
  split <;> simp [State.embReceive, State.dropIn]

@[simp] theorem keepsMem_execCommandTake (dma : DmaOutcome) (s : State) : KeepsMem s (execCommandTake dma s) := by
  unfold execCommandTake
  (repeat' split) <;> simp [State.noteRead]

@[simp] theorem keepsMem_execDualSubmissionTimeout (s : State) : KeepsMem s (execDualSubmissionTimeout s) := by
  unfold execDualSubmissionTimeout
  split <;> simp

end Sys2Proof.Machine

/-! O5. Every step keeps the canonical form of program memory (R86). -/

namespace Sys2Proof.Machine

variable {s t : State}

/-- Every next state that a row answers has its program memory in canonical form. -/
def MemCanonical (o : Out) : Prop := ∀ t, o = .next t → t.memInv

theorem State.memInv.of_mem (h : s.memInv) (e : t.sq.mem = s.sq.mem) : t.memInv := by
  rw [State.memInv, e]
  exact h

theorem State.memInv.of_keepsMem (h : s.memInv) {o : Out} (k : KeepsMem s o) : MemCanonical o :=
  fun t e => h.of_mem (k t e)

theorem State.memInv.next (h : t.memInv) : MemCanonical (.next t) := by
  intro u e
  cases e
  exact h

theorem MemCanonical.ite {c : Prop} [Decidable c] {a b : Out} (ha : MemCanonical a)
    (hb : MemCanonical b) : MemCanonical (if c then a else b) := by
  split
  · exact ha
  · exact hb

/-! ### The rows that write or clear program memory -/

theorem State.memInv.writeProgram (h : s.memInv) (a : Nat) (bs : List Byte) : (s.writeProgram a bs).memInv :=
  s.wf_writeProgram a bs h

theorem memCanonical_execProgWrite (h : s.memInv) (first count src : Nat) (data : Option (List Byte)) :
    MemCanonical (execProgWrite first count src data s) := by
  obtain ⟨t, ht, e | ⟨u, hu, e⟩⟩ := mem_cmdRow (.progWrite first count src data) _ s
  · rw [execProgWrite, ht]
    exact (h.of_mem e).next
  · rw [execProgWrite, ht]
    exact State.memInv.next (.of_mem ((h.of_mem hu).writeProgram _ _) e)

theorem memCanonical_execProgramMemoryWrite (h : s.memInv) (offset : Nat) (data : List Byte) :
    MemCanonical (execProgramMemoryWrite offset data s) :=
  .ite (.ite h.next (.ite (State.memInv.next h) (h.writeProgram _ _).next)) h.next

/-- A pass of the test of program memory leaves it empty (R391). -/
theorem State.memInv.testReadies (h : s.memInv) (t : SelfTest) : (s.testReadies t).memInv := by
  unfold State.testReadies
  split
  · rfl
  all_goals exact h.of_mem (by simp [State.startTimebase])

theorem memCanonical_execDeviceTestComplete (h : s.memInv) (test : SelfTest) (pass : Bool) :
    MemCanonical (execDeviceTestComplete test pass s) := by
  refine .ite (State.memInv.next ?_) (.ite (h.of_mem (by simp [State.lockstepMismatch])).next h.next)
  split
  · exact .of_mem ((h.of_mem (State.mem_noteTest ..)).testReadies test) (State.mem_testsDone _)
  · exact h.of_mem (State.mem_testFailed ..)

theorem State.memInv_coldReset (s : State) (marker : Bool) : (s.coldReset marker).memInv :=
  State.memInv_reset.of_mem ((State.mem_refreshCal _).trans rfl)

theorem memCanonical_execRstNFall (h : s.memInv) : MemCanonical (execRstNFall s) := .ite h.next (s.memInv_coldReset true).next

theorem memCanonical_execSupplyOutOfRange (h : s.memInv) : MemCanonical (execSupplyOutOfRange s) :=
  .ite h.next (s.memInv_coldReset false).next

/-! ### Every row, and every step -/

theorem memCanonical_exec (h : s.memInv) (c : Instr) : MemCanonical (exec c s) := by
  cases c
  case progWrite first count src data => exact memCanonical_execProgWrite h first count src data
  case programMemoryWrite offset data => exact memCanonical_execProgramMemoryWrite h offset data
  case deviceTestComplete test pass => exact memCanonical_execDeviceTestComplete h test pass
  case rstNFall => exact memCanonical_execRstNFall h
  case supplyOutOfRange => exact memCanonical_execSupplyOutOfRange h
  -- Outputs and test pulses
  case outConfig | outFormat | outSchedule | outStatus | outCountersClear | staConfig | codeProfileSet | edgeGeneratorTake |
      burstFired | burstComplete | formatTakesEffect | testConfig | testPulseRequest | testResultRead | testPulsePlace |
      testPulseResult | testPulseDeadline =>
    exact h.of_keepsMem (by simp [exec, execOutConfig, execOutFormat, execOutStatus, execOutCountersClear, execStaConfig,
      execCodeProfileSet, execFormatTakesEffect, execTestConfig, execTestPulseRequest, execTestResultRead,
      State.clearOutput])
  -- Polestar
  case timeStatus | timeSet | timeSetSecHi | alarmSet | alarmCancel | syncConfig | syncResult | timeStepAccept |
      snapshotCapture | alarmInstance | secCarry | syncoPulse | syncMissing =>
    exact h.of_keepsMem (by simp [exec, execTimeStatus, execTimeSet, execTimeSetSecHi, execAlarmSet, execAlarmCancel,
      execSyncConfig, execTimeStepAccept, execSnapshotCapture, execAlarmInstance, execSecCarry, execSyncMissing, State.tick,
      State.runLoop])
  -- Angle
  case angleConfig | meridianSet | angleMarkSet | angleStatus | encoderEdge | encoderIndexEdge | estimatorTimeout |
      angleMarkCrossing =>
    exact h.of_keepsMem (by simp [exec, execAngleConfig, execMeridianSet, execAngleMarkSet, execAngleStatus,
      execEncoderEdge, execEncoderIndexEdge, execEstimatorTimeout, State.estRestart, State.remarkFacets, State.countEdge,
      State.usableEdge])
  -- Sequencers
  case slotIssue | seqConfig | progCommit | seqStart | seqStop | seqJump | seqStatus | seqStreamPush | seqCountersClear |
      seqGridSet | seqPush | streamPushErrClear =>
    exact h.of_keepsMem (by simp [exec, execSlotIssue, execSeqConfig, execSeqStart, execSeqStop, execSeqJump, execSeqStatus,
      execSeqStreamPush, execSeqCountersClear, execSeqGridSet, execSeqPush, execStreamPushErrClear, State.startSeq,
      State.doorbell, State.clearPushErr])
  -- Stamps and inputs
  case hitEdge | stampDelivery | stampTimeout | trgConfig | hitConfig | staInputConfig | inputStatus | inputCountersClear |
      gateProfileSet | channelRowSet | gateStatus | rawExportSet | gateTapSet | gateCountersClear | gateArm =>
    exact h.of_keepsMem (by simp [exec, execHitEdge, execTrgConfig, execHitConfig, execStaInputConfig, execInputStatus,
      execInputCountersClear, execGateProfileSet, execChannelRowSet, execGateStatus, execRawExportSet, execGateTapSet,
      execGateCountersClear, execGateArm, State.hitEdge, State.configureHit, State.clearInput, State.bindRaw,
      State.clearGates, State.armTap])
  -- Converters and matches
  case gateCalDecision | converterCalDone | rollingCalDue | gateOpen | gateDrain | matchDecision | neighbourTest =>
    exact h.of_keepsMem (by simp [exec, execConverterCalDone, State.calDone])
  -- Start inputs
  case staEdge | staWindowClose | emissionReferenceFixed =>
    exact h.of_keepsMem (by simp [exec, execStaEdge])
  -- Histograms and engines
  case matchProfileSet | histStatus | histRead | histHold | histCountersClear | streamConfig | kernelConfig | engineStatus |
      engineRetest | streamStatus | engineCountersClear | bankClose | issueLimitCommit | engineJobStart | engineJobDone |
      engineFault | jobTimeout | engineSelftestDone | engineSelftestDue | batchTimeout | noEngineInServiceTimeout =>
    exact h.of_keepsMem (by simp [exec, execMatchProfileSet, execHistStatus, execHistRead, execHistHold,
      execHistCountersClear, execStreamConfig, execKernelConfig, execEngineStatus, execEngineRetest, execStreamStatus,
      execEngineCountersClear, execIssueLimitCommit, execEngineSelftestDone, execEngineSelftestDue, State.clearHist])
  -- Rings
  case ringConfig | ringStatus | streamUdpSet | ringResume | ringCi | ciErrClear | ringBatchWrite | ringInterrupt |
      confirmationRead | batchConfirmed | smiurnSend | ringReconciliation | hostLinkReset | msixUnmask =>
    exact h.of_keepsMem (by simp [exec, execRingConfig, execRingStatus, execStreamUdpSet, execRingCi, execCiErrClear,
      execRingInterrupt, execRingReconciliation, execHostLinkReset, execMsixUnmask, State.enableMaster, State.flushVector,
      State.setPending, State.unmask])
  -- Event fabric
  case evchConfig | evchSubscribe | evchLock | evchStatus | evchCountersClear | evchFire | fireRejectedClear |
      hevValidClear | hevOverrunClear | deliveryWave =>
    exact h.of_keepsMem (by simp [exec, execEvchConfig, execEvchSubscribe, execEvchLock, execEvchStatus,
      execEvchCountersClear, execEvchFire, execFireRejectedClear, execHevValidClear, execHevOverrunClear,
      State.writeEvchFire, State.fireChannel, State.modHev])
  -- The PLL
  case pllRefConfig | pllConfig | pllStatus | pllRecal | pllHopStore | pllHop | pllSyncArm | pllCountersClear |
      pllTestMode | ckoConfig | synciEdge | refMeasurementWindow | refEdgeGap | revertHoldExpiry | pllUnlock | pllLock =>
    exact h.of_keepsMem (by simp [exec, execPllStatus, execPllRecal, execPllHopStore, execPllHop, execPllSyncArm,
      execPllCountersClear, execPllTestMode, execCkoConfig, execSynciEdge, execRefMeasurementWindow, execRefEdgeGap,
      execRevertHoldExpiry, execPllUnlock, execPllLock, State.syncReset, State.restartAttempt, State.lockPll,
      State.correctBy, State.correct, State.loadClocks, State.renewCals, State.noteRecal])
  -- Network
  case ptpConfig | ptpPortConfig | ptpStatus | bridgeConfig | bridgeStatus | netConfig | trgEdge | ptpFrameReceived |
      announceTimeout | ppsTimeout | ptpMessageTransmit | bridgeFrameReceived | macEntryAgeing | bridgeFault |
      phyLinkChange =>
    exact h.of_keepsMem (by simp [exec, execPtpConfig, execPtpPortConfig, execPtpStatus, execBridgeConfig, execBridgeStatus,
      execNetConfig, execTrgEdge, execPtpFrameReceived, execAnnounceTimeout, execPpsTimeout, execPtpMessageTransmit,
      execBridgeFrameReceived, execMacEntryAgeing, execBridgeFault, execPhyLinkChange, State.restartPtp, State.trgStamp,
      State.pps, State.bridgeFrame, State.learn, State.refreshPorts])
  -- Motor
  case motorConfig | motorRun | motorStatus | motorCountersClear | mfltNFault | mrdyChange | readyTimeout | atSpeed |
      motorStopped | motorRefUpdate =>
    exact h.of_keepsMem (by simp [exec, execMotorConfig, execMotorRun, execMotorStatus, execMotorCountersClear,
      execMfltNFault, execMrdyChange, execReadyTimeout, execMotorStopped, execMotorRefUpdate, State.motorSetSpeed,
      State.motorStop, State.updateReference, State.watchSpeed])
  -- The supervisor
  case encConfig | evchKeylock | svConfig | svInputConfig | svLimitSet | svRowWeight | svSlpWindow | svCommit | svStatus |
      svSafeStop | svCountersClear | encoderPairFault | svSampleTick | discrepancyFault | safetyReset | speedWindow |
      agreementFault | standstill | rampTimeExpiry | twilightTimeout | budgetWindowEnd | sectorBudgetReached |
      supervisorFault | countErrorNotCleared | encoderPairRestored =>
    exact h.of_keepsMem (by simp [exec, execEncConfig, execEvchKeylock, execSvConfig, execSvInputConfig, execSvLimitSet,
      execSvRowWeight, execSvSlpWindow, execSvCommit, execSvStatus, execSvSafeStop, execSvCountersClear,
      execEncoderPairFault, execSvSampleTick, execDiscrepancyFault, execSafetyReset, execSpeedWindow, execAgreementFault,
      execStandstill, execTwilightTimeout, execBudgetWindowEnd, execSectorBudgetReached, execSupervisorFault,
      execCountErrorNotCleared, execEncoderPairRestored, State.estRestart, State.enterLockout, State.reconfigure,
      State.stage, State.sampleReset, State.countSample, State.svSample, State.countReset, State.safetyReset,
      State.clearInputs, State.closeSpeedWindow, State.watchAgreement, State.chooseSet, State.checkSpeed,
      State.noteReadback])
  -- Calibration
  case calConfig | calRun | calStatus | calSetWrite | calSetRead | calTarget | calStaLearn | calStore | temperatureUpdate |
      nonlinearityRun | skewTracking =>
    exact h.of_keepsMem (by simp [exec, execCalConfig, execCalRun, execCalStatus, execCalSetRead, execCalTarget,
      execCalStaLearn, execCalStore, State.stopAuto, State.askRun])
  -- Tests and resets
  case warmReset | funcReset | retest | selftestStatus | wholeMemoryBist | watchdogExpiry | rstNRise | firmwareStart |
      functionTestComplete | svSelftestComplete | pciePerst | pcieLinkUp =>
    exact h.of_keepsMem (by simp [exec, execWarmReset, execFuncReset, execRetest, execSelftestStatus, execWholeMemoryBist,
      execWatchdogExpiry, execRstNRise, execFunctionTestComplete, execSvSelftestComplete, execPciePerst, execPcieLinkUp,
      State.resetGroup, State.resetSeq, State.endFuncReset, State.resetPort, State.beginRetest, State.bistDone,
      State.bistChannel, State.staleBanks, State.bistEngine, State.startSupervisor])
  -- System, supply and the power warning
  case sysInfo | deviceIdSet | uartConfig | mbxStatus | fwUpdateBegin | fwUpdateWrite | fwUpdateCommit | fwStatus |
      debugUnlock | fwSlotEraseDone | pmbusConfig | pmbusStatus | paceWindow | vddaAdjust | pmbusFault |
      periodicJournalCommit | pfailWarning | pfailRelease =>
    exact h.of_keepsMem (by simp [exec, execSysInfo, execDeviceIdSet, execUartConfig, execMbxStatus, execFwUpdateBegin,
      execFwStatus, execDebugUnlock, execFwSlotEraseDone, execPmbusConfig, execPmbusStatus, execPaceWindow, execPmbusFault,
      execPeriodicJournalCommit, execPfailWarning, execPfailRelease, State.commitJournal, State.warnSupervisor,
      State.eclipseAtOnce, State.enterDusk, State.joinKept, State.dropBank, State.unreserve, State.leaveBank])
  -- Mailboxes and registers
  case cmdPi | rspCi | mbErrClear | embDatagram | uartPacket | uartGapTimeout | commandTake | dualSubmissionTimeout |
      registerWrite | snapTrigger | paceLowClear | countersClear | intStatusClear | intMaskWrite =>
    exact h.of_keepsMem (by simp [exec, execCmdPi, execRspCi, execMbErrClear, execUartPacket, execUartGapTimeout,
      execRegisterWrite, execSnapTrigger, execPaceLowClear, execCountersClear, execIntStatusClear, execIntMaskWrite,
      State.dropIn, State.writeMsix, State.unmask, State.flushVector, State.setPending, State.writeSlotByte])

/-- Settles O5: one cycle leaves program memory as it stands. A row writes it, which keeps its canonical form, or empties it,
where its test passes or the device is reset, or leaves it alone. -/
theorem everyStepKeepsProgramMemory : Obligations.EveryStepKeepsProgramMemory := by
  unfold Obligations.EveryStepKeepsProgramMemory
  intro s t h e
  unfold step at e
  split at e
  · cases e
    exact h.of_mem s.mem_cycle
  · have queued (q : List Instr) : (s.withQueue q).memInv := h
    exact memCanonical_exec (queued _) _ t e

end Sys2Proof.Machine

/-! O15. A sequencer that is listed as after a reset, and a push of no entry (R105). -/

namespace Sys2Proof.Machine

/-- The reset state with its firmware running, but that the table of the sequencers, which in its canonical form lists no
sequencer that reads as after a reset, lists sequencer 0 as such a one. -/
def listedAtReset : State := { State.reset with
  dev := { State.reset.dev with run := .readyIdle, fwRunning := true }
  sq := { State.reset.sq with seqs := [(0, SeqState.reset)] } }

theorem admits_listedAtReset : listedAtReset.admits (.seqStreamPush 0 0) = true := by decide

/-- A push of no entry sets the sequencer to what it is, which takes its place off the table. -/
theorem seqs_push_listedAtReset {t : State} (h : exec (.seqStreamPush 0 0) listedAtReset = .next t) : t.sq.seqs = [] := by
  obtain rfl := Host.Outcome.next.inj h
  decide

/-- Refutes O15: its clause of a push of no entry onto a sequencer without a ring has nothing change, for a table of sequencers
of any form. The model sets the sequencer to the value that it has; `listedAtReset`, whose table is in no canonical form, lists
it no longer thereafter. -/
theorem not_sequencerSettings : ¬ Obligations.SequencerSettings := by
  unfold Obligations.SequencerSettings
  rintro ⟨-, -, -, -, -, ringless, -⟩
  obtain ⟨t, ht, hcore, -⟩ := ringless listedAtReset 0 admits_listedAtReset (by decide) rfl
  have kept : t.sq.seqs = [(0, SeqState.reset)] := congrArg (·.sq.seqs) hcore
  exact absurd ((seqs_push_listedAtReset ht).symm.trans kept) (by decide)

end Sys2Proof.Machine

/-! O16. Writes to program memory, and its commitment (R86 to R88, R92). -/

namespace Sys2Proof.Machine

variable {s : State}

/-- PROG_WRITE of entries that nothing protects (R87). -/
theorem progWrite_completes {first count src : Nat} {bs : List Byte}
    (ha : s.admits (.progWrite first count src (some bs)) = true) (hr : first + count ≤ 65536)
    (hp : s.isProtected first count = false) (hw : s.meetsWaiting first count = false) (hm : s.dmaOk = true)
    (hl : bs.length = 32 * count) :
    completes (.progWrite first count src (some bs)) s (s.writeProgram (32 * first) bs) .ok [] := by
  refine completes_plain (show execProgWrite first count src (some bs) s = _ from rfl) ha rfl rfl ?_
  simp [hr, hp, hw, hm, hl]

/-- PROG_COMMIT of a range without offending entries (R92). -/
theorem progCommit_completes {first count : Nat} (ha : s.admits (.progCommit first count) = true)
    (hr : first + count ≤ 65536) (hc : count ≠ 0) (ho : s.offending first count = []) :
    completes (.progCommit first count) s (s.addCommitted first count) .ok
      [fU32 (crc32 (s.sq.mem.bytes (32 * first) (32 * count)))] := by
  have ho' : s.release.offending first count = [] := ho
  refine completes_row (show execProgCommit first count s = _ from rfl) ha rfl (s' := s.release.addCommitted first count)
    ?_ (by decide) (State.core_release (s.addCommitted first count)) ?_
  · simp only [Body.gives, ho', lowest]
    rfl
  · simp [Body.gives, hr, hc]

/-- What lies outside the program memory and its commitment stands, whatever is written into it. -/
theorem State.core_of_core_writeProgram {t : State} {a : Nat} {bs : List Byte} (h : t.core = (s.writeProgram a bs).core) :
    ({ t with sq := s.sq } : State).core = s.core :=
  congrArg (fun u : State => { u with sq := s.sq }) h

/-- A write through BAR2 of bytes within program memory (R86 to R88): stored, or ignored and counted. -/
theorem exec_programMemoryWrite {a : Nat} {bs : List Byte} (hu : s.endpointUp = true) (hr : a + bs.length ≤ 2097152) :
    exec (.programMemoryWrite a bs) s =
      if (s.isProtected (a / 32) ((a + bs.length + 31) / 32 - a / 32) ||
          s.meetsWaiting (a / 32) ((a + bs.length + 31) / 32 - a / 32)) = true then
        .next { s with regs := { s.regs with progWriteReject := s.regs.progWriteReject.inc } }
      else .next (s.writeProgram a bs) := by
  change execProgramMemoryWrite a bs s = _
  rw [execProgramMemoryWrite, hostWrite, if_pos hu]
  exact if_neg (Nat.not_lt.mpr hr)

/-- Settles O16: a store that nothing forbids is `Memory.write`, which leaves the bytes outside it and reads back inside it; the
checks of the commands and the two branches of a BAR2 write say when it takes place. -/
theorem programMemory : Obligations.ProgramMemory := by
  unfold Obligations.ProgramMemory
  refine ⟨?write, ?commit, ?bar2, ?frame, ?rejected⟩
  case write => exact fun s first count src bs => progWrite_completes
  case commit => exact fun s first count => progCommit_completes
  case bar2 =>
    intro s a bs hu hr hp hw
    refine ⟨s.writeProgram a bs, ?_, fun k hk => ?_, fun i hi => ?_, rfl, rfl⟩
    · rw [exec_programMemoryWrite hu hr, hp, hw]
      rfl
    · exact Memory.byte_write_outside _ _ _ _ hk
    · exact Memory.byte_write_inside _ _ _ _ hi
  case frame =>
    intro s first count src bs ha hr hp hw hm hl
    obtain ⟨t, ht, hcore, -⟩ := progWrite_completes ha hr hp hw hm hl
    refine ⟨t, ht, fun k hk => ?_, State.core_of_core_writeProgram hcore⟩
    have hmem : t.sq.mem = s.sq.mem.write (32 * first) bs := congrArg (·.sq.mem) hcore
    rw [hmem]
    exact Memory.byte_write_outside _ _ _ _ hk
  case rejected =>
    intro s a bs hu hr h
    rw [exec_programMemoryWrite hu hr, if_pos h]

end Sys2Proof.Machine
